-- ==== Sys2Proof/Word.lean ====
section
/-! DEFINITION. The word types of the IKB-7240 model and the sparse tables its state is made of. -/

namespace Sys2Proof

/-- A register word: every BAR0 register of spec/ is 32 bits wide. -/
abbrev Word := BitVec 32

/-- A byte of memory or of a message. -/
abbrev Byte := BitVec 8

/-- A sparse table: what is held under each number that holds something. -/
abbrev Tab (α : Type) := List (Nat × α)

end Sys2Proof
end

