-- ==== Sys2Proof/Syntax/Operands.lean ====
section
/-! DEFINITION. The compound operands of commands: capsules, descriptors and received messages, field by field as the spec
names them. -/

namespace Sys2Proof

/-- An NVMe qualified name, as its bytes (R77, R78, 05_host_command_path.md). -/
abbrev Nqn := List Byte

/-- One SGL descriptor of a capsule (R89): its kind, and its address, length and R_Key. -/
inductive SglKind where
  | keyed | inCapsule | transport | segment | other
  deriving DecidableEq, Repr

structure Sgl where
  kind : SglKind
  addr : Nat
  len  : Nat
  key  : Nat
  deriving DecidableEq, Repr

/-- An I/O command capsule (R88, R89): the connection it came on, its CID and NSID, the LBA range, PRINFO, the data
descriptors, whether a segment descriptor is malformed, and whether a reserved field is not 0. For Dataset Management the ranges stand in `ranges`. -/
structure IoCmd where
  conn   : Nat
  cid    : Nat
  nsid   : Nat
  slba   : Nat
  nlb    : Nat
  prinfo : Nat
  sgls   : List Sgl
  badSeg : Bool
  data   : List Byte
  ranges : List (Nat × Nat)
  ad     : Bool
  rsvd   : Bool
  deriving DecidableEq, Repr

/-- An admin command capsule (Table 5.3): the connection it came on, its CID and NSID, and CDW10 to CDW15. -/
structure AdminCmd where
  conn  : Nat
  cid   : Nat
  nsid  : Nat
  cdw10 : Word
  cdw11 : Word
  cdw12 : Word
  cdw13 : Word
  cdw14 : Word
  cdw15 : Word
  data  : List Byte
  deriving DecidableEq, Repr

/-- A Connect capsule (R78 to R80, Table 5.1). -/
structure ConnectCmd where
  conn    : Nat
  cid     : Nat
  recfmt  : Nat
  qid     : Nat
  sqsize  : Nat
  kato    : Nat
  cntlid  : Nat
  hostNqn : Nqn
  subNqn  : Nqn
  deriving DecidableEq, Repr

/-- Where a poisoned cell is consumed (R148): by the step of a brew, by an HBM port that writes 64-bit words, or by a network port,
in a frame of a transfer of a connection (R187). -/
inductive PoisonDest where
  | engine (tag : Nat)
  | hbm (words : List Nat)
  | net (np : Fin 24) (conn : Nat)
  deriving DecidableEq, Repr

/-- What a drive's label names (R196, R240): group, layout, position, subsystem NQN; none is a blank label. -/
structure DriveLabel where
  group  : Nat
  layout : Nat
  pos    : Nat
  nqn    : Nqn
  deriving DecidableEq, Repr

/-- What an HELLO of the Kweistash link carries (Table 13.3). -/
structure HelloMsg where
  mode   : Nat
  slot   : Nat
  epoch  : Nat
  image  : Nat
  answer : Bool
  deriving DecidableEq, Repr

/-- What a HEARTBEAT carries (R330): its number, mode, lease, epoch, head or applied sequence number, the number of the latest peer
heartbeat received, the endorse flag, the commit marker (the transaction ids committed since the last heartbeat), bay channel and member states, and peer_synced. -/
structure HbMsg where
  num     : Nat
  mode    : Nat
  lease   : Bool
  epoch   : Nat
  head    : Nat
  applied : Nat
  echo    : Nat
  endorse : Bool
  commit  : List Nat
  bays    : List Nat
  members : List Nat
  synced  : Bool
  deriving DecidableEq, Repr

/-- What a namespace or host opcode changes beside register words (R389), as it reaches the standby: an allowed-host entry put or
removed, the subsystem NQN, a namespace's NGUID, tenant and data key slot, its removal, or its move to a tenant. -/
inductive CfgOp where
  | hostPut (nqn : Nqn) (tenant : Nat) (tls inband : Bool) (psk : Nat)
  | hostDel (nqn : Nqn)
  | subNqn (nqn : Nqn)
  | nsPut (nsid : Nat) (nguid : List Byte) (tenant kslot : Nat)
  | nsDel (nsid : Nat)
  | nsMove (nsid tenant : Nat)
  deriving DecidableEq, Repr

/-- The WRITE a WACK or a NAK names: the mirrored record, or a WRITE of a step or a DMA channel by the sender's tag (Table 13.3). -/
inductive PeerTag where
  | mirror (seq : Nat)
  | own (k : Nat)
  deriving DecidableEq, Repr

/-- A forwarded key-page command (R294, R295): load a blob and hold it, install or discard the held key, zeroise slots. -/
inductive KeyMsg where
  | load (tenant slot : Nat) (blob : List Byte)
  | install (tenant slot : Nat)
  | discard (tenant slot : Nat)
  | zeroise (tenant : Nat) (slots : List Nat)
  deriving DecidableEq, Repr

/-- What a bay channel measures at an event (R359, R368): VIN and VSRC in mV, the current in mA, the transistor temperature as
(T + 40 °C) · 4. -/
structure BaySample where
  vin  : Nat
  vsrc : Nat
  i    : Nat
  tfet : Nat
  deriving DecidableEq, Repr

/-- Whence a Chieb request comes (Table 15.2): the mailbox slot whose doorbell took it, the association whose C1h carried it, a sideband
message of a source endpoint with its bytes, or the SPDM session whose secured message carried it (R386). -/
inductive ChiebSrc where
  | mailbox (slot : Fin 4)
  | inband (assoc : Nat)
  | sideband (eid : Nat) (bytes : List Byte)
  | session (id : Nat)
  deriving DecidableEq, Repr

/-- What Cupping finds at one position of a mirror row (R261): its tag passes, which content it has, and its gen. -/
structure CopyLook where
  pos     : Nat
  pass    : Bool
  content : Nat
  gen     : Nat
  deriving DecidableEq, Repr

/-- What Cupping finds in a row (Table 10.5, R261): positions unreadable or failing CHK, those of blocks whose LBA tag is the complement of
their own (R252) apart, parity blocks that mismatch,
the one data position whose recomputation fits every parity, and the copies of a mirror row. -/
structure RowLook where
  row    : Nat
  bad    : List Nat
  sealed : List Nat
  mism   : List Nat
  fits   : Option Nat
  copies : List CopyLook
  deriving DecidableEq, Repr

/-- A block of a row that redo cannot read from the members (R231): group, stripe, row and data strip. -/
structure BadLook where
  group : Nat
  strp  : Nat
  row   : Nat
  strip : Nat
  deriving DecidableEq, Repr

/-- The newest valid checkpoint that the members of a group hold, where the peer wrote it (R229, R231): its covered seq, the usage of each
namespace in bytes, each allocated unit with its compressed size, if it is compressed, and its stored blocks, and the group's lost-stripe
entries of 64 bytes (R253). -/
structure CkLook where
  group : Nat
  seq   : Nat
  usage : List (Nat × Nat)
  units : List (Nat × Option Nat × Nat)
  lost  : List (List Byte)
  deriving DecidableEq, Repr

/-- What the members of a group hold of it, where the peer wrote it (R196, R201, R251): its state, tag-block mode and Cmin, the position in
spare space, each rebuild as position, start stripe, stripes covered and whether it goes to spare space, and Cupping's cursor and start. -/
structure GroupLook where
  group    : Nat
  state    : Nat
  tagblk   : Bool
  cmin     : Nat
  spare    : Option Nat
  targets  : List (Nat × Nat × Nat × Bool)
  cupCur   : Nat
  cupStart : Option Nat
  deriving DecidableEq, Repr

/-- What the fuses and the signature algorithms say of an image (R426, R427): its pk hashes to the fused hash of the slot it names, its
signature verifies, and every component's digest matches. -/
structure ImgLook where
  keyOk : Bool
  sigOk : Bool
  digOk : Bool
  deriving DecidableEq, Repr

/-- What NEGOTIATE_ALGORITHMS offers of Table 17.7 (R440): SHA-256, the responder signature, one of the requester signatures, secp384r1,
AES-256-GCM and the SPDM key schedule. -/
structure SpdmAlgs where
  hash    : Bool
  rspSig  : Bool
  reqSig  : Bool
  dhe     : Bool
  aead    : Bool
  keySched : Bool
  deriving DecidableEq, Repr

/-- The errors of Table 16.3, each by its own name; an advisory one is its non-fatal error, told to be advisory. -/
inductive AerErr where
  | receiver | badTlp | badDllp | replayTimer | replayRollover | correctedInternal | headerOverflow
  | dlProtocol | fcProtocol | receiverOverflow | malformed | internal | poisoned | ecrc | unsupported | completerAbort | cplTimeout
  | unexpectedCpl
  deriving DecidableEq, Repr

/-- How a completion ends (R412): Successful, Unsupported Request, Completer Abort, or successful with poisoned data. -/
inductive CplStat where
  | ok | unsupported | abort | poisoned
  deriving DecidableEq, Repr

end Sys2Proof
end

