-- ==== Sys2Proof/Syntax.lean ====
section
/-! DEFINITION. The commands: one constructor per row of spec/opcode_table.json, with the operands its rule gives it. -/

namespace Sys2Proof

/-- A command sent to the block, or an event that reaches it: the rows of the operation table, in its order. -/
inductive Instr where
  /-- FIRST_RAIL_RISE (R28). The first rail starts to rise and the device moves from OFF to RESET. -/
  | firstRailRise
  /-- POWER_ON_RESET_RELEASE (R29). The internal power-on reset releases: D00 powers up, DT starts at 0 and the boot ROM runs. -/
  | powerOnResetRelease (railOk : BitVec 12) (slotId testen : Bool)
  /-- IMAGE_LOADED (R429). The chosen image has been verified and loaded, and the boot core releases every processor and engine and records the measurements. -/
  | imageLoaded (looks : List ImgLook)
  /-- HBM_INIT_DONE (R54). The switched domains are powered and the HBM stacks are trained and cleared (step 4 of Table 3.3). -/
  | hbmInitDone
  /-- CARAFE_SCAN_DONE (R54). The Carafe scan completes, and last_stop, last_role and the stored lease epoch are read (step 5 of Table 3.3). -/
  | carafeScanDone (badA badB : Bool)
  /-- PEER_ABSENT_TIMEOUT (R54). No hello arrives from the peer within the start-up limit, so the peer is declared absent (step 6 of Table 3.3). -/
  | peerAbsentTimeout
  /-- STANDBY_ENTER (R56). Once steps 4 to 6 are done the device enters STANDBY, and it requests the lease if one of the cases of R56 permits. -/
  | standbyEnter
  /-- MEMBER_WAIT_EXPIRE (R55). member_wait_s expires and every member not yet ready is declared missing, with its group assessed without it. -/
  | memberWaitExpire
  /-- DRIVE_LINK_TRAINED (R10). A drive root port finishes training; it is admitted as a member port only at x4 with no switch below it. -/
  | driveLinkTrained (bay : Fin 24) (lanes : Nat) (switch : Bool)
  /-- DRIVE_READY (R240). A drive sets CSTS.RDY; it becomes a ready member, a replacement, or a labelled drive that is reported with cause 9. -/
  | driveReady (bay : Fin 24) (cap : Nat) (meta16 meta0 : Bool) (label : Option DriveLabel) (states : List (Bool × Nat))
  /-- JOURNAL_REPLAY (R231). The lease holder restores its key stores and then replays its Carafe ring: it settles records, applies DONE records and redoes intents that have no DONE. -/
  | journalReplay (groups : List GroupLook) (looks : List CkLook) (bad : List BadLook) (ckBad : List (Nat × Bool))
  /-- NETWORK_PORTS_UP (R54). The network ports come up with the configured breakouts (step 14 of Table 3.3). -/
  | networkPortsUp (ports : BitVec 24)
  /-- MIRROR_SYNC_COMPLETE (R60). The copy of the ring and the live mirror meet, and peer_synced is set on both devices, possibly moving the active from DEGRADED to ACTIVE. -/
  | mirrorSyncComplete (blobs : List (Nat × List Byte))
  /-- MIRROR_SYNC_ABANDON (R59). The 1 s limit on start-up mirror sync expires and the sync is abandoned. -/
  | mirrorSyncAbandon
  /-- SERVICE_ENTRY (R59). A STANDBY lease holder whose steps 12 to 15 have ended enters ACTIVE or DEGRADED. -/
  | serviceEntry
  /-- GRST_N_ASSERT (R30). GRST_N is held low for at least 10 µs: writes in progress complete and the device enters RESET, or the pulse is ignored where R30 says so. -/
  | grstNAssert (ns : Nat)
  /-- PWRFAIL_ACCEPT (R35). PWRFAIL_N has been low for 2 µs and the safe stop of Table 2.6 runs. -/
  | pwrfailAccept
  /-- PWRFAIL_GLITCH (R35). A PWRFAIL_N low pulse shorter than 2 µs ends, and pwrfail_seen is set if the pulse lasted at least 0.1 µs. -/
  | pwrfailGlitch (ns : Nat)
  /-- PWRFAIL_RESTART (R38). PWRFAIL_N has been high for 100 ms with every rail_ok bit at 1 after a power-fail stop, so the device resets itself. -/
  | pwrfailRestart
  /-- RAIL_OUT_OF_TOLERANCE (R355). A rail leaves tolerance in service; its rail_ok bit clears and fault 0x0B releases the lease. -/
  | railOutOfTolerance (rail : Fin 12)
  /-- THERMAL_WARNING (R43). The hottest sensor reaches warn_c, which raises a telemetry event and the NVMe temperature event. -/
  | thermalWarning (sensor : Fin 24) (temp : Fin 1024)
  /-- THERMAL_THROTTLE_START (R43). The hottest sensor reaches 105 °C with throttle_en set, and background budgets go to zero. -/
  | thermalThrottleStart (sensor : Fin 24) (temp : Fin 1024)
  /-- THROTTLE_STEP (R43). Each 1 ms of throttling cuts host issue by another 10 % until Tj is 104 °C or lower. -/
  | throttleStep (sensor : Fin 24) (temp : Fin 1024)
  /-- THERMAL_TRIP (R43). A sensor reaches 115 °C: the safe stop runs, THERM_N is driven low and the lease is no longer renewed. -/
  | thermalTrip (sensor : Fin 24) (temp : Fin 1024)
  /-- LIFE_RECORD (R45). Every 4 hours of DT the device adds a record to GLB_LIFE_HOURS and GLB_LIFE_TJSUM. -/
  | lifeRecord (mean : Nat)
  /-- GLB_PD_CTRL_WRITE (R34). A write to GLB_PD_CTRL requests domains on or off; it is checked against mode and conditions and held while busy. -/
  | glbPdCtrlWrite (value : Word)
  /-- DOMAIN_TRANSITION_DONE (R33). A domain finishes powering up, or finishes its switch-off sequence, and the next held request is acted on. -/
  | domainTransitionDone
  /-- D07_DRAIN_DONE (R33). Every stack-B buffer is free, so D07 may be isolated and switched off. -/
  | d07DrainDone
  /-- D07_DRAIN_TIMEOUT (R34). The D07 drain does not finish within GLB_PD_DRAIN_TO, so the switch-off is refused with last_err 3. -/
  | d07DrainTimeout
  /-- MODE_REQ_QUIESCE (R52). GLB_MODE_REQ QUIESCE stops taking commands from I/O submission queues and reports ANA Inaccessible. -/
  | modeReqQuiesce (confirm : BitVec 16)
  /-- QUIESCE_DONE (R52). No brew of an I/O command remains, so the device enters QUIESCED and busy returns to 0. -/
  | quiesceDone
  /-- MODE_REQ_RESUME (R49). GLB_MODE_REQ RESUME returns a QUIESCED device to ACTIVE or DEGRADED, depending on the current deficit. -/
  | modeReqResume (confirm : BitVec 16)
  /-- MODE_REQ_RESET (R53). GLB_MODE_REQ RESET with the correct confirm value resets the device. -/
  | modeReqReset (confirm : BitVec 16)
  /-- MODE_REQ_RECOVERY (R49). GLB_MODE_REQ RECOVERY with confirm sets the boot-to-recovery flag and then resets the device. -/
  | modeReqRecovery (confirm : BitVec 16)
  /-- MODE_REQ_TEST (R53). GLB_MODE_REQ TEST with confirm in STANDBY leaves the pair and enters TEST. -/
  | modeReqTest (confirm : BitVec 16)
  /-- MODE_REQ_UNKNOWN (R49). A GLB_MODE_REQ request code of 6 to 15 is refused with req_err 4. -/
  | modeReqUnknown (code : Fin 10) (confirm : BitVec 16)
  /-- PTP_SYNC (R71). A valid Sync arrives: the device measures the offset, steps or slews DNT, and moves between ACQUIRING, LOCKED and the resynchronised states. -/
  | ptpSync (np : Fin 24) (domain : Nat) (ether : Bool) (identity seq : Nat) (twoStep : Bool) (logInt : Int) (origin corr peer : Int) (dtNs : Nat)
  /-- PTP_FOLLOW_UP (R63). A Follow_Up of a two-step Sync is received and completes that Sync's timestamp. -/
  | ptpFollowUp (np : Fin 24) (domain : Nat) (ether : Bool) (identity seq : Nat) (origin corr peer : Int)
  /-- PTP_ANNOUNCE (R65). An Announce is received and feeds the BMCA selection of the time transmitter. -/
  | ptpAnnounce (np : Fin 24) (domain : Nat) (ether : Bool) (prio1 cls accuracy variance prio2 identity hops : Nat) (utc : Int)
  /-- PTP_DELAY_RESP (R63). A Delay_Resp is received and updates the end-to-end path delay. -/
  | ptpDelayResp (np : Fin 24) (domain : Nat) (ether : Bool) (received corr : Int)
  /-- PTP_PDELAY_REQ (R63). On the 802.1AS profile, the device answers a received Pdelay_Req. -/
  | ptpPdelayReq (np : Fin 24) (domain : Nat) (ether : Bool)
  /-- ANNOUNCE_TIMEOUT (R65). No Announce arrives on the primary port for 3 intervals, so the device changes to the backup port. -/
  | announceTimeout (np : Fin 24)
  /-- SYNC_TIMEOUT (R69). No valid Sync arrives for 4 Sync intervals, so the device enters HOLDOVER and starts the sync-lost timer. -/
  | syncTimeout
  /-- SYNC_LOST_EXPIRE (R70). HOLDOVER has lasted limit_s of DT, so the device enters UNSYNC. -/
  | syncLostExpire
  /-- TIM_SYNC_LOST_WRITE (R70). A new limit_s takes effect at once, and the device enters UNSYNC if the timer already exceeds the new limit. -/
  | timSyncLostWrite (limit : Fin 4096)
  /-- PPS_EDGE (R67). A PPS_IN rising edge marks the start of a DNT second, or is ignored and counted when it lies more than 1 µs from a whole second. -/
  | ppsEdge (dtNs : Nat)
  /-- REF10M_OUT_OF_TOLERANCE (R67). REF10M_IN leaves 10 MHz ± 5 ppm; it is ignored and ref_ok reads 0. -/
  | ref10mOutOfTolerance
  /-- TOD_BOUNDARY (R75). At a half-hour boundary of DNT the device re-evaluates the time-of-day entry and selects the background budget set. -/
  | todBoundary
  /-- SCHEDULED_COMMIT_FIRE (R395). A scheduled transaction reaches its DNT instant; it commits, or it is held if DNT is unsynchronised. -/
  | scheduledCommitFire
  /-- NVME_CONNECT_ADMIN (R78). A Connect for an admin queue is checked against the allowed-host list, the tenant binding, TLS and the limits, then creates an association with a CNTLID. -/
  | nvmeConnectAdmin (cmd : ConnectCmd)
  /-- NVME_CONNECT_IO (R80). A Connect for an I/O queue takes a queue pair from the pool, subject to the QID and the granted count. -/
  | nvmeConnectIo (cmd : ConnectCmd)
  /-- CONNECT_TIMEOUT (R304). A connection that has sent no Connect within 10 s of DT is torn down. -/
  | connectTimeout (conn : Nat)
  /-- NVME_PROPERTY_GET (R88). Property Get returns CAP, VS, CC or CSTS. -/
  | nvmePropertyGet (cmd : AdminCmd)
  /-- PROPERTY_SET_CC_EN_CLEAR (R106). Property Set clears CC.EN: WAITING tags are freed, running tags enter DISCARD and CSTS.RDY falls. -/
  | propertySetCcEnClear (cmd : AdminCmd)
  /-- PROPERTY_SET_CC_EN_SET (R106). Property Set sets CC.EN, and CSTS.RDY reaches 1 within 500 ms. -/
  | propertySetCcEnSet (cmd : AdminCmd)
  /-- PROPERTY_SET_SHUTDOWN (R106). Property Set sets CC.SHN, and outstanding commands are left to complete normally. -/
  | propertySetShutdown (cmd : AdminCmd)
  /-- SHUTDOWN_COMPLETE (R106). No command remains, or 100 ms have passed, so CSTS.SHST becomes 10b and any remaining tags are discarded. -/
  | shutdownComplete (assoc : Fin 4096)
  /-- NVME_DISCONNECT (R84). Disconnect of an I/O queue discards that queue's tags and releases the queue; on the admin queue it gives Invalid Field in Command. -/
  | nvmeDisconnect (conn cid : Nat)
  /-- NVME_GET_LOG_PAGE (R95). Get Log Page returns one of the pages of Table 5.6, subject to permission. -/
  | nvmeGetLogPage (cmd : AdminCmd)
  /-- NVME_IDENTIFY (R93). Identify returns the controller, namespace, list or descriptor structure that the CNS selects. -/
  | nvmeIdentify (cmd : AdminCmd)
  /-- NVME_ABORT (R103). Abort races the named command's completion and gives the outcomes of Table 5.9. -/
  | nvmeAbort (cmd : AdminCmd)
  /-- NVME_GET_FEATURES (R94). Get Features returns the current, default or capability value of a supported feature. -/
  | nvmeGetFeatures (cmd : AdminCmd)
  /-- SET_FEATURES_POWER_MANAGEMENT (R112). Set Features 02h sets the controller's power state, which may change the effective state and IDLE_LOW. -/
  | setFeaturesPowerManagement (cmd : AdminCmd)
  /-- SET_FEATURES_NUMBER_OF_QUEUES (R80). Set Features 07h grants min(requested, 1,024) queues and reserves nothing. -/
  | setFeaturesNumberOfQueues (cmd : AdminCmd)
  /-- SET_FEATURES_ASYNC_EVENT_CONFIG (R96). Set Features 0Bh enables the asynchronous events of Table 5.7, including the vendor bits. -/
  | setFeaturesAsyncEventConfig (cmd : AdminCmd)
  /-- SET_FEATURES_APST (R112). Set Features 0Ch loads the autonomous power-state transition table. -/
  | setFeaturesApst (cmd : AdminCmd)
  /-- SET_FEATURES_KEEP_ALIVE_TIMER (R94). Set Features 0Fh sets KATO within 1,000 to 600,000 ms. -/
  | setFeaturesKeepAliveTimer (cmd : AdminCmd)
  /-- SET_FEATURES_HOST_BEHAVIOR (R94). Set Features 16h sets ACRE, which chooses the CRD of Command Interrupted. -/
  | setFeaturesHostBehavior (cmd : AdminCmd)
  /-- SET_FEATURES_ORDERED_QUEUES (R100). Set Features D1h makes an I/O queue ordered or unordered, and is refused while the queue holds tags. -/
  | setFeaturesOrderedQueues (cmd : AdminCmd)
  /-- SET_FEATURES_CREMA_HINTS (R184). Set Features D3h records the host's Crema mode for a namespace. -/
  | setFeaturesCremaHints (cmd : AdminCmd)
  /-- SET_FEATURES_NOT_CHANGEABLE (R94). Set Features of FID 04h or D2h completes with Feature Not Changeable. -/
  | setFeaturesNotChangeable (cmd : AdminCmd)
  /-- NVME_ASYNC_EVENT_REQUEST (R96). An Asynchronous Event Request is held outstanding until a reportable event occurs, up to 8 per controller. -/
  | nvmeAsyncEventRequest (cmd : AdminCmd)
  /-- NVME_FIRMWARE_IMAGE_DOWNLOAD (R430). Firmware Image Download stages 4 KiB units of an image, with overlap checks. -/
  | nvmeFirmwareImageDownload (cmd : AdminCmd)
  /-- NVME_FIRMWARE_COMMIT (R91). Firmware Commit maps FS to an image slot and performs the commit action of Table 17.5. -/
  | nvmeFirmwareCommit (cmd : AdminCmd) (look : ImgLook)
  /-- NVME_DEVICE_SELF_TEST (R92). Device Self-test starts the short or extended test, or aborts the running test with STC Fh. -/
  | nvmeDeviceSelfTest (cmd : AdminCmd)
  /-- SELF_TEST_DONE (R92). A Device Self-test ends and its result is written to log page 06h. -/
  | selfTestDone (result : Fin 16)
  /-- NVME_KEEP_ALIVE (R81). Keep Alive restarts the association's keep-alive timer. -/
  | nvmeKeepAlive (cmd : AdminCmd)
  /-- KEEP_ALIVE_TIMEOUT (R81). The keep-alive timer reaches KATO and the association ends. -/
  | keepAliveTimeout (assoc : Fin 4096)
  /-- CHIEB_REQUEST_C1H (R90). Chieb request C1h carries one Chieb packet in-band; it replaces any pending reply. -/
  | chiebRequestC1h (cmd : AdminCmd)
  /-- CHIEB_REPLY_C2H (R90). Chieb reply C2h returns the pending reply, or gives Command Sequence Error when none is pending. -/
  | chiebReplyC2h (cmd : AdminCmd)
  /-- INVALID_COMMAND_OPCODE (R88). An opcode not in Table 5.3 completes with Invalid Command Opcode. -/
  | invalidCommandOpcode (conn cid : Nat)
  /-- NVME_FLUSH (R105). Flush completes without waiting, because every completed write is already durable. -/
  | nvmeFlush (cmd : IoCmd)
  /-- NVME_READ (R170). Read checks the key page, looks up Crema for narrow reads, and starts the hit or miss recipe. -/
  | nvmeRead (cmd : IoCmd)
  /-- NVME_WRITE (R215). Write starts the write recipe of Table 9.6, reserved as 64-block pieces. -/
  | nvmeWrite (cmd : IoCmd)
  /-- NVME_WRITE_ZEROES (R215). Write Zeroes runs the write recipe with one ZERO record and a pending-zero range. -/
  | nvmeWriteZeroes (cmd : IoCmd)
  /-- NVME_DATASET_MANAGEMENT (R215). Dataset Management deallocates each range through the ZERO-record form of the write recipe. -/
  | nvmeDatasetManagement (cmd : IoCmd)
  /-- CAPSULE_INTAKE_RESUME (R85). A host context frees up, so the next waiting capsule, taking queues in turn, receives its context and tag. -/
  | capsuleIntakeResume
  /-- APST_IDLE_TIMER (R112). A controller has been idle for an APST entry's ITPT, so its power state moves on. -/
  | apstIdleTimer (assoc : Fin 4096)
  /-- STEP_END (R124). A step's status arrives at its boundary; Barista branches, retries, enters the failure steps or ends the brew, and handles pre-emption and abort. -/
  | stepEnd (tag : Nat)
  /-- TOKEN_ARRIVE (R125). The final status of an action started with tok = 1 (member completion, transfer, landing and others) arrives as a token. -/
  | tokenArrive (tag step status : Nat) (media : Option Nat) (data : List Byte)
  /-- EVT_WAIT_TOKEN (R119). A WAIT_TOKEN step waits for the oldest token of a named step; the brew leaves its lane. -/
  | evtWaitToken (tag : Nat)
  /-- EVT_WAIT_TIMEOUT (R119). arg0 µs pass before the token arrives: the step ends TIMEOUT and every outstanding token is revoked. -/
  | evtWaitTimeout (tag : Nat)
  /-- EVT_DELAY (R119). A DELAY step starts a wait of arg0 ns of DT. -/
  | evtDelay (tag : Nat)
  /-- EVT_DELAY_EXPIRE (R119). A DELAY step's time elapses and the step ends OK. -/
  | evtDelayExpire (tag : Nat)
  /-- STEP_TIMER_EXPIRE (R355). An accepted step runs 100 µs without ending: the instance is disabled and the step is re-issued or ends ENGINE_OFF (fault 0x04). -/
  | stepTimerExpire (tag : Nat)
  /-- BPM_ALLOC (R157). An ALLOC step requests a buffer by size, with pool ranking and fallback, into the dst slot. -/
  | bpmAlloc (tag : Nat) (ue race : Bool)
  /-- BPM_REF (R163). A REF step takes one reference on the src slot's buffer into dst. -/
  | bpmRef (tag : Nat) (ue : Bool)
  /-- BPM_DROP (R163). A DROP step frees an owned slot, or dereferences a referenced one, and clears the slot. -/
  | bpmDrop (tag : Nat) (ue : Bool)
  /-- BPM_RELEASE_ALL (R163). RELEASE_ALL drops every valid slot of the brew, in order, clearing each slot even when its drop is refused. -/
  | bpmReleaseAll (tag : Nat) (ue : BitVec 8)
  /-- DMA_STEP_MOVE (R142). A DMA MOVE step copies len bytes between brew slots on a bulk channel. -/
  | dmaStepMove (tag : Nat) (hbmUe : Bool)
  /-- DMA_STEP_MOVE_SWAP (R142). A DMA MOVE_SWAP step copies between slots with byte reordering. -/
  | dmaStepMoveSwap (tag : Nat) (hbmUe : Bool)
  /-- DMA_STEP_RUN (R142). A DMA RUN step starts a bulk channel program from HBM and returns a token. -/
  | dmaStepRun (tag : Nat)
  /-- DQE_READ (R462). A DQE READ step submits a member read for one run, or for the next run of the command when arg2 is 0xFFFF. -/
  | dqeRead (tag : Nat)
  /-- DQE_WRITE (R462). A DQE WRITE step submits a member write with FUA for one run. -/
  | dqeWrite (tag : Nat)
  /-- CIP_XTS_ENC (R282). An XTS_ENC step encrypts stored blocks under the namespace key after the key checks. -/
  | cipXtsEnc (tag : Nat)
  /-- CIP_XTS_DEC (R282). An XTS_DEC step decrypts stored blocks under the namespace key after the key checks. -/
  | cipXtsDec (tag : Nat)
  /-- TMPC_ENCODE (R275). An ENCODE step compresses a 64 KiB unit into segments, or returns RAW. -/
  | tmpcEncode (tag : Nat) (segs : Option (List (List Byte)))
  /-- TMPD_DECODE (R279). A DECODE step decodes one segment and writes its four tags. -/
  | tmpdDecode (tag : Nat)
  /-- GAL_ENCODE (R197). An ENCODE step computes p parity runs from d inputs. -/
  | galEncode (tag : Nat)
  /-- GAL_UPDATE (R236). An UPDATE step computes new parity from old parity, old data and new data. -/
  | galUpdate (tag : Nat)
  /-- GAL_DECODE (R236). A DECODE step reconstructs up to p erased runs, or ends TOO_MANY_ERASURES. -/
  | galDecode (tag : Nat)
  /-- CRC_GEN (R236). A GEN step computes the integrity tags of the blocks with a given generation. -/
  | crcGen (tag : Nat)
  /-- CRC_CHK (R204). A CHK step accepts blocks whose crc, lba_tag and generation pass, or ends CRC_ERR. -/
  | crcChk (tag : Nat)
  /-- CRM_VERDICT (R181). A VERDICT step updates the admission sketch and returns admit or PASS. -/
  | crmVerdict (tag : Nat)
  /-- CRM_INSERT (R173). An INSERT step inserts a whole-grain buffer into Crema, making room by eviction, or acts as FILL for a partly read grain. -/
  | crmInsert (tag : Nat)
  /-- CRM_FILL (R174). A FILL step reserves a FILLING entry and starts a fill brew, unless a limit, a stale ticket or a present key stops it. -/
  | crmFill (tag : Nat)
  /-- CRM_COMMIT (R190). A COMMIT step makes a fill's entry VALID, unless an invalidation freed it. -/
  | crmCommit (tag : Nat)
  /-- CRM_INVAL (R188). An INVAL step increments bucket epochs and frees the entries of a changed range, or of the whole namespace. -/
  | crmInval (tag : Nat)
  /-- XPT_PUSH (R319). A PUSH step takes the transport reference and sends the data as RDMA WRITEs or C2HData PDUs. -/
  | xptPush (tag : Nat)
  /-- XPT_PULL (R319). A PULL step fetches host data by RDMA READ, R2T with H2CData, or from in-capsule data. -/
  | xptPull (tag : Nat)
  /-- HCP_COMPLETE (R216). A COMPLETE step posts the successful completion, waiting first for the LAND token when it names one, and sets durable. -/
  | hcpComplete (tag : Nat)
  /-- HCP_FAIL (R461). A FAIL step posts the NVMe status that Table 5.12 maps from the brew's final status. -/
  | hcpFail (tag : Nat)
  /-- CAR_RESERVE (R207). A RESERVE step checks the quota, assigns sequence numbers and builds record headers, and is held while tables or the ring lack room. -/
  | carReserve (tag : Nat)
  /-- CAR_INDEX (R214). An INDEX step publishes PENDING block-index entries, pending-zero ranges and gather slots. -/
  | carIndex (tag : Nat)
  /-- CAR_LAND (R217). A LAND step writes the records to the local ring and, when mirroring, to the peer through one ENQ. -/
  | carLand (tag : Nat)
  /-- CARAFE_HEADER_PERSISTENT (R217). A record's header line becomes persistent in the local ring; this may complete a LAND token. -/
  | carafeHeaderPersistent (seq : Nat)
  /-- CAR_VOID (R219). A VOID step writes a VOID record for the brew's records and reverts the index, ranges and usage. -/
  | carVoid (tag : Nat)
  /-- CAR_READ (R235). A CAR READ step copies PENDING and LANDED blocks of a grain from Carafe, fetching an uncorrectable line from the peer when it can. -/
  | carRead (tag fixed : Nat)
  /-- CAR_GATHER (R225). A GATHER step reads a slot's sources from the ring and builds the intent entries. -/
  | carGather (tag fixed : Nat)
  /-- CAR_INTENT (R224). An INTENT step writes the RECON and INTENT records, persistent on each copy before any member write. -/
  | carIntent (tag : Nat)
  /-- CAR_DONE (R226). A DONE step writes the DONE record and cleans up the index entries and the slot. -/
  | carDone (tag : Nat)
  /-- PEER_WRITE_STEP (R357). A PEER WRITE step sends a WRITE message to a peer window, with a token at WACK. -/
  | peerWriteStep (tag : Nat)
  /-- PEER_SYNC_STEP (R357). A PEER SYNC step copies ring lines to the peer's window 0 for mirror sync. -/
  | peerSyncStep (tag : Nat)
  /-- SWC_ENQ (R150). An ENQ step places one buffer region on up to 32 targets with one stored copy, taking k references. -/
  | swcEnq (tag : Nat)
  /-- QUEUE_ENTRY_APPEND (R149). A transport appends a switch queue entry for a transfer segment and takes a reference, or it is discarded if the link's hold has expired. -/
  | queueEntryAppend (np : Fin 24) (pull : Bool) (ptr : Word) (cell0 cells last flow sp : Nat) (ue : Bool)
  /-- QUEUE_ENTRY_SENT (R149). The last cell of a queue entry is sent and the entry's reference is dropped. -/
  | queueEntrySent (entry corrected : Nat) (ue : Bool)
  /-- CELL_POISONED (R148). A cell arrives with an uncorrectable header or payload error and is delivered poisoned. -/
  | cellPoisoned (dest : PoisonDest)
  /-- LINK_DOWN (R151). A drive or peer link goes down: its VOQs stop being eligible and the port-down hold starts. -/
  | linkDown (link : Fin 49) (cells : Nat)
  /-- LINK_UP (R152). A link comes up before its hold expires and its VOQs resume with no loss. -/
  | linkUp (link : Fin 49)
  /-- PORT_HOLD_EXPIRE (R153). The hold expires with the link still down: every entry of the link is discarded and its reference dropped. -/
  | portHoldExpire (link : Fin 49)
  /-- BPM_MGT_ALLOC (R161). BPM_MGT_OP ALLOC allocates a buffer for a management core. -/
  | bpmMgtAlloc (core : Fin 2) (size : Nat) (noFallback ue race : Bool)
  /-- BPM_MGT_REF (R161). BPM_MGT_OP REF adds a reference to the buffer in BPM_MGT_PTR. -/
  | bpmMgtRef (core : Fin 2) (ue : Bool)
  /-- BPM_MGT_DEREF (R161). BPM_MGT_OP DEREF drops a reference on the buffer in BPM_MGT_PTR. -/
  | bpmMgtDeref (core : Fin 2) (ue : Bool)
  /-- BPM_MGT_FREE (R161). BPM_MGT_OP FREE frees a buffer that a management core owns. -/
  | bpmMgtFree (core : Fin 2) (ue : Bool)
  /-- BST_LOAD_DATA_WRITE (R121). A word of a step is written to recipe memory at addr; it is discarded if it lands in an installed range. -/
  | bstLoadDataWrite (data : Word) (fromCore : Bool)
  /-- BST_INSTALL (R121). INSTALL checks a whole recipe and installs it as a new version, or reports the first failed check. -/
  | bstInstall (rcp last prio : Nat) (fromCore : Bool)
  /-- BST_RETIRE (R122). RETIRE stops new brews of a recipe. -/
  | bstRetire (rcp : Nat)
  /-- ENGINE_DISABLE (R132). Clearing an ENGINE_EN bit stops the instance accepting steps and returns its queued steps. -/
  | engineDisable (cls inst : Nat)
  /-- ENGINE_DISABLE_ACK (R132). The accepted steps of a disabled instance have ended and its ACK bit is set. -/
  | engineDisableAck (cls inst : Nat)
  /-- ENGINE_ENABLE (R133). Setting an ENGINE_EN bit re-enables the instance, once any disable has been acknowledged. -/
  | engineEnable (cls inst : Nat)
  /-- DMA_START (R140). DMA_CH_CTRL start moves an IDLE management channel to RUN at DMA_CH_PROG. -/
  | dmaStart (ch : Fin 272)
  /-- DMA_STOP (R140). DMA_CH_CTRL stop moves the channel to STOPPING. -/
  | dmaStop (ch : Fin 272)
  /-- DMA_STOPPING_DONE (R140). The instructions in flight have ended and the current one is written back ABORTED, so the channel goes IDLE. -/
  | dmaStoppingDone (ch : Fin 272)
  /-- DMA_CLR_ERR (R140). clr_err moves a STOPPED channel to IDLE. -/
  | dmaClrErr (ch : Fin 272)
  /-- DMA_SHADOW_ARM (R141). shadow_arm arms the copy of the shadow set at the next hand-over edge. -/
  | dmaShadowArm (ch : Fin 272) (edge : Bool)
  /-- DMA_SHADOW_WRITE (R141). A write to DMA_CH_NEXT or DMA_CH_PACE lands in the shadow set, possibly deferring a hand-over. -/
  | dmaShadowWrite (ch : Fin 272) (reg : Fin 3) (value : Word) (edge : Bool)
  /-- DMA_MOVE (R136). A MOVE instruction copies len bytes using the channel offsets. -/
  | dmaMove (ch : Fin 272) (hbmUe : Bool)
  /-- DMA_MOVE_SWAP (R136). A MOVE_SWAP instruction copies with byte reordering under the swap-unit rules. -/
  | dmaMoveSwap (ch : Fin 272) (hbmUe : Bool)
  /-- DMA_LOOP (R136). A LOOP instruction counts down a counter and branches back. -/
  | dmaLoop (ch : Fin 272)
  /-- DMA_WAIT (R136). A WAIT instruction waits for a semaphore count or for event occurrences. -/
  | dmaWait (ch : Fin 272)
  /-- DMA_WAIT_SATISFIED (R136). A WAIT's semaphore or event count is reached and the channel returns to RUN. -/
  | dmaWaitSatisfied (ch : Fin 272)
  /-- DMA_WAIT_TIMEOUT (R136). A WAIT times out and the channel stops with WAIT_TIMEOUT. -/
  | dmaWaitTimeout (ch : Fin 272)
  /-- DMA_SIGNAL (R136). A SIGNAL instruction adds to a semaphore, posts the starting brew's token, or interrupts a management core. -/
  | dmaSignal (ch : Fin 272)
  /-- DMA_LINK (R136). A LINK instruction continues at a new address, which is a hand-over edge. -/
  | dmaLink (ch : Fin 272)
  /-- DMA_END (R136). An END instruction ends the program, or restarts it at DMA_CH_NEXT. -/
  | dmaEnd (ch : Fin 272)
  /-- DMA_INSTRUCTION_COMPLETE (R138). An instruction completes and is written back in order; a failing status stops the channel. -/
  | dmaInstructionComplete (ch : Fin 272)
  /-- CRM_INVALIDATE_NS (R191). CRM_CMD op 1 invalidates every Crema entry of one namespace by a sweep. -/
  | crmInvalidateNs (nsid : Fin 16384)
  /-- CRM_INVALIDATE_ALL (R191). CRM_CMD op 2 invalidates every Crema entry. -/
  | crmInvalidateAll
  /-- CRM_SWEEP_DONE (R188). A namespace-wide or full invalidation sweep has freed its entries and sweep reads 0. -/
  | crmSweepDone
  /-- CRM_INIT_DONE (R193). The directory region finishes initialising after en is committed to 1. -/
  | crmInitDone
  /-- CRM_LIMIT_EVICT (R183). The pool hand evicts in the background until CRM_USE falls to a lowered CRM_LIMIT. -/
  | crmLimitEvict (pool : Fin 3)
  /-- SKETCH_DECAY (R179). At a decay instant the sketch epoch flips and W is halved. -/
  | sketchDecay
  /-- GATHER_DEADLINE_EXPIRE (R221). A gather slot's deadline expires and starts a flush brew. -/
  | gatherDeadlineExpire (slot : Fin 8192)
  /-- FLUSH_BREW_START (R222). A flush brew of priority 2 starts for a gather slot when a trigger of R222 occurs. -/
  | flushBrewStart (slot : Fin 8192)
  /-- CHECKPOINT_TIMER (R230). CAR_CKPT.period_ms elapses, or ring fill reaches hi_pct, and each group takes a checkpoint. -/
  | checkpointTimer (group : Fin 16)
  /-- CARAFE_FAULT (R232). A Carafe die or an unretired line fails: with a synced peer the lease is released, otherwise the device enters write-through mode. -/
  | carafeFault (die : Option Bool) (lines : List (Nat × Nat))
  /-- GROUP_INIT_DONE (R196). A group's INIT (format, labels and journal) completes and the group is READY, or FAILED if a member failed. -/
  | groupInitDone (group : Fin 16) (failBay : Option (Fin 24))
  /-- MEMBER_LINK_FAIL_TIMEOUT (R238). A drive port stays down for link_fail_s, so its member fails with cause 2. -/
  | memberLinkFailTimeout (bay : Fin 24)
  /-- MEMBER_COMMAND_TIMEOUT (R238). A member command runs 8 s: the drive's controller is reset and its outstanding commands end DRIVE_ERR. -/
  | memberCommandTimeout (bay : Fin 24)
  /-- MEMBER_RESET_TIMEOUT (R238). The reset drive does not report ready within 2 s, so the member fails with cause 3. -/
  | memberResetTimeout (bay : Fin 24)
  /-- DRIVE_CRITICAL_WARNING (R238). A drive sets CSTS.CFS or reports a critical warning, so the member fails with cause 4. -/
  | driveCriticalWarning (bay : Fin 24)
  /-- RBD_FAIL_MEMBER (R239). RBD_MEM_CMD op 1 fails a member, unless that would take the group beyond its redundancy. -/
  | rbdFailMember (bay : Fin 24)
  /-- RBD_DESIGNATE_HOTSPARE (R243). RBD_MEM_CMD op 2 designates a bay as HOTSPARE. -/
  | rbdDesignateHotspare (bay : Fin 24)
  /-- RBD_RELEASE_HOTSPARE (R243). RBD_MEM_CMD op 3 releases a HOTSPARE bay. -/
  | rbdReleaseHotspare (bay : Fin 24)
  /-- RBD_USE_LABELLED_DRIVE (R240). RBD_MEM_CMD op 4 uses a labelled drive as the replacement of its bay's FAILED position. -/
  | rbdUseLabelledDrive (bay : Fin 24)
  /-- BUDGET_REFILL (R242). Every 1 ms each background activity's byte bucket gains rate × 1 ms, up to its cap. -/
  | budgetRefill
  /-- REBUILD_BREW_START (R244). The rebuild sweep starts a brew for the next stripe, serving every REBUILDING position that has not covered it. -/
  | rebuildBrewStart (group : Fin 16) (bad : List (Nat × Nat))
  /-- STRIPE_LOCK_GRANT (R246). A released stripe lock is granted to the next waiter, flushes first. -/
  | stripeLockGrant (group : Fin 16) (strp : Nat)
  /-- PROGRESS_RECORD_WRITE (R251). Once 1 s has passed with changed progress, the progress record is written to every member. -/
  | progressRecordWrite (group : Fin 16)
  /-- REPAIR_BREW_START (R258). A repair brew takes a queued block, re-reads it and rewrites it in place if it still fails. -/
  | repairBrewStart (entry : Fin 64) (still : Bool) (more : List Nat)
  /-- CUPPING_PASS_START (R259). period_d days have passed since the last pass began, or this is a first pass, so a Cupping pass starts. -/
  | cuppingPassStart (group : Fin 16)
  /-- CUPPING_BREW_START (R260). A Cupping brew compares a stripe's rows and applies the localisation of Table 10.5. -/
  | cuppingBrewStart (group : Fin 16) (looks : List RowLook)
  /-- REGRIND_START (R263). RBD_RG_CTRL START, once its conditions are checked, enables and initialises the stage group. -/
  | regrindStart
  /-- REGRIND_INIT_DONE (R264). The stage group is READY and Regrind enters COPY, with the cursor at the highest allocated unit. -/
  | regrindInitDone
  /-- REGRIND_COPY_BREW_START (R265). A copy brew takes the next unit below the cursor, reads it and writes it to the stage group. -/
  | regrindCopyBrewStart (bad : List (Fin 16))
  /-- REGRIND_COMMIT (R267). RBD_RG_CTRL COMMIT swaps the groups, moves the namespace maps and enters RETIRING. -/
  | regrindCommit
  /-- REGRIND_ABORT (R268). RBD_RG_CTRL ABORT, or a member leaving ONLINE, abandons the Regrind and frees the stage group. -/
  | regrindAbort
  /-- REGRIND_RETIRE_DONE (R264). Every brew mapped through the old layout has ended; its bays are freed and Regrind returns to IDLE. -/
  | regrindRetireDone
  /-- KP_LOAD (R294). KP_CMD LOAD unwraps, checks, mirrors, stores and installs a key blob into a slot. -/
  | kpLoad (tenant : Fin 4096) (slot : Fin 16)
  /-- KP_ZEROISE_SLOT (R295). KP_CMD ZEROISE slot makes the slot ZEROISING and starts erasing its key everywhere. -/
  | kpZeroiseSlot (tenant : Fin 4096) (slot : Fin 16)
  /-- KP_ZEROISE_PAGE (R295). KP_CMD ZEROISE page zeroises every slot of the tenant's page. -/
  | kpZeroisePage (tenant : Fin 4096)
  /-- ZEROISE_COMPLETE (R295). The accepted steps have ended and the key material and stores are erased, so the slots become ZEROISED. -/
  | zeroiseComplete (tenant : Fin 4096)
  /-- KEY_STATUS (R388). Chieb KEY_STATUS returns the state of the key pages. -/
  | keyStatus (src : ChiebSrc)
  /-- SKEK_INSTALL (R290). Chieb SKEK_INSTALL, inside a secured session, installs a new SKEK through the pending bank and re-wraps the stored blobs. -/
  | skekInstall (src : ChiebSrc)
  /-- SKEK_REWRAP_DONE (R290). Every data-key blob has been re-wrapped and stored, so the new bank becomes ACTIVE. -/
  | skekRewrapDone
  /-- KEY_LOAD (R294). Chieb KEY_LOAD runs the LOAD sequence as a long operation with a handle. -/
  | keyLoad (src : ChiebSrc)
  /-- KEY_ZEROISE (R295). Chieb KEY_ZEROISE runs the zeroise sequence as a long operation with a handle. -/
  | keyZeroise (src : ChiebSrc)
  /-- TLS_RECORD_ENCRYPT (R288). A transport submits an outgoing TLS record to its cluster for AES-256-GCM encryption. -/
  | tlsRecordEncrypt (conn : Nat) (data : List Byte) (sp : Nat)
  /-- TLS_RECORD_DECRYPT (R307). A received TLS record is decrypted and authenticated; a failure ends the connection. -/
  | tlsRecordDecrypt (conn : Nat) (data : List Byte) (update : Bool)
  /-- NET_PORT_DOWN (R302). A port's PCS reports loss of alignment, loss of FEC lock or a 10 µs local fault, and the port goes down. -/
  | netPortDown (np : Fin 24) (localFault remoteFault : Bool) (cells : Nat)
  /-- NET_PORT_UP (R302). The port has been aligned, locked and fault-free for 1 ms, and comes up. -/
  | netPortUp (np : Fin 24)
  /-- ARP_REQUEST (R301). The port answers an ARP request for its own address. -/
  | arpRequest (np : Fin 24) (ip : BitVec 32)
  /-- NEIGHBOR_SOLICITATION (R301). The port answers an IPv6 Neighbor Solicitation for its own address. -/
  | neighborSolicitation (np : Fin 24) (ip : BitVec 128)
  /-- ICMP_ECHO (R301). The port answers an ICMP or ICMPv6 echo for its own address. -/
  | icmpEcho (np : Fin 24) (v6 : Bool) (ip : BitVec 128)
  /-- FRAME_DISCARD (R301). A frame that matches no connection, or that is oversize, is discarded and counted. -/
  | frameDiscard (np : Fin 24) (len : Nat) (fcsBad : Bool)
  /-- PAUSE_FRAME_RECEIVE (R300). A received IEEE 802.3x PAUSE frame is discarded and counted. -/
  | pauseFrameReceive (np : Fin 24)
  /-- PFC_FRAME_RECEIVE (R309). A received PFC XOFF or XON pauses or releases the classes mapped to that priority. -/
  | pfcFrameReceive (np : Fin 24) (quanta : List (Fin 8 × Fin 65536))
  /-- PFC_PAUSE_EXPIRE (R309). The quanta of a received XOFF run out and the priority resumes. -/
  | pfcPauseExpire (np : Fin 24) (prio : Fin 8)
  /-- PFC_XOFF_SEND (R309). A priority's buffered frames exceed xoff_kib, so the port sends XOFF; it sends XON at xon_kib. -/
  | pfcXoffSend (np : Fin 24) (prio : Fin 8) (bytes : Nat)
  /-- PFC_XOFF_REFRESH (R309). Half a quanta period passes and the port refreshes its XOFF. -/
  | pfcXoffRefresh (np : Fin 24) (prio : Fin 8)
  /-- RECEIVE_BUFFER_OVERFLOW (R309). A frame finds the receive buffer full and is discarded and counted. -/
  | receiveBufferOverflow (np : Fin 24)
  /-- ROCE_CONNECT_REQUEST (R304). A RoCEv2 connection request takes the lowest free context, or is rejected. -/
  | roceConnectRequest (np : Fin 24) (mac vlan offer : Nat)
  /-- ROCE_SEND_RECEIVE (R305). A SEND or SEND with Invalidate is received and carries an NVMe capsule. -/
  | roceSendReceive (np : Fin 24) (conn mac vlan : Nat)
  /-- ROCE_READ_RESPONSE (R305). An RDMA READ response delivers pulled data into the destination buffer. -/
  | roceReadResponse (np : Fin 24) (conn mac vlan : Nat) (data : List Byte)
  /-- ROCE_ACK_RECEIVE (R305). An acknowledgement completes transfers and drops their transport references. -/
  | roceAckReceive (np : Fin 24) (conn mac vlan bytes : Nat)
  /-- ROCE_NAK_RECEIVE (R305). A NAK causes a go-back-N resend, or ends the transfer with XFER_ERR. -/
  | roceNakReceive (np : Fin 24) (conn mac vlan : Nat) (access push : Bool)
  /-- ROCE_ACK_TIMEOUT (R305). The acknowledgement timeout expires: the device resends, or puts the connection in error after retry_cnt retries. -/
  | roceAckTimeout (conn : Nat)
  /-- CE_MARKED_RECEIVE (R308). A CE-marked packet is received, and a CNP is sent at most once per gap. -/
  | ceMarkedReceive (np : Fin 24) (conn mac vlan : Nat)
  /-- CNP_RECEIVE (R308). A CNP cuts the connection's send rate by dec/256. -/
  | cnpReceive (np : Fin 24) (conn mac vlan : Nat)
  /-- RATE_INCREASE_TIMER (R308). 64 µs pass without a CNP and the connection's rate rises by inc_100mbps. -/
  | rateIncreaseTimer (conn : Nat)
  /-- TCP_SYN (R304). A TCP SYN establishes an offloaded connection in the lowest free context, or is answered with a reset. -/
  | tcpSyn (np : Fin 24) (mac vlan r2t : Nat)
  /-- TCP_SEGMENT_RECEIVE (R306). A TCP segment is received and processed, delivering NVMe/TCP PDUs. -/
  | tcpSegmentReceive (np : Fin 24) (conn mac vlan acked : Nat) (data : List Byte) (digestBad close : Bool)
  /-- TCP_RTO_EXPIRE (R306). The retransmission timeout expires: the device retransmits, or resets the connection after the limit. -/
  | tcpRtoExpire (conn : Nat)
  /-- TLS_CLIENT_HELLO (R307). A ClientHello with a PSK starts the psk_ke handshake, or is refused with handshake_failure. -/
  | tlsClientHello (conn : Nat) (identity : Nqn) (pskKe suite : Bool) (input : List Byte)
  /-- EGRESS_FRAME_SELECT (R311). At each frame start the port chooses a class and a connection by gates, PFC, shapers, strict priority and DWRR. -/
  | egressFrameSelect (np : Fin 24) (frames : List (Option Nat × Nat))
  /-- SHAPER_REFILL (R313). Every 64 ns each shaper bucket gains rate × 64 ns, up to its cap. -/
  | shaperRefill
  /-- GATE_ENTRY_ADVANCE (R315). A Pour list entry's interval ends and the next entry's gates take force, or a new cycle begins. -/
  | gateEntryAdvance (np : Fin 24)
  /-- POUR_LIST_ADOPT (R317). At the adoption instant the pending admin list becomes operational at entry 0. -/
  | pourListAdopt (np : Fin 24)
  /-- PEER_FLIT_RECEIVE (R327). A flit is received; a bad crc or an out-of-order fseq produces a NAK, and credits and acks are updated. -/
  | peerFlitReceive (crcOk : Bool) (cls : Fin 5) (fseq ack credit : Fin 65536)
  /-- PEER_NAK_RECEIVE (R333). A NAK resends from the replay buffer, or handles an EPOCH, RANGE or CLOSED refusal. -/
  | peerNakReceive (cause : Fin 5) (fseq : Fin 65536) (tag : PeerTag) (resent : Nat)
  /-- PEER_LANE_FAIL (R325). A lane fails training or delivery, so the link retrains on a healthy pair of lanes or goes down. -/
  | peerLaneFail (lane : Fin 4)
  /-- PEER_HELLO (R328). A HELLO is received; it is answered and gives the peer's mode, epoch and slot, including the slot-conflict check. -/
  | peerHello (h : HelloMsg)
  /-- PEER_HEARTBEAT (R330). A HEARTBEAT is received, clearing the miss count and carrying the endorsement, commit marker and state fields. -/
  | peerHeartbeat (h : HbMsg)
  /-- HEARTBEAT_TICK (R330). At each 1 ms of DT the device sends a heartbeat and counts a miss, and the peer is suspect after 5 misses. -/
  | heartbeatTick
  /-- PEER_WRITE (R332). A WRITE message is checked against the window mapping and written to Carafe, or refused with a NAK. -/
  | peerWrite (tag : PeerTag) (win : Fin 16) (epoch : Fin 65536) (off : Nat) (data : List Byte) (fseq : Fin 65536)
  /-- PEER_WACK (R329). A WACK reports a WRITE persistent, completing the waiting token. -/
  | peerWack (tag : PeerTag)
  /-- PEER_EPOCH_INFO (R333). EPOCH_INFO gives the peer's window epoch, and a refused message is resent. -/
  | peerEpochInfo (epoch : Fin 65536)
  /-- PEER_EPOCH_QUERY (R331). EPOCH_QUERY is answered with EPOCH_INFO. -/
  | peerEpochQuery
  /-- PEER_CONFIG (R324). A CONFIG message is held by the standby as an acknowledged set and answered with CONFIG_ACK. -/
  | peerConfig (txn : Nat) (writes : List (Nat × Word)) (ops : List CfgOp) (atNs : Option Nat)
  /-- PEER_CONFIG_ACK (R324). CONFIG_ACK lets the active's pending commit proceed. -/
  | peerConfigAck (txn : Nat)
  /-- PEER_KEY (R294). A forwarded key command is checked and held pending, or the pending key is installed or discarded. -/
  | peerKey (k : KeyMsg)
  /-- PEER_KEY_ACK (R294). The peer's KEY_ACK lets a LOAD or ZEROISE continue, or refuses it. -/
  | peerKeyAck (tenant : Fin 4096) (status : Nat)
  /-- PEER_FENCING (R343). FENCING from the active lets a synced standby acquire the lease and drive at the grant. -/
  | peerFencing
  /-- PEER_HANDOVER (R349). A HANDOVER message starts the standby's takeover with no redo. -/
  | peerHandover
  /-- PEER_LEAVE (R350). LEAVE makes the receiver treat the peer as lost. -/
  | peerLeave
  /-- SHADOW_APPLY (R323). The standby applies a mirrored record by shadow replay once every lower sequence number is resolved. -/
  | shadowApply
  /-- WITNESS_TICK (R336). Every 10 ms the device sends RENEW while it holds a witness lease, STATUS otherwise, or a forced ACQUIRE. -/
  | witnessTick
  /-- WITNESS_REQUEST_TIMEOUT (R336). A witness request has no reply within 1 ms and counts as unanswered. -/
  | witnessRequestTimeout (num : Nat)
  /-- WITNESS_LOST (R336). 30 ms pass with no valid witness frame, so no_witness is set and NO_WITNESS is raised. -/
  | witnessLost
  /-- WITNESS_GRANT (R340). A GRANT is received: the device stores the new epoch and holds or extends the lease. -/
  | witnessGrant (req epoch : Nat) (crcOk : Bool) (vs : List BaySample)
  /-- WITNESS_REFUSE (R343). A REFUSE is received: for cause 1 the device schedules a retry or detects a renewal, for cause 2 it sets stale_epoch. -/
  | witnessRefuse (req cause value : Nat) (crcOk : Bool)
  /-- WITNESS_STATE (R343). A STATE frame reports the holder; a free lease can trigger ACQUIRE. -/
  | witnessState (req : Nat) (holder : Option (Fin 2)) (crcOk : Bool)
  /-- ACQUIRE_RETRY_TIMER (R343). The remaining lease time that a refusal reported elapses, so the standby sends ACQUIRE again. -/
  | acquireRetryTimer
  /-- LEASE_EXPIRE (R341). DT reaches the lease end: outputs go to keepers, PERST is driven low, lanes go idle, windows close, and FENCED and FENCING follow. -/
  | leaseExpire
  /-- DRIVE_PERMISSION (R344). r + 42 ms passes after GRANT, so the new holder drives the shared outputs. -/
  | drivePermission (vs : List BaySample)
  /-- TAKEOVER_SERVICE_ENTRY (R345). The previously ONLINE members are ready or declared missing, so the new active enters service and reports ANA Optimized. -/
  | takeoverServiceEntry (groups : List GroupLook) (looks : List CkLook) (bad : List BadLook) (stored : List Nat)
  /-- PAIR_STATUS (R358). Chieb PAIR_STATUS returns the pairing registers. -/
  | pairStatus (src : ChiebSrc)
  /-- HANDOVER (R349). Chieb HANDOVER starts a planned switchover: it stops fetching and waits for the standby to catch up. -/
  | handover (src : ChiebSrc)
  /-- HANDOVER_SYNC_REACHED (R349). The standby's applied sequence number equals the head: held capsules are completed, then HANDOVER and RELEASE are sent and the device enters FENCED. -/
  | handoverSyncReached
  /-- HANDOVER_SELF_RESET (R349). 100 ms after the handover the old active resets itself to rejoin as standby. -/
  | handoverSelfReset
  /-- FORCED_TAKEOVER (R353). Chieb FORCED_TAKEOVER, checked against its conditions, starts the 42 ms wait before a forced lease. -/
  | forcedTakeover (src : ChiebSrc)
  /-- FORCED_TAKEOVER_WAIT_END (R353). 42 ms have passed since the last peer heartbeat, so the device takes a forced lease and acts under R345. -/
  | forcedTakeoverWaitEnd (vs : List BaySample)
  /-- LOCKSTEP_MISMATCH (R355). A management core pair mismatches, which is fault 0x02 and releases the lease. -/
  | lockstepMismatch (core : Fin 2)
  /-- WATCHDOG_EXPIRE (R355). The D00 watchdog sees no kick for 20 ms, which is fault 0x03 and releases the lease. -/
  | watchdogExpire
  /-- HBM_STACK_FAILURE (R355). An HBM stack or PHY fails, which is fault 0x06 and releases the lease. -/
  | hbmStackFailure (stackB : Bool)
  /-- CLOCK_LOSS (R355). A clock or PLL is lost against XTAL, which is fault 0x0D and releases the lease. -/
  | clockLoss
  /-- BAY_DIE_SELF_CHECK (R377). Every 1 ms the bay die checks its pump, references, watchdogs and V12BAY; a failure is fault 0x0E. -/
  | bayDieSelfCheck (parts v12 : Bool)
  /-- SEAT_ASSERT (R361). SEAT asserts on an EMPTY channel and the debounce starts (SEATING). -/
  | seatAssert (bay : Fin 24)
  /-- SEAT_DEBOUNCE_DONE (R362). SEAT has been asserted for 100 ms, so the channel enters IDLE and may ramp with auto set. -/
  | seatDebounceDone (bay : Fin 24) (v : BaySample)
  /-- SEAT_DEASSERT (R362). SEAT deasserts: the gate is pulled down, PERST is driven low and the member fails if powered, and the channel goes EMPTY. -/
  | seatDeassert (bay : Fin 24) (v : BaySample)
  /-- RAMP_SLOT_GRANT (R363). A ramp slot becomes free and the next waiting channel, in bay order, enters PRECHECK. -/
  | rampSlotGrant
  /-- PRECHECK_END (R364). After 1 ms of precheck the channel latches FET_SHORT, repeats the check for low VIN, or enters RAMP. -/
  | precheckEnd (bay : Fin 24) (first last : BaySample)
  /-- RAMP_COMPLETE (R365). VGATE reaches VSRC + 4 V and the channel enters ON; PG may assert. -/
  | rampComplete (bay : Fin 24) (v : BaySample)
  /-- GATE_FAIL_TIMEOUT (R365). VGATE stays low for 2 ms, or RAMP lasts too long, so the channel latches with GATE_FAIL. -/
  | gateFailTimeout (bay : Fin 24) (v : BaySample)
  /-- CURRENT_LIMIT_ENTER (R366). The current reaches ilim_ma: the gate is regulated and the fault timer starts. -/
  | currentLimitEnter (bay : Fin 24) (v : BaySample)
  /-- CURRENT_LIMIT_RELEASE (R366). 10 samples at or below 0.9 × ilim_ma release the limit and reset the timer. -/
  | currentLimitRelease (bay : Fin 24) (v : BaySample)
  /-- BAY_FAULT_TIMER_EXPIRE (R366). The fault timer reaches ftimer and the channel latches with TIMER. -/
  | bayFaultTimerExpire (bay : Fin 24) (v : BaySample)
  /-- FAST_TRIP (R367). The current reaches fast_ma and the gate is pulled down for 20 µs; a second trip latches FAST_TRIP. -/
  | fastTrip (bay : Fin 24) (v : BaySample)
  /-- FAST_TRIP_HOLD_END (R367). The 20 µs hold ends and the gate is driven again in current limit. -/
  | fastTripHoldEnd (bay : Fin 24)
  /-- FET_TEMP_LIMIT (R368). The modelled or measured transistor temperature reaches 150 °C and the channel latches with FET_TEMP. -/
  | fetTempLimit (bay : Fin 24) (v : BaySample)
  /-- PERST_RELEASE_TIMER (R371). 100 to 120 ms after PG asserts, PERST_DPnn is released. -/
  | perstReleaseTimer (bay : Fin 24)
  /-- BAY_SHUTDOWN_DONE (R371). The member reports CSTS.SHST 10b, or 5 s pass, so PERST is driven low ahead of gate-off. -/
  | bayShutdownDone (bay : Fin 24) (timeout : Bool)
  /-- BAY_GATE_OFF_DELAY (R371). 1 ms after PERST is driven low the gate turns off for a commanded OFF. -/
  | bayGateOffDelay (bay : Fin 24) (v : BaySample)
  /-- BAY_OFF_SHORT_CHECK (R371). 100 ms after a commanded turn-off, VSRC at or above 90 % of VIN latches FET_SHORT. -/
  | bayOffShortCheck (bay : Fin 24) (v : BaySample)
  /-- BAY_CYCLE_RESTART (R373). 1 s after a CYCLE's gate-off, the channel is commanded ON again. -/
  | bayCycleRestart (bay : Fin 24)
  /-- PS2_SECOND_CHECK (R374). Each second the channel checks its average power, and three seconds above 100 W latch PS2. -/
  | ps2SecondCheck (bay : Fin 24) (avg : Nat) (v : BaySample)
  /-- BAY_CMD_ON (R373). Channel command ON in IDLE with en set waits for a ramp slot. -/
  | bayCmdOn (bay : Fin 24)
  /-- BAY_CMD_OFF (R373). Channel command OFF starts the turn-off sequence. -/
  | bayCmdOff (bay : Fin 24)
  /-- BAY_CMD_CLEAR (R373). Channel command CLEAR returns a LATCHED channel to IDLE. -/
  | bayCmdClear (bay : Fin 24)
  /-- BAY_CMD_CYCLE (R373). Channel command CYCLE turns an ON channel off and on again. -/
  | bayCmdCycle (bay : Fin 24)
  /-- BAY_STATUS (R379). Chieb BAY_STATUS returns the bay registers. -/
  | bayStatus (src : ChiebSrc)
  /-- BAY_POWER (R379). Chieb BAY_POWER applies a channel command to each bay of a mask. -/
  | bayPower (src : ChiebSrc)
  /-- BAY_PS2_OVERRIDE (R374). Chieb BAY_PS2_OVERRIDE with its acknowledgement writes the PS2 override mask. -/
  | bayPs2Override (src : ChiebSrc)
  /-- BAY_PS2_OVR_WRITE (R374). A write of BAY_PS2_OVR with confirm 0xB7 persists the override mask. -/
  | bayPs2OvrWrite (confirm : BitVec 8) (bays : BitVec 24)
  /-- BAY_CAL (R380). Chieb BAY_CAL samples a bay's current-sense offset for 10 ms. -/
  | bayCal (src : ChiebSrc)
  /-- BAY_CAL_DONE (R380). The 10 ms calibration ends and the mean is stored in BAY_CH_OFS. -/
  | bayCalDone (bay : Fin 24) (ofs : BitVec 16)
  /-- MAILBOX_DOORBELL (R383). A doorbell bit takes the request from its BAR2 slot for execution, or is ignored while the slot is busy. -/
  | mailboxDoorbell (writes : List (Nat × List Byte)) (ring : Fin 16)
  /-- MI_READ_DATA_STRUCTURE (R384). The sideband answers Read NVMe-MI Data Structure. -/
  | miReadDataStructure (eid : Fin 256) (dtyp portId : Byte) (ctrlId : BitVec 16)
  /-- MI_SUBSYSTEM_HEALTH_POLL (R384). The sideband answers NVM Subsystem Health Status Poll. -/
  | miSubsystemHealthPoll (eid : Fin 256)
  /-- MI_CONTROLLER_HEALTH_POLL (R384). The sideband answers Controller Health Status Poll. -/
  | miControllerHealthPoll (eid : Fin 256)
  /-- MI_CONFIGURATION_GET (R384). The sideband answers Configuration Get. -/
  | miConfigurationGet (eid : Fin 256) (cfgId : Byte)
  /-- MI_CONFIGURATION_SET (R384). The sideband performs Configuration Set. -/
  | miConfigurationSet (eid : Fin 256) (cfgId : Byte) (value : BitVec 16)
  /-- IDENTIFY (R388). Chieb IDENTIFY returns the part, revision, slot, image version and mode. -/
  | identify (src : ChiebSrc)
  /-- STATUS (R388). Chieb STATUS returns the mode, start, power and transaction status. -/
  | status (src : ChiebSrc)
  /-- OP_QUERY (R387). Chieb OP_QUERY returns PENDING, or the final status of a long operation, and frees the handle. -/
  | opQuery (src : ChiebSrc)
  /-- HANDLE_EXPIRE (R387). 60 s after its operation ended, an unqueried handle is freed. -/
  | handleExpire (handle : Fin 64)
  /-- REG_READ (R457). Chieb REG_READ reads words in ascending order, each as one access. -/
  | regRead (src : ChiebSrc)
  /-- REG_WRITE (R457). Chieb REG_WRITE writes words in order, or stages them in a transaction, stopping at a refused word. -/
  | regWrite (src : ChiebSrc)
  /-- REG_WRITE_MASKED (R392). Chieb REG_WRITE_MASKED writes or stages one word under a mask. -/
  | regWriteMasked (src : ChiebSrc)
  /-- BEGIN (R391). Chieb BEGIN opens a transaction and returns its id. -/
  | begin (src : ChiebSrc)
  /-- COMMIT (R393). Chieb COMMIT applies a transaction through the steps of Table 15.5. -/
  | commit (src : ChiebSrc)
  /-- COMMIT_AT (R395). Chieb COMMIT_AT seals a transaction and schedules it at a DNT instant. -/
  | commitAt (src : ChiebSrc)
  /-- ROLLBACK (R396). Chieb ROLLBACK discards an open, scheduled or held transaction. -/
  | rollback (src : ChiebSrc)
  /-- TXN_STATUS (R388). Chieb TXN_STATUS returns a transaction's state and staged list. -/
  | txnStatus (src : ChiebSrc)
  /-- TXN_EXPIRE (R396). An open transaction idle for timeout_s expires and its staged writes are discarded. -/
  | txnExpire (slot : Fin 8)
  /-- BAR0_STAGING_WRITE (R392). A BAR0 write while MGT_TXN_SEL names a transaction is staged rather than applied. -/
  | bar0StagingWrite (off : Fin 0x4000000) (value : Word) (dw : Bool)
  /-- GROUP_STATUS (R388). Chieb GROUP_STATUS returns a group's registers. -/
  | groupStatus (src : ChiebSrc)
  /-- NS_CREATE (R389). Chieb NS_CREATE places a namespace extent and makes the namespace valid. -/
  | nsCreate (src : ChiebSrc)
  /-- NS_DELETE (R389). Chieb NS_DELETE writes a ZERO record over the extent, invalidates Crema and clears valid. -/
  | nsDelete (src : ChiebSrc)
  /-- NS_MOVE (R389). Chieb NS_MOVE moves a namespace and its usage to another tenant. -/
  | nsMove (src : ChiebSrc)
  /-- NS_INFO (R388). Chieb NS_INFO returns a namespace's extent, tenant and usage. -/
  | nsInfo (src : ChiebSrc)
  /-- HOST_ADD (R389). Chieb HOST_ADD adds or replaces an allowed-host entry. -/
  | hostAdd (src : ChiebSrc)
  /-- HOST_REMOVE (R389). Chieb HOST_REMOVE removes a host and ends its associations. -/
  | hostRemove (src : ChiebSrc)
  /-- HOST_LIST (R388). Chieb HOST_LIST returns allowed-host entries. -/
  | hostList (src : ChiebSrc)
  /-- SUBSYS_NQN (R77). Chieb SUBSYS_NQN sets the subsystem NQN. -/
  | subsysNqn (src : ChiebSrc)
  /-- TIME_STATUS (R388). Chieb TIME_STATUS returns the sync state, the offset, DNT and DT. -/
  | timeStatus (src : ChiebSrc)
  /-- SCHED_LIST (R395). Chieb SCHED_LIST returns the scheduled and held commits. -/
  | schedList (src : ChiebSrc)
  /-- PERSISTENT_REGISTER_WRITE (R403). A write of an RWP word takes a rate token and starts a 20 µs persistent write, with wear counted. -/
  | persistentRegisterWrite (off : Fin 0x4000000) (value : Word)
  /-- PCR_WRITE_DONE (R402). A persistent write completes after 20 µs and the new value becomes readable. -/
  | pcrWriteDone
  /-- PCR_TOKEN_REFILL (R404). Each second every persistent word gains one token, up to 16. -/
  | pcrTokenRefill
  /-- TEST_STATUS (R407). Chieb TEST_STATUS returns the running tests and their handles. -/
  | testStatus (src : ChiebSrc)
  /-- ENGINE_KAT (R281). ENGINE_KAT runs known-answer tests of each engine instance, one instance at a time. -/
  | engineKat (src : ChiebSrc)
  /-- CARAFE_SCAN (R405). CARAFE_SCAN reads every ring line and rewrites corrected lines. -/
  | carafeScan (src : ChiebSrc)
  /-- HBM_SCRUB (R405). HBM_SCRUB reads every HBM word and rewrites corrected words. -/
  | hbmScrub (src : ChiebSrc)
  /-- PCR_VERIFY (R405). PCR_VERIFY reads every persistent word. -/
  | pcrVerify (src : ChiebSrc)
  /-- NET_PRBS (R406). NET_PRBS runs a PRBS test on a disabled network port. -/
  | netPrbs (src : ChiebSrc)
  /-- DRV_EQ (R406). DRV_EQ re-runs equalisation on a bay that is not an active member. -/
  | drvEq (src : ChiebSrc)
  /-- PEER_PRBS (R406). PEER_PRBS runs a PRBS test on the unpaired peer link. -/
  | peerPrbs (src : ChiebSrc)
  /-- HBM_MARCH (R405). HBM_MARCH runs a destructive march over both stacks in TEST. -/
  | hbmMarch (src : ChiebSrc)
  /-- MRAM_MARCH (R405). MRAM_MARCH runs a destructive march and marks Carafe invalid. -/
  | mramMarch (src : ChiebSrc)
  /-- SERDES_LOOP (R405). SERDES_LOOP runs internal loopback of all lanes in TEST. -/
  | serdesLoop (src : ChiebSrc)
  /-- TEST_DONE (R407). A self-test or calibration operation ends and its handle receives the final result. -/
  | testDone (op target : Nat) (errors first : Word)
  /-- PCIE_CONFIG_REQUEST (R408). A configuration request is answered, or retried with CRS during start-up and FLR. -/
  | pcieConfigRequest (write : Bool) (reg : Fin 1024) (be : BitVec 4) (value : Word)
  /-- PMCSR_D3HOT_ENTER (R414). The function is placed in D3hot and memory requests become Unsupported Request. -/
  | pmcsrD3hotEnter
  /-- PMCSR_D0_RETURN (R414). The function returns to D0 with every register kept. -/
  | pmcsrD0Return
  /-- BME_CLEAR (R418). Bus Master Enable goes from 1 to 0: no new requests, completions discarded and space-3 instructions end BME_OFF. -/
  | bmeClear
  /-- BME_SET (R417). Bus Master Enable returns to 1 and pending messages whose source is still set are sent. -/
  | bmeSet
  /-- FUNCTION_LEVEL_RESET (R419). Initiate Function Level Reset starts the FLR sequence of Table 16.5. -/
  | functionLevelReset
  /-- FLR_DONE (R420). Outstanding reads have closed; endpoint state returns to reset values except the sticky bits. -/
  | flrDone
  /-- PERST_SL_ASSERT (R421). PERST_SL goes low and the endpoint is reset as by an FLR, entering D3cold. -/
  | perstSlAssert
  /-- PERST_SL_DEASSERT (R421). PERST_SL goes high and the link trains within 20 ms. -/
  | perstSlDeassert (speed : Fin 5) (width : Fin 3)
  /-- HOT_RESET (R421). A hot reset resets the endpoint as an FLR does, and the link retrains. -/
  | hotReset (speed : Fin 5) (width : Fin 3)
  /-- ENDPOINT_LINK_DOWN (R421). The service-endpoint link goes down and the endpoint is reset as an FLR does. -/
  | endpointLinkDown (speed : Fin 5) (width : Fin 3)
  /-- COMPLETION_RECEIVE (R413). A completion for a space-3 read is received and delivered, or discarded. -/
  | completionReceive (tag : Fin 1024) (st : CplStat) (data : List Byte)
  /-- COMPLETION_TIMEOUT (R412). A space-3 read has no completion within 1 ms and its instruction ends CPL_TIMEOUT. -/
  | completionTimeout (tag : Fin 1024)
  /-- AER_ERROR (R413). A link or TLP error of Table 16.3 is logged and signalled through AER. -/
  | aerError (e : AerErr) (advisory : Bool) (hdr : List Word)
  /-- MSIX_UNMASK (R417). A masked vector is unmasked and its pending message is sent. -/
  | msixUnmask (entry : Fin 6)
  /-- FW_STATUS (R438). Chieb FW_STATUS returns the firmware and slot registers. -/
  | fwStatus (src : ChiebSrc)
  /-- FW_DOWNLOAD (R430). Chieb FW_DOWNLOAD stages image data with the overlap rules. -/
  | fwDownload (src : ChiebSrc)
  /-- FW_COMMIT (R431). Chieb FW_COMMIT performs a commit action of Table 17.5 on slots 1 to 3. -/
  | fwCommit (src : ChiebSrc) (look : ImgLook)
  /-- FW_SLOT_WRITTEN (R424). A replace commit finishes writing its slot, which becomes VALID. -/
  | fwSlotWritten
  /-- FW_DISCARD (R430). Chieb FW_DISCARD clears the staging area. -/
  | fwDiscard (src : ChiebSrc)
  /-- FW_REJECT (R435). Chieb FW_REJECT ends a trial in fallback. -/
  | fwReject (src : ChiebSrc)
  /-- SPDM_ROOT_SET (R443). Chieb SPDM_ROOT_SET stores the requester root hash. -/
  | spdmRootSet (src : ChiebSrc)
  /-- ACTIVATION_WITHOUT_RESET (R432). An unpaired device enters ACTIVATING, drains, reloads every target and starts the new image on trial. -/
  | activationWithoutReset
  /-- ACTIVATION_DRAIN_DEADLINE (R107). 120 ms after entry into ACTIVATING, brews still running are forced into failure. -/
  | activationDrainDeadline
  /-- ACTIVATION_IMAGE_RUNNING (R432). The new image is running, the device returns to its mode and the held commands start. -/
  | activationImageRunning (look : ImgLook)
  /-- PAIRED_ACTIVATION (R433). The active, with an activated synced standby, writes the slot, sets it pending and hands over. -/
  | pairedActivation
  /-- TRIAL_CONFIRM (R434). After settle_s, with ENGINE_KAT passed and no listed fault, the image confirms: trial clears, FWU_SVN rises and keys are revoked. -/
  | trialConfirm
  /-- TRIAL_WINDOW_EXPIRE (R435). The trial window ends without confirmation, so the device hands over if needed and resets into fallback. -/
  | trialWindowExpire
  /-- SPDM_GET_VERSION (R440). GET_VERSION is answered with version 1.3. -/
  | spdmGetVersion (who : Fin 257)
  /-- SPDM_GET_CAPABILITIES (R440). GET_CAPABILITIES is answered with the capabilities of Table 17.7. -/
  | spdmGetCapabilities (who : Fin 257) (version : Byte)
  /-- SPDM_NEGOTIATE_ALGORITHMS (R440). NEGOTIATE_ALGORITHMS settles the algorithms or refuses others. -/
  | spdmNegotiateAlgorithms (who : Fin 257) (algs : SpdmAlgs)
  /-- SPDM_GET_DIGESTS (R440). GET_DIGESTS returns the digest of certificate slot 0. -/
  | spdmGetDigests (who : Fin 257)
  /-- SPDM_GET_CERTIFICATE (R439). GET_CERTIFICATE returns the device certificate chain. -/
  | spdmGetCertificate (who : Fin 257) (slot : Fin 8) (off len : BitVec 16)
  /-- SPDM_CHALLENGE (R441). CHALLENGE starts a signature and answers ResponseNotReady. -/
  | spdmChallenge (who : Fin 257) (slot : Fin 8) (transcript : List Byte)
  /-- SPDM_GET_MEASUREMENTS (R442). GET_MEASUREMENTS returns the measurement blocks, signed if requested. -/
  | spdmGetMeasurements (who : Fin 257) (index : Fin 256) (signed : Bool) (transcript : List Byte)
  /-- SPDM_KEY_EXCHANGE (R443). KEY_EXCHANGE starts a mutually authenticated secured session. -/
  | spdmKeyExchange (who : Fin 257) (transcript : List Byte)
  /-- SPDM_FINISH (R443). FINISH completes the session with the requester's root check. -/
  | spdmFinish (who : Fin 257) (session : Nat) (root : List Byte) (ok : Bool)
  /-- SPDM_SIGNATURE_DONE (R441). An identity-key signature completes within 1.5 s and its response becomes ready. -/
  | spdmSignatureDone (who : Fin 257)
  /-- SPDM_RESPOND_IF_READY (R441). RESPOND_IF_READY returns a response once its signature is ready. -/
  | spdmRespondIfReady (who : Fin 257)
  /-- SPDM_HEARTBEAT (R440). HEARTBEAT keeps a secured session alive. -/
  | spdmHeartbeat (session : Nat)
  /-- SPDM_KEY_UPDATE (R440). KEY_UPDATE updates the session keys. -/
  | spdmKeyUpdate (session : Nat)
  /-- SPDM_END_SESSION (R443). END_SESSION ends a secured session. -/
  | spdmEndSession (session : Nat)
  /-- SECURED_MESSAGE (R443). A secured application message carrying a Chieb packet is decrypted and executed on its channel. -/
  | securedMessage (session : Nat) (bytes : List Byte)
  /-- TELEMETRY_SWEEP (R446). At a sweep instant the 320 counters are latched, then published with rates and DMA event 65. -/
  | telemetrySweep
  /-- TEL_SNAPSHOT (R454). Chieb TEL_SNAPSHOT returns the latest scheduled snapshot. -/
  | telSnapshot (src : ChiebSrc)
  /-- TEL_SWEEP (R449). Chieb TEL_SWEEP runs an on-demand sweep, waiting for a running one. -/
  | telSweep (src : ChiebSrc)
  /-- TEL_SAMPLES (R452). Chieb TEL_SAMPLES returns sample records from the tail and advances it. -/
  | telSamples (src : ChiebSrc)
  /-- REGISTER_WRITE (R6). A BAR0 or register-access write to a register without a row of its own applies by its access codes, or is refused whole. -/
  | registerWrite (off : Fin 0x4000000) (value : Word) (dw : Bool)
  /-- RAILS_REMOVED (R49). The rails are removed and the device goes from any mode to OFF, taking the unpowered pin states. -/
  | railsRemoved
  /-- REF10M_IN_WITHIN_TOLERANCE (R67). REF10M_IN returns within 10 MHz ± 5 ppm, so it again sets the frequency reference of the DNT counter and ref_ok reads 1. -/
  | ref10mInWithinTolerance
  /-- FOLLOWER_KEEPER_SAMPLE (R40). Every 10 µs a device in follower keeper mode samples each shared bay node and sets its keeper to the sampled level. -/
  | followerKeeperSample (bay : Fin 24) (gateHigh pgHigh : Bool)
  /-- TARGET_FORMAT_DONE (R243). The format and label write of a rebuild target complete, and the FAILED position becomes REBUILDING. -/
  | targetFormatDone (bay : Fin 24)
  /-- BAR0_READ (R411). A BAR0 read completes, clearing any RC field once and latching the paired _HI or sampled registers. -/
  | bar0Read (off : Fin 0x4000000) (dw : Bool)
  /-- MCTP_ENDPOINT_ASSIGNED (R385). An MCTP endpoint ID is assigned on the sideband, and that source's Chieb sequence state restarts so that the next request is accepted with any seq. -/
  | mctpEndpointAssigned (eid : Fin 256)
  /-- CM_DISCONNECT_REQUEST (R81). The host closes a RoCEv2 reliable connection through the communication manager, and when that connection is an admin queue the association ends. -/
  | cmDisconnectRequest (conn : Nat)
  deriving DecidableEq, Repr

end Sys2Proof
end

