-- ==== Sys2Proof/Decode.lean ====
section
/-! DEFINITION. The words of the operation table: no row of spec/opcode_table.json gives bits, so no word spells a command. -/

namespace Sys2Proof

/-- The command that a word of `nbits` bits spells by the bits of the operation table. The table gives no row any bits: a command is an
event or an access, not a word. -/
def decodeTableWord (_nbits _w : Nat) : Option Instr := none

end Sys2Proof
end

