-- ==== Sys2Proof/Config.lean ====
section
/-! DEFINITION. What an implementation fixes, and the free values: constants with no body, of which nothing can be proved.
Each is named in a row of notes/assumptions. -/

namespace Sys2Proof.Config

/-- A value the spec leaves open, one for each number of the counter `Ctl.fv` (notes/assumptions/2.md). -/
opaque freeNat : Nat → Nat

/-- The Device Serial Number in the device's fuses (GLB_SERIAL_LO/HI, 19_address_map.md). -/
opaque serial : BitVec 64

/-- The PCI-SIG vendor ID of the maker (Table 16.1, R408); the spec gives no number. -/
opaque vendorId : BitVec 16

/-- A word of configuration space to which this spec gives no content, by its offset and what was last written to it: the lane equalisation,
margining and data object words of Table 16.2 (R409). -/
opaque cfgWord : Nat → BitVec 32 → BitVec 32

/-- DMSL of Identify CNS 06h: R93 bounds it by 2^32 blocks and gives no value. -/
opaque dmsl : Nat

/-- An NVMe-MI data structure by its type, port and controller (R384); the spec gives no content. -/
opaque miStructure : Nat → Nat → Nat → List (BitVec 8)

/-- The default of the Keep Alive Timer feature, which the spec does not give (R94). -/
opaque katoDefault : Nat

/-- TEL_RATE_n for a window of which R450 states no 32-bit rate: by the counter, what it counted and the window's ns of DT. -/
opaque rateOpen : Nat → Nat → Nat → BitVec 32

/-- The rate of REF10M_IN against the clock of DT, in parts per 10^9: the spec gives the tolerance within which it is taken, not its rate (R67,
notes/assumptions/67.md). -/
opaque refRate : Int

/-- The recipe that runs each kind of work, by the kind's number; the spec does not number the factory recipes
(notes/assumptions/13.md). -/
opaque recipeOf : Nat → Nat

/-- A ring payload line as the Carafe controllers encrypt it: its absolute line number and its bytes (R210). -/
opaque carafeCipher : Nat → List (BitVec 8) → List (BitVec 8)

/-- XTS-AES-256 of one block of 4,096 bytes (R282): encrypt or decrypt, the 32-byte data key, and nsid, namespace LBA and
generation. -/
opaque xtsBlock : Bool → List (BitVec 8) → Nat → Nat → Nat → List (BitVec 8) → List (BitVec 8)

/-- RFC 5649 wrap of bytes under a key (R290, R292). -/
opaque keyWrap : List (BitVec 8) → List (BitVec 8) → List (BitVec 8)

/-- RFC 5649 unwrap under a key; none when its integrity check fails (R294). -/
opaque keyUnwrap : List (BitVec 8) → List (BitVec 8) → Option (List (BitVec 8))

/-- The key storage key, derived from the device root key (R289). -/
opaque storageKey : List (BitVec 8)

/-- The keys of a TLS 1.3 connection from its PSK and the handshake's inputs (R287). -/
opaque tlsKeys : List (BitVec 8) → List (BitVec 8) → List (BitVec 8)

/-- AES-256-GCM of a record under a connection's keys with its record number (R287): sealed, and opened, none where it does not
authenticate. -/
opaque gcmSeal : List (BitVec 8) → Nat → List (BitVec 8) → List (BitVec 8)
opaque gcmOpen : List (BitVec 8) → Nat → List (BitVec 8) → Option (List (BitVec 8))

/-- SHA-256 of bytes, as it stands in measurements and digests (R429, R442). -/
opaque sha256 : List (BitVec 8) → List (BitVec 8)

/-- Digest of the boot ROM, and digests of the factory image's manifest (0) and components (1 to 7) (R442). -/
opaque bootRomDigest : List (BitVec 8)
opaque factoryDigest : Nat → List (BitVec 8)

/-- The device certificate chain in the identity area (R439). -/
opaque certChain : List (BitVec 8)

/-- A signature of the identity key over bytes (R439, R441). -/
opaque identitySign : List (BitVec 8) → List (BitVec 8)

end Sys2Proof.Config
end

