-- ==== Sys2Proof/Machine/Regs.lean ====
section
/-! DEFINITION. The register map of spec/ (every section file's register tables; the address windows are those of
19_address_map.md): one offset, one field place, one access code and one reset value per row of those tables. `Reg.X` is the
BAR0 offset of register X, `F.X_f` the place of its field f, and `Reg.table` the rows the generic access rules (R6, R8) read. -/

namespace Sys2Proof.Machine

/-- The access codes of R6 (00_scope.md). -/
inductive Acc where
  | ro | rw | wo | w1c | w1s | rc | rwp | rws | rwt
  deriving DecidableEq, Repr

/-- A field of a register: its BAR0 word offset and its bit positions. -/
structure Fld where
  off : Nat
  hi  : Nat
  lo  : Nat
  deriving DecidableEq, Repr

/-- One field row of a register table: bits, access code, reset value, and the range outside which a write is refused. -/
structure FRow where
  hi  : Nat
  lo  : Nat
  acc : Acc
  rst : Nat
  rng : Option (Nat × Nat)
  deriving DecidableEq, Repr

/-- One index of a register array: byte stride, first index, number of indices. -/
structure Dim where
  stride : Nat
  first  : Nat
  count  : Nat
  deriving DecidableEq, Repr

/-- One register table heading: its name, base offset, indices and fields. -/
structure RRow where
  name : String
  base : Nat
  dims : List Dim
  flds : List FRow
  deriving DecidableEq, Repr

namespace Reg

/-- GLB_PD_CTRL, 02_package_and_power.md. -/
def GLB_PD_CTRL : Nat := 0x200
/-- GLB_PD_STAT, 02_package_and_power.md. -/
def GLB_PD_STAT : Nat := 0x204
/-- GLB_PD_DRAIN_TO, 02_package_and_power.md. -/
def GLB_PD_DRAIN_TO : Nat := 0x208
/-- GLB_PWR_STAT, 02_package_and_power.md. -/
def GLB_PWR_STAT : Nat := 0x210
/-- GLB_THERM_CFG, 02_package_and_power.md. -/
def GLB_THERM_CFG : Nat := 0x280
/-- GLB_THERM_STAT, 02_package_and_power.md. -/
def GLB_THERM_STAT : Nat := 0x284
/-- GLB_TEMP_n, 02_package_and_power.md. -/
def GLB_TEMP (n : Nat) : Nat := 0x300 + 0x4 * n
/-- GLB_LIFE_HOURS, 02_package_and_power.md. -/
def GLB_LIFE_HOURS : Nat := 0x400
/-- GLB_LIFE_TJSUM, 02_package_and_power.md. -/
def GLB_LIFE_TJSUM : Nat := 0x404
/-- GLB_MODE_STAT, 03_modes_and_startup.md. -/
def GLB_MODE_STAT : Nat := 0x100
/-- GLB_MODE_REQ, 03_modes_and_startup.md. -/
def GLB_MODE_REQ : Nat := 0x104
/-- GLB_START_STAT, 03_modes_and_startup.md. -/
def GLB_START_STAT : Nat := 0x108
/-- GLB_START_TIME, 03_modes_and_startup.md. -/
def GLB_START_TIME : Nat := 0x10c
/-- GLB_START_CFG, 03_modes_and_startup.md. -/
def GLB_START_CFG : Nat := 0x110
/-- TIM_DNT_LO, 04_network_time.md. -/
def TIM_DNT_LO : Nat := 0x100000
/-- TIM_DNT_HI, 04_network_time.md. -/
def TIM_DNT_HI : Nat := 0x100004
/-- TIM_DNT_NS, 04_network_time.md. -/
def TIM_DNT_NS : Nat := 0x100008
/-- TIM_DT_LO, 04_network_time.md. -/
def TIM_DT_LO : Nat := 0x100010
/-- TIM_DT_HI, 04_network_time.md. -/
def TIM_DT_HI : Nat := 0x100014
/-- TIM_SYNC_STAT, 04_network_time.md. -/
def TIM_SYNC_STAT : Nat := 0x100020
/-- TIM_OFFSET, 04_network_time.md. -/
def TIM_OFFSET : Nat := 0x100024
/-- TIM_PTP_CFG, 04_network_time.md. -/
def TIM_PTP_CFG : Nat := 0x100040
/-- TIM_REF_CFG, 04_network_time.md. -/
def TIM_REF_CFG : Nat := 0x100044
/-- TIM_SYNC_LOST, 04_network_time.md. -/
def TIM_SYNC_LOST : Nat := 0x100048
/-- TIM_STEP_THR, 04_network_time.md. -/
def TIM_STEP_THR : Nat := 0x10004c
/-- TIM_UNSYNC_GATE, 04_network_time.md. -/
def TIM_UNSYNC_GATE : Nat := 0x100050
/-- TIM_TOD_CFG, 04_network_time.md. -/
def TIM_TOD_CFG : Nat := 0x100060
/-- TIM_TOD_n, 04_network_time.md. -/
def TIM_TOD (n : Nat) : Nat := 0x100100 + 0x4 * n
/-- TIM_EVT_STAT, 04_network_time.md. -/
def TIM_EVT_STAT : Nat := 0x100080
/-- HCP_CFG, 05_host_command_path.md. -/
def HCP_CFG : Nat := 0x200000
/-- HCP_CTX_CFG, 05_host_command_path.md. -/
def HCP_CTX_CFG : Nat := 0x200004
/-- HCP_CTX_STAT, 05_host_command_path.md. -/
def HCP_CTX_STAT : Nat := 0x200008
/-- HCP_CTX_WAIT, 05_host_command_path.md. -/
def HCP_CTX_WAIT : Nat := 0x20000c
/-- HCP_ASSOC_STAT, 05_host_command_path.md. -/
def HCP_ASSOC_STAT : Nat := 0x200010
/-- HCP_REFUSE_STAT, 05_host_command_path.md. -/
def HCP_REFUSE_STAT : Nat := 0x200014
/-- HCP_ABORT_STAT, 05_host_command_path.md. -/
def HCP_ABORT_STAT : Nat := 0x200018
/-- HCP_PS_STAT, 05_host_command_path.md. -/
def HCP_PS_STAT : Nat := 0x200020
/-- HCP_ANA_STAT, 05_host_command_path.md. -/
def HCP_ANA_STAT : Nat := 0x200024
/-- HCP_ANA_GRP, 05_host_command_path.md. -/
def HCP_ANA_GRP : Nat := 0x200028
/-- HCP_KATO_STAT, 05_host_command_path.md. -/
def HCP_KATO_STAT : Nat := 0x200030
/-- HCP_TAG_SEL, 05_host_command_path.md. -/
def HCP_TAG_SEL : Nat := 0x200040
/-- HCP_TAG_INFO0, 05_host_command_path.md. -/
def HCP_TAG_INFO0 : Nat := 0x200044
/-- HCP_TAG_INFO1, 05_host_command_path.md. -/
def HCP_TAG_INFO1 : Nat := 0x200048
/-- HCP_STATUS_CNT_n, 05_host_command_path.md. -/
def HCP_STATUS_CNT (n : Nat) : Nat := 0x200080 + 0x4 * n
/-- BST_CFG, 06_barista_and_dma.md. -/
def BST_CFG : Nat := 0x400000
/-- BST_EXC_STAT, 06_barista_and_dma.md. -/
def BST_EXC_STAT : Nat := 0x400004
/-- BST_RCP_SEL, 06_barista_and_dma.md. -/
def BST_RCP_SEL : Nat := 0x400010
/-- BST_RCP_INFO0, 06_barista_and_dma.md. -/
def BST_RCP_INFO0 : Nat := 0x400014
/-- BST_RCP_INFO1, 06_barista_and_dma.md. -/
def BST_RCP_INFO1 : Nat := 0x400018
/-- BST_LOAD_ADDR, 06_barista_and_dma.md. -/
def BST_LOAD_ADDR : Nat := 0x400020
/-- BST_LOAD_DATA, 06_barista_and_dma.md. -/
def BST_LOAD_DATA : Nat := 0x400024
/-- BST_LOAD_BASE, 06_barista_and_dma.md. -/
def BST_LOAD_BASE : Nat := 0x400028
/-- BST_LOAD_CMD, 06_barista_and_dma.md. -/
def BST_LOAD_CMD : Nat := 0x40002c
/-- BST_LOAD_STAT, 06_barista_and_dma.md. -/
def BST_LOAD_STAT : Nat := 0x400030
/-- BST_ENGINE_EN_n, 06_barista_and_dma.md. -/
def BST_ENGINE_EN (n : Nat) : Nat := 0x401000 + 0x4 * n
/-- BST_ENGINE_ACK_n, 06_barista_and_dma.md. -/
def BST_ENGINE_ACK (n : Nat) : Nat := 0x401400 + 0x4 * n
/-- DMA_CH_CTRL_n, 06_barista_and_dma.md. -/
def DMA_CH_CTRL (n : Nat) : Nat := 0x408000 + 0x40 * n
/-- DMA_CH_STAT_n, 06_barista_and_dma.md. -/
def DMA_CH_STAT (n : Nat) : Nat := 0x408004 + 0x40 * n
/-- DMA_CH_PROG_LO_n, 06_barista_and_dma.md. -/
def DMA_CH_PROG_LO (n : Nat) : Nat := 0x408008 + 0x40 * n
/-- DMA_CH_PROG_HI_n, 06_barista_and_dma.md. -/
def DMA_CH_PROG_HI (n : Nat) : Nat := 0x40800c + 0x40 * n
/-- DMA_CH_NEXT_LO_n, 06_barista_and_dma.md. -/
def DMA_CH_NEXT_LO (n : Nat) : Nat := 0x408010 + 0x40 * n
/-- DMA_CH_NEXT_HI_n, 06_barista_and_dma.md. -/
def DMA_CH_NEXT_HI (n : Nat) : Nat := 0x408014 + 0x40 * n
/-- DMA_CH_PACE_n, 06_barista_and_dma.md. -/
def DMA_CH_PACE (n : Nat) : Nat := 0x408018 + 0x40 * n
/-- DMA_CH_BYTES_n, 06_barista_and_dma.md. -/
def DMA_CH_BYTES (n : Nat) : Nat := 0x40801c + 0x40 * n
/-- SWC_PORT_HOLD, 07_switch_core_and_buffers.md. -/
def SWC_PORT_HOLD : Nat := 0x600004
/-- SWC_QE_STAT, 07_switch_core_and_buffers.md. -/
def SWC_QE_STAT : Nat := 0x600008
/-- SWC_QE_HWM, 07_switch_core_and_buffers.md. -/
def SWC_QE_HWM : Nat := 0x60000c
/-- SWC_ERR_STAT, 07_switch_core_and_buffers.md. -/
def SWC_ERR_STAT : Nat := 0x600010
/-- SWC_LINK_STAT_n, 07_switch_core_and_buffers.md. -/
def SWC_LINK_STAT (n : Nat) : Nat := 0x600100 + 0x4 * n
/-- SWC_DROP_CNT_n, 07_switch_core_and_buffers.md. -/
def SWC_DROP_CNT (n : Nat) : Nat := 0x600200 + 0x4 * n
/-- SWC_FLAP_CNT_n, 07_switch_core_and_buffers.md. -/
def SWC_FLAP_CNT (n : Nat) : Nat := 0x600300 + 0x4 * n
/-- BPM_MGT_OP, 07_switch_core_and_buffers.md. -/
def BPM_MGT_OP : Nat := 0x700010
/-- BPM_MGT_PTR, 07_switch_core_and_buffers.md. -/
def BPM_MGT_PTR : Nat := 0x700014
/-- BPM_MGT_RESP, 07_switch_core_and_buffers.md. -/
def BPM_MGT_RESP : Nat := 0x700018
/-- BPM_FAULT_STAT, 07_switch_core_and_buffers.md. -/
def BPM_FAULT_STAT : Nat := 0x700020
/-- BPM_FAULT_PTR, 07_switch_core_and_buffers.md. -/
def BPM_FAULT_PTR : Nat := 0x700024
/-- BPM_FAULT_CNT_n, 07_switch_core_and_buffers.md. -/
def BPM_FAULT_CNT (n : Nat) : Nat := 0x700040 + 0x4 * n
/-- BPM_BUF_SEL, 07_switch_core_and_buffers.md. -/
def BPM_BUF_SEL : Nat := 0x700030
/-- BPM_BUF_INFO, 07_switch_core_and_buffers.md. -/
def BPM_BUF_INFO : Nat := 0x700034
/-- BPM_POOL_CFG_n, 07_switch_core_and_buffers.md. -/
def BPM_POOL_CFG (n : Nat) : Nat := 0x700100 + 0x20 * n
/-- BPM_POOL_BASE_n, 07_switch_core_and_buffers.md. -/
def BPM_POOL_BASE (n : Nat) : Nat := 0x700104 + 0x20 * n
/-- BPM_POOL_RSV_n, 07_switch_core_and_buffers.md. -/
def BPM_POOL_RSV (n : Nat) : Nat := 0x700108 + 0x20 * n
/-- BPM_POOL_FREE_n, 07_switch_core_and_buffers.md. -/
def BPM_POOL_FREE (n : Nat) : Nat := 0x70010c + 0x20 * n
/-- BPM_POOL_NULL_n, 07_switch_core_and_buffers.md. -/
def BPM_POOL_NULL (n : Nat) : Nat := 0x700110 + 0x20 * n
/-- BPM_POOL_FALL_n, 07_switch_core_and_buffers.md. -/
def BPM_POOL_FALL (n : Nat) : Nat := 0x700114 + 0x20 * n
/-- BPM_POOL_QUAR_n, 07_switch_core_and_buffers.md. -/
def BPM_POOL_QUAR (n : Nat) : Nat := 0x700118 + 0x20 * n
/-- BPM_POOL_LOW_n, 07_switch_core_and_buffers.md. -/
def BPM_POOL_LOW (n : Nat) : Nat := 0x70011c + 0x20 * n
/-- CRM_CFG, 08_read_path_and_crema.md. -/
def CRM_CFG : Nat := 0x800000
/-- CRM_DIR_BASE, 08_read_path_and_crema.md. -/
def CRM_DIR_BASE : Nat := 0x800004
/-- CRM_FILL_RCP, 08_read_path_and_crema.md. -/
def CRM_FILL_RCP : Nat := 0x800008
/-- CRM_DECAY, 08_read_path_and_crema.md. -/
def CRM_DECAY : Nat := 0x80000c
/-- CRM_STAT, 08_read_path_and_crema.md. -/
def CRM_STAT : Nat := 0x800010
/-- CRM_CMD, 08_read_path_and_crema.md. -/
def CRM_CMD : Nat := 0x800014
/-- CRM_LIMIT_n, 08_read_path_and_crema.md. -/
def CRM_LIMIT (n : Nat) : Nat := 0x800020 + 0x8 * n
/-- CRM_USE_n, 08_read_path_and_crema.md. -/
def CRM_USE (n : Nat) : Nat := 0x800024 + 0x8 * n
/-- CRM_SKETCH_W_LO, 08_read_path_and_crema.md. -/
def CRM_SKETCH_W_LO : Nat := 0x800040
/-- CRM_SKETCH_W_HI, 08_read_path_and_crema.md. -/
def CRM_SKETCH_W_HI : Nat := 0x800044
/-- CRM_PROBE_NS, 08_read_path_and_crema.md. -/
def CRM_PROBE_NS : Nat := 0x800050
/-- CRM_PROBE_GI_LO, 08_read_path_and_crema.md. -/
def CRM_PROBE_GI_LO : Nat := 0x800054
/-- CRM_PROBE_GI_HI, 08_read_path_and_crema.md. -/
def CRM_PROBE_GI_HI : Nat := 0x800058
/-- CRM_PROBE_RES, 08_read_path_and_crema.md. -/
def CRM_PROBE_RES : Nat := 0x80005c
/-- CRM_CNT_n, 08_read_path_and_crema.md. -/
def CRM_CNT (n : Nat) : Nat := 0x800100 + 0x4 * n
/-- CRM_NS_CFG_n, 08_read_path_and_crema.md. -/
def CRM_NS_CFG (n : Nat) : Nat := 0x808000 + 0x4 * n
/-- GAL_GRP_CFG_n, 09_layouts_and_write_path.md. -/
def GAL_GRP_CFG (n : Nat) : Nat := 0xa00000 + 0x20 * n
/-- GAL_GRP_MEM_n_w, 09_layouts_and_write_path.md. -/
def GAL_GRP_MEM (n w : Nat) : Nat := 0xa00004 + 0x20 * n + 0x4 * w
/-- GAL_GRP_STRIPES_n, 09_layouts_and_write_path.md. -/
def GAL_GRP_STRIPES (n : Nat) : Nat := 0xa00014 + 0x20 * n
/-- GAL_GRP_JRN_n, 09_layouts_and_write_path.md. -/
def GAL_GRP_JRN (n : Nat) : Nat := 0xa00018 + 0x20 * n
/-- GAL_GRP_UMOFF_n, 09_layouts_and_write_path.md. -/
def GAL_GRP_UMOFF (n : Nat) : Nat := 0xa0001c + 0x20 * n
/-- GAL_NS_MAP0_n, 09_layouts_and_write_path.md. -/
def GAL_NS_MAP0 (n : Nat) : Nat := 0xa10000 + 0x10 * n
/-- GAL_NS_MAP1_n, 09_layouts_and_write_path.md. -/
def GAL_NS_MAP1 (n : Nat) : Nat := 0xa10004 + 0x10 * n
/-- GAL_NS_MAP2_n, 09_layouts_and_write_path.md. -/
def GAL_NS_MAP2 (n : Nat) : Nat := 0xa10008 + 0x10 * n
/-- CAR_CFG, 09_layouts_and_write_path.md. -/
def CAR_CFG : Nat := 0xb00000
/-- CAR_GATHER_DL, 09_layouts_and_write_path.md. -/
def CAR_GATHER_DL : Nat := 0xb00004
/-- CAR_PRESS, 09_layouts_and_write_path.md. -/
def CAR_PRESS : Nat := 0xb00008
/-- CAR_CKPT, 09_layouts_and_write_path.md. -/
def CAR_CKPT : Nat := 0xb0000c
/-- CAR_STAT, 09_layouts_and_write_path.md. -/
def CAR_STAT : Nat := 0xb00010
/-- CAR_ERR_STAT, 09_layouts_and_write_path.md. -/
def CAR_ERR_STAT : Nat := 0xb00014
/-- CAR_HEAD_LO, 09_layouts_and_write_path.md. -/
def CAR_HEAD_LO : Nat := 0xb00018
/-- CAR_HEAD_HI, 09_layouts_and_write_path.md. -/
def CAR_HEAD_HI : Nat := 0xb0001c
/-- CAR_TAIL_LO, 09_layouts_and_write_path.md. -/
def CAR_TAIL_LO : Nat := 0xb00020
/-- CAR_TAIL_HI, 09_layouts_and_write_path.md. -/
def CAR_TAIL_HI : Nat := 0xb00024
/-- CAR_IDX_BASE, 09_layouts_and_write_path.md. -/
def CAR_IDX_BASE : Nat := 0xb00028
/-- CAR_UMAP_BASE, 09_layouts_and_write_path.md. -/
def CAR_UMAP_BASE : Nat := 0xb0002c
/-- CAR_IDX_STAT, 09_layouts_and_write_path.md. -/
def CAR_IDX_STAT : Nat := 0xb00030
/-- CAR_RANGE_STAT, 09_layouts_and_write_path.md. -/
def CAR_RANGE_STAT : Nat := 0xb00034
/-- CAR_REPLAY_STAT, 09_layouts_and_write_path.md. -/
def CAR_REPLAY_STAT : Nat := 0xb00038
/-- CAR_WT_MARK, 09_layouts_and_write_path.md. -/
def CAR_WT_MARK : Nat := 0xb0003c
/-- CAR_TEN_QUOTA_LO_n, 09_layouts_and_write_path.md. -/
def CAR_TEN_QUOTA_LO (n : Nat) : Nat := 0xb04000 + 0x10 * n
/-- CAR_TEN_QUOTA_HI_n, 09_layouts_and_write_path.md. -/
def CAR_TEN_QUOTA_HI (n : Nat) : Nat := 0xb04004 + 0x10 * n
/-- CAR_TEN_USE_LO_n, 09_layouts_and_write_path.md. -/
def CAR_TEN_USE_LO (n : Nat) : Nat := 0xb04008 + 0x10 * n
/-- CAR_TEN_USE_HI_n, 09_layouts_and_write_path.md. -/
def CAR_TEN_USE_HI (n : Nat) : Nat := 0xb0400c + 0x10 * n
/-- CAR_OVERQ_n, 09_layouts_and_write_path.md. -/
def CAR_OVERQ (n : Nat) : Nat := 0xb20000 + 0x4 * n
/-- RBD_CFG, 10_rebuild_cupping_regrind.md. -/
def RBD_CFG : Nat := 0xc00000
/-- RBD_CUP_CFG, 10_rebuild_cupping_regrind.md. -/
def RBD_CUP_CFG : Nat := 0xc00020
/-- RBD_REP_STAT, 10_rebuild_cupping_regrind.md. -/
def RBD_REP_STAT : Nat := 0xc00030
/-- RBD_REP_CNT, 10_rebuild_cupping_regrind.md. -/
def RBD_REP_CNT : Nat := 0xc00034
/-- RBD_LST_STAT, 10_rebuild_cupping_regrind.md. -/
def RBD_LST_STAT : Nat := 0xc00038
/-- RBD_LST_GEN, 10_rebuild_cupping_regrind.md. -/
def RBD_LST_GEN : Nat := 0xc0003c
/-- RBD_CUP_CNT_k, 10_rebuild_cupping_regrind.md. -/
def RBD_CUP_CNT (k : Nat) : Nat := 0xc00040 + 0x4 * k
/-- RBD_BSET_n_0, 10_rebuild_cupping_regrind.md. -/
def RBD_BSET0 (n : Nat) : Nat := 0xc00100 + 0x8 * n
/-- RBD_BSET_n_1, 10_rebuild_cupping_regrind.md. -/
def RBD_BSET1 (n : Nat) : Nat := 0xc00104 + 0x8 * n
/-- RBD_MEM_STAT_b, 10_rebuild_cupping_regrind.md. -/
def RBD_MEM_STAT (b : Nat) : Nat := 0xc00200 + 0x4 * b
/-- RBD_MEM_CMD, 10_rebuild_cupping_regrind.md. -/
def RBD_MEM_CMD : Nat := 0xc00260
/-- RBD_CMD_STAT, 10_rebuild_cupping_regrind.md. -/
def RBD_CMD_STAT : Nat := 0xc00264
/-- RBD_GRP_STAT_n, 10_rebuild_cupping_regrind.md. -/
def RBD_GRP_STAT (n : Nat) : Nat := 0xc00300 + 0x10 * n
/-- RBD_RB_CUR_n, 10_rebuild_cupping_regrind.md. -/
def RBD_RB_CUR (n : Nat) : Nat := 0xc00304 + 0x10 * n
/-- RBD_RB_LEFT_n, 10_rebuild_cupping_regrind.md. -/
def RBD_RB_LEFT (n : Nat) : Nat := 0xc00308 + 0x10 * n
/-- RBD_SPARE_n, 10_rebuild_cupping_regrind.md. -/
def RBD_SPARE (n : Nat) : Nat := 0xc00400 + 0x8 * n
/-- RBD_SPARE_STAT_n, 10_rebuild_cupping_regrind.md. -/
def RBD_SPARE_STAT (n : Nat) : Nat := 0xc00404 + 0x8 * n
/-- RBD_CUP_STAT_n, 10_rebuild_cupping_regrind.md. -/
def RBD_CUP_STAT (n : Nat) : Nat := 0xc00500 + 0x10 * n
/-- RBD_CUP_PASS_n, 10_rebuild_cupping_regrind.md. -/
def RBD_CUP_PASS (n : Nat) : Nat := 0xc00504 + 0x10 * n
/-- RBD_RG_CFG, 10_rebuild_cupping_regrind.md. -/
def RBD_RG_CFG : Nat := 0xc00600
/-- RBD_RG_MEM_w, 10_rebuild_cupping_regrind.md. -/
def RBD_RG_MEM (w : Nat) : Nat := 0xc00604 + 0x4 * w
/-- RBD_RG_CTRL, 10_rebuild_cupping_regrind.md. -/
def RBD_RG_CTRL : Nat := 0xc00614
/-- RBD_RG_STAT, 10_rebuild_cupping_regrind.md. -/
def RBD_RG_STAT : Nat := 0xc00618
/-- RBD_RG_CUR_LO, 10_rebuild_cupping_regrind.md. -/
def RBD_RG_CUR_LO : Nat := 0xc0061c
/-- RBD_RG_CUR_HI, 10_rebuild_cupping_regrind.md. -/
def RBD_RG_CUR_HI : Nat := 0xc00620
/-- TMP_CNT_n, 11_tamp_and_cipher.md. -/
def TMP_CNT (n : Nat) : Nat := 0xd00100 + 0x4 * n
/-- TMP_NS_CFG_n, 11_tamp_and_cipher.md. -/
def TMP_NS_CFG (n : Nat) : Nat := 0xd08000 + 0x4 * n
/-- CIP_CTAB_BASE, 11_tamp_and_cipher.md. -/
def CIP_CTAB_BASE : Nat := 0xe00000
/-- CIP_FAULT_STAT, 11_tamp_and_cipher.md. -/
def CIP_FAULT_STAT : Nat := 0xe00004
/-- CIP_FAULT_ID, 11_tamp_and_cipher.md. -/
def CIP_FAULT_ID : Nat := 0xe00008
/-- CIP_FAULT_TAG, 11_tamp_and_cipher.md. -/
def CIP_FAULT_TAG : Nat := 0xe0000c
/-- CIP_FAULT_CNT_n, 11_tamp_and_cipher.md. -/
def CIP_FAULT_CNT (n : Nat) : Nat := 0xe00010 + 0x4 * n
/-- CIP_SKEK_STAT, 11_tamp_and_cipher.md. -/
def CIP_SKEK_STAT : Nat := 0xe00040
/-- CIP_SKEK_n, 11_tamp_and_cipher.md. -/
def CIP_SKEK (n : Nat) : Nat := 0xe00100 + 0x4 * n
/-- KP_STAT, 11_tamp_and_cipher.md. -/
def KP_STAT (t : Nat) : Nat := 0x2000000 + 0x1000 * t
/-- KP_CMD, 11_tamp_and_cipher.md. -/
def KP_CMD (t : Nat) : Nat := 0x2000004 + 0x1000 * t
/-- KP_RESULT, 11_tamp_and_cipher.md. -/
def KP_RESULT (t : Nat) : Nat := 0x2000008 + 0x1000 * t
/-- KP_SLOT_STAT_w, 11_tamp_and_cipher.md. -/
def KP_SLOT_STAT (t w : Nat) : Nat := 0x2000010 + 0x1000 * t + 0x4 * w
/-- KP_SLOT_ID_s, 11_tamp_and_cipher.md. -/
def KP_SLOT_ID (t s : Nat) : Nat := 0x2000040 + 0x1000 * t + 0x4 * s
/-- KP_UNREACHED, 11_tamp_and_cipher.md. -/
def KP_UNREACHED (t : Nat) : Nat := 0x2000080 + 0x1000 * t
/-- KP_BLOB_i, 11_tamp_and_cipher.md. -/
def KP_BLOB (t i : Nat) : Nat := 0x2000100 + 0x1000 * t + 0x4 * i
/-- NET_BRK, 12_network_ports.md. -/
def NET_BRK : Nat := 0x1000000
/-- NET_RC_CFG, 12_network_ports.md. -/
def NET_RC_CFG : Nat := 0x1000010
/-- NET_TCP_CFG, 12_network_ports.md. -/
def NET_TCP_CFG : Nat := 0x1000014
/-- NET_CC_CFG, 12_network_ports.md. -/
def NET_CC_CFG : Nat := 0x1000018
/-- NET_CLS_MAP_c, 12_network_ports.md. -/
def NET_CLS_MAP (c : Nat) : Nat := 0x1000040 + 0x4 * c
/-- NET_PORT_CFG_n, 12_network_ports.md. -/
def NET_PORT_CFG (n : Nat) : Nat := 0x1000100 + 0x80 * n
/-- NET_PORT_STAT_n, 12_network_ports.md. -/
def NET_PORT_STAT (n : Nat) : Nat := 0x1000104 + 0x80 * n
/-- NET_PORT_PFC_n, 12_network_ports.md. -/
def NET_PORT_PFC (n : Nat) : Nat := 0x1000108 + 0x80 * n
/-- NET_PORT_WRR_n, 12_network_ports.md. -/
def NET_PORT_WRR (n : Nat) : Nat := 0x100010c + 0x80 * n
/-- NET_PORT_IP4_n, 12_network_ports.md. -/
def NET_PORT_IP4 (n : Nat) : Nat := 0x1000110 + 0x80 * n
/-- NET_PORT_IP6_n_w, 12_network_ports.md. -/
def NET_PORT_IP6 (n w : Nat) : Nat := 0x1000114 + 0x80 * n + 0x4 * w
/-- NET_PORT_MTU_n, 12_network_ports.md. -/
def NET_PORT_MTU (n : Nat) : Nat := 0x1000124 + 0x80 * n
/-- NET_PORT_CNT_n_k, 12_network_ports.md. -/
def NET_PORT_CNT (n k : Nat) : Nat := 0x1000140 + 0x80 * n + 0x4 * k
/-- NET_CSHP_RATE_n_c, 12_network_ports.md. -/
def NET_CSHP_RATE (n c : Nat) : Nat := 0x1001000 + 0x40 * n + 0x8 * c
/-- NET_CSHP_BKT_n_c, 12_network_ports.md. -/
def NET_CSHP_BKT (n c : Nat) : Nat := 0x1001004 + 0x40 * n + 0x8 * c
/-- NET_TSHP_RATE_t, 12_network_ports.md. -/
def NET_TSHP_RATE (t : Nat) : Nat := 0x1002000 + 0x10 * t
/-- NET_TSHP_BKT_t, 12_network_ports.md. -/
def NET_TSHP_BKT (t : Nat) : Nat := 0x1002004 + 0x10 * t
/-- NET_TSHP_TOK_t, 12_network_ports.md. -/
def NET_TSHP_TOK (t : Nat) : Nat := 0x1002008 + 0x10 * t
/-- NET_TEN_CFG_t, 12_network_ports.md. -/
def NET_TEN_CFG (t : Nat) : Nat := 0x100200c + 0x10 * t
/-- NET_GCL_CTRL_n, 12_network_ports.md. -/
def NET_GCL_CTRL (n : Nat) : Nat := 0x1020000 + 0x1000 * n
/-- NET_GCL_CYCLE_n, 12_network_ports.md. -/
def NET_GCL_CYCLE (n : Nat) : Nat := 0x1020004 + 0x1000 * n
/-- NET_GCL_BASE_LO_n, 12_network_ports.md. -/
def NET_GCL_BASE_LO (n : Nat) : Nat := 0x1020008 + 0x1000 * n
/-- NET_GCL_BASE_HI_n, 12_network_ports.md. -/
def NET_GCL_BASE_HI (n : Nat) : Nat := 0x102000c + 0x1000 * n
/-- NET_GCL_BASE_NS_n, 12_network_ports.md. -/
def NET_GCL_BASE_NS (n : Nat) : Nat := 0x1020010 + 0x1000 * n
/-- NET_GCL_STAT_n, 12_network_ports.md. -/
def NET_GCL_STAT (n : Nat) : Nat := 0x1020014 + 0x1000 * n
/-- NET_GCL_ADMIN_n_i, 12_network_ports.md. -/
def NET_GCL_ADMIN (n i : Nat) : Nat := 0x1020400 + 0x1000 * n + 0x4 * i
/-- NET_GCL_OPER_n_i, 12_network_ports.md. -/
def NET_GCL_OPER (n i : Nat) : Nat := 0x1020800 + 0x1000 * n + 0x4 * i
/-- PEER_CFG, 13_pairing_and_failover.md. -/
def PEER_CFG : Nat := 0x1400000
/-- PEER_STAT, 13_pairing_and_failover.md. -/
def PEER_STAT : Nat := 0x1400004
/-- PEER_LEASE, 13_pairing_and_failover.md. -/
def PEER_LEASE : Nat := 0x1400008
/-- PEER_EPOCH, 13_pairing_and_failover.md. -/
def PEER_EPOCH : Nat := 0x140000c
/-- PEER_WIN_EPOCH, 13_pairing_and_failover.md. -/
def PEER_WIN_EPOCH : Nat := 0x1400010
/-- PEER_APPLIED_LO, 13_pairing_and_failover.md. -/
def PEER_APPLIED_LO : Nat := 0x1400014
/-- PEER_APPLIED_HI, 13_pairing_and_failover.md. -/
def PEER_APPLIED_HI : Nat := 0x1400018
/-- PEER_SWO_DRIVE, 13_pairing_and_failover.md. -/
def PEER_SWO_DRIVE : Nat := 0x140001c
/-- PEER_SWO_SERVE, 13_pairing_and_failover.md. -/
def PEER_SWO_SERVE : Nat := 0x1400020
/-- PEER_FAULT_STAT, 13_pairing_and_failover.md. -/
def PEER_FAULT_STAT : Nat := 0x1400024
/-- PEER_CNT_k, 13_pairing_and_failover.md. -/
def PEER_CNT (k : Nat) : Nat := 0x1400040 + 0x4 * k
/-- PEER_WIN_ADM_n, 13_pairing_and_failover.md. -/
def PEER_WIN_ADM (n : Nat) : Nat := 0x1400100 + 0x10 * n
/-- PEER_WIN_OPR_n, 13_pairing_and_failover.md. -/
def PEER_WIN_OPR (n : Nat) : Nat := 0x1400108 + 0x10 * n
/-- PEER_WIN_ASZ_n, 13_pairing_and_failover.md. -/
def PEER_WIN_ASZ (n : Nat) : Nat := 0x1400104 + 0x10 * n
/-- PEER_WIN_OSZ_n, 13_pairing_and_failover.md. -/
def PEER_WIN_OSZ (n : Nat) : Nat := 0x140010c + 0x10 * n
/-- BAY_CFG, 14_bay_power.md. -/
def BAY_CFG : Nat := 0x1500000
/-- BAY_STAT, 14_bay_power.md. -/
def BAY_STAT : Nat := 0x1500004
/-- BAY_PS2_OVR, 14_bay_power.md. -/
def BAY_PS2_OVR : Nat := 0x1500008
/-- BAY_EVT_STAT, 14_bay_power.md. -/
def BAY_EVT_STAT : Nat := 0x150000c
/-- BAY_CH_CFG_n, 14_bay_power.md. -/
def BAY_CH_CFG (n : Nat) : Nat := 0x1500100 + 0x40 * n
/-- BAY_CH_ILIM_n, 14_bay_power.md. -/
def BAY_CH_ILIM (n : Nat) : Nat := 0x1500104 + 0x40 * n
/-- BAY_CH_RSNS_n, 14_bay_power.md. -/
def BAY_CH_RSNS (n : Nat) : Nat := 0x1500108 + 0x40 * n
/-- BAY_CH_THM_n, 14_bay_power.md. -/
def BAY_CH_THM (n : Nat) : Nat := 0x150010c + 0x40 * n
/-- BAY_CH_STAT_n, 14_bay_power.md. -/
def BAY_CH_STAT (n : Nat) : Nat := 0x1500110 + 0x40 * n
/-- BAY_CH_MEAS0_n, 14_bay_power.md. -/
def BAY_CH_MEAS0 (n : Nat) : Nat := 0x1500114 + 0x40 * n
/-- BAY_CH_MEAS1_n, 14_bay_power.md. -/
def BAY_CH_MEAS1 (n : Nat) : Nat := 0x1500118 + 0x40 * n
/-- BAY_CH_CMD_n, 14_bay_power.md. -/
def BAY_CH_CMD (n : Nat) : Nat := 0x150011c + 0x40 * n
/-- BAY_CH_CNT_n, 14_bay_power.md. -/
def BAY_CH_CNT (n : Nat) : Nat := 0x1500120 + 0x40 * n
/-- BAY_CH_OFS_n, 14_bay_power.md. -/
def BAY_CH_OFS (n : Nat) : Nat := 0x1500124 + 0x40 * n
/-- MGT_CFG, 15_management_and_transactions.md. -/
def MGT_CFG : Nat := 0x1600000
/-- MGT_MB_DB, 15_management_and_transactions.md. -/
def MGT_MB_DB : Nat := 0x1600004
/-- MGT_MB_STAT, 15_management_and_transactions.md. -/
def MGT_MB_STAT : Nat := 0x1600008
/-- MGT_TXN_SEL, 15_management_and_transactions.md. -/
def MGT_TXN_SEL : Nat := 0x1600010
/-- MGT_TXN_CFG, 15_management_and_transactions.md. -/
def MGT_TXN_CFG : Nat := 0x1600014
/-- MGT_TXN_STAT, 15_management_and_transactions.md. -/
def MGT_TXN_STAT : Nat := 0x1600018
/-- MGT_TXN_INFO_k, 15_management_and_transactions.md. -/
def MGT_TXN_INFO (k : Nat) : Nat := 0x1600020 + 0x4 * k
/-- MGT_LAST_CMT, 15_management_and_transactions.md. -/
def MGT_LAST_CMT : Nat := 0x1600040
/-- MGT_INBAND_PERM, 15_management_and_transactions.md. -/
def MGT_INBAND_PERM : Nat := 0x1600044
/-- MGT_CNT_k, 15_management_and_transactions.md. -/
def MGT_CNT (k : Nat) : Nat := 0x1600080 + 0x4 * k
/-- PCR_STAT, 15_management_and_transactions.md. -/
def PCR_STAT : Nat := 0x1700000
/-- PCR_SEL, 15_management_and_transactions.md. -/
def PCR_SEL : Nat := 0x1700004
/-- PCR_INFO, 15_management_and_transactions.md. -/
def PCR_INFO : Nat := 0x1700008
/-- PCR_USER_n, 15_management_and_transactions.md. -/
def PCR_USER (n : Nat) : Nat := 0x1700100 + 0x4 * n
/-- EPT_STAT, 16_service_endpoint.md. -/
def EPT_STAT : Nat := 0x1800000
/-- EPT_INT_STAT, 16_service_endpoint.md. -/
def EPT_INT_STAT : Nat := 0x1800004
/-- EPT_INT_EN, 16_service_endpoint.md. -/
def EPT_INT_EN : Nat := 0x1800008
/-- EPT_WAKE_EN, 16_service_endpoint.md. -/
def EPT_WAKE_EN : Nat := 0x180000c
/-- EPT_RST_CNT, 16_service_endpoint.md. -/
def EPT_RST_CNT : Nat := 0x1800010
/-- EPT_DISC_CNT, 16_service_endpoint.md. -/
def EPT_DISC_CNT : Nat := 0x1800014
/-- FWU_STAT, 17_firmware_and_trust.md. -/
def FWU_STAT : Nat := 0x1900000
/-- FWU_DL_STAT, 17_firmware_and_trust.md. -/
def FWU_DL_STAT : Nat := 0x1900004
/-- FWU_SVN, 17_firmware_and_trust.md. -/
def FWU_SVN : Nat := 0x1900008
/-- FWU_TRIAL_CFG, 17_firmware_and_trust.md. -/
def FWU_TRIAL_CFG : Nat := 0x190000c
/-- FWU_KEYS, 17_firmware_and_trust.md. -/
def FWU_KEYS : Nat := 0x1900050
/-- FWU_SLOT_n, 17_firmware_and_trust.md. -/
def FWU_SLOT (n : Nat) : Nat := 0x1900010 + 0x10 * n
/-- FWU_SLOT_SVN_n, 17_firmware_and_trust.md. -/
def FWU_SLOT_SVN (n : Nat) : Nat := 0x1900014 + 0x10 * n
/-- FWU_SLOT_VER_LO_n, 17_firmware_and_trust.md. -/
def FWU_SLOT_VER_LO (n : Nat) : Nat := 0x1900018 + 0x10 * n
/-- FWU_SLOT_VER_HI_n, 17_firmware_and_trust.md. -/
def FWU_SLOT_VER_HI (n : Nat) : Nat := 0x190001c + 0x10 * n
/-- FWU_SPDM_ROOT_w, 17_firmware_and_trust.md. -/
def FWU_SPDM_ROOT (w : Nat) : Nat := 0x1900080 + 0x4 * w
/-- TEL_CFG, 18_telemetry.md. -/
def TEL_CFG : Nat := 0x1a00000
/-- TEL_STAT, 18_telemetry.md. -/
def TEL_STAT : Nat := 0x1a00004
/-- TEL_SEQ, 18_telemetry.md. -/
def TEL_SEQ : Nat := 0x1a00008
/-- TEL_SMP_STAT, 18_telemetry.md. -/
def TEL_SMP_STAT : Nat := 0x1a0000c
/-- TEL_SMP_TAIL, 18_telemetry.md. -/
def TEL_SMP_TAIL : Nat := 0x1a00010
/-- TEL_TEN_PERM_n, 18_telemetry.md. -/
def TEL_TEN_PERM (n : Nat) : Nat := 0x1a00100 + 0x4 * n
/-- TEL_SEL_n, 18_telemetry.md. -/
def TEL_SEL (n : Nat) : Nat := 0x1a01000 + 0x4 * n
/-- TEL_CNT_LO_n, 18_telemetry.md. -/
def TEL_CNT_LO (n : Nat) : Nat := 0x1a02000 + 0x8 * n
/-- TEL_CNT_HI_n, 18_telemetry.md. -/
def TEL_CNT_HI (n : Nat) : Nat := 0x1a02004 + 0x8 * n
/-- TEL_RATE_n, 18_telemetry.md. -/
def TEL_RATE (n : Nat) : Nat := 0x1a03000 + 0x4 * n
/-- GLB_ID, 19_address_map.md. -/
def GLB_ID : Nat := 0x0
/-- GLB_SERIAL_LO, 19_address_map.md. -/
def GLB_SERIAL_LO : Nat := 0x4
/-- GLB_SERIAL_HI, 19_address_map.md. -/
def GLB_SERIAL_HI : Nat := 0x8
/-- GLB_RST_STAT, 19_address_map.md. -/
def GLB_RST_STAT : Nat := 0x10
/-- EPT_MSIX_n, 16_service_endpoint.md. -/
def EPT_MSIX (n w : Nat) : Nat := 0x1801000 + 0x10 * n + 0x4 * w
/-- EPT_MSIX_PBA, 16_service_endpoint.md. -/
def EPT_MSIX_PBA : Nat := 0x1801800

end Reg

namespace F

def GLB_PD_CTRL_pd_on : Fld := ⟨Reg.GLB_PD_CTRL, 19, 0⟩
def GLB_PD_STAT_last_err : Fld := ⟨Reg.GLB_PD_STAT, 31, 29⟩
def GLB_PD_STAT_last_dom : Fld := ⟨Reg.GLB_PD_STAT, 28, 24⟩
def GLB_PD_STAT_busy : Fld := ⟨Reg.GLB_PD_STAT, 20, 20⟩
def GLB_PD_STAT_pd_is_on : Fld := ⟨Reg.GLB_PD_STAT, 19, 0⟩
def GLB_PD_DRAIN_TO_drain_ms : Fld := ⟨Reg.GLB_PD_DRAIN_TO, 15, 0⟩
def GLB_PWR_STAT_last_stop : Fld := ⟨Reg.GLB_PWR_STAT, 19, 18⟩
def GLB_PWR_STAT_therm_seen : Fld := ⟨Reg.GLB_PWR_STAT, 17, 17⟩
def GLB_PWR_STAT_pwrfail_seen : Fld := ⟨Reg.GLB_PWR_STAT, 16, 16⟩
def GLB_PWR_STAT_rail_ok : Fld := ⟨Reg.GLB_PWR_STAT, 11, 0⟩
def GLB_THERM_CFG_throttle_en : Fld := ⟨Reg.GLB_THERM_CFG, 8, 8⟩
def GLB_THERM_CFG_warn_c : Fld := ⟨Reg.GLB_THERM_CFG, 7, 0⟩
def GLB_THERM_STAT_cfg_err : Fld := ⟨Reg.GLB_THERM_STAT, 18, 18⟩
def GLB_THERM_STAT_throttle : Fld := ⟨Reg.GLB_THERM_STAT, 17, 17⟩
def GLB_THERM_STAT_warn : Fld := ⟨Reg.GLB_THERM_STAT, 16, 16⟩
def GLB_THERM_STAT_hot_sensor : Fld := ⟨Reg.GLB_THERM_STAT, 12, 8⟩
def GLB_THERM_STAT_tj_max_c : Fld := ⟨Reg.GLB_THERM_STAT, 7, 0⟩
def GLB_TEMP_valid (n : Nat) : Fld := ⟨Reg.GLB_TEMP n, 31, 31⟩
def GLB_TEMP_temp (n : Nat) : Fld := ⟨Reg.GLB_TEMP n, 9, 0⟩
def GLB_LIFE_HOURS_hours : Fld := ⟨Reg.GLB_LIFE_HOURS, 31, 0⟩
def GLB_LIFE_TJSUM_tjsum : Fld := ⟨Reg.GLB_LIFE_TJSUM, 31, 0⟩
def GLB_MODE_STAT_req_err : Fld := ⟨Reg.GLB_MODE_STAT, 18, 16⟩
def GLB_MODE_STAT_slot_conflict : Fld := ⟨Reg.GLB_MODE_STAT, 15, 15⟩
def GLB_MODE_STAT_safe_stop : Fld := ⟨Reg.GLB_MODE_STAT, 14, 14⟩
def GLB_MODE_STAT_busy : Fld := ⟨Reg.GLB_MODE_STAT, 13, 13⟩
def GLB_MODE_STAT_stale_epoch : Fld := ⟨Reg.GLB_MODE_STAT, 12, 12⟩
def GLB_MODE_STAT_no_witness : Fld := ⟨Reg.GLB_MODE_STAT, 11, 11⟩
def GLB_MODE_STAT_redund_low : Fld := ⟨Reg.GLB_MODE_STAT, 10, 10⟩
def GLB_MODE_STAT_peer_synced : Fld := ⟨Reg.GLB_MODE_STAT, 9, 9⟩
def GLB_MODE_STAT_lease : Fld := ⟨Reg.GLB_MODE_STAT, 8, 8⟩
def GLB_MODE_STAT_prev_mode : Fld := ⟨Reg.GLB_MODE_STAT, 7, 4⟩
def GLB_MODE_STAT_mode : Fld := ⟨Reg.GLB_MODE_STAT, 3, 0⟩
def GLB_MODE_REQ_confirm : Fld := ⟨Reg.GLB_MODE_REQ, 31, 16⟩
def GLB_MODE_REQ_req : Fld := ⟨Reg.GLB_MODE_REQ, 3, 0⟩
def GLB_START_STAT_last_role : Fld := ⟨Reg.GLB_START_STAT, 25, 24⟩
def GLB_START_STAT_members_missing : Fld := ⟨Reg.GLB_START_STAT, 20, 16⟩
def GLB_START_STAT_mirror_synced : Fld := ⟨Reg.GLB_START_STAT, 10, 10⟩
def GLB_START_STAT_net_up : Fld := ⟨Reg.GLB_START_STAT, 9, 9⟩
def GLB_START_STAT_replay_done : Fld := ⟨Reg.GLB_START_STAT, 8, 8⟩
def GLB_START_STAT_members_ready : Fld := ⟨Reg.GLB_START_STAT, 7, 7⟩
def GLB_START_STAT_bays_up : Fld := ⟨Reg.GLB_START_STAT, 6, 6⟩
def GLB_START_STAT_lease : Fld := ⟨Reg.GLB_START_STAT, 5, 5⟩
def GLB_START_STAT_lease_req : Fld := ⟨Reg.GLB_START_STAT, 4, 4⟩
def GLB_START_STAT_peer_found : Fld := ⟨Reg.GLB_START_STAT, 3, 3⟩
def GLB_START_STAT_carafe_ok : Fld := ⟨Reg.GLB_START_STAT, 2, 2⟩
def GLB_START_STAT_hbm_ok : Fld := ⟨Reg.GLB_START_STAT, 1, 1⟩
def GLB_START_STAT_image_ok : Fld := ⟨Reg.GLB_START_STAT, 0, 0⟩
def GLB_START_TIME_serve_ms : Fld := ⟨Reg.GLB_START_TIME, 31, 16⟩
def GLB_START_TIME_standby_ms : Fld := ⟨Reg.GLB_START_TIME, 15, 0⟩
def GLB_START_CFG_member_wait_s : Fld := ⟨Reg.GLB_START_CFG, 7, 0⟩
def TIM_DNT_LO_sec_lo : Fld := ⟨Reg.TIM_DNT_LO, 31, 0⟩
def TIM_DNT_HI_frac : Fld := ⟨Reg.TIM_DNT_HI, 31, 16⟩
def TIM_DNT_HI_sec_hi : Fld := ⟨Reg.TIM_DNT_HI, 15, 0⟩
def TIM_DNT_NS_ns : Fld := ⟨Reg.TIM_DNT_NS, 29, 0⟩
def TIM_DT_LO_dt : Fld := ⟨Reg.TIM_DT_LO, 31, 0⟩
def TIM_DT_HI_dt : Fld := ⟨Reg.TIM_DT_HI, 31, 0⟩
def TIM_SYNC_STAT_pps_bad : Fld := ⟨Reg.TIM_SYNC_STAT, 31, 16⟩
def TIM_SYNC_STAT_set : Fld := ⟨Reg.TIM_SYNC_STAT, 15, 12⟩
def TIM_SYNC_STAT_port : Fld := ⟨Reg.TIM_SYNC_STAT, 11, 7⟩
def TIM_SYNC_STAT_ref_ok : Fld := ⟨Reg.TIM_SYNC_STAT, 6, 6⟩
def TIM_SYNC_STAT_pps_ok : Fld := ⟨Reg.TIM_SYNC_STAT, 5, 5⟩
def TIM_SYNC_STAT_unsync : Fld := ⟨Reg.TIM_SYNC_STAT, 4, 4⟩
def TIM_SYNC_STAT_state : Fld := ⟨Reg.TIM_SYNC_STAT, 2, 0⟩
def TIM_OFFSET_offset_ns : Fld := ⟨Reg.TIM_OFFSET, 31, 0⟩
def TIM_PTP_CFG_en : Fld := ⟨Reg.TIM_PTP_CFG, 31, 31⟩
def TIM_PTP_CFG_profile : Fld := ⟨Reg.TIM_PTP_CFG, 30, 29⟩
def TIM_PTP_CFG_domain : Fld := ⟨Reg.TIM_PTP_CFG, 26, 20⟩
def TIM_PTP_CFG_port_bak : Fld := ⟨Reg.TIM_PTP_CFG, 19, 15⟩
def TIM_PTP_CFG_port_pri : Fld := ⟨Reg.TIM_PTP_CFG, 14, 10⟩
def TIM_REF_CFG_pps_hold : Fld := ⟨Reg.TIM_REF_CFG, 2, 2⟩
def TIM_REF_CFG_pps_en : Fld := ⟨Reg.TIM_REF_CFG, 1, 1⟩
def TIM_REF_CFG_ref10m_en : Fld := ⟨Reg.TIM_REF_CFG, 0, 0⟩
def TIM_SYNC_LOST_limit_s : Fld := ⟨Reg.TIM_SYNC_LOST, 11, 0⟩
def TIM_STEP_THR_thr_ns : Fld := ⟨Reg.TIM_STEP_THR, 29, 0⟩
def TIM_UNSYNC_GATE_policy : Fld := ⟨Reg.TIM_UNSYNC_GATE, 0, 0⟩
def TIM_TOD_CFG_use_utc : Fld := ⟨Reg.TIM_TOD_CFG, 31, 31⟩
def TIM_TOD_CFG_unsync_set : Fld := ⟨Reg.TIM_TOD_CFG, 23, 20⟩
def TIM_TOD_CFG_offset_s : Fld := ⟨Reg.TIM_TOD_CFG, 16, 0⟩
def TIM_TOD_entry (n : Nat) : Fld := ⟨Reg.TIM_TOD n, 31, 0⟩
def TIM_EVT_STAT_late : Fld := ⟨Reg.TIM_EVT_STAT, 31, 16⟩
def TIM_EVT_STAT_steps : Fld := ⟨Reg.TIM_EVT_STAT, 15, 0⟩
def HCP_CFG_crd1_100ms : Fld := ⟨Reg.HCP_CFG, 23, 16⟩
def HCP_CFG_ordered_en : Fld := ⟨Reg.HCP_CFG, 1, 1⟩
def HCP_CFG_inband_en : Fld := ⟨Reg.HCP_CFG, 0, 0⟩
def HCP_CTX_CFG_bg_reserve : Fld := ⟨Reg.HCP_CTX_CFG, 19, 0⟩
def HCP_CTX_STAT_in_use : Fld := ⟨Reg.HCP_CTX_STAT, 20, 0⟩
def HCP_CTX_WAIT_starved : Fld := ⟨Reg.HCP_CTX_WAIT, 31, 0⟩
def HCP_ASSOC_STAT_queues : Fld := ⟨Reg.HCP_ASSOC_STAT, 31, 13⟩
def HCP_ASSOC_STAT_assoc : Fld := ⟨Reg.HCP_ASSOC_STAT, 12, 0⟩
def HCP_REFUSE_STAT_connect_busy : Fld := ⟨Reg.HCP_REFUSE_STAT, 31, 16⟩
def HCP_REFUSE_STAT_connect_host : Fld := ⟨Reg.HCP_REFUSE_STAT, 15, 0⟩
def HCP_ABORT_STAT_abort_won : Fld := ⟨Reg.HCP_ABORT_STAT, 31, 16⟩
def HCP_ABORT_STAT_cpl_won : Fld := ⟨Reg.HCP_ABORT_STAT, 15, 0⟩
def HCP_PS_STAT_ps3_refused : Fld := ⟨Reg.HCP_PS_STAT, 7, 7⟩
def HCP_PS_STAT_eff_ps : Fld := ⟨Reg.HCP_PS_STAT, 5, 4⟩
def HCP_ANA_STAT_chg_cnt : Fld := ⟨Reg.HCP_ANA_STAT, 31, 0⟩
def HCP_ANA_GRP_inacc : Fld := ⟨Reg.HCP_ANA_GRP, 15, 0⟩
def HCP_KATO_STAT_kato_exp : Fld := ⟨Reg.HCP_KATO_STAT, 31, 16⟩
def HCP_KATO_STAT_conn_loss : Fld := ⟨Reg.HCP_KATO_STAT, 15, 0⟩
def HCP_TAG_SEL_tag : Fld := ⟨Reg.HCP_TAG_SEL, 19, 0⟩
def HCP_TAG_INFO0_cid : Fld := ⟨Reg.HCP_TAG_INFO0, 31, 16⟩
def HCP_TAG_INFO0_qid : Fld := ⟨Reg.HCP_TAG_INFO0, 10, 0⟩
def HCP_TAG_INFO1_assoc : Fld := ⟨Reg.HCP_TAG_INFO1, 19, 8⟩
def HCP_TAG_INFO1_state : Fld := ⟨Reg.HCP_TAG_INFO1, 2, 0⟩
def HCP_STATUS_CNT_count (n : Nat) : Fld := ⟨Reg.HCP_STATUS_CNT n, 31, 0⟩
def BST_CFG_bg_share : Fld := ⟨Reg.BST_CFG, 15, 8⟩
def BST_EXC_STAT_lost : Fld := ⟨Reg.BST_EXC_STAT, 31, 16⟩
def BST_EXC_STAT_tail : Fld := ⟨Reg.BST_EXC_STAT, 15, 8⟩
def BST_EXC_STAT_head : Fld := ⟨Reg.BST_EXC_STAT, 7, 0⟩
def BST_RCP_SEL_rcp : Fld := ⟨Reg.BST_RCP_SEL, 10, 0⟩
def BST_RCP_INFO0_valid : Fld := ⟨Reg.BST_RCP_INFO0, 31, 31⟩
def BST_RCP_INFO0_old_busy : Fld := ⟨Reg.BST_RCP_INFO0, 30, 30⟩
def BST_RCP_INFO0_prio : Fld := ⟨Reg.BST_RCP_INFO0, 29, 28⟩
def BST_RCP_INFO0_ver : Fld := ⟨Reg.BST_RCP_INFO0, 27, 21⟩
def BST_RCP_INFO0_users : Fld := ⟨Reg.BST_RCP_INFO0, 20, 0⟩
def BST_RCP_INFO1_dflt_fail : Fld := ⟨Reg.BST_RCP_INFO1, 31, 24⟩
def BST_RCP_INFO1_last_idx : Fld := ⟨Reg.BST_RCP_INFO1, 23, 16⟩
def BST_RCP_INFO1_base : Fld := ⟨Reg.BST_RCP_INFO1, 15, 0⟩
def BST_LOAD_ADDR_addr : Fld := ⟨Reg.BST_LOAD_ADDR, 15, 0⟩
def BST_LOAD_DATA_data : Fld := ⟨Reg.BST_LOAD_DATA, 31, 0⟩
def BST_LOAD_BASE_base : Fld := ⟨Reg.BST_LOAD_BASE, 15, 0⟩
def BST_LOAD_CMD_cmd : Fld := ⟨Reg.BST_LOAD_CMD, 31, 30⟩
def BST_LOAD_CMD_prio : Fld := ⟨Reg.BST_LOAD_CMD, 29, 28⟩
def BST_LOAD_CMD_last_idx : Fld := ⟨Reg.BST_LOAD_CMD, 27, 20⟩
def BST_LOAD_CMD_rcp : Fld := ⟨Reg.BST_LOAD_CMD, 10, 0⟩
def BST_LOAD_STAT_busy : Fld := ⟨Reg.BST_LOAD_STAT, 31, 31⟩
def BST_LOAD_STAT_step : Fld := ⟨Reg.BST_LOAD_STAT, 15, 8⟩
def BST_LOAD_STAT_err : Fld := ⟨Reg.BST_LOAD_STAT, 3, 0⟩
def BST_ENGINE_EN_en (n : Nat) : Fld := ⟨Reg.BST_ENGINE_EN n, 31, 0⟩
def BST_ENGINE_ACK_ack (n : Nat) : Fld := ⟨Reg.BST_ENGINE_ACK n, 31, 0⟩
def DMA_CH_CTRL_clr_err (n : Nat) : Fld := ⟨Reg.DMA_CH_CTRL n, 4, 4⟩
def DMA_CH_CTRL_shadow_arm (n : Nat) : Fld := ⟨Reg.DMA_CH_CTRL n, 3, 3⟩
def DMA_CH_CTRL_stop (n : Nat) : Fld := ⟨Reg.DMA_CH_CTRL n, 2, 2⟩
def DMA_CH_CTRL_start (n : Nat) : Fld := ⟨Reg.DMA_CH_CTRL n, 1, 1⟩
def DMA_CH_STAT_last_status (n : Nat) : Fld := ⟨Reg.DMA_CH_STAT n, 31, 24⟩
def DMA_CH_STAT_shadow_armed (n : Nat) : Fld := ⟨Reg.DMA_CH_STAT n, 15, 15⟩
def DMA_CH_STAT_shadow_late (n : Nat) : Fld := ⟨Reg.DMA_CH_STAT n, 14, 14⟩
def DMA_CH_STAT_wr_err (n : Nat) : Fld := ⟨Reg.DMA_CH_STAT n, 13, 13⟩
def DMA_CH_STAT_state (n : Nat) : Fld := ⟨Reg.DMA_CH_STAT n, 2, 0⟩
def DMA_CH_PROG_LO_addr (n : Nat) : Fld := ⟨Reg.DMA_CH_PROG_LO n, 31, 0⟩
def DMA_CH_PROG_HI_addr (n : Nat) : Fld := ⟨Reg.DMA_CH_PROG_HI n, 31, 0⟩
def DMA_CH_NEXT_LO_addr (n : Nat) : Fld := ⟨Reg.DMA_CH_NEXT_LO n, 31, 0⟩
def DMA_CH_NEXT_HI_addr (n : Nat) : Fld := ⟨Reg.DMA_CH_NEXT_HI n, 31, 0⟩
def DMA_CH_PACE_interval_us (n : Nat) : Fld := ⟨Reg.DMA_CH_PACE n, 31, 16⟩
def DMA_CH_PACE_weight (n : Nat) : Fld := ⟨Reg.DMA_CH_PACE n, 7, 0⟩
def DMA_CH_BYTES_bytes (n : Nat) : Fld := ⟨Reg.DMA_CH_BYTES n, 31, 0⟩
def SWC_PORT_HOLD_hold_us : Fld := ⟨Reg.SWC_PORT_HOLD, 16, 0⟩
def SWC_QE_STAT_in_use : Fld := ⟨Reg.SWC_QE_STAT, 18, 0⟩
def SWC_QE_HWM_hwm : Fld := ⟨Reg.SWC_QE_HWM, 18, 0⟩
def SWC_ERR_STAT_poisoned : Fld := ⟨Reg.SWC_ERR_STAT, 31, 16⟩
def SWC_ERR_STAT_corrected : Fld := ⟨Reg.SWC_ERR_STAT, 15, 0⟩
def SWC_LINK_STAT_down (n : Nat) : Fld := ⟨Reg.SWC_LINK_STAT n, 31, 31⟩
def SWC_LINK_STAT_holding (n : Nat) : Fld := ⟨Reg.SWC_LINK_STAT n, 30, 30⟩
def SWC_LINK_STAT_expired (n : Nat) : Fld := ⟨Reg.SWC_LINK_STAT n, 29, 29⟩
def SWC_LINK_STAT_queued (n : Nat) : Fld := ⟨Reg.SWC_LINK_STAT n, 18, 0⟩
def SWC_DROP_CNT_cells (n : Nat) : Fld := ⟨Reg.SWC_DROP_CNT n, 31, 0⟩
def SWC_FLAP_CNT_returned (n : Nat) : Fld := ⟨Reg.SWC_FLAP_CNT n, 31, 16⟩
def SWC_FLAP_CNT_expired (n : Nat) : Fld := ⟨Reg.SWC_FLAP_CNT n, 15, 0⟩
def BPM_MGT_OP_op : Fld := ⟨Reg.BPM_MGT_OP, 31, 28⟩
def BPM_MGT_OP_no_fallback : Fld := ⟨Reg.BPM_MGT_OP, 23, 23⟩
def BPM_MGT_OP_size : Fld := ⟨Reg.BPM_MGT_OP, 22, 0⟩
def BPM_MGT_PTR_ptr : Fld := ⟨Reg.BPM_MGT_PTR, 31, 0⟩
def BPM_MGT_RESP_busy : Fld := ⟨Reg.BPM_MGT_RESP, 31, 31⟩
def BPM_MGT_RESP_status : Fld := ⟨Reg.BPM_MGT_RESP, 7, 0⟩
def BPM_FAULT_STAT_pend : Fld := ⟨Reg.BPM_FAULT_STAT, 31, 31⟩
def BPM_FAULT_STAT_cause : Fld := ⟨Reg.BPM_FAULT_STAT, 30, 28⟩
def BPM_FAULT_STAT_req : Fld := ⟨Reg.BPM_FAULT_STAT, 27, 24⟩
def BPM_FAULT_STAT_id : Fld := ⟨Reg.BPM_FAULT_STAT, 19, 0⟩
def BPM_FAULT_PTR_ptr : Fld := ⟨Reg.BPM_FAULT_PTR, 31, 0⟩
def BPM_FAULT_CNT_count (n : Nat) : Fld := ⟨Reg.BPM_FAULT_CNT n, 31, 0⟩
def BPM_BUF_SEL_ptr : Fld := ⟨Reg.BPM_BUF_SEL, 31, 0⟩
def BPM_BUF_INFO_word : Fld := ⟨Reg.BPM_BUF_INFO, 31, 0⟩
def BPM_POOL_CFG_en (n : Nat) : Fld := ⟨Reg.BPM_POOL_CFG n, 31, 31⟩
def BPM_POOL_CFG_fb_max (n : Nat) : Fld := ⟨Reg.BPM_POOL_CFG n, 30, 28⟩
def BPM_POOL_CFG_count (n : Nat) : Fld := ⟨Reg.BPM_POOL_CFG n, 22, 0⟩
def BPM_POOL_BASE_base (n : Nat) : Fld := ⟨Reg.BPM_POOL_BASE n, 13, 0⟩
def BPM_POOL_RSV_rsv (n : Nat) : Fld := ⟨Reg.BPM_POOL_RSV n, 22, 0⟩
def BPM_POOL_FREE_free (n : Nat) : Fld := ⟨Reg.BPM_POOL_FREE n, 22, 0⟩
def BPM_POOL_NULL_count (n : Nat) : Fld := ⟨Reg.BPM_POOL_NULL n, 31, 0⟩
def BPM_POOL_FALL_moved (n : Nat) : Fld := ⟨Reg.BPM_POOL_FALL n, 31, 16⟩
def BPM_POOL_FALL_races (n : Nat) : Fld := ⟨Reg.BPM_POOL_FALL n, 15, 0⟩
def BPM_POOL_QUAR_quar (n : Nat) : Fld := ⟨Reg.BPM_POOL_QUAR n, 22, 0⟩
def BPM_POOL_LOW_low (n : Nat) : Fld := ⟨Reg.BPM_POOL_LOW n, 22, 0⟩
def CRM_CFG_en : Fld := ⟨Reg.CRM_CFG, 31, 31⟩
def CRM_CFG_fill_max : Fld := ⟨Reg.CRM_CFG, 25, 16⟩
def CRM_CFG_admit_thr : Fld := ⟨Reg.CRM_CFG, 15, 0⟩
def CRM_DIR_BASE_base : Fld := ⟨Reg.CRM_DIR_BASE, 13, 0⟩
def CRM_FILL_RCP_rcp : Fld := ⟨Reg.CRM_FILL_RCP, 10, 0⟩
def CRM_DECAY_period_s : Fld := ⟨Reg.CRM_DECAY, 11, 0⟩
def CRM_STAT_init : Fld := ⟨Reg.CRM_STAT, 31, 31⟩
def CRM_STAT_sweep : Fld := ⟨Reg.CRM_STAT, 30, 30⟩
def CRM_STAT_fills : Fld := ⟨Reg.CRM_STAT, 9, 0⟩
def CRM_CMD_op : Fld := ⟨Reg.CRM_CMD, 31, 30⟩
def CRM_CMD_nsid : Fld := ⟨Reg.CRM_CMD, 13, 0⟩
def CRM_LIMIT_limit (n : Nat) : Fld := ⟨Reg.CRM_LIMIT n, 22, 0⟩
def CRM_USE_use (n : Nat) : Fld := ⟨Reg.CRM_USE n, 22, 0⟩
def CRM_SKETCH_W_LO_w : Fld := ⟨Reg.CRM_SKETCH_W_LO, 31, 0⟩
def CRM_SKETCH_W_HI_w : Fld := ⟨Reg.CRM_SKETCH_W_HI, 31, 0⟩
def CRM_PROBE_NS_key : Fld := ⟨Reg.CRM_PROBE_NS, 31, 0⟩
def CRM_PROBE_GI_LO_key : Fld := ⟨Reg.CRM_PROBE_GI_LO, 31, 0⟩
def CRM_PROBE_GI_HI_key : Fld := ⟨Reg.CRM_PROBE_GI_HI, 31, 0⟩
def CRM_PROBE_RES_state : Fld := ⟨Reg.CRM_PROBE_RES, 31, 30⟩
def CRM_PROBE_RES_ref : Fld := ⟨Reg.CRM_PROBE_RES, 29, 29⟩
def CRM_PROBE_RES_est : Fld := ⟨Reg.CRM_PROBE_RES, 15, 0⟩
def CRM_CNT_count (n : Nat) : Fld := ⟨Reg.CRM_CNT n, 31, 0⟩
def CRM_NS_CFG_host_set (n : Nat) : Fld := ⟨Reg.CRM_NS_CFG n, 10, 10⟩
def CRM_NS_CFG_host_mode (n : Nat) : Fld := ⟨Reg.CRM_NS_CFG n, 9, 8⟩
def CRM_NS_CFG_hint_ok (n : Nat) : Fld := ⟨Reg.CRM_NS_CFG n, 4, 4⟩
def CRM_NS_CFG_mgmt_mode (n : Nat) : Fld := ⟨Reg.CRM_NS_CFG n, 3, 2⟩
def CRM_NS_CFG_grain (n : Nat) : Fld := ⟨Reg.CRM_NS_CFG n, 1, 0⟩
def GAL_GRP_CFG_en (n : Nat) : Fld := ⟨Reg.GAL_GRP_CFG n, 31, 31⟩
def GAL_GRP_CFG_state (n : Nat) : Fld := ⟨Reg.GAL_GRP_CFG n, 30, 29⟩
def GAL_GRP_CFG_tagblk (n : Nat) : Fld := ⟨Reg.GAL_GRP_CFG n, 28, 28⟩
def GAL_GRP_CFG_layout (n : Nat) : Fld := ⟨Reg.GAL_GRP_CFG n, 27, 26⟩
def GAL_GRP_CFG_d (n : Nat) : Fld := ⟨Reg.GAL_GRP_CFG n, 25, 21⟩
def GAL_GRP_CFG_p (n : Nat) : Fld := ⟨Reg.GAL_GRP_CFG n, 20, 18⟩
def GAL_GRP_CFG_strip (n : Nat) : Fld := ⟨Reg.GAL_GRP_CFG n, 17, 15⟩
def GAL_GRP_CFG_err_bay (n : Nat) : Fld := ⟨Reg.GAL_GRP_CFG n, 14, 10⟩
def GAL_GRP_MEM_bays (n w : Nat) : Fld := ⟨Reg.GAL_GRP_MEM n w, 29, 0⟩
def GAL_GRP_STRIPES_value (n : Nat) : Fld := ⟨Reg.GAL_GRP_STRIPES n, 31, 0⟩
def GAL_GRP_JRN_value (n : Nat) : Fld := ⟨Reg.GAL_GRP_JRN n, 31, 0⟩
def GAL_GRP_UMOFF_value (n : Nat) : Fld := ⟨Reg.GAL_GRP_UMOFF n, 31, 0⟩
def GAL_NS_MAP0_e (n : Nat) : Fld := ⟨Reg.GAL_NS_MAP0 n, 31, 0⟩
def GAL_NS_MAP1_c (n : Nat) : Fld := ⟨Reg.GAL_NS_MAP1 n, 31, 0⟩
def GAL_NS_MAP2_valid (n : Nat) : Fld := ⟨Reg.GAL_NS_MAP2 n, 31, 31⟩
def GAL_NS_MAP2_group (n : Nat) : Fld := ⟨Reg.GAL_NS_MAP2 n, 3, 0⟩
def CAR_CFG_wt_force : Fld := ⟨Reg.CAR_CFG, 31, 31⟩
def CAR_GATHER_DL_dl_ms : Fld := ⟨Reg.CAR_GATHER_DL, 15, 0⟩
def CAR_PRESS_hi_pct : Fld := ⟨Reg.CAR_PRESS, 15, 8⟩
def CAR_PRESS_lo_pct : Fld := ⟨Reg.CAR_PRESS, 7, 0⟩
def CAR_CKPT_period_ms : Fld := ⟨Reg.CAR_CKPT, 15, 0⟩
def CAR_STAT_wt : Fld := ⟨Reg.CAR_STAT, 31, 31⟩
def CAR_STAT_wt_cause : Fld := ⟨Reg.CAR_STAT, 30, 28⟩
def CAR_STAT_mirror : Fld := ⟨Reg.CAR_STAT, 27, 27⟩
def CAR_STAT_fill_pct : Fld := ⟨Reg.CAR_STAT, 22, 16⟩
def CAR_STAT_slots : Fld := ⟨Reg.CAR_STAT, 13, 0⟩
def CAR_ERR_STAT_ue : Fld := ⟨Reg.CAR_ERR_STAT, 31, 16⟩
def CAR_ERR_STAT_corrected : Fld := ⟨Reg.CAR_ERR_STAT, 15, 0⟩
def CAR_HEAD_LO_seq : Fld := ⟨Reg.CAR_HEAD_LO, 31, 0⟩
def CAR_HEAD_HI_seq : Fld := ⟨Reg.CAR_HEAD_HI, 31, 0⟩
def CAR_TAIL_LO_seq : Fld := ⟨Reg.CAR_TAIL_LO, 31, 0⟩
def CAR_TAIL_HI_seq : Fld := ⟨Reg.CAR_TAIL_HI, 31, 0⟩
def CAR_IDX_BASE_base : Fld := ⟨Reg.CAR_IDX_BASE, 13, 0⟩
def CAR_UMAP_BASE_base : Fld := ⟨Reg.CAR_UMAP_BASE, 13, 0⟩
def CAR_IDX_STAT_entries : Fld := ⟨Reg.CAR_IDX_STAT, 21, 0⟩
def CAR_RANGE_STAT_ranges : Fld := ⟨Reg.CAR_RANGE_STAT, 12, 0⟩
def CAR_REPLAY_STAT_torn : Fld := ⟨Reg.CAR_REPLAY_STAT, 31, 24⟩
def CAR_REPLAY_STAT_redo : Fld := ⟨Reg.CAR_REPLAY_STAT, 23, 12⟩
def CAR_REPLAY_STAT_lost : Fld := ⟨Reg.CAR_REPLAY_STAT, 11, 0⟩
def CAR_WT_MARK_mark : Fld := ⟨Reg.CAR_WT_MARK, 0, 0⟩
def CAR_TEN_QUOTA_LO_quota (n : Nat) : Fld := ⟨Reg.CAR_TEN_QUOTA_LO n, 31, 0⟩
def CAR_TEN_QUOTA_HI_quota (n : Nat) : Fld := ⟨Reg.CAR_TEN_QUOTA_HI n, 31, 0⟩
def CAR_TEN_USE_LO_use (n : Nat) : Fld := ⟨Reg.CAR_TEN_USE_LO n, 31, 0⟩
def CAR_TEN_USE_HI_use (n : Nat) : Fld := ⟨Reg.CAR_TEN_USE_HI n, 31, 0⟩
def CAR_OVERQ_over (n : Nat) : Fld := ⟨Reg.CAR_OVERQ n, 31, 0⟩
def RBD_CFG_crit_10mbs : Fld := ⟨Reg.RBD_CFG, 31, 20⟩
def RBD_CFG_auto_rep : Fld := ⟨Reg.RBD_CFG, 16, 16⟩
def RBD_CFG_link_fail_s : Fld := ⟨Reg.RBD_CFG, 15, 8⟩
def RBD_CFG_ure_max : Fld := ⟨Reg.RBD_CFG, 7, 0⟩
def RBD_CUP_CFG_en : Fld := ⟨Reg.RBD_CUP_CFG, 31, 31⟩
def RBD_CUP_CFG_period_d : Fld := ⟨Reg.RBD_CUP_CFG, 7, 0⟩
def RBD_REP_STAT_overflow : Fld := ⟨Reg.RBD_REP_STAT, 31, 16⟩
def RBD_REP_STAT_queued : Fld := ⟨Reg.RBD_REP_STAT, 12, 0⟩
def RBD_REP_CNT_count : Fld := ⟨Reg.RBD_REP_CNT, 31, 0⟩
def RBD_LST_STAT_overflow : Fld := ⟨Reg.RBD_LST_STAT, 31, 17⟩
def RBD_LST_STAT_entries : Fld := ⟨Reg.RBD_LST_STAT, 16, 0⟩
def RBD_LST_GEN_changes : Fld := ⟨Reg.RBD_LST_GEN, 31, 0⟩
def RBD_CUP_CNT_count (k : Nat) : Fld := ⟨Reg.RBD_CUP_CNT k, 31, 0⟩
def RBD_BSET0_cup_100mbs (n : Nat) : Fld := ⟨Reg.RBD_BSET0 n, 27, 16⟩
def RBD_BSET0_rbd_10mbs (n : Nat) : Fld := ⟨Reg.RBD_BSET0 n, 11, 0⟩
def RBD_BSET1_test_100mbs (n : Nat) : Fld := ⟨Reg.RBD_BSET1 n, 27, 16⟩
def RBD_BSET1_rg_10mbs (n : Nat) : Fld := ⟨Reg.RBD_BSET1 n, 11, 0⟩
def RBD_MEM_STAT_state (b : Nat) : Fld := ⟨Reg.RBD_MEM_STAT b, 31, 29⟩
def RBD_MEM_STAT_cause (b : Nat) : Fld := ⟨Reg.RBD_MEM_STAT b, 28, 25⟩
def RBD_MEM_STAT_ure_hold (b : Nat) : Fld := ⟨Reg.RBD_MEM_STAT b, 24, 24⟩
def RBD_MEM_STAT_group (b : Nat) : Fld := ⟨Reg.RBD_MEM_STAT b, 23, 20⟩
def RBD_MEM_STAT_pos (b : Nat) : Fld := ⟨Reg.RBD_MEM_STAT b, 19, 15⟩
def RBD_MEM_STAT_ure_hr (b : Nat) : Fld := ⟨Reg.RBD_MEM_STAT b, 7, 0⟩
def RBD_MEM_CMD_op : Fld := ⟨Reg.RBD_MEM_CMD, 31, 29⟩
def RBD_MEM_CMD_bay : Fld := ⟨Reg.RBD_MEM_CMD, 4, 0⟩
def RBD_CMD_STAT_err : Fld := ⟨Reg.RBD_CMD_STAT, 2, 0⟩
def RBD_GRP_STAT_cup_active (n : Nat) : Fld := ⟨Reg.RBD_GRP_STAT n, 31, 31⟩
def RBD_GRP_STAT_rb_active (n : Nat) : Fld := ⟨Reg.RBD_GRP_STAT n, 30, 30⟩
def RBD_GRP_STAT_beyond (n : Nat) : Fld := ⟨Reg.RBD_GRP_STAT n, 29, 29⟩
def RBD_GRP_STAT_failed (n : Nat) : Fld := ⟨Reg.RBD_GRP_STAT n, 28, 24⟩
def RBD_GRP_STAT_rebuilding (n : Nat) : Fld := ⟨Reg.RBD_GRP_STAT n, 23, 19⟩
def RBD_RB_CUR_stripe (n : Nat) : Fld := ⟨Reg.RBD_RB_CUR n, 31, 0⟩
def RBD_RB_LEFT_stripe (n : Nat) : Fld := ⟨Reg.RBD_RB_LEFT n, 31, 0⟩
def RBD_SPARE_stripes (n : Nat) : Fld := ⟨Reg.RBD_SPARE n, 31, 0⟩
def RBD_SPARE_STAT_ok (n : Nat) : Fld := ⟨Reg.RBD_SPARE_STAT n, 31, 31⟩
def RBD_SPARE_STAT_pos (n : Nat) : Fld := ⟨Reg.RBD_SPARE_STAT n, 4, 0⟩
def RBD_CUP_STAT_cursor (n : Nat) : Fld := ⟨Reg.RBD_CUP_STAT n, 31, 0⟩
def RBD_CUP_PASS_passes (n : Nat) : Fld := ⟨Reg.RBD_CUP_PASS n, 31, 16⟩
def RBD_CUP_PASS_behind (n : Nat) : Fld := ⟨Reg.RBD_CUP_PASS n, 15, 15⟩
def RBD_CUP_PASS_mark_pass (n : Nat) : Fld := ⟨Reg.RBD_CUP_PASS n, 14, 14⟩
def RBD_RG_CFG_src : Fld := ⟨Reg.RBD_RG_CFG, 31, 28⟩
def RBD_RG_CFG_stage : Fld := ⟨Reg.RBD_RG_CFG, 27, 24⟩
def RBD_RG_CFG_layout : Fld := ⟨Reg.RBD_RG_CFG, 23, 22⟩
def RBD_RG_CFG_d : Fld := ⟨Reg.RBD_RG_CFG, 21, 17⟩
def RBD_RG_CFG_p : Fld := ⟨Reg.RBD_RG_CFG, 16, 14⟩
def RBD_RG_CFG_strip : Fld := ⟨Reg.RBD_RG_CFG, 13, 11⟩
def RBD_RG_MEM_bays (w : Nat) : Fld := ⟨Reg.RBD_RG_MEM w, 29, 0⟩
def RBD_RG_CTRL_cmd : Fld := ⟨Reg.RBD_RG_CTRL, 31, 30⟩
def RBD_RG_STAT_state : Fld := ⟨Reg.RBD_RG_STAT, 31, 28⟩
def RBD_RG_STAT_err : Fld := ⟨Reg.RBD_RG_STAT, 27, 24⟩
def RBD_RG_CUR_LO_unit : Fld := ⟨Reg.RBD_RG_CUR_LO, 31, 0⟩
def RBD_RG_CUR_HI_unit : Fld := ⟨Reg.RBD_RG_CUR_HI, 31, 0⟩
def TMP_CNT_count (n : Nat) : Fld := ⟨Reg.TMP_CNT n, 31, 0⟩
def TMP_NS_CFG_en (n : Nat) : Fld := ⟨Reg.TMP_NS_CFG n, 0, 0⟩
def CIP_CTAB_BASE_base : Fld := ⟨Reg.CIP_CTAB_BASE, 13, 0⟩
def CIP_FAULT_STAT_pend : Fld := ⟨Reg.CIP_FAULT_STAT, 31, 31⟩
def CIP_FAULT_STAT_cause : Fld := ⟨Reg.CIP_FAULT_STAT, 30, 28⟩
def CIP_FAULT_STAT_tenant : Fld := ⟨Reg.CIP_FAULT_STAT, 27, 16⟩
def CIP_FAULT_ID_conn : Fld := ⟨Reg.CIP_FAULT_ID, 31, 31⟩
def CIP_FAULT_ID_id : Fld := ⟨Reg.CIP_FAULT_ID, 17, 0⟩
def CIP_FAULT_TAG_tag : Fld := ⟨Reg.CIP_FAULT_TAG, 19, 0⟩
def CIP_FAULT_CNT_count (n : Nat) : Fld := ⟨Reg.CIP_FAULT_CNT n, 31, 0⟩
def CIP_SKEK_STAT_installed : Fld := ⟨Reg.CIP_SKEK_STAT, 31, 31⟩
def CIP_SKEK_STAT_rewrap : Fld := ⟨Reg.CIP_SKEK_STAT, 30, 30⟩
def CIP_SKEK_STAT_bank : Fld := ⟨Reg.CIP_SKEK_STAT, 0, 0⟩
def CIP_SKEK_word (n : Nat) : Fld := ⟨Reg.CIP_SKEK n, 31, 0⟩
def KP_STAT_fault_cnt (t : Nat) : Fld := ⟨Reg.KP_STAT t, 31, 24⟩
def KP_STAT_busy (t : Nat) : Fld := ⟨Reg.KP_STAT t, 23, 23⟩
def KP_STAT_last_slot (t : Nat) : Fld := ⟨Reg.KP_STAT t, 3, 0⟩
def KP_CMD_op (t : Nat) : Fld := ⟨Reg.KP_CMD t, 31, 28⟩
def KP_CMD_slot (t : Nat) : Fld := ⟨Reg.KP_CMD t, 3, 0⟩
def KP_RESULT_status (t : Nat) : Fld := ⟨Reg.KP_RESULT t, 15, 0⟩
def KP_SLOT_STAT_state (t w : Nat) : Fld := ⟨Reg.KP_SLOT_STAT t w, 31, 0⟩
def KP_SLOT_ID_key_id (t s : Nat) : Fld := ⟨Reg.KP_SLOT_ID t s, 31, 0⟩
def KP_UNREACHED_bays (t : Nat) : Fld := ⟨Reg.KP_UNREACHED t, 23, 0⟩
def KP_BLOB_word (t i : Nat) : Fld := ⟨Reg.KP_BLOB t i, 31, 0⟩
def NET_BRK_mode : Fld := ⟨Reg.NET_BRK, 1, 0⟩
def NET_RC_CFG_retry_cnt : Fld := ⟨Reg.NET_RC_CFG, 23, 21⟩
def NET_RC_CFG_timeout : Fld := ⟨Reg.NET_RC_CFG, 20, 16⟩
def NET_RC_CFG_rd_depth : Fld := ⟨Reg.NET_RC_CFG, 15, 8⟩
def NET_RC_CFG_mtu : Fld := ⟨Reg.NET_RC_CFG, 1, 0⟩
def NET_TCP_CFG_rto_min_us : Fld := ⟨Reg.NET_TCP_CFG, 31, 16⟩
def NET_TCP_CFG_retries : Fld := ⟨Reg.NET_TCP_CFG, 7, 4⟩
def NET_TCP_CFG_ecn_en : Fld := ⟨Reg.NET_TCP_CFG, 3, 3⟩
def NET_CC_CFG_dec : Fld := ⟨Reg.NET_CC_CFG, 31, 24⟩
def NET_CC_CFG_inc_100mbps : Fld := ⟨Reg.NET_CC_CFG, 23, 12⟩
def NET_CC_CFG_cnp_cls : Fld := ⟨Reg.NET_CC_CFG, 10, 8⟩
def NET_CC_CFG_gap_us : Fld := ⟨Reg.NET_CC_CFG, 7, 0⟩
def NET_CLS_MAP_pcp (c : Nat) : Fld := ⟨Reg.NET_CLS_MAP c, 31, 29⟩
def NET_CLS_MAP_dscp (c : Nat) : Fld := ⟨Reg.NET_CLS_MAP c, 28, 23⟩
def NET_PORT_CFG_en (n : Nat) : Fld := ⟨Reg.NET_PORT_CFG n, 31, 31⟩
def NET_PORT_CFG_strict (n : Nat) : Fld := ⟨Reg.NET_PORT_CFG n, 30, 28⟩
def NET_PORT_CFG_ovh (n : Nat) : Fld := ⟨Reg.NET_PORT_CFG n, 26, 20⟩
def NET_PORT_CFG_pfc_en (n : Nat) : Fld := ⟨Reg.NET_PORT_CFG n, 19, 12⟩
def NET_PORT_CFG_vlan (n : Nat) : Fld := ⟨Reg.NET_PORT_CFG n, 11, 0⟩
def NET_PORT_STAT_exists (n : Nat) : Fld := ⟨Reg.NET_PORT_STAT n, 31, 31⟩
def NET_PORT_STAT_up (n : Nat) : Fld := ⟨Reg.NET_PORT_STAT n, 30, 30⟩
def NET_PORT_STAT_local_fault (n : Nat) : Fld := ⟨Reg.NET_PORT_STAT n, 29, 29⟩
def NET_PORT_STAT_remote_fault (n : Nat) : Fld := ⟨Reg.NET_PORT_STAT n, 28, 28⟩
def NET_PORT_STAT_paused (n : Nat) : Fld := ⟨Reg.NET_PORT_STAT n, 19, 12⟩
def NET_PORT_STAT_lanes (n : Nat) : Fld := ⟨Reg.NET_PORT_STAT n, 11, 8⟩
def NET_PORT_STAT_speed (n : Nat) : Fld := ⟨Reg.NET_PORT_STAT n, 2, 0⟩
def NET_PORT_PFC_xoff_kib (n : Nat) : Fld := ⟨Reg.NET_PORT_PFC n, 31, 16⟩
def NET_PORT_PFC_xon_kib (n : Nat) : Fld := ⟨Reg.NET_PORT_PFC n, 15, 0⟩
def NET_PORT_WRR_weight (n : Nat) : Fld := ⟨Reg.NET_PORT_WRR n, 31, 0⟩
def NET_PORT_IP4_addr (n : Nat) : Fld := ⟨Reg.NET_PORT_IP4 n, 31, 0⟩
def NET_PORT_IP6_addr (n w : Nat) : Fld := ⟨Reg.NET_PORT_IP6 n w, 31, 0⟩
def NET_PORT_MTU_max_frame (n : Nat) : Fld := ⟨Reg.NET_PORT_MTU n, 13, 0⟩
def NET_PORT_CNT_count (n k : Nat) : Fld := ⟨Reg.NET_PORT_CNT n k, 31, 0⟩
def NET_CSHP_RATE_en (n c : Nat) : Fld := ⟨Reg.NET_CSHP_RATE n c, 31, 31⟩
def NET_CSHP_RATE_rate_mbps (n c : Nat) : Fld := ⟨Reg.NET_CSHP_RATE n c, 20, 0⟩
def NET_CSHP_BKT_bucket (n c : Nat) : Fld := ⟨Reg.NET_CSHP_BKT n c, 23, 0⟩
def NET_TSHP_RATE_en (t : Nat) : Fld := ⟨Reg.NET_TSHP_RATE t, 31, 31⟩
def NET_TSHP_RATE_rate_mbps (t : Nat) : Fld := ⟨Reg.NET_TSHP_RATE t, 20, 0⟩
def NET_TSHP_BKT_bucket (t : Nat) : Fld := ⟨Reg.NET_TSHP_BKT t, 23, 0⟩
def NET_TSHP_TOK_tokens (t : Nat) : Fld := ⟨Reg.NET_TSHP_TOK t, 24, 0⟩
def NET_TEN_CFG_cls (t : Nat) : Fld := ⟨Reg.NET_TEN_CFG t, 2, 0⟩
def NET_GCL_CTRL_en (n : Nat) : Fld := ⟨Reg.NET_GCL_CTRL n, 31, 31⟩
def NET_GCL_CTRL_len (n : Nat) : Fld := ⟨Reg.NET_GCL_CTRL n, 8, 0⟩
def NET_GCL_CYCLE_cycle_ns (n : Nat) : Fld := ⟨Reg.NET_GCL_CYCLE n, 29, 0⟩
def NET_GCL_BASE_LO_sec_lo (n : Nat) : Fld := ⟨Reg.NET_GCL_BASE_LO n, 31, 0⟩
def NET_GCL_BASE_HI_sec_hi (n : Nat) : Fld := ⟨Reg.NET_GCL_BASE_HI n, 15, 0⟩
def NET_GCL_BASE_NS_ns (n : Nat) : Fld := ⟨Reg.NET_GCL_BASE_NS n, 29, 0⟩
def NET_GCL_STAT_state (n : Nat) : Fld := ⟨Reg.NET_GCL_STAT n, 31, 30⟩
def NET_GCL_STAT_pending (n : Nat) : Fld := ⟨Reg.NET_GCL_STAT n, 29, 29⟩
def NET_GCL_STAT_entry (n : Nat) : Fld := ⟨Reg.NET_GCL_STAT n, 15, 8⟩
def NET_GCL_ADMIN_gates (n i : Nat) : Fld := ⟨Reg.NET_GCL_ADMIN n i, 31, 24⟩
def NET_GCL_ADMIN_ivl (n i : Nat) : Fld := ⟨Reg.NET_GCL_ADMIN n i, 23, 0⟩
def NET_GCL_OPER_gates (n i : Nat) : Fld := ⟨Reg.NET_GCL_OPER n i, 31, 24⟩
def NET_GCL_OPER_ivl (n i : Nat) : Fld := ⟨Reg.NET_GCL_OPER n i, 23, 0⟩
def PEER_CFG_en : Fld := ⟨Reg.PEER_CFG, 31, 31⟩
def PEER_CFG_peer_loss_wt : Fld := ⟨Reg.PEER_CFG, 30, 30⟩
def PEER_CFG_nak_retries : Fld := ⟨Reg.PEER_CFG, 27, 24⟩
def PEER_STAT_link_up : Fld := ⟨Reg.PEER_STAT, 31, 31⟩
def PEER_STAT_lanes : Fld := ⟨Reg.PEER_STAT, 30, 29⟩
def PEER_STAT_suspect : Fld := ⟨Reg.PEER_STAT, 28, 28⟩
def PEER_STAT_lost : Fld := ⟨Reg.PEER_STAT, 27, 27⟩
def PEER_STAT_exposed : Fld := ⟨Reg.PEER_STAT, 26, 26⟩
def PEER_STAT_endorse_rx : Fld := ⟨Reg.PEER_STAT, 25, 25⟩
def PEER_STAT_endorsing : Fld := ⟨Reg.PEER_STAT, 24, 24⟩
def PEER_STAT_peer_mode : Fld := ⟨Reg.PEER_STAT, 23, 20⟩
def PEER_STAT_hb_age_us : Fld := ⟨Reg.PEER_STAT, 15, 0⟩
def PEER_LEASE_src : Fld := ⟨Reg.PEER_LEASE, 31, 30⟩
def PEER_LEASE_remain_us : Fld := ⟨Reg.PEER_LEASE, 15, 0⟩
def PEER_EPOCH_epoch : Fld := ⟨Reg.PEER_EPOCH, 31, 0⟩
def PEER_WIN_EPOCH_rx : Fld := ⟨Reg.PEER_WIN_EPOCH, 31, 16⟩
def PEER_WIN_EPOCH_tx : Fld := ⟨Reg.PEER_WIN_EPOCH, 15, 0⟩
def PEER_APPLIED_LO_seq : Fld := ⟨Reg.PEER_APPLIED_LO, 31, 0⟩
def PEER_APPLIED_HI_seq : Fld := ⟨Reg.PEER_APPLIED_HI, 31, 0⟩
def PEER_SWO_DRIVE_us : Fld := ⟨Reg.PEER_SWO_DRIVE, 31, 0⟩
def PEER_SWO_SERVE_us : Fld := ⟨Reg.PEER_SWO_SERVE, 31, 0⟩
def PEER_FAULT_STAT_pend : Fld := ⟨Reg.PEER_FAULT_STAT, 31, 31⟩
def PEER_FAULT_STAT_code : Fld := ⟨Reg.PEER_FAULT_STAT, 7, 0⟩
def PEER_CNT_count (k : Nat) : Fld := ⟨Reg.PEER_CNT k, 31, 0⟩
def PEER_WIN_ADM_en (n : Nat) : Fld := ⟨Reg.PEER_WIN_ADM n, 31, 31⟩
def PEER_WIN_ADM_base (n : Nat) : Fld := ⟨Reg.PEER_WIN_ADM n, 15, 0⟩
def PEER_WIN_OPR_en (n : Nat) : Fld := ⟨Reg.PEER_WIN_OPR n, 31, 31⟩
def PEER_WIN_OPR_base (n : Nat) : Fld := ⟨Reg.PEER_WIN_OPR n, 15, 0⟩
def PEER_WIN_ASZ_size (n : Nat) : Fld := ⟨Reg.PEER_WIN_ASZ n, 16, 0⟩
def PEER_WIN_OSZ_size (n : Nat) : Fld := ⟨Reg.PEER_WIN_OSZ n, 16, 0⟩
def BAY_CFG_vin_max_mv : Fld := ⟨Reg.BAY_CFG, 31, 16⟩
def BAY_CFG_max_ramp : Fld := ⟨Reg.BAY_CFG, 4, 0⟩
def BAY_STAT_die_fault : Fld := ⟨Reg.BAY_STAT, 31, 31⟩
def BAY_STAT_v12_ok : Fld := ⟨Reg.BAY_STAT, 30, 30⟩
def BAY_STAT_latched : Fld := ⟨Reg.BAY_STAT, 23, 0⟩
def BAY_PS2_OVR_confirm : Fld := ⟨Reg.BAY_PS2_OVR, 31, 24⟩
def BAY_PS2_OVR_bays : Fld := ⟨Reg.BAY_PS2_OVR, 23, 0⟩
def BAY_EVT_STAT_lost : Fld := ⟨Reg.BAY_EVT_STAT, 31, 16⟩
def BAY_EVT_STAT_held : Fld := ⟨Reg.BAY_EVT_STAT, 10, 0⟩
def BAY_CH_CFG_en (n : Nat) : Fld := ⟨Reg.BAY_CH_CFG n, 31, 31⟩
def BAY_CH_CFG_auto (n : Nat) : Fld := ⟨Reg.BAY_CH_CFG n, 30, 30⟩
def BAY_CH_CFG_thm (n : Nat) : Fld := ⟨Reg.BAY_CH_CFG n, 29, 28⟩
def BAY_CH_CFG_slew (n : Nat) : Fld := ⟨Reg.BAY_CH_CFG n, 27, 22⟩
def BAY_CH_CFG_ftimer (n : Nat) : Fld := ⟨Reg.BAY_CH_CFG n, 17, 9⟩
def BAY_CH_ILIM_fast_ma (n : Nat) : Fld := ⟨Reg.BAY_CH_ILIM n, 31, 16⟩
def BAY_CH_ILIM_ilim_ma (n : Nat) : Fld := ⟨Reg.BAY_CH_ILIM n, 15, 0⟩
def BAY_CH_RSNS_rsense_uohm (n : Nat) : Fld := ⟨Reg.BAY_CH_RSNS n, 12, 0⟩
def BAY_CH_THM_rth (n : Nat) : Fld := ⟨Reg.BAY_CH_THM n, 31, 16⟩
def BAY_CH_THM_cth (n : Nat) : Fld := ⟨Reg.BAY_CH_THM n, 15, 0⟩
def BAY_CH_STAT_state (n : Nat) : Fld := ⟨Reg.BAY_CH_STAT n, 31, 29⟩
def BAY_CH_STAT_seat (n : Nat) : Fld := ⟨Reg.BAY_CH_STAT n, 28, 28⟩
def BAY_CH_STAT_pg (n : Nat) : Fld := ⟨Reg.BAY_CH_STAT n, 27, 27⟩
def BAY_CH_STAT_limit (n : Nat) : Fld := ⟨Reg.BAY_CH_STAT n, 26, 26⟩
def BAY_CH_STAT_timer (n : Nat) : Fld := ⟨Reg.BAY_CH_STAT n, 25, 25⟩
def BAY_CH_STAT_cmd_err (n : Nat) : Fld := ⟨Reg.BAY_CH_STAT n, 24, 24⟩
def BAY_CH_STAT_cause (n : Nat) : Fld := ⟨Reg.BAY_CH_STAT n, 23, 20⟩
def BAY_CH_STAT_usable (n : Nat) : Fld := ⟨Reg.BAY_CH_STAT n, 19, 17⟩
def BAY_CH_STAT_tmr_us (n : Nat) : Fld := ⟨Reg.BAY_CH_STAT n, 15, 0⟩
def BAY_CH_MEAS0_vsrc_mv (n : Nat) : Fld := ⟨Reg.BAY_CH_MEAS0 n, 31, 16⟩
def BAY_CH_MEAS0_vin_mv (n : Nat) : Fld := ⟨Reg.BAY_CH_MEAS0 n, 15, 0⟩
def BAY_CH_MEAS1_tfet (n : Nat) : Fld := ⟨Reg.BAY_CH_MEAS1 n, 31, 22⟩
def BAY_CH_MEAS1_i_ma (n : Nat) : Fld := ⟨Reg.BAY_CH_MEAS1 n, 15, 0⟩
def BAY_CH_CMD_op (n : Nat) : Fld := ⟨Reg.BAY_CH_CMD n, 31, 29⟩
def BAY_CH_CNT_fast_trips (n : Nat) : Fld := ⟨Reg.BAY_CH_CNT n, 31, 16⟩
def BAY_CH_CNT_limits (n : Nat) : Fld := ⟨Reg.BAY_CH_CNT n, 15, 0⟩
def BAY_CH_OFS_ofs_uv (n : Nat) : Fld := ⟨Reg.BAY_CH_OFS n, 15, 0⟩
def MGT_CFG_mi_alert_en : Fld := ⟨Reg.MGT_CFG, 1, 1⟩
def MGT_CFG_mb_irq_en : Fld := ⟨Reg.MGT_CFG, 0, 0⟩
def MGT_MB_DB_ring : Fld := ⟨Reg.MGT_MB_DB, 3, 0⟩
def MGT_MB_STAT_done : Fld := ⟨Reg.MGT_MB_STAT, 11, 8⟩
def MGT_MB_STAT_busy : Fld := ⟨Reg.MGT_MB_STAT, 3, 0⟩
def MGT_TXN_SEL_id : Fld := ⟨Reg.MGT_TXN_SEL, 15, 0⟩
def MGT_TXN_CFG_timeout_s : Fld := ⟨Reg.MGT_TXN_CFG, 11, 0⟩
def MGT_TXN_STAT_no_txn : Fld := ⟨Reg.MGT_TXN_STAT, 31, 31⟩
def MGT_TXN_STAT_unsaved : Fld := ⟨Reg.MGT_TXN_STAT, 30, 30⟩
def MGT_TXN_STAT_open : Fld := ⟨Reg.MGT_TXN_STAT, 27, 24⟩
def MGT_TXN_STAT_held : Fld := ⟨Reg.MGT_TXN_STAT, 23, 20⟩
def MGT_TXN_STAT_last_status : Fld := ⟨Reg.MGT_TXN_STAT, 15, 0⟩
def MGT_TXN_INFO_state (k : Nat) : Fld := ⟨Reg.MGT_TXN_INFO k, 31, 29⟩
def MGT_TXN_INFO_channel (k : Nat) : Fld := ⟨Reg.MGT_TXN_INFO k, 28, 27⟩
def MGT_TXN_INFO_staged (k : Nat) : Fld := ⟨Reg.MGT_TXN_INFO k, 26, 16⟩
def MGT_TXN_INFO_id (k : Nat) : Fld := ⟨Reg.MGT_TXN_INFO k, 15, 0⟩
def MGT_LAST_CMT_cnum : Fld := ⟨Reg.MGT_LAST_CMT, 31, 16⟩
def MGT_LAST_CMT_id : Fld := ⟨Reg.MGT_LAST_CMT, 15, 0⟩
def MGT_INBAND_PERM_ranges : Fld := ⟨Reg.MGT_INBAND_PERM, 15, 0⟩
def MGT_CNT_count (k : Nat) : Fld := ⟨Reg.MGT_CNT k, 31, 0⟩
def PCR_STAT_err_pend : Fld := ⟨Reg.PCR_STAT, 31, 31⟩
def PCR_STAT_busy : Fld := ⟨Reg.PCR_STAT, 30, 30⟩
def PCR_STAT_last_err : Fld := ⟨Reg.PCR_STAT, 29, 28⟩
def PCR_STAT_last_word : Fld := ⟨Reg.PCR_STAT, 25, 16⟩
def PCR_STAT_worn : Fld := ⟨Reg.PCR_STAT, 10, 0⟩
def PCR_SEL_word : Fld := ⟨Reg.PCR_SEL, 9, 0⟩
def PCR_INFO_row : Fld := ⟨Reg.PCR_INFO, 31, 29⟩
def PCR_INFO_tokens : Fld := ⟨Reg.PCR_INFO, 28, 24⟩
def PCR_INFO_count : Fld := ⟨Reg.PCR_INFO, 16, 0⟩
def PCR_USER_value (n : Nat) : Fld := ⟨Reg.PCR_USER n, 31, 0⟩
def EPT_STAT_link_up : Fld := ⟨Reg.EPT_STAT, 31, 31⟩
def EPT_STAT_speed : Fld := ⟨Reg.EPT_STAT, 27, 24⟩
def EPT_STAT_width : Fld := ⟨Reg.EPT_STAT, 23, 20⟩
def EPT_STAT_dstate : Fld := ⟨Reg.EPT_STAT, 19, 18⟩
def EPT_STAT_bme : Fld := ⟨Reg.EPT_STAT, 17, 17⟩
def EPT_STAT_flr : Fld := ⟨Reg.EPT_STAT, 16, 16⟩
def EPT_STAT_perst : Fld := ⟨Reg.EPT_STAT, 15, 15⟩
def EPT_STAT_irq_mode : Fld := ⟨Reg.EPT_STAT, 14, 13⟩
def EPT_STAT_intx : Fld := ⟨Reg.EPT_STAT, 12, 12⟩
def EPT_STAT_wake : Fld := ⟨Reg.EPT_STAT, 11, 11⟩
def EPT_INT_STAT_src : Fld := ⟨Reg.EPT_INT_STAT, 5, 0⟩
def EPT_INT_EN_src : Fld := ⟨Reg.EPT_INT_EN, 5, 0⟩
def EPT_WAKE_EN_src : Fld := ⟨Reg.EPT_WAKE_EN, 5, 0⟩
def EPT_RST_CNT_flr : Fld := ⟨Reg.EPT_RST_CNT, 31, 24⟩
def EPT_RST_CNT_perst : Fld := ⟨Reg.EPT_RST_CNT, 23, 16⟩
def EPT_RST_CNT_link : Fld := ⟨Reg.EPT_RST_CNT, 15, 8⟩
def EPT_RST_CNT_bme_clr : Fld := ⟨Reg.EPT_RST_CNT, 7, 0⟩
def EPT_DISC_CNT_cpl_disc : Fld := ⟨Reg.EPT_DISC_CNT, 31, 16⟩
def EPT_DISC_CNT_cpl_tmo : Fld := ⟨Reg.EPT_DISC_CNT, 15, 0⟩
def FWU_STAT_trial_left_s : Fld := ⟨Reg.FWU_STAT, 31, 16⟩
def FWU_STAT_rec_flag : Fld := ⟨Reg.FWU_STAT, 15, 15⟩
def FWU_STAT_rec_cause : Fld := ⟨Reg.FWU_STAT, 14, 12⟩
def FWU_STAT_boot_attempts : Fld := ⟨Reg.FWU_STAT, 11, 9⟩
def FWU_STAT_pend_slot : Fld := ⟨Reg.FWU_STAT, 8, 7⟩
def FWU_STAT_pend_valid : Fld := ⟨Reg.FWU_STAT, 6, 6⟩
def FWU_STAT_fallback : Fld := ⟨Reg.FWU_STAT, 5, 5⟩
def FWU_STAT_trial : Fld := ⟨Reg.FWU_STAT, 4, 4⟩
def FWU_STAT_prev_slot : Fld := ⟨Reg.FWU_STAT, 3, 2⟩
def FWU_STAT_cur_slot : Fld := ⟨Reg.FWU_STAT, 1, 0⟩
def FWU_DL_STAT_busy : Fld := ⟨Reg.FWU_DL_STAT, 31, 31⟩
def FWU_DL_STAT_staged_kib : Fld := ⟨Reg.FWU_DL_STAT, 16, 0⟩
def FWU_SVN_svn : Fld := ⟨Reg.FWU_SVN, 31, 0⟩
def FWU_TRIAL_CFG_window_s : Fld := ⟨Reg.FWU_TRIAL_CFG, 31, 16⟩
def FWU_TRIAL_CFG_settle_s : Fld := ⟨Reg.FWU_TRIAL_CFG, 15, 0⟩
def FWU_KEYS_programmed : Fld := ⟨Reg.FWU_KEYS, 7, 4⟩
def FWU_KEYS_revoked : Fld := ⟨Reg.FWU_KEYS, 3, 0⟩
def FWU_SLOT_state (n : Nat) : Fld := ⟨Reg.FWU_SLOT n, 31, 30⟩
def FWU_SLOT_key_idx (n : Nat) : Fld := ⟨Reg.FWU_SLOT n, 29, 28⟩
def FWU_SLOT_SVN_svn (n : Nat) : Fld := ⟨Reg.FWU_SLOT_SVN n, 31, 0⟩
def FWU_SLOT_VER_LO_version (n : Nat) : Fld := ⟨Reg.FWU_SLOT_VER_LO n, 31, 0⟩
def FWU_SLOT_VER_HI_version (n : Nat) : Fld := ⟨Reg.FWU_SLOT_VER_HI n, 31, 0⟩
def FWU_SPDM_ROOT_hash (w : Nat) : Fld := ⟨Reg.FWU_SPDM_ROOT w, 31, 0⟩
def TEL_CFG_en : Fld := ⟨Reg.TEL_CFG, 31, 31⟩
def TEL_CFG_period_ms : Fld := ⟨Reg.TEL_CFG, 15, 0⟩
def TEL_STAT_sweeping : Fld := ⟨Reg.TEL_STAT, 31, 31⟩
def TEL_STAT_demand_wait : Fld := ⟨Reg.TEL_STAT, 30, 30⟩
def TEL_SEQ_seq : Fld := ⟨Reg.TEL_SEQ, 31, 0⟩
def TEL_SMP_STAT_lost : Fld := ⟨Reg.TEL_SMP_STAT, 31, 16⟩
def TEL_SMP_STAT_head : Fld := ⟨Reg.TEL_SMP_STAT, 11, 0⟩
def TEL_SMP_TAIL_tail : Fld := ⟨Reg.TEL_SMP_TAIL, 11, 0⟩
def TEL_TEN_PERM_perm (n : Nat) : Fld := ⟨Reg.TEL_TEN_PERM n, 31, 0⟩
def TEL_SEL_smp_exp (n : Nat) : Fld := ⟨Reg.TEL_SEL n, 31, 27⟩
def TEL_SEL_ten_en (n : Nat) : Fld := ⟨Reg.TEL_SEL n, 26, 26⟩
def TEL_SEL_tenant (n : Nat) : Fld := ⟨Reg.TEL_SEL n, 25, 14⟩
def TEL_SEL_inst (n : Nat) : Fld := ⟨Reg.TEL_SEL n, 13, 8⟩
def TEL_SEL_event (n : Nat) : Fld := ⟨Reg.TEL_SEL n, 7, 0⟩
def TEL_CNT_LO_count (n : Nat) : Fld := ⟨Reg.TEL_CNT_LO n, 31, 0⟩
def TEL_CNT_HI_count (n : Nat) : Fld := ⟨Reg.TEL_CNT_HI n, 31, 0⟩
def TEL_RATE_rate (n : Nat) : Fld := ⟨Reg.TEL_RATE n, 31, 0⟩
def GLB_ID_part : Fld := ⟨Reg.GLB_ID, 31, 16⟩
def GLB_ID_rev : Fld := ⟨Reg.GLB_ID, 15, 8⟩
def GLB_ID_slot : Fld := ⟨Reg.GLB_ID, 0, 0⟩
def GLB_SERIAL_LO_serial : Fld := ⟨Reg.GLB_SERIAL_LO, 31, 0⟩
def GLB_SERIAL_HI_serial : Fld := ⟨Reg.GLB_SERIAL_HI, 31, 0⟩
def GLB_RST_STAT_count : Fld := ⟨Reg.GLB_RST_STAT, 15, 8⟩
def GLB_RST_STAT_cause : Fld := ⟨Reg.GLB_RST_STAT, 3, 0⟩
def EPT_MSIX_word (n w : Nat) : Fld := ⟨Reg.EPT_MSIX n w, 31, 0⟩
def EPT_MSIX_PBA_pend : Fld := ⟨Reg.EPT_MSIX_PBA, 5, 0⟩

end F

namespace Reg

/-- Register rows of 02_package_and_power.md. -/
def table02a : List RRow := [
  ⟨"GLB_PD_CTRL", 0x200, [],
    [⟨19, 0, .rw, 0xfffff, none⟩]⟩,
  ⟨"GLB_PD_STAT", 0x204, [],
    [⟨31, 29, .ro, 0x0, none⟩, ⟨28, 24, .ro, 0x0, none⟩, ⟨20, 20, .ro, 0x1, none⟩, ⟨19, 0, .ro, 0x1, none⟩]⟩,
  ⟨"GLB_PD_DRAIN_TO", 0x208, [],
    [⟨15, 0, .rw, 0x64, some (1, 1000)⟩]⟩,
  ⟨"GLB_PWR_STAT", 0x210, [],
    [⟨19, 18, .ro, 0x0, none⟩, ⟨17, 17, .w1c, 0x0, none⟩, ⟨16, 16, .w1c, 0x0, none⟩, ⟨11, 0, .ro, 0xfff, none⟩]⟩,
  ⟨"GLB_THERM_CFG", 0x280, [],
    [⟨8, 8, .rw, 0x1, none⟩, ⟨7, 0, .rw, 0x64, some (85, 105)⟩]⟩,
  ⟨"GLB_THERM_STAT", 0x284, [],
    [⟨18, 18, .w1c, 0x0, none⟩, ⟨17, 17, .ro, 0x0, none⟩, ⟨16, 16, .ro, 0x0, none⟩, ⟨12, 8, .ro, 0x0, none⟩, ⟨7, 0, .ro, 0x0, none⟩]⟩,
  ⟨"GLB_TEMP", 0x300, [⟨0x4, 0, 24⟩],
    [⟨31, 31, .ro, 0x0, none⟩, ⟨9, 0, .ro, 0x0, none⟩]⟩,
  ⟨"GLB_LIFE_HOURS", 0x400, [],
    [⟨31, 0, .ro, 0x0, none⟩]⟩,
  ⟨"GLB_LIFE_TJSUM", 0x404, [],
    [⟨31, 0, .ro, 0x0, none⟩]⟩]

/-- Register rows of 03_modes_and_startup.md. -/
def table03a : List RRow := [
  ⟨"GLB_MODE_STAT", 0x100, [],
    [⟨18, 16, .ro, 0x0, none⟩, ⟨15, 15, .ro, 0x0, none⟩, ⟨14, 14, .ro, 0x0, none⟩, ⟨13, 13, .ro, 0x1, none⟩, ⟨12, 12, .ro, 0x0, none⟩, ⟨11, 11, .ro, 0x0, none⟩, ⟨10, 10, .ro, 0x0, none⟩, ⟨9, 9, .ro, 0x0, none⟩, ⟨8, 8, .ro, 0x0, none⟩, ⟨7, 4, .ro, 0x1, none⟩, ⟨3, 0, .ro, 0x2, none⟩]⟩,
  ⟨"GLB_MODE_REQ", 0x104, [],
    [⟨31, 16, .wo, 0x0, none⟩, ⟨3, 0, .wo, 0x0, none⟩]⟩,
  ⟨"GLB_START_STAT", 0x108, [],
    [⟨25, 24, .ro, 0x0, none⟩, ⟨20, 16, .ro, 0x0, none⟩, ⟨10, 10, .ro, 0x0, none⟩, ⟨9, 9, .ro, 0x0, none⟩, ⟨8, 8, .ro, 0x0, none⟩, ⟨7, 7, .ro, 0x0, none⟩, ⟨6, 6, .ro, 0x0, none⟩, ⟨5, 5, .ro, 0x0, none⟩, ⟨4, 4, .ro, 0x0, none⟩, ⟨3, 3, .ro, 0x0, none⟩, ⟨2, 2, .ro, 0x0, none⟩, ⟨1, 1, .ro, 0x0, none⟩, ⟨0, 0, .ro, 0x0, none⟩]⟩,
  ⟨"GLB_START_TIME", 0x10c, [],
    [⟨31, 16, .ro, 0xffff, none⟩, ⟨15, 0, .ro, 0xffff, none⟩]⟩,
  ⟨"GLB_START_CFG", 0x110, [],
    [⟨7, 0, .rwp, 0xa, some (1, 60)⟩]⟩]

/-- Register rows of 04_network_time.md. -/
def table04a : List RRow := [
  ⟨"TIM_DNT_LO", 0x100000, [],
    [⟨31, 0, .ro, 0x0, none⟩]⟩,
  ⟨"TIM_DNT_HI", 0x100004, [],
    [⟨31, 16, .ro, 0x0, none⟩, ⟨15, 0, .ro, 0x0, none⟩]⟩,
  ⟨"TIM_DNT_NS", 0x100008, [],
    [⟨29, 0, .ro, 0x0, none⟩]⟩,
  ⟨"TIM_DT_LO", 0x100010, [],
    [⟨31, 0, .ro, 0x0, none⟩]⟩,
  ⟨"TIM_DT_HI", 0x100014, [],
    [⟨31, 0, .ro, 0x0, none⟩]⟩,
  ⟨"TIM_SYNC_STAT", 0x100020, [],
    [⟨31, 16, .rc, 0x0, none⟩, ⟨15, 12, .ro, 0x0, none⟩, ⟨11, 7, .ro, 0x0, none⟩, ⟨6, 6, .ro, 0x0, none⟩, ⟨5, 5, .ro, 0x0, none⟩, ⟨4, 4, .ro, 0x1, none⟩, ⟨2, 0, .ro, 0x0, none⟩]⟩,
  ⟨"TIM_OFFSET", 0x100024, [],
    [⟨31, 0, .ro, 0x0, none⟩]⟩,
  ⟨"TIM_PTP_CFG", 0x100040, [],
    [⟨31, 31, .rw, 0x0, none⟩, ⟨30, 29, .rw, 0x0, some (0, 2)⟩, ⟨26, 20, .rw, 0x0, none⟩, ⟨19, 15, .rw, 0x1, none⟩, ⟨14, 10, .rw, 0x0, none⟩]⟩,
  ⟨"TIM_REF_CFG", 0x100044, [],
    [⟨2, 2, .rw, 0x0, none⟩, ⟨1, 1, .rw, 0x0, none⟩, ⟨0, 0, .rw, 0x0, none⟩]⟩,
  ⟨"TIM_SYNC_LOST", 0x100048, [],
    [⟨11, 0, .rw, 0xa, some (1, 3600)⟩]⟩,
  ⟨"TIM_STEP_THR", 0x10004c, [],
    [⟨29, 0, .rw, 0x4e20, some (1000, 1000000000)⟩]⟩,
  ⟨"TIM_UNSYNC_GATE", 0x100050, [],
    [⟨0, 0, .rwt, 0x0, none⟩]⟩,
  ⟨"TIM_TOD_CFG", 0x100060, [],
    [⟨31, 31, .rwt, 0x1, none⟩, ⟨23, 20, .rwt, 0x0, none⟩, ⟨16, 0, .rwt, 0x0, none⟩]⟩,
  ⟨"TIM_TOD", 0x100100, [⟨0x4, 0, 6⟩],
    [⟨31, 0, .rwt, 0x0, none⟩]⟩,
  ⟨"TIM_EVT_STAT", 0x100080, [],
    [⟨31, 16, .rc, 0x0, none⟩, ⟨15, 0, .rc, 0x0, none⟩]⟩]

/-- Register rows of 05_host_command_path.md. -/
def table05a : List RRow := [
  ⟨"HCP_CFG", 0x200000, [],
    [⟨23, 16, .rw, 0x1, some (1, 255)⟩, ⟨1, 1, .rw, 0x1, none⟩, ⟨0, 0, .rw, 0x1, none⟩]⟩,
  ⟨"HCP_CTX_CFG", 0x200004, [],
    [⟨19, 0, .rwt, 0x4000, some (1024, 65536)⟩]⟩,
  ⟨"HCP_CTX_STAT", 0x200008, [],
    [⟨20, 0, .ro, 0x0, none⟩]⟩,
  ⟨"HCP_CTX_WAIT", 0x20000c, [],
    [⟨31, 0, .rc, 0x0, none⟩]⟩,
  ⟨"HCP_ASSOC_STAT", 0x200010, [],
    [⟨31, 13, .ro, 0x0, none⟩, ⟨12, 0, .ro, 0x0, none⟩]⟩,
  ⟨"HCP_REFUSE_STAT", 0x200014, [],
    [⟨31, 16, .rc, 0x0, none⟩, ⟨15, 0, .rc, 0x0, none⟩]⟩,
  ⟨"HCP_ABORT_STAT", 0x200018, [],
    [⟨31, 16, .rc, 0x0, none⟩, ⟨15, 0, .rc, 0x0, none⟩]⟩,
  ⟨"HCP_PS_STAT", 0x200020, [],
    [⟨7, 7, .w1c, 0x0, none⟩, ⟨5, 4, .ro, 0x0, none⟩]⟩,
  ⟨"HCP_ANA_STAT", 0x200024, [],
    [⟨31, 0, .ro, 0x0, none⟩]⟩,
  ⟨"HCP_ANA_GRP", 0x200028, [],
    [⟨15, 0, .ro, 0xffff, none⟩]⟩,
  ⟨"HCP_KATO_STAT", 0x200030, [],
    [⟨31, 16, .rc, 0x0, none⟩, ⟨15, 0, .rc, 0x0, none⟩]⟩,
  ⟨"HCP_TAG_SEL", 0x200040, [],
    [⟨19, 0, .rw, 0x0, none⟩]⟩,
  ⟨"HCP_TAG_INFO0", 0x200044, [],
    [⟨31, 16, .ro, 0x0, none⟩, ⟨10, 0, .ro, 0x0, none⟩]⟩,
  ⟨"HCP_TAG_INFO1", 0x200048, [],
    [⟨19, 8, .ro, 0x0, none⟩, ⟨2, 0, .ro, 0x0, none⟩]⟩,
  ⟨"HCP_STATUS_CNT", 0x200080, [⟨0x4, 0, 4⟩],
    [⟨31, 0, .rc, 0x0, none⟩]⟩]

/-- Register rows of 06_barista_and_dma.md. -/
def table06a : List RRow := [
  ⟨"BST_CFG", 0x400000, [],
    [⟨15, 8, .rwt, 0x8, some (0, 64)⟩]⟩,
  ⟨"BST_EXC_STAT", 0x400004, [],
    [⟨31, 16, .rc, 0x0, none⟩, ⟨15, 8, .ro, 0x0, none⟩, ⟨7, 0, .rw, 0x0, none⟩]⟩,
  ⟨"BST_RCP_SEL", 0x400010, [],
    [⟨10, 0, .rw, 0x0, none⟩]⟩,
  ⟨"BST_RCP_INFO0", 0x400014, [],
    [⟨31, 31, .ro, 0x0, none⟩, ⟨30, 30, .ro, 0x0, none⟩, ⟨29, 28, .ro, 0x0, none⟩, ⟨27, 21, .ro, 0x0, none⟩, ⟨20, 0, .ro, 0x0, none⟩]⟩,
  ⟨"BST_RCP_INFO1", 0x400018, [],
    [⟨31, 24, .ro, 0x0, none⟩, ⟨23, 16, .ro, 0x0, none⟩, ⟨15, 0, .ro, 0x0, none⟩]⟩,
  ⟨"BST_LOAD_ADDR", 0x400020, [],
    [⟨15, 0, .rw, 0x0, none⟩]⟩,
  ⟨"BST_LOAD_DATA", 0x400024, [],
    [⟨31, 0, .wo, 0x0, none⟩]⟩,
  ⟨"BST_LOAD_BASE", 0x400028, [],
    [⟨15, 0, .rw, 0x0, none⟩]⟩,
  ⟨"BST_LOAD_CMD", 0x40002c, [],
    [⟨31, 30, .wo, 0x0, none⟩, ⟨29, 28, .wo, 0x0, none⟩, ⟨27, 20, .wo, 0x0, none⟩, ⟨10, 0, .wo, 0x0, none⟩]⟩,
  ⟨"BST_LOAD_STAT", 0x400030, [],
    [⟨31, 31, .ro, 0x0, none⟩, ⟨15, 8, .ro, 0x0, none⟩, ⟨3, 0, .ro, 0x0, none⟩]⟩,
  ⟨"BST_ENGINE_EN", 0x401000, [⟨0x4, 0, 120⟩],
    [⟨31, 0, .rw, 0x0, none⟩]⟩,
  ⟨"BST_ENGINE_ACK", 0x401400, [⟨0x4, 0, 120⟩],
    [⟨31, 0, .ro, 0x0, none⟩]⟩,
  ⟨"DMA_CH_CTRL", 0x408000, [⟨0x40, 0, 272⟩],
    [⟨4, 4, .w1s, 0x0, none⟩, ⟨3, 3, .w1s, 0x0, none⟩, ⟨2, 2, .w1s, 0x0, none⟩, ⟨1, 1, .w1s, 0x0, none⟩]⟩,
  ⟨"DMA_CH_STAT", 0x408004, [⟨0x40, 0, 272⟩],
    [⟨31, 24, .ro, 0x0, none⟩, ⟨15, 15, .ro, 0x0, none⟩, ⟨14, 14, .w1c, 0x0, none⟩, ⟨13, 13, .w1c, 0x0, none⟩, ⟨2, 0, .ro, 0x0, none⟩]⟩,
  ⟨"DMA_CH_PROG_LO", 0x408008, [⟨0x40, 0, 272⟩],
    [⟨31, 0, .rw, 0x0, none⟩]⟩,
  ⟨"DMA_CH_PROG_HI", 0x40800c, [⟨0x40, 0, 272⟩],
    [⟨31, 0, .rw, 0x0, none⟩]⟩,
  ⟨"DMA_CH_NEXT_LO", 0x408010, [⟨0x40, 0, 272⟩],
    [⟨31, 0, .rws, 0x0, none⟩]⟩,
  ⟨"DMA_CH_NEXT_HI", 0x408014, [⟨0x40, 0, 272⟩],
    [⟨31, 0, .rws, 0x0, none⟩]⟩,
  ⟨"DMA_CH_PACE", 0x408018, [⟨0x40, 0, 272⟩],
    [⟨31, 16, .rws, 0x0, none⟩, ⟨7, 0, .rws, 0x1, some (1, 255)⟩]⟩,
  ⟨"DMA_CH_BYTES", 0x40801c, [⟨0x40, 0, 272⟩],
    [⟨31, 0, .ro, 0x0, none⟩]⟩]

/-- Register rows of 07_switch_core_and_buffers.md. -/
def table07a : List RRow := [
  ⟨"SWC_PORT_HOLD", 0x600004, [],
    [⟨16, 0, .rwt, 0x7d0, some (0, 100000)⟩]⟩,
  ⟨"SWC_QE_STAT", 0x600008, [],
    [⟨18, 0, .ro, 0x0, none⟩]⟩,
  ⟨"SWC_QE_HWM", 0x60000c, [],
    [⟨18, 0, .rc, 0x0, none⟩]⟩,
  ⟨"SWC_ERR_STAT", 0x600010, [],
    [⟨31, 16, .rc, 0x0, none⟩, ⟨15, 0, .rc, 0x0, none⟩]⟩,
  ⟨"SWC_LINK_STAT", 0x600100, [⟨0x4, 0, 49⟩],
    [⟨31, 31, .ro, 0x1, none⟩, ⟨30, 30, .ro, 0x0, none⟩, ⟨29, 29, .ro, 0x0, none⟩, ⟨18, 0, .ro, 0x0, none⟩]⟩,
  ⟨"SWC_DROP_CNT", 0x600200, [⟨0x4, 0, 49⟩],
    [⟨31, 0, .rc, 0x0, none⟩]⟩,
  ⟨"SWC_FLAP_CNT", 0x600300, [⟨0x4, 0, 49⟩],
    [⟨31, 16, .rc, 0x0, none⟩, ⟨15, 0, .rc, 0x0, none⟩]⟩,
  ⟨"BPM_MGT_OP", 0x700010, [],
    [⟨31, 28, .wo, 0x0, none⟩, ⟨23, 23, .wo, 0x0, none⟩, ⟨22, 0, .wo, 0x0, none⟩]⟩,
  ⟨"BPM_MGT_PTR", 0x700014, [],
    [⟨31, 0, .rw, 0x0, none⟩]⟩,
  ⟨"BPM_MGT_RESP", 0x700018, [],
    [⟨31, 31, .ro, 0x0, none⟩, ⟨7, 0, .ro, 0x0, none⟩]⟩,
  ⟨"BPM_FAULT_STAT", 0x700020, [],
    [⟨31, 31, .w1c, 0x0, none⟩, ⟨30, 28, .ro, 0x0, none⟩, ⟨27, 24, .ro, 0x0, none⟩, ⟨19, 0, .ro, 0x0, none⟩]⟩,
  ⟨"BPM_FAULT_PTR", 0x700024, [],
    [⟨31, 0, .ro, 0x0, none⟩]⟩,
  ⟨"BPM_FAULT_CNT", 0x700040, [⟨0x4, 1, 7⟩],
    [⟨31, 0, .rc, 0x0, none⟩]⟩,
  ⟨"BPM_BUF_SEL", 0x700030, [],
    [⟨31, 0, .rw, 0x0, none⟩]⟩,
  ⟨"BPM_BUF_INFO", 0x700034, [],
    [⟨31, 0, .ro, 0x0, none⟩]⟩,
  ⟨"BPM_POOL_CFG", 0x700100, [⟨0x20, 0, 5⟩],
    [⟨31, 31, .rwt, 0x0, none⟩, ⟨30, 28, .rwt, 0x4, none⟩, ⟨22, 0, .rwt, 0x0, none⟩]⟩,
  ⟨"BPM_POOL_BASE", 0x700104, [⟨0x20, 0, 5⟩],
    [⟨13, 0, .rwt, 0x0, some (16, 12287)⟩]⟩,
  ⟨"BPM_POOL_RSV", 0x700108, [⟨0x20, 0, 5⟩],
    [⟨22, 0, .rwt, 0x0, none⟩]⟩,
  ⟨"BPM_POOL_FREE", 0x70010c, [⟨0x20, 0, 5⟩],
    [⟨22, 0, .ro, 0x0, none⟩]⟩,
  ⟨"BPM_POOL_NULL", 0x700110, [⟨0x20, 0, 5⟩],
    [⟨31, 0, .rc, 0x0, none⟩]⟩]

/-- Register rows of 07_switch_core_and_buffers.md. -/
def table07b : List RRow := [
  ⟨"BPM_POOL_FALL", 0x700114, [⟨0x20, 0, 5⟩],
    [⟨31, 16, .rc, 0x0, none⟩, ⟨15, 0, .rc, 0x0, none⟩]⟩,
  ⟨"BPM_POOL_QUAR", 0x700118, [⟨0x20, 0, 5⟩],
    [⟨22, 0, .ro, 0x0, none⟩]⟩,
  ⟨"BPM_POOL_LOW", 0x70011c, [⟨0x20, 0, 5⟩],
    [⟨22, 0, .rc, 0x0, none⟩]⟩]

/-- Register rows of 08_read_path_and_crema.md. -/
def table08a : List RRow := [
  ⟨"CRM_CFG", 0x800000, [],
    [⟨31, 31, .rwt, 0x0, none⟩, ⟨25, 16, .rwt, 0x100, some (1, 1023)⟩, ⟨15, 0, .rwt, 0x2, some (1, 65535)⟩]⟩,
  ⟨"CRM_DIR_BASE", 0x800004, [],
    [⟨13, 0, .rwt, 0x0, some (16, 12263)⟩]⟩,
  ⟨"CRM_FILL_RCP", 0x800008, [],
    [⟨10, 0, .rwt, 0x0, none⟩]⟩,
  ⟨"CRM_DECAY", 0x80000c, [],
    [⟨11, 0, .rwt, 0x3c, some (1, 3600)⟩]⟩,
  ⟨"CRM_STAT", 0x800010, [],
    [⟨31, 31, .ro, 0x0, none⟩, ⟨30, 30, .ro, 0x0, none⟩, ⟨9, 0, .ro, 0x0, none⟩]⟩,
  ⟨"CRM_CMD", 0x800014, [],
    [⟨31, 30, .wo, 0x0, none⟩, ⟨13, 0, .wo, 0x0, none⟩]⟩,
  ⟨"CRM_LIMIT", 0x800020, [⟨0x8, 1, 3⟩],
    [⟨22, 0, .rwt, 0x0, none⟩]⟩,
  ⟨"CRM_USE", 0x800024, [⟨0x8, 1, 3⟩],
    [⟨22, 0, .ro, 0x0, none⟩]⟩,
  ⟨"CRM_SKETCH_W_LO", 0x800040, [],
    [⟨31, 0, .ro, 0x0, none⟩]⟩,
  ⟨"CRM_SKETCH_W_HI", 0x800044, [],
    [⟨31, 0, .ro, 0x0, none⟩]⟩,
  ⟨"CRM_PROBE_NS", 0x800050, [],
    [⟨31, 0, .rw, 0x0, none⟩]⟩,
  ⟨"CRM_PROBE_GI_LO", 0x800054, [],
    [⟨31, 0, .rw, 0x0, none⟩]⟩,
  ⟨"CRM_PROBE_GI_HI", 0x800058, [],
    [⟨31, 0, .rw, 0x0, none⟩]⟩,
  ⟨"CRM_PROBE_RES", 0x80005c, [],
    [⟨31, 30, .ro, 0x0, none⟩, ⟨29, 29, .ro, 0x0, none⟩, ⟨15, 0, .ro, 0x0, none⟩]⟩,
  ⟨"CRM_CNT", 0x800100, [⟨0x4, 0, 12⟩],
    [⟨31, 0, .rc, 0x0, none⟩]⟩,
  ⟨"CRM_NS_CFG", 0x808000, [⟨0x4, 0, 16384⟩],
    [⟨10, 10, .ro, 0x0, none⟩, ⟨9, 8, .ro, 0x0, none⟩, ⟨4, 4, .rwt, 0x1, none⟩, ⟨3, 2, .rwt, 0x0, some (0, 2)⟩, ⟨1, 0, .rwt, 0x0, some (0, 2)⟩]⟩]

/-- Register rows of 09_layouts_and_write_path.md. -/
def table09a : List RRow := [
  ⟨"GAL_GRP_CFG", 0xa00000, [⟨0x20, 0, 16⟩],
    [⟨31, 31, .rwt, 0x0, none⟩, ⟨30, 29, .ro, 0x0, none⟩, ⟨28, 28, .ro, 0x0, none⟩, ⟨27, 26, .rwt, 0x0, some (0, 2)⟩, ⟨25, 21, .rwt, 0x0, none⟩, ⟨20, 18, .rwt, 0x0, none⟩, ⟨17, 15, .rwt, 0x2, some (0, 4)⟩, ⟨14, 10, .ro, 0x1f, none⟩]⟩,
  ⟨"GAL_GRP_MEM", 0xa00004, [⟨0x20, 0, 16⟩, ⟨0x4, 0, 4⟩],
    [⟨29, 0, .rwt, 0x3fffffff, none⟩]⟩,
  ⟨"GAL_GRP_STRIPES", 0xa00014, [⟨0x20, 0, 16⟩],
    [⟨31, 0, .ro, 0x0, none⟩]⟩,
  ⟨"GAL_GRP_JRN", 0xa00018, [⟨0x20, 0, 16⟩],
    [⟨31, 0, .ro, 0x0, none⟩]⟩,
  ⟨"GAL_GRP_UMOFF", 0xa0001c, [⟨0x20, 0, 16⟩],
    [⟨31, 0, .ro, 0x0, none⟩]⟩,
  ⟨"GAL_NS_MAP0", 0xa10000, [⟨0x10, 0, 16384⟩],
    [⟨31, 0, .ro, 0x0, none⟩]⟩,
  ⟨"GAL_NS_MAP1", 0xa10004, [⟨0x10, 0, 16384⟩],
    [⟨31, 0, .ro, 0x0, none⟩]⟩,
  ⟨"GAL_NS_MAP2", 0xa10008, [⟨0x10, 0, 16384⟩],
    [⟨31, 31, .ro, 0x0, none⟩, ⟨3, 0, .ro, 0x0, none⟩]⟩,
  ⟨"CAR_CFG", 0xb00000, [],
    [⟨31, 31, .rwt, 0x0, none⟩]⟩,
  ⟨"CAR_GATHER_DL", 0xb00004, [],
    [⟨15, 0, .rwt, 0x32, some (1, 1000)⟩]⟩,
  ⟨"CAR_PRESS", 0xb00008, [],
    [⟨15, 8, .rwt, 0x4b, none⟩, ⟨7, 0, .rwt, 0x32, none⟩]⟩,
  ⟨"CAR_CKPT", 0xb0000c, [],
    [⟨15, 0, .rwt, 0x3e8, some (100, 60000)⟩]⟩,
  ⟨"CAR_STAT", 0xb00010, [],
    [⟨31, 31, .ro, 0x0, none⟩, ⟨30, 28, .ro, 0x0, none⟩, ⟨27, 27, .ro, 0x0, none⟩, ⟨22, 16, .ro, 0x0, none⟩, ⟨13, 0, .ro, 0x0, none⟩]⟩,
  ⟨"CAR_ERR_STAT", 0xb00014, [],
    [⟨31, 16, .rc, 0x0, none⟩, ⟨15, 0, .rc, 0x0, none⟩]⟩,
  ⟨"CAR_HEAD_LO", 0xb00018, [],
    [⟨31, 0, .ro, 0x0, none⟩]⟩,
  ⟨"CAR_HEAD_HI", 0xb0001c, [],
    [⟨31, 0, .ro, 0x0, none⟩]⟩,
  ⟨"CAR_TAIL_LO", 0xb00020, [],
    [⟨31, 0, .ro, 0x0, none⟩]⟩,
  ⟨"CAR_TAIL_HI", 0xb00024, [],
    [⟨31, 0, .ro, 0x0, none⟩]⟩,
  ⟨"CAR_IDX_BASE", 0xb00028, [],
    [⟨13, 0, .rwt, 0x0, some (16, 12287)⟩]⟩,
  ⟨"CAR_UMAP_BASE", 0xb0002c, [],
    [⟨13, 0, .rwt, 0x0, some (16, 12287)⟩]⟩]

/-- Register rows of 09_layouts_and_write_path.md. -/
def table09b : List RRow := [
  ⟨"CAR_IDX_STAT", 0xb00030, [],
    [⟨21, 0, .ro, 0x0, none⟩]⟩,
  ⟨"CAR_RANGE_STAT", 0xb00034, [],
    [⟨12, 0, .ro, 0x0, none⟩]⟩,
  ⟨"CAR_REPLAY_STAT", 0xb00038, [],
    [⟨31, 24, .ro, 0x0, none⟩, ⟨23, 12, .ro, 0x0, none⟩, ⟨11, 0, .ro, 0x0, none⟩]⟩,
  ⟨"CAR_WT_MARK", 0xb0003c, [],
    [⟨0, 0, .ro, 0x0, none⟩]⟩,
  ⟨"CAR_TEN_QUOTA_LO", 0xb04000, [⟨0x10, 0, 4096⟩],
    [⟨31, 0, .rwt, 0xffffffff, none⟩]⟩,
  ⟨"CAR_TEN_QUOTA_HI", 0xb04004, [⟨0x10, 0, 4096⟩],
    [⟨31, 0, .rwt, 0xffffffff, none⟩]⟩,
  ⟨"CAR_TEN_USE_LO", 0xb04008, [⟨0x10, 0, 4096⟩],
    [⟨31, 0, .ro, 0x0, none⟩]⟩,
  ⟨"CAR_TEN_USE_HI", 0xb0400c, [⟨0x10, 0, 4096⟩],
    [⟨31, 0, .ro, 0x0, none⟩]⟩,
  ⟨"CAR_OVERQ", 0xb20000, [⟨0x4, 0, 128⟩],
    [⟨31, 0, .ro, 0x0, none⟩]⟩]

/-- Register rows of 10_rebuild_cupping_regrind.md. -/
def table10a : List RRow := [
  ⟨"RBD_CFG", 0xc00000, [],
    [⟨31, 20, .rwt, 0x190, none⟩, ⟨16, 16, .rwt, 0x1, none⟩, ⟨15, 8, .rwt, 0x5, some (1, 60)⟩, ⟨7, 0, .rwt, 0x20, some (1, 255)⟩]⟩,
  ⟨"RBD_CUP_CFG", 0xc00020, [],
    [⟨31, 31, .rwt, 0x1, none⟩, ⟨7, 0, .rwt, 0xe, some (1, 255)⟩]⟩,
  ⟨"RBD_REP_STAT", 0xc00030, [],
    [⟨31, 16, .rc, 0x0, none⟩, ⟨12, 0, .ro, 0x0, none⟩]⟩,
  ⟨"RBD_REP_CNT", 0xc00034, [],
    [⟨31, 0, .rc, 0x0, none⟩]⟩,
  ⟨"RBD_LST_STAT", 0xc00038, [],
    [⟨31, 17, .rc, 0x0, none⟩, ⟨16, 0, .ro, 0x0, none⟩]⟩,
  ⟨"RBD_LST_GEN", 0xc0003c, [],
    [⟨31, 0, .ro, 0x0, none⟩]⟩,
  ⟨"RBD_CUP_CNT", 0xc00040, [⟨0x4, 0, 6⟩],
    [⟨31, 0, .rc, 0x0, none⟩]⟩,
  ⟨"RBD_BSET0", 0xc00100, [⟨0x8, 0, 16⟩],
    [⟨27, 16, .rwt, 0xa, none⟩, ⟨11, 0, .rwt, 0x64, none⟩]⟩,
  ⟨"RBD_BSET1", 0xc00104, [⟨0x8, 0, 16⟩],
    [⟨27, 16, .rwt, 0x1, none⟩, ⟨11, 0, .rwt, 0x32, none⟩]⟩,
  ⟨"RBD_MEM_STAT", 0xc00200, [⟨0x4, 0, 24⟩],
    [⟨31, 29, .ro, 0x0, none⟩, ⟨28, 25, .ro, 0x0, none⟩, ⟨24, 24, .ro, 0x0, none⟩, ⟨23, 20, .ro, 0x0, none⟩, ⟨19, 15, .ro, 0x0, none⟩, ⟨7, 0, .ro, 0x0, none⟩]⟩,
  ⟨"RBD_MEM_CMD", 0xc00260, [],
    [⟨31, 29, .wo, 0x0, none⟩, ⟨4, 0, .wo, 0x0, none⟩]⟩,
  ⟨"RBD_CMD_STAT", 0xc00264, [],
    [⟨2, 0, .ro, 0x0, none⟩]⟩,
  ⟨"RBD_GRP_STAT", 0xc00300, [⟨0x10, 0, 16⟩],
    [⟨31, 31, .ro, 0x0, none⟩, ⟨30, 30, .ro, 0x0, none⟩, ⟨29, 29, .ro, 0x0, none⟩, ⟨28, 24, .ro, 0x0, none⟩, ⟨23, 19, .ro, 0x0, none⟩]⟩,
  ⟨"RBD_RB_CUR", 0xc00304, [⟨0x10, 0, 16⟩],
    [⟨31, 0, .ro, 0x0, none⟩]⟩,
  ⟨"RBD_RB_LEFT", 0xc00308, [⟨0x10, 0, 16⟩],
    [⟨31, 0, .ro, 0x0, none⟩]⟩,
  ⟨"RBD_SPARE", 0xc00400, [⟨0x8, 0, 16⟩],
    [⟨31, 0, .rwt, 0x0, none⟩]⟩,
  ⟨"RBD_SPARE_STAT", 0xc00404, [⟨0x8, 0, 16⟩],
    [⟨31, 31, .ro, 0x0, none⟩, ⟨4, 0, .ro, 0x1f, none⟩]⟩,
  ⟨"RBD_CUP_STAT", 0xc00500, [⟨0x10, 0, 16⟩],
    [⟨31, 0, .ro, 0x0, none⟩]⟩,
  ⟨"RBD_CUP_PASS", 0xc00504, [⟨0x10, 0, 16⟩],
    [⟨31, 16, .ro, 0x0, none⟩, ⟨15, 15, .ro, 0x0, none⟩, ⟨14, 14, .ro, 0x0, none⟩]⟩,
  ⟨"RBD_RG_CFG", 0xc00600, [],
    [⟨31, 28, .rwt, 0x0, none⟩, ⟨27, 24, .rwt, 0x0, none⟩, ⟨23, 22, .rwt, 0x2, some (0, 2)⟩, ⟨21, 17, .rwt, 0x0, none⟩, ⟨16, 14, .rwt, 0x0, none⟩, ⟨13, 11, .rwt, 0x2, some (0, 4)⟩]⟩]

/-- Register rows of 10_rebuild_cupping_regrind.md. -/
def table10b : List RRow := [
  ⟨"RBD_RG_MEM", 0xc00604, [⟨0x4, 0, 4⟩],
    [⟨29, 0, .rwt, 0x3fffffff, none⟩]⟩,
  ⟨"RBD_RG_CTRL", 0xc00614, [],
    [⟨31, 30, .rwt, 0x0, none⟩]⟩,
  ⟨"RBD_RG_STAT", 0xc00618, [],
    [⟨31, 28, .ro, 0x0, none⟩, ⟨27, 24, .ro, 0x0, none⟩]⟩,
  ⟨"RBD_RG_CUR_LO", 0xc0061c, [],
    [⟨31, 0, .ro, 0x0, none⟩]⟩,
  ⟨"RBD_RG_CUR_HI", 0xc00620, [],
    [⟨31, 0, .ro, 0x0, none⟩]⟩]

/-- Register rows of 11_tamp_and_cipher.md. -/
def table11a : List RRow := [
  ⟨"TMP_CNT", 0xd00100, [⟨0x4, 0, 5⟩],
    [⟨31, 0, .rc, 0x0, none⟩]⟩,
  ⟨"TMP_NS_CFG", 0xd08000, [⟨0x4, 0, 16384⟩],
    [⟨0, 0, .ro, 0x0, none⟩]⟩,
  ⟨"CIP_CTAB_BASE", 0xe00000, [],
    [⟨13, 0, .rwt, 0x0, some (16, 12279)⟩]⟩,
  ⟨"CIP_FAULT_STAT", 0xe00004, [],
    [⟨31, 31, .w1c, 0x0, none⟩, ⟨30, 28, .ro, 0x0, none⟩, ⟨27, 16, .ro, 0x0, none⟩]⟩,
  ⟨"CIP_FAULT_ID", 0xe00008, [],
    [⟨31, 31, .ro, 0x0, none⟩, ⟨17, 0, .ro, 0x0, none⟩]⟩,
  ⟨"CIP_FAULT_TAG", 0xe0000c, [],
    [⟨19, 0, .ro, 0x0, none⟩]⟩,
  ⟨"CIP_FAULT_CNT", 0xe00010, [⟨0x4, 1, 6⟩],
    [⟨31, 0, .rc, 0x0, none⟩]⟩,
  ⟨"CIP_SKEK_STAT", 0xe00040, [],
    [⟨31, 31, .ro, 0x0, none⟩, ⟨30, 30, .ro, 0x0, none⟩, ⟨0, 0, .ro, 0x0, none⟩]⟩,
  ⟨"CIP_SKEK", 0xe00100, [⟨0x4, 0, 24⟩],
    [⟨31, 0, .ro, 0x0, none⟩]⟩,
  ⟨"KP_STAT", 0x2000000, [⟨0x1000, 0, 4096⟩],
    [⟨31, 24, .ro, 0x0, none⟩, ⟨23, 23, .ro, 0x0, none⟩, ⟨3, 0, .ro, 0x0, none⟩]⟩,
  ⟨"KP_CMD", 0x2000004, [⟨0x1000, 0, 4096⟩],
    [⟨31, 28, .wo, 0x0, none⟩, ⟨3, 0, .wo, 0x0, none⟩]⟩,
  ⟨"KP_RESULT", 0x2000008, [⟨0x1000, 0, 4096⟩],
    [⟨15, 0, .ro, 0x0, none⟩]⟩,
  ⟨"KP_SLOT_STAT", 0x2000010, [⟨0x1000, 0, 4096⟩, ⟨0x4, 0, 2⟩],
    [⟨31, 0, .ro, 0x0, none⟩]⟩,
  ⟨"KP_SLOT_ID", 0x2000040, [⟨0x1000, 0, 4096⟩, ⟨0x4, 0, 16⟩],
    [⟨31, 0, .ro, 0x0, none⟩]⟩,
  ⟨"KP_UNREACHED", 0x2000080, [⟨0x1000, 0, 4096⟩],
    [⟨23, 0, .ro, 0x0, none⟩]⟩,
  ⟨"KP_BLOB", 0x2000100, [⟨0x1000, 0, 4096⟩, ⟨0x4, 0, 20⟩],
    [⟨31, 0, .wo, 0x0, none⟩]⟩]

/-- Register rows of 12_network_ports.md. -/
def table12a : List RRow := [
  ⟨"NET_BRK", 0x1000000, [],
    [⟨1, 0, .rwt, 0x0, none⟩]⟩,
  ⟨"NET_RC_CFG", 0x1000010, [],
    [⟨23, 21, .rwt, 0x7, some (1, 7)⟩, ⟨20, 16, .rwt, 0xc, some (8, 20)⟩, ⟨15, 8, .rwt, 0x10, some (1, 16)⟩, ⟨1, 0, .rwt, 0x2, some (0, 2)⟩]⟩,
  ⟨"NET_TCP_CFG", 0x1000014, [],
    [⟨31, 16, .rwt, 0x3e8, some (100, 60000)⟩, ⟨7, 4, .rwt, 0x8, some (1, 15)⟩, ⟨3, 3, .rwt, 0x1, none⟩]⟩,
  ⟨"NET_CC_CFG", 0x1000018, [],
    [⟨31, 24, .rwt, 0x80, some (1, 255)⟩, ⟨23, 12, .rwt, 0xa, none⟩, ⟨10, 8, .rwt, 0x7, none⟩, ⟨7, 0, .rwt, 0x32, some (1, 255)⟩]⟩,
  ⟨"NET_CLS_MAP", 0x1000040, [⟨0x4, 0, 8⟩],
    [⟨31, 29, .rwt, 0x0, none⟩, ⟨28, 23, .rwt, 0x0, none⟩]⟩,
  ⟨"NET_PORT_CFG", 0x1000100, [⟨0x80, 0, 24⟩],
    [⟨31, 31, .rwt, 0x0, none⟩, ⟨30, 28, .rwt, 0x0, some (0, 3)⟩, ⟨26, 20, .rwt, 0x14, none⟩, ⟨19, 12, .rwt, 0x0, none⟩, ⟨11, 0, .rwt, 0x0, some (0, 4094)⟩]⟩,
  ⟨"NET_PORT_STAT", 0x1000104, [⟨0x80, 0, 24⟩],
    [⟨31, 31, .ro, 0x1, none⟩, ⟨30, 30, .ro, 0x0, none⟩, ⟨29, 29, .ro, 0x0, none⟩, ⟨28, 28, .ro, 0x0, none⟩, ⟨19, 12, .ro, 0x0, none⟩, ⟨11, 8, .ro, 0x1, none⟩, ⟨2, 0, .ro, 0x1, none⟩]⟩,
  ⟨"NET_PORT_PFC", 0x1000108, [⟨0x80, 0, 24⟩],
    [⟨31, 16, .rwt, 0xa0, none⟩, ⟨15, 0, .rwt, 0x60, none⟩]⟩,
  ⟨"NET_PORT_WRR", 0x100010c, [⟨0x80, 0, 24⟩],
    [⟨31, 0, .rwt, 0x11111111, none⟩]⟩,
  ⟨"NET_PORT_IP4", 0x1000110, [⟨0x80, 0, 24⟩],
    [⟨31, 0, .rwt, 0x0, none⟩]⟩,
  ⟨"NET_PORT_IP6", 0x1000114, [⟨0x80, 0, 24⟩, ⟨0x4, 0, 4⟩],
    [⟨31, 0, .rwt, 0x0, none⟩]⟩,
  ⟨"NET_PORT_MTU", 0x1000124, [⟨0x80, 0, 24⟩],
    [⟨13, 0, .rwt, 0x2400, some (1518, 9216)⟩]⟩,
  ⟨"NET_PORT_CNT", 0x1000140, [⟨0x80, 0, 24⟩, ⟨0x4, 0, 14⟩],
    [⟨31, 0, .rc, 0x0, none⟩]⟩,
  ⟨"NET_CSHP_RATE", 0x1001000, [⟨0x40, 0, 24⟩, ⟨0x8, 0, 8⟩],
    [⟨31, 31, .rwt, 0x0, none⟩, ⟨20, 0, .rwt, 0x0, some (0, 1600000)⟩]⟩,
  ⟨"NET_CSHP_BKT", 0x1001004, [⟨0x40, 0, 24⟩, ⟨0x8, 0, 8⟩],
    [⟨23, 0, .rwt, 0x100000, some (1, 16777215)⟩]⟩,
  ⟨"NET_TSHP_RATE", 0x1002000, [⟨0x10, 0, 4096⟩],
    [⟨31, 31, .rwt, 0x0, none⟩, ⟨20, 0, .rwt, 0x0, some (0, 1600000)⟩]⟩,
  ⟨"NET_TSHP_BKT", 0x1002004, [⟨0x10, 0, 4096⟩],
    [⟨23, 0, .rwt, 0x100000, some (1, 16777215)⟩]⟩,
  ⟨"NET_TSHP_TOK", 0x1002008, [⟨0x10, 0, 4096⟩],
    [⟨24, 0, .ro, 0x100000, none⟩]⟩,
  ⟨"NET_TEN_CFG", 0x100200c, [⟨0x10, 0, 4096⟩],
    [⟨2, 0, .rwt, 0x0, none⟩]⟩,
  ⟨"NET_GCL_CTRL", 0x1020000, [⟨0x1000, 0, 24⟩],
    [⟨31, 31, .rwt, 0x0, none⟩, ⟨8, 0, .rwt, 0x1, some (1, 256)⟩]⟩]

/-- Register rows of 12_network_ports.md. -/
def table12b : List RRow := [
  ⟨"NET_GCL_CYCLE", 0x1020004, [⟨0x1000, 0, 24⟩],
    [⟨29, 0, .rwt, 0xf4240, some (1000, 1000000000)⟩]⟩,
  ⟨"NET_GCL_BASE_LO", 0x1020008, [⟨0x1000, 0, 24⟩],
    [⟨31, 0, .rwt, 0x0, none⟩]⟩,
  ⟨"NET_GCL_BASE_HI", 0x102000c, [⟨0x1000, 0, 24⟩],
    [⟨15, 0, .rwt, 0x0, none⟩]⟩,
  ⟨"NET_GCL_BASE_NS", 0x1020010, [⟨0x1000, 0, 24⟩],
    [⟨29, 0, .rwt, 0x0, some (0, 999999999)⟩]⟩,
  ⟨"NET_GCL_STAT", 0x1020014, [⟨0x1000, 0, 24⟩],
    [⟨31, 30, .ro, 0x0, none⟩, ⟨29, 29, .ro, 0x0, none⟩, ⟨15, 8, .ro, 0x0, none⟩]⟩,
  ⟨"NET_GCL_ADMIN", 0x1020400, [⟨0x1000, 0, 24⟩, ⟨0x4, 0, 256⟩],
    [⟨31, 24, .rwt, 0xff, none⟩, ⟨23, 0, .rwt, 0x3d09, none⟩]⟩,
  ⟨"NET_GCL_OPER", 0x1020800, [⟨0x1000, 0, 24⟩, ⟨0x4, 0, 256⟩],
    [⟨31, 24, .ro, 0xff, none⟩, ⟨23, 0, .ro, 0x3d09, none⟩]⟩]

/-- Register rows of 13_pairing_and_failover.md. -/
def table13a : List RRow := [
  ⟨"PEER_CFG", 0x1400000, [],
    [⟨31, 31, .rwt, 0x1, none⟩, ⟨30, 30, .rwt, 0x0, none⟩, ⟨27, 24, .rwt, 0x8, some (1, 15)⟩]⟩,
  ⟨"PEER_STAT", 0x1400004, [],
    [⟨31, 31, .ro, 0x0, none⟩, ⟨30, 29, .ro, 0x0, none⟩, ⟨28, 28, .ro, 0x0, none⟩, ⟨27, 27, .ro, 0x0, none⟩, ⟨26, 26, .ro, 0x0, none⟩, ⟨25, 25, .ro, 0x0, none⟩, ⟨24, 24, .ro, 0x0, none⟩, ⟨23, 20, .ro, 0xf, none⟩, ⟨15, 0, .ro, 0xffff, none⟩]⟩,
  ⟨"PEER_LEASE", 0x1400008, [],
    [⟨31, 30, .ro, 0x0, none⟩, ⟨15, 0, .ro, 0x0, none⟩]⟩,
  ⟨"PEER_EPOCH", 0x140000c, [],
    [⟨31, 0, .ro, 0x0, none⟩]⟩,
  ⟨"PEER_WIN_EPOCH", 0x1400010, [],
    [⟨31, 16, .ro, 0x1, none⟩, ⟨15, 0, .ro, 0x0, none⟩]⟩,
  ⟨"PEER_APPLIED_LO", 0x1400014, [],
    [⟨31, 0, .ro, 0x0, none⟩]⟩,
  ⟨"PEER_APPLIED_HI", 0x1400018, [],
    [⟨31, 0, .ro, 0x0, none⟩]⟩,
  ⟨"PEER_SWO_DRIVE", 0x140001c, [],
    [⟨31, 0, .ro, 0xffffffff, none⟩]⟩,
  ⟨"PEER_SWO_SERVE", 0x1400020, [],
    [⟨31, 0, .ro, 0xffffffff, none⟩]⟩,
  ⟨"PEER_FAULT_STAT", 0x1400024, [],
    [⟨31, 31, .w1c, 0x0, none⟩, ⟨7, 0, .ro, 0x0, none⟩]⟩,
  ⟨"PEER_CNT", 0x1400040, [⟨0x4, 0, 10⟩],
    [⟨31, 0, .rc, 0x0, none⟩]⟩,
  ⟨"PEER_WIN_ADM", 0x1400100, [⟨0x10, 0, 16⟩],
    [⟨31, 31, .rwt, 0x0, none⟩, ⟨15, 0, .rwt, 0x0, none⟩]⟩,
  ⟨"PEER_WIN_OPR", 0x1400108, [⟨0x10, 0, 16⟩],
    [⟨31, 31, .ro, 0x0, none⟩, ⟨15, 0, .ro, 0x0, none⟩]⟩,
  ⟨"PEER_WIN_ASZ", 0x1400104, [⟨0x10, 0, 16⟩],
    [⟨16, 0, .rwt, 0x0, none⟩]⟩,
  ⟨"PEER_WIN_OSZ", 0x140010c, [⟨0x10, 0, 16⟩],
    [⟨16, 0, .ro, 0x0, none⟩]⟩]

/-- Register rows of 14_bay_power.md. -/
def table14a : List RRow := [
  ⟨"BAY_CFG", 0x1500000, [],
    [⟨31, 16, .rwt, 0x2ee0, some (12000, 13200)⟩, ⟨4, 0, .rwt, 0x4, some (1, 24)⟩]⟩,
  ⟨"BAY_STAT", 0x1500004, [],
    [⟨31, 31, .ro, 0x0, none⟩, ⟨30, 30, .ro, 0x0, none⟩, ⟨23, 0, .ro, 0x0, none⟩]⟩,
  ⟨"BAY_PS2_OVR", 0x1500008, [],
    [⟨31, 24, .wo, 0x0, none⟩, ⟨23, 0, .rwp, 0x0, none⟩]⟩,
  ⟨"BAY_EVT_STAT", 0x150000c, [],
    [⟨31, 16, .rc, 0x0, none⟩, ⟨10, 0, .ro, 0x0, none⟩]⟩,
  ⟨"BAY_CH_CFG", 0x1500100, [⟨0x40, 0, 24⟩],
    [⟨31, 31, .rwt, 0x1, none⟩, ⟨30, 30, .rwt, 0x1, none⟩, ⟨29, 28, .rwt, 0x0, some (0, 1)⟩, ⟨27, 22, .rwt, 0xa, some (1, 50)⟩, ⟨17, 9, .rwt, 0x32, some (1, 500)⟩]⟩,
  ⟨"BAY_CH_ILIM", 0x1500104, [⟨0x40, 0, 24⟩],
    [⟨31, 16, .rwt, 0x4e20, some (8000, 40000)⟩, ⟨15, 0, .rwt, 0xbb8, some (500, 8300)⟩]⟩,
  ⟨"BAY_CH_RSNS", 0x1500108, [⟨0x40, 0, 24⟩],
    [⟨12, 0, .rwt, 0x3e8, some (500, 5000)⟩]⟩,
  ⟨"BAY_CH_THM", 0x150010c, [⟨0x40, 0, 24⟩],
    [⟨31, 16, .rwt, 0xfa0, some (1, 10000)⟩, ⟨15, 0, .rwt, 0xfa, some (1, 65535)⟩]⟩,
  ⟨"BAY_CH_STAT", 0x1500110, [⟨0x40, 0, 24⟩],
    [⟨31, 29, .ro, 0x0, none⟩, ⟨28, 28, .ro, 0x0, none⟩, ⟨27, 27, .ro, 0x0, none⟩, ⟨26, 26, .ro, 0x0, none⟩, ⟨25, 25, .ro, 0x0, none⟩, ⟨24, 24, .w1c, 0x0, none⟩, ⟨23, 20, .ro, 0x0, none⟩, ⟨19, 17, .ro, 0x1, none⟩, ⟨15, 0, .ro, 0x0, none⟩]⟩,
  ⟨"BAY_CH_MEAS0", 0x1500114, [⟨0x40, 0, 24⟩],
    [⟨31, 16, .ro, 0x0, none⟩, ⟨15, 0, .ro, 0x0, none⟩]⟩,
  ⟨"BAY_CH_MEAS1", 0x1500118, [⟨0x40, 0, 24⟩],
    [⟨31, 22, .ro, 0x0, none⟩, ⟨15, 0, .ro, 0x0, none⟩]⟩,
  ⟨"BAY_CH_CMD", 0x150011c, [⟨0x40, 0, 24⟩],
    [⟨31, 29, .wo, 0x0, none⟩]⟩,
  ⟨"BAY_CH_CNT", 0x1500120, [⟨0x40, 0, 24⟩],
    [⟨31, 16, .rc, 0x0, none⟩, ⟨15, 0, .rc, 0x0, none⟩]⟩,
  ⟨"BAY_CH_OFS", 0x1500124, [⟨0x40, 0, 24⟩],
    [⟨15, 0, .ro, 0x0, none⟩]⟩]

/-- Register rows of 15_management_and_transactions.md. -/
def table15a : List RRow := [
  ⟨"MGT_CFG", 0x1600000, [],
    [⟨1, 1, .rw, 0x0, none⟩, ⟨0, 0, .rw, 0x1, none⟩]⟩,
  ⟨"MGT_MB_DB", 0x1600004, [],
    [⟨3, 0, .w1s, 0x0, none⟩]⟩,
  ⟨"MGT_MB_STAT", 0x1600008, [],
    [⟨11, 8, .w1c, 0x0, none⟩, ⟨3, 0, .ro, 0x0, none⟩]⟩,
  ⟨"MGT_TXN_SEL", 0x1600010, [],
    [⟨15, 0, .rw, 0x0, none⟩]⟩,
  ⟨"MGT_TXN_CFG", 0x1600014, [],
    [⟨11, 0, .rw, 0x1e, some (1, 3600)⟩]⟩,
  ⟨"MGT_TXN_STAT", 0x1600018, [],
    [⟨31, 31, .w1c, 0x0, none⟩, ⟨30, 30, .ro, 0x0, none⟩, ⟨27, 24, .ro, 0x0, none⟩, ⟨23, 20, .ro, 0x0, none⟩, ⟨15, 0, .ro, 0x0, none⟩]⟩,
  ⟨"MGT_TXN_INFO", 0x1600020, [⟨0x4, 0, 8⟩],
    [⟨31, 29, .ro, 0x0, none⟩, ⟨28, 27, .ro, 0x0, none⟩, ⟨26, 16, .ro, 0x0, none⟩, ⟨15, 0, .ro, 0x0, none⟩]⟩,
  ⟨"MGT_LAST_CMT", 0x1600040, [],
    [⟨31, 16, .ro, 0x0, none⟩, ⟨15, 0, .ro, 0x0, none⟩]⟩,
  ⟨"MGT_INBAND_PERM", 0x1600044, [],
    [⟨15, 0, .rwt, 0x81, none⟩]⟩,
  ⟨"MGT_CNT", 0x1600080, [⟨0x4, 0, 6⟩],
    [⟨31, 0, .rc, 0x0, none⟩]⟩,
  ⟨"PCR_STAT", 0x1700000, [],
    [⟨31, 31, .w1c, 0x0, none⟩, ⟨30, 30, .ro, 0x0, none⟩, ⟨29, 28, .ro, 0x0, none⟩, ⟨25, 16, .ro, 0x0, none⟩, ⟨10, 0, .ro, 0x0, none⟩]⟩,
  ⟨"PCR_SEL", 0x1700004, [],
    [⟨9, 0, .rw, 0x0, none⟩]⟩,
  ⟨"PCR_INFO", 0x1700008, [],
    [⟨31, 29, .ro, 0x0, none⟩, ⟨28, 24, .ro, 0x10, none⟩, ⟨16, 0, .ro, 0x0, none⟩]⟩,
  ⟨"PCR_USER", 0x1700100, [⟨0x4, 0, 256⟩],
    [⟨31, 0, .rwp, 0x0, none⟩]⟩]

/-- Register rows of 16_service_endpoint.md. -/
def table16a : List RRow := [
  ⟨"EPT_STAT", 0x1800000, [],
    [⟨31, 31, .ro, 0x0, none⟩, ⟨27, 24, .ro, 0x0, none⟩, ⟨23, 20, .ro, 0x0, none⟩, ⟨19, 18, .ro, 0x0, none⟩, ⟨17, 17, .ro, 0x0, none⟩, ⟨16, 16, .ro, 0x0, none⟩, ⟨15, 15, .ro, 0x1, none⟩, ⟨14, 13, .ro, 0x0, none⟩, ⟨12, 12, .ro, 0x0, none⟩, ⟨11, 11, .ro, 0x0, none⟩]⟩,
  ⟨"EPT_INT_STAT", 0x1800004, [],
    [⟨5, 0, .w1c, 0x0, none⟩]⟩,
  ⟨"EPT_INT_EN", 0x1800008, [],
    [⟨5, 0, .rw, 0x3, none⟩]⟩,
  ⟨"EPT_WAKE_EN", 0x180000c, [],
    [⟨5, 0, .rw, 0x2, none⟩]⟩,
  ⟨"EPT_RST_CNT", 0x1800010, [],
    [⟨31, 24, .rc, 0x0, none⟩, ⟨23, 16, .rc, 0x0, none⟩, ⟨15, 8, .rc, 0x0, none⟩, ⟨7, 0, .rc, 0x0, none⟩]⟩,
  ⟨"EPT_DISC_CNT", 0x1800014, [],
    [⟨31, 16, .rc, 0x0, none⟩, ⟨15, 0, .rc, 0x0, none⟩]⟩,
  ⟨"EPT_MSIX", 0x1801000, [⟨0x10, 0, 6⟩, ⟨0x4, 0, 4⟩],
    [⟨31, 0, .rw, 0x0, none⟩]⟩,
  ⟨"EPT_MSIX_PBA", 0x1801800, [],
    [⟨5, 0, .ro, 0x0, none⟩]⟩]

/-- Register rows of 17_firmware_and_trust.md. -/
def table17a : List RRow := [
  ⟨"FWU_STAT", 0x1900000, [],
    [⟨31, 16, .ro, 0x0, none⟩, ⟨15, 15, .ro, 0x0, none⟩, ⟨14, 12, .ro, 0x0, none⟩, ⟨11, 9, .ro, 0x0, none⟩, ⟨8, 7, .ro, 0x0, none⟩, ⟨6, 6, .ro, 0x0, none⟩, ⟨5, 5, .ro, 0x0, none⟩, ⟨4, 4, .ro, 0x0, none⟩, ⟨3, 2, .ro, 0x0, none⟩, ⟨1, 0, .ro, 0x0, none⟩]⟩,
  ⟨"FWU_DL_STAT", 0x1900004, [],
    [⟨31, 31, .ro, 0x0, none⟩, ⟨16, 0, .ro, 0x0, none⟩]⟩,
  ⟨"FWU_SVN", 0x1900008, [],
    [⟨31, 0, .ro, 0x0, none⟩]⟩,
  ⟨"FWU_TRIAL_CFG", 0x190000c, [],
    [⟨31, 16, .rwp, 0x12c, some (60, 3600)⟩, ⟨15, 0, .rwp, 0x3c, none⟩]⟩,
  ⟨"FWU_KEYS", 0x1900050, [],
    [⟨7, 4, .ro, 0x0, none⟩, ⟨3, 0, .ro, 0x0, none⟩]⟩,
  ⟨"FWU_SLOT", 0x1900010, [⟨0x10, 0, 4⟩],
    [⟨31, 30, .ro, 0x0, none⟩, ⟨29, 28, .ro, 0x0, none⟩]⟩,
  ⟨"FWU_SLOT_SVN", 0x1900014, [⟨0x10, 0, 4⟩],
    [⟨31, 0, .ro, 0x0, none⟩]⟩,
  ⟨"FWU_SLOT_VER_LO", 0x1900018, [⟨0x10, 0, 4⟩],
    [⟨31, 0, .ro, 0x0, none⟩]⟩,
  ⟨"FWU_SLOT_VER_HI", 0x190001c, [⟨0x10, 0, 4⟩],
    [⟨31, 0, .ro, 0x0, none⟩]⟩,
  ⟨"FWU_SPDM_ROOT", 0x1900080, [⟨0x4, 0, 8⟩],
    [⟨31, 0, .ro, 0x0, none⟩]⟩]

/-- Register rows of 18_telemetry.md. -/
def table18a : List RRow := [
  ⟨"TEL_CFG", 0x1a00000, [],
    [⟨31, 31, .rwt, 0x1, none⟩, ⟨15, 0, .rwt, 0x3e8, some (1, 60000)⟩]⟩,
  ⟨"TEL_STAT", 0x1a00004, [],
    [⟨31, 31, .ro, 0x0, none⟩, ⟨30, 30, .ro, 0x0, none⟩]⟩,
  ⟨"TEL_SEQ", 0x1a00008, [],
    [⟨31, 0, .ro, 0x0, none⟩]⟩,
  ⟨"TEL_SMP_STAT", 0x1a0000c, [],
    [⟨31, 16, .rc, 0x0, none⟩, ⟨11, 0, .ro, 0x0, none⟩]⟩,
  ⟨"TEL_SMP_TAIL", 0x1a00010, [],
    [⟨11, 0, .rw, 0x0, none⟩]⟩,
  ⟨"TEL_TEN_PERM", 0x1a00100, [⟨0x4, 0, 128⟩],
    [⟨31, 0, .rwt, 0x0, none⟩]⟩,
  ⟨"TEL_SEL", 0x1a01000, [⟨0x4, 0, 320⟩],
    [⟨31, 27, .rwt, 0x0, none⟩, ⟨26, 26, .rwt, 0x0, none⟩, ⟨25, 14, .rwt, 0x0, none⟩, ⟨13, 8, .rwt, 0x3f, none⟩, ⟨7, 0, .rwt, 0x0, none⟩]⟩,
  ⟨"TEL_CNT_LO", 0x1a02000, [⟨0x8, 0, 320⟩],
    [⟨31, 0, .ro, 0x0, none⟩]⟩,
  ⟨"TEL_CNT_HI", 0x1a02004, [⟨0x8, 0, 320⟩],
    [⟨31, 0, .ro, 0x0, none⟩]⟩,
  ⟨"TEL_RATE", 0x1a03000, [⟨0x4, 0, 320⟩],
    [⟨31, 0, .ro, 0xffffffff, none⟩]⟩]

/-- Register rows of 19_address_map.md. -/
def table19a : List RRow := [
  ⟨"GLB_ID", 0x0, [],
    [⟨31, 16, .ro, 0x7240, none⟩, ⟨15, 8, .ro, 0x1, none⟩, ⟨0, 0, .ro, 0x0, none⟩]⟩,
  ⟨"GLB_SERIAL_LO", 0x4, [],
    [⟨31, 0, .ro, 0x0, none⟩]⟩,
  ⟨"GLB_SERIAL_HI", 0x8, [],
    [⟨31, 0, .ro, 0x0, none⟩]⟩,
  ⟨"GLB_RST_STAT", 0x10, [],
    [⟨15, 8, .ro, 0x0, none⟩, ⟨3, 0, .ro, 0x0, none⟩]⟩]

/-- Every register row of the spec. -/
def table : List RRow :=
  table02a ++ table03a ++ table04a ++ table05a ++ table06a ++ table07a ++ table07b ++ table08a ++ table09a ++ table09b ++ table10a ++ table10b ++ table11a ++ table12a ++ table12b ++ table13a ++ table14a ++ table15a ++ table16a ++ table17a ++ table18a ++ table19a

end Reg

end Sys2Proof.Machine
end

