-- ==== Sys2Proof/Machine/Blocks/Barista.lean ====
section
/-! DEFINITION. State of Barista and the DMA channels (06_barista_and_dma.md) that no register of Regs.lean holds. -/

namespace Sys2Proof.Machine

/-- An installed version of a recipe (R121, R122; BST_RCP_INFO0, BST_RCP_INFO1). -/
structure RcpVer where
  ver   : Nat
  prio  : Nat
  base  : Nat
  last  : Nat
  dflt  : Nat
  users : Nat
  deriving DecidableEq, Repr

/-- A directory entry: the current version, whether new brews may start, and earlier versions with brews (R117, R122). -/
structure RcpDir where
  valid : Bool
  cur   : RcpVer
  old   : List RcpVer
  deriving DecidableEq, Repr

/-- A buffer slot of a brew (R123, R163): pointer, whether the brew owns the buffer or refers to it, and the poison flag. -/
structure BrewSlot where
  ptr    : Word
  owned  : Bool
  poison : Bool
  deriving DecidableEq, Repr

/-- The member command behind a token (R236): its bay, member LBA, blocks, and whether it writes. -/
structure TokIo where
  bay   : Nat
  lba   : Nat
  n     : Nat
  write : Bool
  deriving DecidableEq, Repr

/-- Where a piece of the data that comes with a token lands: at an HBM address, or nowhere; a piece of zeros comes from no member and
is written with the rest (R15, R204). -/
structure Land where
  addr : Option Nat
  len  : Nat
  zero : Bool
  deriving DecidableEq, Repr

/-- An outstanding token (R125): its number among all tokens, the step that asked for it, the status the engine has already settled,
whether it arrived, where the data that comes with it lands, in order, and the member command behind it, if one is. -/
structure Token where
  id      : Nat
  step    : Nat
  fate    : Option Nat
  arrived : Bool
  land    : List Land
  io      : Option TokIo
  deriving DecidableEq, Repr

/-- The brew states of Table 6.6; FREE is the absence of a brew. -/
inductive BrewState where
  | ready | current | issued | waiting | held
  deriving DecidableEq, Repr

structure Brew where
  /-- Recipe number and version (R123). -/
  rcp     : Nat
  ver     : Nat
  /-- Current step index (R123). -/
  cur     : Nat
  /-- Priority (R115, Table 6.1). -/
  prio    : Nat
  /-- Failing flag, and the final status with the engine class that produced it (R124, R461). -/
  failing : Bool
  final   : Nat
  finalCls : Nat
  /-- Durable flag (R126). -/
  durable : Bool
  /-- Retry counter, 0 to 15 (R123). -/
  retry   : Nat
  /-- Valid slots by number 0 to 7 (R123). -/
  slots   : Tab BrewSlot
  /-- Outstanding tokens, oldest first, at most four (R125). -/
  tokens  : List Token
  /-- The eight context words (R123). -/
  ctx     : List Word
  state   : BrewState
  /-- Status of the step that has ended, its class and the engine it ran on, until its boundary is handled (R124). -/
  result  : Option (Nat × Nat × Nat)
  /-- What an EVT step waits for: the step index of its token, or none for a delay, and the DT in ns of arg0 (R119). -/
  wait    : Option (Option Nat × Nat)
  /-- No step of the brew has been issued yet (R127). -/
  fresh   : Bool
  /-- Member run taken next by a DQE step with arg2 0xFFFF (R462). -/
  run     : Nat
  /-- Blocks, by group and number, that failed CHK and are queued for repair if the brew then succeeds (R258). -/
  chkBad  : List (Nat × Nat)
  /-- Units, by group and unit, whose decode failed in it (R276). -/
  unitBad : List (Nat × Nat)
  /-- A COMPLETE step that has been accepted and waits for the token of this step (R216). -/
  hcp     : Option Nat
  /-- A branch has just been taken: its target step is issued before another brew may pre-empt this one (R20). -/
  held    : Bool
  /-- A step of the brew has ended HBM_UE: its fault record is written when the brew ends (Table 13.8, fault 0x05). -/
  ueSeen  : Bool
  deriving DecidableEq, Repr

/-- One lane: its current brew, its ready queue for each priority 0 to 3, and its place in the 256-slot window (R115, R116). -/
structure Lane where
  cur    : Option Nat
  q0     : List Nat
  q1     : List Nat
  q2     : List Nat
  q3     : List Nat
  slot   : Nat
  bg     : Nat
  deriving DecidableEq, Repr

/-- A DMA instruction in flight (R137): its address, words, status so far, bytes or events for W7, the destination of a move, and whether
it has ended. -/
structure DmaIns where
  addr   : Nat
  words  : List Word
  status : Nat
  moved  : Nat
  dst    : Nat
  done   : Bool
  deriving DecidableEq, Repr

structure DmaChan where
  /-- Address of the next instruction (R135). -/
  pc      : Nat
  /-- LOOP counters, unloaded or loaded (R136). -/
  ctr0    : Option Nat
  ctr1    : Option Nat
  /-- Offset registers (R136). -/
  srcOff  : Nat
  dstOff  : Nat
  /-- Instructions in flight, oldest first, at most 4 (R137). -/
  flight  : List DmaIns
  /-- Shadow set: DMA_CH_NEXT_n and DMA_CH_PACE_n (R141). -/
  shNext  : Nat
  shPace  : Word
  /-- A shadow write or SHADOW_ARM write arrives in the clock of the next hand-over edge (R141). -/
  edgeHit : Bool
  /-- WAIT in progress: event, count, occurrences so far, and the DT in ns of its timeout (R136). -/
  wait    : Option (Nat × Nat × Nat × Option Nat)
  /-- Brew and token that the program, or the MOVE step in progress, posts (R142). -/
  brew    : Option (Nat × Nat)
  /-- A MOVE step with tok 1 runs on the channel and ends with this status of Table 6.13 when its token arrives (R142). -/
  move    : Option Nat
  /-- First failing status of the program (R139). -/
  failed  : Option Nat
  /-- DT in ns at which the last MOVE started, on a management channel (DMA_CH_PACE_n). Reset none. -/
  moveAt  : Option Nat
  deriving DecidableEq, Repr

structure Barista where
  /-- Step memory: 65,536 steps of eight words, by step address (R117). Reset: unwritten steps read as words of 0 is
  DESIGN CHOICE. -/
  steps   : Tab (List Word)
  /-- Recipe directory, recipes 0 to 2,047 (R117). Reset none installed (BST_RCP_INFO0.valid 0). -/
  dir     : Tab RcpDir
  /-- Words of the step being loaded: how many BST_LOAD_DATA writes the step at BST_LOAD_ADDR has had (BST_LOAD_ADDR). -/
  loadIdx : Nat
  /-- A BST_LOAD_DATA write was discarded in an installed range: the next INSTALL fails with err 8 (BST_LOAD_DATA). -/
  loadBad : Bool
  /-- A load write came from elsewhere than a management core (err 10 of Table 6.5). -/
  loadExt : Bool
  /-- Number of the next token (the model's own). Reset 0. -/
  tokSeq  : Nat
  /-- Brews by tag (R123). Reset none. -/
  brews   : Tab Brew
  /-- Lanes 0 to 15 (R115). Reset idle. -/
  lanes   : Tab Lane
  /-- The exception ring of 256 records at 0x0040_2000, eight words each, by index (R131). Reset 0. -/
  exc     : Tab (List Word)
  /-- Instances being disabled: ENGINE_EN cleared, ACK not yet set, by class·256 + number (R132, R133). Reset none. -/
  drain   : List Nat
  /-- Instances to enable once their disable is acknowledged (R133). Reset none. -/
  reEn    : List Nat
  /-- DMA channels 0 to 271 (R134). Reset IDLE. -/
  chans   : Tab DmaChan
  /-- Semaphores 0 to 63 (R136). Reset 0 is DESIGN CHOICE. -/
  sems    : Tab Nat
  deriving DecidableEq, Repr

end Sys2Proof.Machine
end

