-- ==== Sys2Proof/Machine/Blocks/Power.lean ====
section
/-! DEFINITION. State of power, modes and start-up (02_package_and_power.md, 03_modes_and_startup.md) that no register of
Regs.lean holds. -/

namespace Sys2Proof.Machine

/-- The 12 modes of Table 3.1 (R46). -/
inductive Mode where
  | off | reset | boot | recovery | standby | active | degraded | quiesced | activating | fenced | idleLow | test
  deriving DecidableEq, Repr

/-- What began a safe stop (R38, R44). -/
inductive StopKind where
  | pwrfail | thermal
  deriving DecidableEq, Repr

/-- What a bay's shared gate or PG node is given by this device (Table 2.8, R40). -/
inductive NodeDrive where
  | hiZ | driven (high : Bool) | keeper (high : Bool) | follower (high : Bool)
  deriving DecidableEq, Repr

/-- A copy of the Carafe control area (R209, Table 9.3): its sequence number, the ring tail, the stored lease epoch (R340), the role at
the last stop (GLB_START_STAT.last_role), and the stop marker: 0 none, 1 clean, 2 incomplete, 3 thermal trip
(GLB_PWR_STAT.last_stop, R35). -/
structure CtlCopy where
  seq   : Nat
  tail  : Nat
  epoch : Nat
  role  : Nat
  stop  : Nat
  deriving DecidableEq, Repr

structure Power where
  /-- SLOT_ID strap as sampled at reset release (R24 text, GLB_ID.slot). Reset 0 is DESIGN CHOICE: a strap, no reset value. -/
  slotId    : Bool
  /-- TESTEN level at reset release (Table 3.2, R49). Reset 0 is DESIGN CHOICE: a pin, no reset value. -/
  testen    : Bool
  /-- THERM_N driven low (R43). Reset 0: Table 2.8 "Functional", no trip. -/
  thermN    : Bool
  /-- The safe stop the device holds in, and what began it (R35, R38, R44, R48). Reset none. -/
  stop      : Option StopKind
  /-- PWRFAIL_N has fallen since the device started, so that a bay fault carries the power-fail flag and does not latch (R37, R376).
  Reset 0. -/
  pwrLow    : Bool
  /-- The GLB_PD_CTRL value last written while busy, held (R34). Reset none. -/
  pdHeld    : Option Word
  /-- Domain moves still to make, the first in progress: domain and true for up (R34). Reset none. -/
  pdQueue   : List (Nat × Bool)
  /-- Stack B is draining for a D07 switch-off: DT in ns at which GLB_PD_DRAIN_TO ends it (R33, R34). Reset none. -/
  drainEnd  : Option Nat
  /-- Host issue allowed, in per cent, cut by throttling (R43). Reset 100. -/
  issuePct  : Nat
  /-- Step 6 of Table 3.3 ended with the peer declared absent (R54). Reset 0. -/
  peerAbsent : Bool
  /-- Step 5 of Table 3.3 has ended, whether Carafe was valid or not (R54). Reset 0. -/
  scanned   : Bool
  /-- Step 15 of Table 3.3 was abandoned at its 1 s limit (R59). Reset 0. -/
  mirrorAbandoned : Bool
  /-- A QUIESCE is waiting for the I/O brews to end (R52). Reset 0. -/
  quiescing : Bool
  /-- An exit from PS3 is under way: I/O commands wait for the domains (R113). Reset 0. -/
  psExit    : Bool
  /-- GLB_MODE_STAT.deferred_ps of R51, for which the register table gives no bit: a PS2 or PS3 waiting for ACTIVE. Reset 0. -/
  deferredPs : Bool
  /-- The two copies of the Carafe control area, at 0 and at 512 KiB, persistent in MRAM (R209). First power-on: both blank. -/
  ctlA : CtlCopy
  ctlB : CtlCopy
  deriving DecidableEq, Repr

end Sys2Proof.Machine
end

