-- ==== Sys2Proof/Machine/Blocks/Bays.lean ====
section
/-! DEFINITION. State of the bay-power die (14_bay_power.md) that no register of Regs.lean holds. The voltages, currents and
temperatures of a sample come with the event that reports them (notes/assumptions/20.md). -/

namespace Sys2Proof.Machine

/-- How a PERST_DPnn pin is driven, Table 2.8. -/
inductive PerstDrive where
  | hiZ | low | high
  deriving DecidableEq, Repr

/-- The turn-off sequence of R371: waiting for the member's shutdown until a DT, PERST# low with the gate going off at a DT. -/
inductive OffPhase where
  | shutdown (until_ : Nat)
  | perst (gateAt : Nat)
  deriving DecidableEq, Repr

structure Bay where
  /-- DT in ns at which the present state, or its present precheck, began (R362, R364, R365). Reset 0. -/
  since   : Nat
  /-- The channel waits for a ramp slot (R363). Reset 0. -/
  want    : Bool
  /-- The SEAT debounce is running in KEEPER since this DT in ns, or has completed (R375). Reset none, 0. -/
  debAt   : Option Nat
  seated  : Bool
  /-- DT in ns at which the fault timer started (R366, R367). Reset none. -/
  timerAt : Option Nat
  /-- A fast trip has come since the timer started (R367). Reset 0. -/
  tripped : Bool
  /-- DT in ns at which the 20 µs hold of a fast trip ends (R367). Reset none. -/
  holdEnd : Option Nat
  /-- DT in ns at which PG asserted, until PERST# is released (R371). Reset none. -/
  pgAt    : Option Nat
  /-- DT in ns at which PERST# was released (R371, R55). Reset none. -/
  perstAt : Option Nat
  /-- The turn-off sequence in progress, whether it belongs to a CYCLE, and the times of what follows gate-off (R371, R373).
  Reset none. -/
  off     : Option OffPhase
  cycle   : Bool
  checkAt : Option Nat
  againAt : Option Nat
  /-- Consecutive seconds above 100 W, and the DT in ns of the last whole second checked (R374). Reset 0. -/
  ps2     : Nat
  ps2At   : Nat
  /-- What the device drives on the gate node, the PG node and PERST# (Table 2.8). Reset high impedance. -/
  gate    : NodeDrive
  pg      : NodeDrive
  perst   : PerstDrive
  deriving DecidableEq, Repr

/-- A bay event, Table 14.5 (R378). -/
structure BayEvt where
  dt    : Nat
  dntS  : Nat
  bay   : Nat
  event : Nat
  cause : Nat
  flags : Nat
  old   : Nat
  new   : Nat
  vin   : Nat
  vsrc  : Nat
  i     : Nat
  tfet  : Nat
  deriving DecidableEq, Repr

structure Bays where
  /-- Channels by bay (R361). Reset all as `Bay` says. -/
  ch     : Tab Bay
  /-- The event ring in D00, oldest first, at most 1,024 records; survives reset while VAON holds (R378). Power-on: empty. -/
  events : List BayEvt
  /-- Bay events written since power-on (R378, log page CAh). Power-on: 0. -/
  evtNum : Nat
  /-- The calibrations that run: the DT in ns at which each ends, by bay (R380). Reset none. -/
  cal    : Tab Nat
  deriving DecidableEq, Repr

end Sys2Proof.Machine
end

