-- ==== Sys2Proof/Machine/Blocks/Crema.lean ====
section
/-! DEFINITION. State of Crema (08_read_path_and_crema.md) that no register of Regs.lean holds. -/

namespace Sys2Proof.Machine

/-- A directory entry that is FILLING or VALID, Table 8.1 (R166); FREE is the absence of an entry. -/
structure CrmEntry where
  valid   : Bool
  nsid    : Nat
  gi      : Nat
  ptr     : Word
  grain   : Nat
  ref     : Bool
  fillTag : Nat
  nsEpoch : Nat
  tAdm    : Nat
  deriving DecidableEq, Repr

/-- The lookup record of a tag (R169, R170): namespace, first block, NLB, and each grain's ticket; and, when a Regrind has moved the
namespace since the brew started, the group and the group block of LBA 0 that it still maps through (R130, R267). -/
structure LookupRec where
  nsid    : Nat
  slba    : Nat
  nlb     : Nat
  tickets : List Nat
  old     : Option (Nat × Nat)
  deriving DecidableEq, Repr

structure Crema where
  /-- Entries by number, bucket · 8 + way (R166). Reset none (R193). -/
  entries  : Tab CrmEntry
  /-- 16-bit epoch of each bucket (R166, R188). Reset 0 (R193 clears the region). -/
  bktEp    : Tab Nat
  /-- 32-bit epoch of each namespace (R188). Reset 0 is DESIGN CHOICE. -/
  nsEp     : Tab Nat
  /-- Lookup records by tag (R166, R169). Reset none (R193). -/
  recs     : Tab LookupRec
  /-- Sketch counters by row · 65,536 + column (R178). Reset 0 (R193). -/
  sketch   : Tab Nat
  /-- The sketch epoch (R179). Reset 0 is DESIGN CHOICE. -/
  sketchEp : Bool
  /-- DNT in ns of the last decay instant (R179, R73). Reset none. -/
  lastDecay : Option Nat
  /-- Bucket hands (R182). Reset 0 is DESIGN CHOICE. -/
  bktHand  : Tab Nat
  /-- Pool hands of pools 1 to 3 (R182). Reset 0 is DESIGN CHOICE. -/
  poolHand : Tab Nat
  /-- Number of the first of the four free values that are the seeds drawn at the last reset (R167). -/
  seedAt   : Nat
  /-- Namespaces whose entries a sweep still frees; none is every namespace (R188, R191). Reset none. -/
  sweeps   : List (Option Nat)
  /-- Pools 1 to 3 whose limit a commit has lowered below their use, until use falls below it (R183). Reset none. -/
  capped   : List Nat
  /-- A CRM_CMD write held while a sweep runs (CRM_CMD.op). Reset none. -/
  held     : Option Word
  deriving DecidableEq, Repr

end Sys2Proof.Machine
end

