-- ==== Sys2Proof/Machine/Blocks/Endpoint.lean ====
section
/-! DEFINITION. State of the service endpoint (16_service_endpoint.md) that no register of Regs.lean holds. -/

namespace Sys2Proof.Machine

/-- A space-3 read outstanding on the endpoint (R411): the DMA channel whose instruction issued it, the DMA address that the next byte
received goes to, the bytes of the request still to come, the host address of the bytes to be requested after them and how many, and the swap
mode of a MOVE_SWAP, and the DT in ns at which the request was sent (R412). A read of length 0 confirms writes (R137). -/
structure EpRead where
  chan : Nat
  dst  : Nat
  need : Nat
  src  : Nat
  left : Nat
  swap : Option Nat
  sent : Nat
  deriving DecidableEq, Repr

structure Ept where
  /-- Memory Space Enable and the other Command bits software writes (Table 16.1 header, R408). Reset 0. -/
  command  : BitVec 16
  /-- Bus Master Enable (R418). Reset 0 (EPT_STAT.bme). -/
  bme      : Bool
  /-- Interrupt Disable of the Command register (R417). Reset 0 (PCI Express default, PRESUMED). -/
  intxDis  : Bool
  /-- MSI Enable (R417). Reset 0 (PRESUMED). -/
  msiEn    : Bool
  /-- MSI vectors allocated, N of R417: 1, 2, 4 or 8 (R409). Reset 1 (PRESUMED). -/
  msiN     : Nat
  /-- MSI message address (R409, Table 16.2). Reset 0 (PRESUMED). -/
  msiAddr  : BitVec 64
  /-- MSI message data (R409). Reset 0 (PRESUMED). -/
  msiData  : BitVec 16
  /-- MSI per-vector mask bits (R409). Reset 0 (PRESUMED). -/
  msiMask  : BitVec 8
  /-- MSI per-vector pending bits (R417). Reset 0. -/
  msiPend  : BitVec 8
  /-- MSI-X Enable (R417). Reset 0 (PRESUMED). -/
  msixEn   : Bool
  /-- MSI-X Function Mask (R409). Reset 0 (PRESUMED). -/
  msixMask : Bool
  /-- PME_En (R415), sticky (R420). Reset 0 (PRESUMED). -/
  pmeEn    : Bool
  /-- PME_Status (R415), sticky (R420). Reset 0 (PRESUMED). -/
  pmeStat  : Bool
  /-- D3cold: the reference clock removed or PERST_SL low (R414). Reset as EPT_STAT.perst, 1. -/
  d3cold   : Bool
  /-- Base address registers BAR0 to BAR3 as written (Table 16.1, R408). Reset 0. -/
  bars     : Tab (BitVec 32)
  /-- Device Control, with Max_Read_Request_Size (R411). Reset 0x2810 (PCI Express default, PRESUMED). -/
  devCtl   : BitVec 16
  /-- Device Status bits [3:0], the errors detected (R413). Reset 0. -/
  devStat  : BitVec 4
  /-- Other words of configuration space as last written, by offset (R409). Reset none written. -/
  capWords : Tab (BitVec 32)
  /-- AER uncorrectable status (R413). Reset 0. -/
  aerUStat : BitVec 32
  /-- AER uncorrectable mask, defaults of Table 16.3 (R413). -/
  aerUMask : BitVec 32
  /-- AER uncorrectable severity, defaults of Table 16.3 (R413). -/
  aerUSev  : BitVec 32
  /-- AER correctable status (R413). Reset 0. -/
  aerCStat : BitVec 32
  /-- AER correctable mask, defaults of Table 16.3 (R413). -/
  aerCMask : BitVec 32
  /-- First Error Pointer of AER (R413). Reset none. -/
  aerFirst : Option Nat
  /-- The one header log: the header of the first TLP logged (R413). Reset none. -/
  hdrLog   : List Word
  /-- DT in ns until which configuration requests get Configuration Request Retry Status (R408). -/
  crsUntil : Nat
  /-- Outstanding space-3 reads by PCIe tag, at most 64 (R411). Reset none. -/
  reads    : Tab EpRead
  deriving DecidableEq, Repr

end Sys2Proof.Machine
end

