-- ==== Sys2Proof/Machine/Blocks/Host.lean ====
section
/-! DEFINITION. State of the host command path (05_host_command_path.md) that no register of Regs.lean holds. -/

namespace Sys2Proof.Machine

/-- A completion status of Table 5.8: SCT, SC, DNR and CRD (R97). -/
structure NvStatus where
  sct : Nat
  sc  : Nat
  dnr : Bool
  crd : Nat
  deriving DecidableEq, Repr

/-- An asynchronous event of Table 5.7, with the log page identifier it names (R96). -/
structure AsyncEvent where
  typ  : Nat
  info : Nat
  lid  : Nat
  deriving DecidableEq, Repr

/-- An entry of the Error Information log (Table 5.6: SCT 2h statuses and Internal Error). -/
structure ErrEntry where
  count : Nat
  qid   : Nat
  cid   : Nat
  st    : NvStatus
  lba   : Nat
  nsid  : Nat
  deriving DecidableEq, Repr

/-- A result of log page 06h (R92): the self-test code, its result code, and the namespace it was limited to. -/
structure SelfTestResult where
  code   : Nat
  result : Nat
  nsid   : Nat
  deriving DecidableEq, Repr

/-- The tag states of Table 5.2 (R87). -/
inductive TagState where
  | free | waiting | running | completing | aborted | discard
  deriving DecidableEq, Repr

/-- The kinds of command that take a context, and the background work that takes one. On an I/O queue a Disconnect, an opcode that is not
supported and a capsule whose CID is in use take one too, and so does an admin command. -/
inductive TagKind where
  | read | write | writeZeroes | dsm | flush
  | disconnect | badOpcode | conflict | admin
  | fill | stripeFlush | checkpoint | rebuild | repair | cupping | regrind | redo | selfTest | other
  deriving DecidableEq, Repr

/-- The commands of an admin queue (Table 5.3). -/
inductive AdminOp where
  | propertyGet | propertySet | getLogPage | identify | abort | getFeatures | setFeatures | asyncEvent | fwDownload | fwCommit
  | selfTest | keepAlive | chiebRequest | chiebReply | disconnect | invalid
  deriving DecidableEq, Repr

/-- A capsule of an admin queue: its command, and what the fuses and signatures say of the image that a Firmware Commit names. -/
structure AdminCap where
  op   : AdminOp
  cmd  : AdminCmd
  look : ImgLook
  deriving DecidableEq, Repr

/-- A capsule that the device has not run: an I/O command, an admin command, or a Connect of an admin or an I/O queue. -/
inductive Capsule where
  | io (kind : TagKind) (cmd : IoCmd)
  | admin (x : AdminCap)
  | connect (admin : Bool) (x : ConnectCmd)
  deriving DecidableEq, Repr

structure TagE where
  /-- State of Table 5.2 (R87). -/
  state : TagState
  /-- What the context serves. -/
  kind  : TagKind
  /-- Association index k of R77; 0 for background. -/
  assoc : Nat
  /-- Submission queue; 0 for a background brew (HCP_TAG_INFO0). -/
  qid   : Nat
  /-- CID of the command (HCP_TAG_INFO0). -/
  cid   : Nat
  /-- The capsule held while WAITING and read by the engines afterwards. -/
  cmd   : Option IoCmd
  /-- R107 forced the brew at the activation deadline. -/
  forced : Bool
  /-- Place of the capsule in the order of acceptance (R102). -/
  seq    : Nat
  /-- The command's completion capsule has been handed to the transport (R86, R87). -/
  sent   : Bool
  /-- The capsule of an admin command. -/
  adm    : Option AdminCap
  deriving DecidableEq, Repr

structure Assoc where
  /-- Host NQN of the Connect (R78). -/
  hostNqn   : Nqn
  /-- Tenant the host is bound to (R78). -/
  tenant    : Nat
  /-- A discovery association (R82). -/
  discovery : Bool
  /-- Connection of the admin queue (R80). -/
  adminConn : Nat
  /-- KATO in ms (R79). -/
  kato      : Nat
  /-- DT in ns at which the keep-alive timer last started (R81). -/
  kaStart   : Nat
  /-- CC as the host wrote it (R88, R106). -/
  cc        : Word
  /-- CSTS.RDY (R106). -/
  rdy       : Bool
  /-- CSTS.SHST (R106), and the DT in ns of the shutdown notification. -/
  shst      : Nat
  shAt      : Nat
  /-- Asynchronous Event Configuration, FID 0Bh (R96). -/
  aecfg     : Word
  /-- Submission and completion queues granted by Set Features 07h, once asked (R80). -/
  granted   : Option (Nat × Nat)
  /-- CIDs of the Asynchronous Event Requests outstanding, oldest first (R79). -/
  aers      : List Nat
  /-- Events that found no request outstanding, oldest first (R96). -/
  events    : List AsyncEvent
  /-- Event types masked until their log page is read with RAE 0 (R96). -/
  masked    : List AsyncEvent
  /-- Abort commands held at intake or in WAITING, and so outstanding (R79, R85, R107). -/
  aborts    : Nat
  /-- The controller's own power state (R112). -/
  ps        : Nat
  /-- APST enabled, and its table: idle power state and idle time in ms for each power state (R112). -/
  apstEn    : Bool
  apst      : List (Nat × Nat)
  /-- DT in ns since which the controller is idle: its last I/O command ended, or its power state changed (R112). -/
  idleAt    : Nat
  /-- ACRE of Host Behavior Support (R94, R97). -/
  acre      : Bool
  /-- The pending Chieb reply of the admin queue (R90). -/
  chieb     : Option (List Byte)
  /-- Error Information log, newest first, at most 256 entries (Table 5.4 ELPE, Table 5.6). -/
  errLog    : List ErrEntry
  /-- Errors counted since the association began (log 01h). -/
  errCount  : Nat
  /-- Changed Namespace List (Table 5.6, log 04h). -/
  changedNs : List Nat
  /-- The association has ended and its tags are not all FREE (R84). -/
  ending    : Bool
  /-- Device Self-test results, newest first (R92, log 06h). -/
  stLog     : List SelfTestResult
  deriving DecidableEq, Repr

/-- A connected I/O queue (R80). -/
structure HostQueue where
  assoc   : Nat
  qid     : Nat
  size    : Nat
  conn    : Nat
  ordered : Bool
  /-- The queue is released once its tags are FREE (R84). -/
  ending  : Bool
  /-- The queue uses NVMe/TCP (R80, R89). -/
  tcp     : Bool
  deriving DecidableEq, Repr

/-- A capsule that waits at intake (R85, R107). -/
structure IntakeEntry where
  conn : Nat
  cap  : Capsule
  deriving DecidableEq, Repr

/-- The Device Self-test that runs (R92). -/
structure DevTest where
  assoc    : Nat
  extended : Bool
  nsid     : Nat
  /-- Groups whose stripes the test reads (R92). -/
  groups   : List Nat
  deriving DecidableEq, Repr

structure HostPath where
  /-- Associations by index k (R77, R79, 05_host_command_path.md). Reset none. -/
  assocs  : Tab Assoc
  /-- Connected I/O queues by connection number (R80). Reset none. -/
  queues  : Tab HostQueue
  /-- Command contexts not FREE, by 20-bit tag (R85, R87). Reset none. -/
  tags    : Tab TagE
  /-- Capsules waiting at intake, in arrival order (R85). Reset none. -/
  intake  : List IntakeEntry
  /-- Capsules accepted so far (R102). Reset 0. -/
  capSeq  : Nat
  /-- Connection whose queue was served last from intake (R85: queues in turn). Reset 0. -/
  served  : Nat
  /-- The Device Self-test in progress (R92). Reset none. -/
  test    : Option DevTest
  /-- ANA change count of log page 0Ch, of which HCP_ANA_STAT shows [31:0] (R110). Reset 0. -/
  anaCnt  : Nat
  /-- Connections whose queue's Disconnect completed and that are about to close (R80). Reset none. -/
  closing : List Nat
  deriving DecidableEq, Repr

end Sys2Proof.Machine
end

