-- ==== Sys2Proof/Machine/Blocks/Rebuild.lean ====
section
/-! DEFINITION. State of members, rebuild, Cupping and Regrind (10_rebuild_cupping_regrind.md) that no register of Regs.lean
holds. -/

namespace Sys2Proof.Machine

/-- What the device knows of the drive in a bay (R10, R195, R240): ready, capacity in blocks, formats, label. -/
structure Drive where
  ready  : Bool
  cap    : Nat
  meta16 : Bool
  meta0  : Bool
  label  : Option DriveLabel
  /-- The drive's power states, from the highest: whether each is operational, and its exit latency in µs (R114). -/
  states : List (Bool × Nat)
  /-- The drive power state that the device has placed it in (R114). -/
  ps     : Nat
  deriving DecidableEq, Repr

/-- A rebuild of a position (R244, R250): start stripe, covered count, and the bay or spare space it writes. -/
structure Target where
  start   : Nat
  covered : Nat
  spare   : Bool
  deriving DecidableEq, Repr

/-- A lost-stripe entry, Table 10.4 (R253). -/
structure LostE where
  seq     : Nat
  group   : Nat
  strp    : Nat
  rows    : Nat
  posMask : Nat
  cause   : Nat
  ns      : Nat
  journal : Bool
  dntS    : Nat
  dt      : Nat
  deriving DecidableEq, Repr

/-- Progress of a group's background work that a progress record holds (R251). -/
structure Progress where
  count    : Nat
  cupCur   : Nat
  cupStart : Option Nat
  at_      : Nat
  changed  : Bool
  deriving DecidableEq, Repr

/-- A block in the repair queue (R258): group, stripe, position and row. -/
structure RepairE where
  group : Nat
  strp  : Nat
  pos   : Nat
  row   : Nat
  deriving DecidableEq, Repr

structure Rebuild where
  /-- Drives by bay (R240). Reset none. -/
  drives  : Tab Drive
  /-- Trained drive ports by bay: true at x4 with no switch below (R10). Reset none. -/
  ports   : Tab Bool
  /-- Cmin of each group in blocks, from its enable (R201). Kept in the members' labels. -/
  cmin    : Tab Nat
  /-- DT in ns at which each down drive port went down (R238 cause 2). Reset none. -/
  downAt  : Tab Nat
  /-- DT in ns of each member's controller reset after a command timeout (R238 cause 3). Reset none. -/
  resetAt : Tab Nat
  /-- The hour of DT that each member's count of media errors is for (R238 cause 5). Reset none. -/
  hourAt  : Tab Nat
  /-- Rebuilds by group · 32 + position (R244). Kept in the progress records of the members (R251). -/
  targets : Tab Target
  /-- Bays whose target format and label write is running, and the position they serve: bay to group · 32 + position (R243). -/
  formats : Tab Nat
  /-- Groups whose INIT runs (R196). Reset none. -/
  inits   : List Nat
  /-- Background buckets in bytes: Rebuild, Cupping, Regrind, Test (R242). Reset 0 is DESIGN CHOICE. -/
  bktRb   : Int
  bktCup  : Int
  bktRg   : Int
  bktTest : Int
  /-- Bytes charged to each group's Rebuild (key: the group) and Cupping (16 + the group) beside those of the other groups (R241). Reset
  none. -/
  shares  : Tab Nat
  /-- The lost-stripe table by entry number (R253). First power-on: none. -/
  lost    : Tab LostE
  /-- The repair queue, oldest first (R258). Reset none. -/
  repairs : List RepairE
  /-- Groups' progress (R251). -/
  prog    : Tab Progress
  /-- DT in ns of the last budget refill (R242). Reset 0. -/
  refill  : Nat
  /-- Target extents of a Regrind: namespace to first stripe and number of stripes (R263). -/
  rgMap   : Tab (Nat × Nat)
  /-- Gather slots of the stage group fed by records of the source group (R265): records entered there. -/
  rgRecs  : List Nat
  /-- Progress and rebuilds as the newest progress records have them (R251). Kept on the members. -/
  progRec : Tab Progress
  tgtRec  : Tab Target
  /-- Groups that still owe the Cupping pass of R262 after a start with CAR_WT_MARK.mark set. Reset none. -/
  markDue : List Nat
  deriving DecidableEq, Repr

end Sys2Proof.Machine
end

