-- ==== Sys2Proof/Machine/Blocks/Journal.lean ====
section
/-! DEFINITION. State of the layouts, the write path and the Carafe journal (09_layouts_and_write_path.md) that no register of
Regs.lean holds. -/

namespace Sys2Proof.Machine

/-- An intent entry, Table 9.7 (R224): the source record, data strip, row, block position, and the zero and recon bits. -/
structure IntentE where
  src   : Nat
  strip : Nat
  row   : Nat
  pos   : Nat
  zero  : Bool
  recon : Bool
  deriving DecidableEq, Repr

/-- A record of the ring (R210 to R213, Table 9.4), reserved or written. -/
structure JRec where
  typ     : Nat
  seq     : Nat
  nsid    : Nat
  group   : Nat
  loc     : Nat
  count   : Nat
  udelta  : Int
  tenant  : Nat
  dt      : Nat
  mirrored : Bool
  /-- Units the record allocates, by unit number of the group, and the first unit of its range, from which flags [7:3] count
  (Table 9.4). -/
  allocs  : List Nat
  unit0   : Nat
  /-- Absolute ring line of the header, counted from the first line ever written, once landed. -/
  line    : Nat
  /-- Payload lines. -/
  lines   : Nat
  /-- Payload: data blocks followed by tags of a DATA record, the entry of a 0x09 or 0x0A record. -/
  data    : List Byte
  /-- Entries of an INTENT. -/
  entries : List IntentE
  /-- Intents a DONE names. -/
  names   : List Nat
  /-- Where the data stands in the write brew's buffers before LAND, as HBM byte addresses of data and tags (R214 PENDING). -/
  buf     : Nat
  tagBuf  : Nat
  /-- Tag of the brew that reserved it. -/
  owner   : Option Nat
  /-- Written to the ring; header persistent locally; header reported persistent by the peer (R217). -/
  landed  : Bool
  durable : Bool
  peer    : Bool
  settled : Bool
  void    : Bool
  /-- Its uncorrectable lines, 0 for the header (R210, R232); torn: a record cut off by a power loss (R231). -/
  badAt   : List Nat
  torn    : Bool
  /-- Blocks b it supplies that are neither written under a done intent nor superseded by a newer settled record (R228). -/
  left    : List Nat
  deriving DecidableEq, Repr

/-- Whether a record has an uncorrectable line (R232). -/
def JRec.bad (r : JRec) : Bool := !r.badAt.isEmpty

/-- Kinds of a block index entry (R214). -/
inductive IdxKind where
  | pending | landed | zero
  deriving DecidableEq, Repr

/-- A block index entry (R214): its kind, the source record, and the block's position in it. -/
structure IdxE where
  kind : IdxKind
  seq  : Nat
  pos  : Nat
  deriving DecidableEq, Repr

/-- A pending-zero range (R214): group, first block, blocks, its record and brew. -/
structure ZRange where
  group : Nat
  b     : Nat
  n     : Nat
  seq   : Nat
  owner : Nat
  deriving DecidableEq, Repr

/-- A gather slot (R221): group, stripe, its records, deadline, the intents to redo, oldest first (R227), the flush brew that works on
it, and the order of creation. -/
structure GSlot where
  group : Nat
  strp  : Nat
  recs  : List Nat
  dead  : Option Nat
  redo  : List Nat
  flush : Option Nat
  born  : Nat
  deriving DecidableEq, Repr

/-- How an allocated unit is stored (R206, R273): none for raw, else its compressed size in bytes and stored blocks. -/
structure UnitE where
  comp   : Option Nat
  stored : Nat
  deriving DecidableEq, Repr

/-- A namespace's tenant, data key slot and usage in bytes (R206, R291). -/
structure NsInfo where
  tenant : Nat
  kslot  : Nat
  usage  : Nat
  deriving DecidableEq, Repr

/-- A checkpoint slot of a group (R229): covered seq, DT, whether its CRC-32C holds, the usage of each namespace, and the group's
lost-stripe entries. -/
structure Ckpt where
  seq   : Nat
  dt    : Nat
  crcOk : Bool
  usage : Tab Nat
  lost  : List LostE
  deriving DecidableEq, Repr

/-- A block a flush writes: its number b, the source record and position, and whether it is zeros. -/
structure FlushSrc where
  b    : Nat
  seq  : Nat
  pos  : Nat
  zero : Bool
  deriving DecidableEq, Repr

/-- The work of a flush brew (R225): its slot (none for a write-through write, R234), the records taken, the blocks it writes, the
blocks it reconstructs for RECON, where GATHER put the data and the tags, the numbers of its RECON and INTENT records, the units
given to the compressor, the stored form of each unit compressed, and whether the slot serves a Regrind stage group. -/
structure FlushWork where
  slot   : Option Nat
  group  : Nat
  strp   : Nat
  recs   : List Nat
  srcs   : List FlushSrc
  recons : List Nat
  buf    : Nat
  tagBuf : Nat
  recon  : List Nat
  intent : Option Nat
  tried  : Nat
  forms  : List (Nat × UnitE)
  stage  : Bool
  deriving DecidableEq, Repr

/-- Who holds or waits for a stripe lock (R246). -/
inductive LockBy where
  | flush (tag : Nat) | rebuild | repair | cupping | seal | regrind
  deriving DecidableEq, Repr

/-- A stripe lock (R246): its holder and the requests that wait, in arrival order. -/
structure Lock where
  holder : Option LockBy
  waits  : List LockBy
  deriving DecidableEq, Repr

structure Journal where
  /-- Unretired records of the ring and reserved ones, in sequence order (R210, R213). First power-on: none. -/
  recs    : List JRec
  /-- Next sequence number (R213, CAR_HEAD). First power-on value 1, from the generation rule of R213 (DEDUCED). -/
  head    : Nat
  /-- Absolute line at which the next record is written (R210). First power-on value 0. -/
  line    : Nat
  /-- ZERO records that have left the ring (R228) while a gather slot still lists them, with the blocks no flush has written yet.
  Reset none. -/
  owed    : List JRec
  /-- Allocated units by group · 2^40 + unit (R205). Reset none. -/
  units   : Tab UnitE
  /-- Units with a pending allocation, by the same number, and the tag that reserved them (R207, R220). Reset none. -/
  pendU   : Tab Nat
  /-- Pending usage of each tenant in bytes (R207). Reset 0. -/
  pendUse : Tab Nat
  /-- Namespaces (R200, R206). First power-on: none. -/
  ns      : Tab NsInfo
  /-- Block index by group · 2^40 + b (R214). Reset none. -/
  idx     : Tab IdxE
  /-- Pending-zero ranges (R214). Reset none. -/
  ranges  : List ZRange
  /-- Gather slots by number (R214, R221). Reset none. -/
  slots   : Tab GSlot
  /-- Flush brews' work by tag (R225). Reset none. -/
  works   : Tab FlushWork
  /-- Each group's unit map as its journal area holds it: its allocated units (R205, R229). First power-on: none. -/
  maps    : Tab (List Nat)
  /-- Stored forms of compressed units as the descriptors on the members have them, by group · 2^40 + unit (R272). First power-on:
  none. -/
  forms   : Tab UnitE
  /-- Checkpoint slots A and B of each group (R229). First power-on: none. -/
  ckA     : Tab Ckpt
  ckB     : Tab Ckpt
  /-- DT in ns of each group's last checkpoint (R230). Reset 0. -/
  ckAt    : Tab Nat
  /-- Unit-map units of 4 MiB held by each enabled group: first unit and number (R205). -/
  umap    : Tab (Nat × Nat)
  /-- Pressure flushing is on, until the fill falls below lo_pct (R222). Reset 0. -/
  press   : Bool
  /-- Stripe locks by group · 2^40 + stripe (R246). Reset none. -/
  locks   : Tab Lock
  /-- The local Carafe has failed (R232). First power-on value 0. -/
  failed  : Bool
  /-- The peer is lost with policy PEER_LOSS_WT set (R233). Reset 0. -/
  peerWt  : Bool
  /-- Carafe content was written by a destructive march, so it is not valid (R405). -/
  invalid : Bool
  deriving DecidableEq, Repr

end Sys2Proof.Machine
end

