-- ==== Sys2Proof/Machine/Blocks/Keys.lean ====
section
/-! DEFINITION. State of the key unit and the cipher engine (11_tamp_and_cipher.md) that no register of Regs.lean holds. -/

namespace Sys2Proof.Machine

/-- A LOAD in progress on a page (R294): its slot, blob, unwrapped key and label; whether the peer is asked to hold it (1) or to
install it (2); and the handle of a Chieb KEY_LOAD. -/
structure LoadOp where
  slot   : Nat
  blob   : List Byte
  key    : List Byte
  keyId  : Nat
  phase  : Nat
  handle : Option Nat
  deriving DecidableEq, Repr

/-- A ZEROISE in progress on a page (R295): its slots, whether the peer has acknowledged, and the handle of a Chieb KEY_ZEROISE. -/
structure ZeroOp where
  slots  : List Nat
  acked  : Bool
  handle : Option Nat
  deriving DecidableEq, Repr

/-- An entry of the connection key table (R287): the keys of a TLS connection, its tenant and PSK slot, its generation, and in each
direction the number of key updates (R307) and the records sealed or opened since the last. -/
structure CtabE where
  valid  : Bool
  gen    : Nat
  tenant : Nat
  slot   : Nat
  key    : List Byte
  txGen  : Nat
  sent   : Nat
  rxGen  : Nat
  rcvd   : Nat
  deriving DecidableEq, Repr

/-- A key the peer has asked this device to hold pending (R294). -/
structure PendKey where
  blob  : List Byte
  key   : List Byte
  keyId : Nat
  deriving DecidableEq, Repr

structure Keys where
  /-- Key material held in the engine, by 16 · tenant + slot (R291). Reset none (R297). -/
  mat      : Tab (List Byte)
  /-- The key store of the members: 80-byte blobs by entry 2 · tenant + slot (R293). First power-on: none. -/
  store    : Tab (List Byte)
  /-- Write counts of the key store's blocks by member LBA (R293). First power-on: 0. -/
  storeCnt : Tab Nat
  /-- This device has restored its data slots since reset (R297). Reset 0. -/
  restored : Bool
  /-- The SKEK of each bank, held in the engine (R290, R297). Reset none. -/
  skek     : Tab (List Byte)
  /-- LOADs in progress by tenant (R294). Reset none. -/
  loads    : Tab LoadOp
  /-- ZEROISEs in progress by tenant (R295). Reset none. -/
  zeros    : Tab ZeroOp
  /-- Keys held pending for the peer, by 16 · tenant + slot (R294). Reset none. -/
  pend     : Tab PendKey
  /-- The connection key table by connection number (R287). Reset none (R297). -/
  ctab     : Tab CtabE
  deriving DecidableEq, Repr

end Sys2Proof.Machine
end

