-- ==== Sys2Proof/Machine/Blocks/Mgmt.lean ====
section
/-! DEFINITION. State of management packets, transactions and persistent registers (15_management_and_transactions.md) that no
register of Regs.lean holds. -/

namespace Sys2Proof.Machine

/-- An entry of the allowed-host list (R78, R389 HOST_ADD). -/
structure HostEntry where
  nqn    : Nqn
  tenant : Nat
  tls    : Bool
  inband : Bool
  psk    : Nat
  deriving DecidableEq, Repr

/-- A Chieb request as accepted (Table 15.1): opcode, transaction, sequence number and parameter words. -/
structure Pkt where
  op    : Nat
  txn   : Nat
  seq   : Nat
  words : List (BitVec 32)
  deriving DecidableEq, Repr

/-- A request that a channel has taken and that is not yet answered (R382): its channel, whence, the packet, whether it came inside a
secured session (R386), and, for an in-band one, the connection and CID of its C1h. -/
structure Taken where
  chan    : Nat
  src     : ChiebSrc
  pkt     : Pkt
  secured : Bool
  conn    : Nat
  cid     : Nat
  deriving DecidableEq, Repr

/-- The sequence state of a channel (R385): the last accepted seq, the stored reply of that packet once it exists, and the repeats
that wait for it. -/
structure Chan where
  seq   : Option Nat
  reply : Option (List Byte)
  waits : List Taken
  deriving DecidableEq, Repr

/-- A long operation's handle (R387): its opcode, its status (PENDING, 1, while it runs) and reply words, and the DT in ns at which it
ended. -/
structure HandleE where
  op     : Nat
  status : Nat
  words  : List (BitVec 32)
  ended  : Option Nat
  deriving DecidableEq, Repr

/-- A staged word (R392, R394): its offset, the merged bits and their mask, and the word's commit count when it was staged. -/
structure TxnE where
  off   : Nat
  val   : BitVec 32
  mask  : BitVec 32
  count : Nat
  deriving DecidableEq, Repr

/-- A transaction (R391, R395): its id, the channel that owns it, its state code of MGT_TXN_INFO_k, its staged words, the DT in ns of its
last activity, and, once sealed, its DNT instant in ns, its place in the order of scheduling and its handle. -/
structure Txn where
  id      : Nat
  owner   : Nat
  state   : Nat
  entries : List TxnE
  last    : Nat
  at_     : Nat
  order   : Nat
  handle  : Nat
  deriving DecidableEq, Repr

/-- A persistent-register word (R401, R403, R404): writes on its current row, the row (0 primary, 1 to 4 spare, 5 worn), tokens held, and
the DT in ns up to which tokens have been gained. -/
structure PcrWord where
  count  : Nat
  row    : Nat
  tokens : Nat
  at_    : Nat
  deriving DecidableEq, Repr

/-- A write of a persistent word in progress or waiting (R402): its offset, value, and the DT in ns at which it completes. -/
structure PcrWr where
  off : Nat
  val : BitVec 32
  at_ : Nat
  deriving DecidableEq, Repr

/-- A self-test or calibration that runs (R405, R407): its opcode, target and handle. -/
structure RunTest where
  op     : Nat
  target : Nat
  handle : Nat
  deriving DecidableEq, Repr

structure Mgmt where
  /-- Namespaces that management is creating, deleting or re-keying (Table 5.8, Namespace Not Ready). Reset none. -/
  nsBusy : List Nat
  /-- Namespaces whose deletion waits for the brews that run on them, each with its handle (R389). Reset none. -/
  nsDel  : Tab Nat
  /-- SMBus frequency code and MCTP transmission unit in bytes, as Configuration Set left them (R384). Reset 1 (100 kHz) and 64 are
  PRESUMED of NVMe-MI. -/
  miFreq : Nat
  miMtu  : Nat
  /-- The NGUID of each namespace (R93, R389). First power-on: none. -/
  nguid  : Tab (List (BitVec 8))
  /-- The allowed-host list, at most 8,192 entries (R78, R389). First power-on: none. -/
  hosts  : List HostEntry
  /-- The subsystem NQN (R77). First power-on: empty is DESIGN CHOICE. -/
  nqn    : Nqn
  /-- Channels by number: 0 the mailbox, 1 + k the admin queue of association k, 8,192 + e the sideband endpoint e (R382). Reset
  none. -/
  chans  : Tab Chan
  /-- Requests taken and not yet answered, oldest first (R382, R383). Reset none. -/
  taken  : List Taken
  /-- Handles 0 to 63 in use (R387). Reset none. -/
  handles : Tab HandleE
  /-- Transactions by slot 0 to 7 (R391). Reset none (R397). -/
  txns   : Tab Txn
  /-- Id that the next BEGIN assigns, if it is free (R391). Reset 1 is DESIGN CHOICE. -/
  nextId : Nat
  /-- The 8 most recently expired ids, newest first (R396). Reset none. -/
  expired : List Nat
  /-- Commit counts of register words, by offset (R394). Reset 0. -/
  commits : Tab Nat
  /-- Transactions scheduled so far (R395). Reset 0. -/
  schedNum : Nat
  /-- Number of the newest commit record, the half of the commit log in use, and the lines used in it (R399). First power-on 0. -/
  cnum   : Nat
  half   : Nat
  used   : Nat
  /-- Persistent-register words by number 0 to 1,023 (R401). First power-on: no writes, row 0, 16 tokens. -/
  pcr    : Tab PcrWord
  /-- Persistent writes in progress or waiting, oldest first (R402). Reset none. -/
  pcrWr  : List PcrWr
  /-- Tests that run (R405). Reset none. -/
  tests  : List RunTest
  deriving DecidableEq, Repr

end Sys2Proof.Machine
end

