-- ==== Sys2Proof/Machine/Blocks/Net.lean ====
section
/-! DEFINITION. State of the network ports, transports, shapers and Pour lists (12_network_ports.md) that no register of Regs.lean
holds. -/

namespace Sys2Proof.Machine

/-- A transfer of a PUSH or PULL step (R319): the brew and number of its token, whether it is a PUSH, the buffer, the HBM byte address,
its place in the command's data, its length, bytes acknowledged or received, how often it has met poison (R187), and the bytes of a PUSH
that TLS records have taken (R186). -/
structure Xfer where
  tag    : Nat
  tok    : Nat
  push   : Bool
  ptr    : BitVec 32
  addr   : Nat
  off    : Nat
  len    : Nat
  moved  : Nat
  poison : Nat
  sealed : Nat
  deriving DecidableEq, Repr

/-- A TLS record sent and not yet acknowledged (R186): key generation and number, bytes of PUSH data in it, and its plaintext. -/
structure TlsRec where
  gen  : Nat
  num  : Nat
  pay  : Nat
  data : List Byte
  deriving DecidableEq, Repr

/-- A connection context (R304). -/
structure Conn where
  /-- Offloaded TCP, else a RoCEv2 reliable connection. -/
  tcp     : Bool
  /-- Port on which it was established. -/
  port    : Nat
  /-- DT in ns of its establishment, and whether it has carried its first Connect. -/
  since   : Nat
  used    : Bool
  /-- Source MAC address and VLAN of the last frame received (R301). -/
  mac     : Nat
  vlan    : Nat
  /-- Path MTU of a RoCEv2 connection in bytes (R305). -/
  mtu     : Nat
  /-- Ready to Transfer PDUs that the host of a TCP connection takes at once per command (R306). -/
  r2t     : Nat
  /-- Send rate in bit/s (R308), and the DT in ns from which its next frame may start. -/
  rate    : Nat
  paceAt  : Nat
  /-- DT in ns of the last rate cut, of the last CNP sent, and of the last CNP received or rate rise (R308). -/
  cutAt   : Option Nat
  cnpAt   : Option Nat
  riseAt  : Nat
  /-- Retries since the last acknowledgement (R305), or consecutive retransmission timeouts (R306). -/
  retries : Nat
  /-- Transfers, oldest first (R319). -/
  xfers   : List Xfer
  /-- TLS records not yet acknowledged, oldest first (R186). -/
  recs    : List TlsRec
  /-- A TLS 1.3 handshake has succeeded: the keys stand in the connection key table (R287, R307). -/
  tls     : Bool
  deriving DecidableEq, Repr

/-- A token bucket (R313) with the rate, size and enable in force since the last refill (R314): tokens in bytes, and the carried
fraction in 1/125 byte. -/
structure Shaper where
  en     : Bool
  rate   : Nat
  bucket : Nat
  tok    : Int
  frac   : Nat
  deriving DecidableEq, Repr

/-- An operational Pour list (R315, R317): cycle in ns, entries in force, and the DNT in ns from which its cycles run; the entries
stand in NET_GCL_OPER. -/
structure PourList where
  cycle : Nat
  len   : Nat
  at_   : Nat
  deriving DecidableEq, Repr

structure NetPort where
  /-- DNT in ns of the last cycle start that fired (R73). Reset none. -/
  cycAt    : Option Nat
  /-- DT in ns at which a received pause of each priority began, and at which it ends (R309). -/
  pauseEnd : Tab (Nat × Nat)
  /-- DT in ns of the last XOFF sent for each priority that is held off (R309). -/
  xoff     : Tab Nat
  /-- Deficit of each class in bytes, and the class whose turn it is, with whether that turn has given its weight (R311). -/
  deficit  : Tab Nat
  turn     : Nat
  gained   : Bool
  /-- The connection served last in each class (R311). -/
  served   : Tab Nat
  /-- The operational Pour list (R315); none with every gate open. -/
  oper     : Option PourList
  /-- Adoption instant of the pending admin list in DNT ns (R317). -/
  adopt    : Option Nat
  deriving DecidableEq, Repr

structure Net where
  /-- Connection contexts in use, by connection number 0 to 266,495 (R304). Reset none (R320). -/
  conns   : Tab Conn
  /-- Ports NP00 to NP23. Reset no pause, no XOFF, deficits 0, no Pour list (R320). -/
  ports   : Tab NetPort
  /-- Class shapers by 8 · port + class, and tenant shapers by 192 + tenant; an unlisted one is at its cap (R313, R320). -/
  shapers : Tab Shaper
  deriving DecidableEq, Repr

end Sys2Proof.Machine
end

