-- ==== Sys2Proof/Machine/Blocks/Pair.lean ====
section
/-! DEFINITION. State of pairing and the lease (13_pairing_and_failover.md) that no register of Regs.lean holds. -/

namespace Sys2Proof.Machine

/-- A fault record, Table 13.9 (R356). -/
structure FaultRec where
  num     : Nat
  dt      : Nat
  dntS    : Nat
  code    : Nat
  outcome : Nat
  mode    : Nat
  detail  : Nat
  epoch   : Nat
  deriving DecidableEq, Repr

/-- Who sent a WRITE that waits for its WACK (R333, R357): a PEER step by tag and token, or a DMA channel. -/
inductive PeerWho where
  | step (tag tok : Nat)
  | dma (chan : Nat)
  deriving DecidableEq, Repr

/-- A WRITE sent and not yet acknowledged (R329, R333): window, offset, data, EPOCH NAKs so far, sender. -/
structure PeerWr where
  win  : Nat
  off  : Nat
  data : List Byte
  naks : Nat
  who  : PeerWho
  deriving DecidableEq, Repr

/-- The kinds of witness request (Table 13.4). -/
inductive WitKind where
  | acquire | renew | release | status
  deriving DecidableEq, Repr

/-- A witness request without a reply (R336): its kind, request number, the DT in ns at which it was sent, and whether it has gone
unanswered for 1 ms. -/
structure WitReq where
  kind : WitKind
  num  : Nat
  sent : Nat
  late : Bool
  deriving DecidableEq, Repr

/-- A set of staged writes received in a CONFIG message and acknowledged (R324): transaction id, writes, what a namespace or host
opcode changes beside them (R389), and whether it is the set of a scheduled commit, with its DNT instant in ns. -/
structure HeldSet where
  txn    : Nat
  writes : List (Nat × BitVec 32)
  ops    : List CfgOp
  atNs   : Option Nat
  deriving DecidableEq, Repr

/-- How far a takeover has come (R345): waiting for drive permission, or for the members of step 5, since the DT in ns at which the shared
outputs were driven. -/
inductive TakeStep where
  | permission
  | members (since : Nat)
  deriving DecidableEq, Repr

/-- How far a handover has come (R349): waiting for the standby's applied sequence number, or fenced until the self-reset. -/
inductive HandStep where
  | drain | fenced (resetAt : Nat)
  deriving DecidableEq, Repr

structure Pair where
  /-- The fault ring in D00, oldest first, at most 256 records; survives reset while VAON holds (R356). Power-on: empty. -/
  faults   : List FaultRec
  /-- Records written since power-on (R356). Power-on: 0. -/
  faultNum : Nat
  /-- Lease ends in DT ns by the witness and by endorsement (R338). Reset none. -/
  witEnd   : Option Nat
  endEnd   : Option Nat
  /-- Witness requests without a reply, oldest first, for 5 ms, and the next request number (R335, R336). Reset none, 0 (DESIGN
  CHOICE). -/
  reqs     : List WitReq
  reqNum   : Nat
  /-- DT in ns of the last valid witness frame, counted from reset release (R336). Reset 0. -/
  witAt    : Nat
  /-- DT in ns at which the standby sends ACQUIRE again, and the latest lease end that a refusal has reported since the suspicion
  began (R343). Reset none. -/
  retryAt  : Option Nat
  refEnd   : Option Nat
  /-- DT in ns at which the device took the lease (step 8 of Table 3.3, R55). Reset 0. -/
  leaseAt  : Nat
  /-- Number of the last heartbeat sent (R330). Reset 0. -/
  hbNum    : Nat
  /-- DT in ns at which the latest heartbeats were sent, by number (R338). Reset none. -/
  hbSent   : Tab Nat
  /-- Number of the latest peer heartbeat received (R330). Reset 0. -/
  hbPeer   : Nat
  /-- DT in ns of the last valid heartbeat (R330). Reset none. -/
  hbAt     : Option Nat
  /-- DT in ns of the last 1 ms tick (R330). Reset 0. -/
  tickAt   : Nat
  /-- Consecutive misses (R330). Reset 0. -/
  misses   : Nat
  /-- r of R339: DT in ns at which the latest heartbeat echoed with endorsement arrived. Reset none. -/
  rAt      : Option Nat
  /-- An ACQUIRE has been sent since the last valid heartbeat (R339). Reset 0. -/
  asked    : Bool
  /-- DT in ns of the suspect, FENCING or HANDOVER that began a takeover (PEER_SWO_DRIVE). Reset none. -/
  beganAt  : Option Nat
  /-- FENCING or HANDOVER has arrived (R343, R344). Reset 0. -/
  freed    : Bool
  /-- HANDOVER has arrived: no redo (R349). Reset 0. -/
  handed   : Bool
  /-- Hellos have been exchanged, and the peer's slot and stored epoch of its hello (R328, R56). Reset none. -/
  hello    : Option HelloMsg
  /-- The peer's last heartbeat (R330). Reset none. -/
  last     : Option HbMsg
  /-- Bay channel states and member states of the last heartbeat of a lease holder (R322, R346). Reset none. -/
  shadowed : Option (List Nat × List Nat)
  /-- The device waits in STANDBY under the second case of R56 for the peer to take the lease (R57). Reset 0. -/
  waits    : Bool
  /-- Flit layer (R327): next fseq to send, oldest fseq not acknowledged, credit, next fseq expected, flits received and not yet
  freed. Reset 0, 0, 1,024, 0, 0. -/
  txSeq    : Nat
  txAck    : Nat
  credit   : Nat
  rxSeq    : Nat
  rxHeld   : Nat
  /-- Lanes PL0 to PL3 that have failed (R325). Reset none. -/
  laneBad  : BitVec 4
  /-- WRITEs sent and not acknowledged, by tag, and the next tag (R329). Reset none, 0. -/
  writes   : Tab PeerWr
  wrNum    : Nat
  /-- EPOCH NAKs of the mirror WRITE of a record, by sequence number (R333). Reset none. -/
  mirNaks  : Tab Nat
  /-- Records mirrored whose WRITE was refused with EPOCH and waits for EPOCH_INFO (R333). Reset none. -/
  resend   : List PeerTag
  /-- Sets acknowledged and not applied (R324). Reset none. -/
  held     : List HeldSet
  /-- Commit marker: the transaction ids committed since the last heartbeat (R324, R330). Reset none. -/
  commit   : List Nat
  /-- Sequence number that shadow replay applies next, counted from the start of mirror sync (R323). Reset 0. -/
  shadow   : Nat
  /-- Mirror sync is in progress (R60, R217). Reset 0. -/
  syncing  : Bool
  /-- A takeover in progress (R345). Reset none. -/
  take     : Option TakeStep
  /-- A handover in progress, and its Chieb handle (R349). Reset none. -/
  hand     : Option HandStep
  handOp   : Option Nat
  /-- DT in ns at which a forced takeover's wait ends (R353). Reset none. -/
  forceAt  : Option Nat
  /-- Equalisation presets of the drive links were stored at their last training, by bay (R345 step 5). Power-on: none. -/
  presets  : List Nat
  deriving DecidableEq, Repr

end Sys2Proof.Machine
end

