-- ==== Sys2Proof/Machine/Blocks/Telemetry.lean ====
section
/-! DEFINITION. State of the telemetry collector (18_telemetry.md) that no register of Regs.lean holds. -/

namespace Sys2Proof.Machine

/-- The blocks of Table 18.1, each with its own events and counters. -/
inductive TelBlk where
  | net | drv | hcp | bst | swc | bpm | crm | car | gal | cip | rbd | hbm | peer
  deriving DecidableEq, Repr

/-- A published or on-demand snapshot: the header of Table 18.2 and the 320 values (R447). -/
structure Snapshot where
  flags   : Nat
  seq     : Nat
  dntS    : Nat
  ns      : Nat
  dt      : Nat
  period  : Nat
  domains : Nat
  changed : List Nat
  vals    : Tab (BitVec 64)
  deriving DecidableEq, Repr

/-- A sample record, Table 18.3 (R452). -/
structure Sample where
  dt      : Nat
  counter : Nat
  kind    : Nat
  inst    : Nat
  tag     : Nat
  rcp     : Nat
  step    : Nat
  value   : Nat
  deriving DecidableEq, Repr

structure Tel where
  /-- The live counters TEL_CNT_n, 64 bits each (R444, 18_telemetry.md). Reset 0 (R455). -/
  cnt     : Tab (BitVec 64)
  /-- The changed map of the next snapshot: counters a commit returned to 0 (R445, 18_telemetry.md). Reset none (R455). -/
  changed : List Nat
  /-- The latest scheduled snapshot (R447, R454, 18_telemetry.md). Reset none (R455: the snapshot area is 0). -/
  snap    : Option Snapshot
  /-- The scheduled snapshot before it, from which TEL_RATE_n is taken (R450, 18_telemetry.md). Reset none (R455). -/
  prev    : Option Snapshot
  /-- Sample records by ring place: what the collector has written at management SRAM 0x0003_0000 since anything else wrote there
  (R452, 18_telemetry.md). Reset none (R455). -/
  samples : Tab Sample
  /-- DNT instant, in ns, of the last scheduled sweep that fired, so that none fires twice (R448, R74). Reset none (R455). -/
  lastAt  : Option Nat
  /-- Sweep period in ms in force since the last sweep instant (R448, 18_telemetry.md). Reset 1,000 (TEL_CFG's reset). -/
  period  : Nat
  deriving DecidableEq, Repr

end Sys2Proof.Machine
end

