-- ==== Sys2Proof/Machine/Blocks/Output.lean ====
section
/-! DEFINITION. What the block sends outside: completions, messages, frames, interrupts. The state keeps them in order, so that
a statement can say what a command sent (notes/assumptions/4.md). -/

namespace Sys2Proof.Machine

/-- Data that the device returns to a host for an admin command. -/
inductive HostData where
  | bytes (bs : List Byte)
  | nsList (ids : List Nat)
  | words (ws : List Nat)
  | events (es : List (Nat × Nat))
  /-- `len` bytes from byte `off` of the Discovery page that lists these entries, all with the subsystem NQN: SLOT_ID of the device, port,
  whether NVMe/TCP, and whether TREQ is "secure channel required" (R82). -/
  | discovery (off len : Nat) (nqn : Nqn) (entries : List (Nat × Nat × Bool × Bool))
  deriving DecidableEq, Repr

/-- A message sent on the Kweistash link (Table 13.3), or a NAK (R327). -/
inductive PeerMsg where
  | hello (h : HelloMsg)
  | heartbeat (h : HbMsg)
  | write (tag : PeerTag) (win epoch off : Nat) (data : List Byte)
  | wack (tag : PeerTag)
  | epochInfo (epoch : Nat) (sizes : List Nat)
  | epochQuery
  | config (txn : Nat) (writes : List (Nat × Word)) (ops : List CfgOp) (atNs : Option Nat)
  | configAck (txn : Nat)
  | key (k : KeyMsg)
  | keyAck (status : Nat)
  | fencing
  | handover (head : Nat)
  | leave
  | nak (cause fseq : Nat)
  | resend (fseq : Nat)
  | retrain (lanes : Nat)
  deriving DecidableEq, Repr

/-- An SPDM response (R440 to R443): VERSION; CAPABILITIES and ALGORITHMS of Table 17.7; DIGESTS; a portion of the certificate chain and what
remains; CHALLENGE_AUTH, MEASUREMENTS and KEY_EXCHANGE_RSP with their signatures; the acknowledgements; ERROR with its code, and
ResponseNotReady with its CTExponent. -/
inductive SpdmRsp where
  | version (v : Nat)
  | capabilities
  | algorithms
  | digests (d : List Byte)
  | certificate (part : List Byte) (left : Nat)
  | challengeAuth (sig : List Byte)
  | measurementCount (n : Nat)
  | measurements (blocks : List (Nat × List Byte)) (sig : Option (List Byte))
  | keyExchangeRsp (session : Nat) (sig : List Byte)
  | finishRsp (session : Nat)
  | heartbeatAck (session : Nat)
  | keyUpdateAck (session : Nat)
  | endSessionAck (session : Nat)
  | error (code : Nat)
  | notReady (ctExponent : Nat)
  deriving DecidableEq, Repr

/-- The answer to an NVMe-MI command (R384): a data structure; the subsystem's temperature in °C beside open bytes; CNTLID and CSTS of each
controller with that temperature; a configuration value; success; an error status. -/
inductive MiRsp where
  | dataStructure (typ : Nat) (bytes : List Byte)
  | subsystemHealth (temp : Nat) (other : List Byte)
  | controllerHealth (ctlrs : List (Nat × Nat)) (temp : Nat)
  | configuration (id value : Nat)
  | done
  | error (status : Nat)
  deriving DecidableEq, Repr

inductive Output where
  /-- A reply of port NPnn to an ARP request, a Neighbor Solicitation or an echo for its own address (R301). -/
  | arpReply (np : Nat)
  | neighborAdvertisement (np : Nat)
  | echoReply (np : Nat)
  /-- A member is placed in a drive power state (R114). -/
  | memberPower (bay ps : Nat)
  /-- The answer to a Pdelay_Req on a port (R63), and a Delay_Req sent on a port (R63). -/
  | pdelayResp (np : Nat)
  | delayReq (np : Nat)
  /-- A PFC frame: port, priority, quanta (R309). -/
  | pfc (np prio quanta : Nat)
  /-- Start of a frame of a connection, or of the device itself, on a port (R311): class, connection, length. -/
  | frameStart (np cls : Nat) (conn : Option Nat) (len : Nat)
  /-- RDMA WRITEs or C2HData PDUs of a PUSH: connection, place in the command's data, and the bytes (R319). -/
  | pushData (conn off : Nat) (data : List Byte)
  /-- RDMA READ requests or Ready to Transfer PDUs of a PULL (R319). -/
  | pullRequest (conn off len : Nat)
  /-- The data not acknowledged is sent again on a connection (R305, R306). -/
  | resendData (conn : Nat)
  /-- A CNP on a connection (R308). -/
  | cnp (conn : Nat)
  /-- A connection request accepted, or rejected, or a TCP reset (R304). -/
  | connAccept (conn : Nat)
  | connReject (np : Nat)
  | tcpReset (np : Nat)
  /-- The device closes a connection (R80, R304). -/
  | connClose (conn : Nat)
  /-- A TLS alert on a connection (R307): handshake_failure 40, bad_record_mac 20. -/
  | tlsAlert (conn code : Nat)
  /-- A TLS record sealed on a connection (R288). -/
  | tlsRecord (conn : Nat) (data : List Byte)
  /-- A TLS KeyUpdate on a connection (R307). -/
  | tlsKeyUpdate (conn : Nat)
  /-- A Chieb reply on the sideband to an endpoint, or inside a secured session (R384, R443). -/
  | mctp (eid : Nat) (data : List Byte)
  | secured (session : Nat) (data : List Byte)
  /-- An SPDM response to a requester: 0 Data Object Exchange, 1 + e the sideband endpoint e (R440). -/
  | spdm (who : Nat) (r : SpdmRsp)
  /-- The answer to an NVMe-MI command of a sideband endpoint (R384). -/
  | mi (eid : Nat) (r : MiRsp)
  /-- A message on the Kweistash link (R328). -/
  | peer (p : PeerMsg)
  /-- A frame to the witness: its kind, forced flag, epoch presented and request number (Table 13.4). -/
  | witness (kind : WitKind) (forced : Bool) (epoch req : Nat)
  /-- A completion capsule (R87): connection, CID, status, DW0 and DW1. -/
  | cqe (conn cid : Nat) (st : NvStatus) (dw0 dw1 : Nat)
  /-- Data returned to the host of an admin command. -/
  | hostData (conn cid : Nat) (d : HostData)
  /-- An interrupt to management core M0 (0) or M1 (1). -/
  | coreIrq (core : Nat)
  /-- Assert_INTA or Deassert_INTA (R417). -/
  | inta (assert : Bool)
  /-- An MSI message of a vector, or an MSI-X message of an entry (R417). -/
  | msi (vec : Nat)
  | msix (entry : Nat)
  /-- A PME message (R415). -/
  | pme
  /-- An answer to a configuration request: data, or Configuration Request Retry Status (R408). -/
  | cfgCpl (data : Word)
  | cfgCrs
  /-- An Unsupported Request answer (R410, R414). -/
  | unsupported
  /-- A BAR0 read's completion (R411). -/
  | bar0Cpl (data : Word)
  /-- An AER message: correctable, non-fatal or fatal (R413). -/
  | aerMsg (sev : Nat)
  /-- A memory write, and a memory read with its tag, that the endpoint sends to the service processor for a DMA channel (R411). -/
  | hostWrite (addr : Nat) (data : List Byte)
  | hostRead (tag addr len : Nat)
  /-- A Device Self-test runs: every engine's known-answer test, and reads of one stripe of each of these groups, and of one stripe in every
  4,096 as well where it is the extended one (R92). -/
  | selfTest (extended : Bool) (groups : List Nat)
  /-- A network port discards the frame it was to send (R148). -/
  | frameDiscard (np : Nat)
  /-- A member read of `n` blocks at a member LBA of a bay, and the brew and step whose token ends it (R236, R462). -/
  | memberRead (bay lba n tag step : Nat)
  /-- A member write with FUA of blocks and their tags at a member LBA of a bay (R225, R236). -/
  | memberWrite (bay lba : Nat) (data tags : List Byte) (tag step : Nat)
  /-- Format NVM with SES 0 and the label write of a member or target: bay, group, position (R196, R243). -/
  | memberFormat (bay group pos : Nat)
  /-- A reset of a drive's controller (R238). -/
  | memberReset (bay : Nat)
  /-- Background member writes of a stripe: group, stripe, positions (R244, R247, R252, R260). -/
  | stripeWrite (group strp : Nat) (poss : List Nat)
  /-- A sealed block written to its position: group, block b, its 16-byte tag; its logical data is zero (R252). -/
  | sealWrite (group b : Nat) (tag : List Byte)
  /-- Full-stripe writes of a checkpoint slot (R229, R230): group, slot 0 or 1, covered seq. -/
  | journalWrite (group slot seq : Nat)
  /-- Full-stripe writes of `n` unit-map stripes of the journal area from stripe `first` (R229 to R231). -/
  | mapWrite (group first n : Nat)
  /-- A key-store block written with FUA to members (R293): member LBA, its 4,096 bytes, the bays. -/
  | keyStore (lba : Nat) (block : List Byte) (bays : List Nat)
  /-- A progress record of 64 bytes written with FUA to member LBA 1 of the member in a bay (R251, Table 10.3). -/
  | progressWrite (bay : Nat) (record : List Byte)
  /-- Records mirrored to the peer, by sequence number (R217). -/
  | mirror (seqs : List Nat)
  deriving DecidableEq, Repr

end Sys2Proof.Machine
end

