-- ==== Sys2Proof/Machine/Blocks/Switch.lean ====
section
/-! DEFINITION. State of the switch core and the buffer pool manager (07_switch_core_and_buffers.md) that no register of
Regs.lean holds. -/

namespace Sys2Proof.Machine

/-- A queue entry (R146): input port, target port and sub, buffer pointer, its first cell (start) and its first unsent cell (cell0), cells
left, length of the last cell, flow, switch priority, the link it is bound for, and the brew and token it counts toward. -/
structure QEntry where
  input : Nat
  port  : Nat
  sub   : Nat
  ptr   : Word
  start : Nat
  cell0 : Nat
  cells : Nat
  last  : Nat
  flow  : Nat
  sp    : Nat
  link  : Option Nat
  owner : Option (Nat × Nat)
  deriving DecidableEq, Repr

/-- Buffer states of Table 7.7. -/
inductive BufState where
  | free | owned | released | quarantined
  deriving DecidableEq, Repr

/-- A buffer's metadata word, Table 7.7 (R160). -/
structure BufMeta where
  state : BufState
  mgmt  : Bool
  owner : Nat
  refs  : Nat
  deriving DecidableEq, Repr

structure Switch where
  /-- Queue entries by entry number, at most 262,144 (R149). Reset none (R164). -/
  entries : Tab QEntry
  /-- DT in ns of the down event of each link whose hold runs (R151). Reset none (R164). -/
  holds   : Tab Nat
  /-- Buffer metadata by address divided by 256; unlisted buffers are FREE with refs 0 (R160, R164). Reset none. -/
  bufs    : Tab BufMeta
  /-- Grant pointer of each output and accept pointer of each input (R147). Reset 0 is DESIGN CHOICE. -/
  grants  : Tab Nat
  accepts : Tab Nat
  /-- Link whose turn comes next, by input, output and switch priority, as input·256 + output·4 + sp (R147). Reset 0 is DESIGN CHOICE. -/
  turns   : Tab Nat
  /-- Words of the metadata region, by number, with an uncorrectable error that no operation has met yet (R162). Reset none. -/
  badMeta : List Nat
  deriving DecidableEq, Repr

end Sys2Proof.Machine
end

