-- ==== Sys2Proof/Machine/Blocks/Time.lean ====
section
/-! DEFINITION. State of network time and device time (04_network_time.md) that no register of Regs.lean holds. -/

namespace Sys2Proof.Machine

/-- What the device keeps of an Announce heard on a port, for the BMCA of R63 and R65. -/
structure AnnounceInfo where
  prio1    : Nat
  cls      : Nat
  accuracy : Nat
  variance : Nat
  prio2    : Nat
  identity : Nat
  steps    : Nat
  utc      : Int
  heard    : Nat
  deriving DecidableEq, Repr

/-- A two-step Sync that waits for its Follow_Up (R63). -/
structure SyncWait where
  port : Nat
  seq  : Nat
  rx   : Nat
  corr : Int
  deriving DecidableEq, Repr

structure Time where
  /-- DT, ns since the last reset release, 64 bits (R23, 01_architecture.md; TIM_DT, 04_network_time.md). Reset 0. -/
  dt        : Nat
  /-- DNT in units of 2^-16 ns since its epoch: seconds, nanoseconds and fraction of TIM_DNT (R69). Reset 0. -/
  dnt       : Nat
  /-- Slew of DNT against DT in parts per 10^9, at most 100 ppm (R71). Reset 0. -/
  slew      : Int
  /-- Consecutive Syncs with an offset within 1 µs (Table 4.2). Reset 0. -/
  good      : Nat
  /-- Consecutive Syncs over the step threshold in LOCKED (R71). Reset 0. -/
  overCnt   : Nat
  /-- The two-step Sync awaiting its Follow_Up (R63). Reset none. -/
  wait      : Option SyncWait
  /-- Origin and receive time, ns, of the last Sync used, for the delay measurement (R63). Reset none. -/
  lastSync  : Option (Int × Int)
  /-- Send time, ns, of the Delay_Req outstanding (R63). Reset none. -/
  delayReq  : Option Int
  /-- Measured path delay in ns (R63). Reset 0. -/
  pathDelay : Int
  /-- A change of breakout has rewritten the PTP ports, and no valid Sync has come since (R66). Reset 0. -/
  brkWait   : Bool
  /-- Announce information by port (R65). Reset none. -/
  announces : Tab AnnounceInfo
  /-- currentUtcOffset of the latest valid Announce, s (R75). Reset 0 is DESIGN CHOICE: no Announce yet. -/
  utc       : Int
  /-- The u in use since the last re-evaluation (R75). Reset 0. -/
  utcInUse  : Int
  /-- Elapsed sync-lost timer in ns of DT while in HOLDOVER or UNSYNC (R70, R68). Reset 0. -/
  lostNs    : Nat
  /-- DT in ns up to which the sync-lost timer has been counted (R70). Reset 0. -/
  lostAt    : Nat
  /-- PPS_IN edges are aligned: the last edge lay within 1 µs (R67). Reset 0. -/
  ppsGood   : Bool
  /-- REF10M_IN is within 10 MHz ± 5 ppm (R67). Reset 0 is DESIGN CHOICE: an input. -/
  refGood   : Bool
  /-- DNT in ns of the last half-hour boundary that fired (R74, R75). Reset none. -/
  lastTod   : Option Nat
  deriving DecidableEq, Repr

end Sys2Proof.Machine
end

