-- ==== Sys2Proof/Machine/Blocks/Trust.lean ====
section
/-! DEFINITION. State of firmware and trust (17_firmware_and_trust.md) that no register of Regs.lean holds. -/

namespace Sys2Proof.Machine

/-- Who waits for a firmware commit: a Chieb handle, or a Firmware Commit command of an admin queue (R431). -/
inductive FwWho where
  | handle (h : Nat)
  | nvme (conn cid assoc : Nat)
  | nobody
  deriving DecidableEq, Repr

/-- A firmware commit in progress (R431): its slot, action of Table 17.5, who waits for it, and its phase: 0 it waits for the token of a
persistent word, 1 its slot is being written, 2 the slot is written and the image is to be activated. -/
structure FwCommit where
  slot   : Nat
  action : Nat
  who    : FwWho
  phase  : Nat
  deriving DecidableEq, Repr

/-- An activation without reset under way (R107, R432): the mode it left, its slot, the DT in ns of its drain deadline, whether the drain
is over, and who waits. -/
structure Activation where
  back : Mode
  slot : Nat
  dead : Nat
  over_ : Bool
  who  : FwWho
  deriving DecidableEq, Repr

/-- The SPDM requests whose responses need a signature (R441). -/
inductive SpdmKind where
  | challenge | measurements | keyExchange
  deriving DecidableEq, Repr

/-- A signature in progress, or a response that is ready (R441): its request, whether the signature is done, what is signed, the measurement
blocks the response carries, and the session it opens. -/
structure SpdmPend where
  kind    : SpdmKind
  ready   : Bool
  data    : List Byte
  blocks  : List (Nat × List Byte)
  session : Option Nat
  deriving DecidableEq, Repr

/-- What a requester has negotiated (R440), and its response in preparation. -/
structure SpdmPeer where
  ver  : Bool
  caps : Bool
  algs : Bool
  pend : Option SpdmPend
  deriving DecidableEq, Repr

/-- A secured session (R443): its requester (0 Data Object Exchange, 1 + e the sideband endpoint e), whether the device has sent its key
exchange response, whether FINISH has completed it, the generation of its keys, and the DT in ns of the last message or heartbeat. -/
structure SpdmSess where
  peer   : Nat
  keyed  : Bool
  done   : Bool
  keyGen : Nat
  at_    : Nat
  deriving DecidableEq, Repr

structure Trust where
  /-- Images of slots 1 to 3 (R423). First power-on: none. Slot 0 holds the factory image, of which the
  spec gives no content. -/
  images   : Tab (List Byte)
  /-- Staged 4 KiB units by number (R430). Reset none. -/
  staged   : Tab (List Byte)
  /-- The commit in progress (R431). Reset none. -/
  commit   : Option FwCommit
  /-- The activation in progress in ACTIVATING (R432). Reset none. -/
  act      : Option Activation
  /-- An activation is in progress until its image confirms or falls back (R432). Reset 0. -/
  busyAct  : Bool
  /-- Measurements of the current start or activation: manifest and components (R429, R442). Reset none. -/
  meas     : List (List Byte)
  /-- DT in ns at which the running image started (R434). Reset 0. -/
  imageAt  : Nat
  /-- ENGINE_KAT has passed since the image started; a fault of R434 has been detected since. Reset 0. -/
  katOk    : Bool
  badSeen  : Bool
  /-- The device has begun to leave its trial by a handover before the reset (R435). Reset 0. -/
  leaving  : Bool
  /-- Revoke bits and programmed bits are fuses, held in FWU_KEYS; the hash of each fused key shows only in
  `ImgLook.keyOk`. Requesters of
  SPDM by number (R440). Reset none. -/
  peers    : Tab SpdmPeer
  /-- Secured sessions by session id (R443). Reset none. -/
  sessions : Tab SpdmSess
  deriving DecidableEq, Repr

end Sys2Proof.Machine
end

