-- ==== Sys2Proof/Machine/State.lean ====
section
/-! DEFINITION. The state of the IKB-7240, the reasons a step can stop, and the state after reset. -/

namespace Sys2Proof.Machine

/-- Why a step can fault. The block's commands end in a next state, so this reason is raised by no meaning; it stands for an
access outside every memory of the device, which no command makes. Safe: a run stops instead of going on. -/
inductive Fault where
  /-- No meaning raises it. Safe. -/
  | noSuchMemory
  deriving DecidableEq, Repr

/-- Why a step can be refused. -/
inductive Refusal where
  /-- Raised by `exec` for a command that has no meaning in the model. Safe. -/
  | notModelled (mnemonic : String)
  deriving DecidableEq, Repr

/-- The addressed memories: HBM, the local Carafe, management SRAM and the BAR2 mailbox, each a canonical list of cells:
addresses strictly rising, no entry equal to what an unlisted address reads as, which is 0 (notes/assumptions/3.md). -/
structure Mem where
  hbm    : List Host.Cell
  carafe : List Host.Cell
  sram   : List Host.Cell
  bar2   : List Host.Cell
  /-- 64-bit HBM words marked uncorrectable by a poisoned cell, by address divided by 8 (R148). Reset none. -/
  ue     : List Nat
  deriving DecidableEq, Repr

/-- Everything but the queue and the memories: the registers, and each block's state behind them. -/
structure Ctl where
  /-- BAR0 register words written since reset, by offset; an unlisted register holds its reset value (`Reg.resetWord`). -/
  regs  : Tab Word
  /-- What the block has sent outside, newest first (notes/assumptions/4.md). -/
  out   : List Output
  /-- The model's own counter of free values taken (notes/assumptions/2.md). -/
  fv    : Nat
  tel   : Tel
  ept   : Ept
  power : Power
  time  : Time
  host  : HostPath
  bst   : Barista
  swc   : Switch
  crm   : Crema
  car   : Journal
  rbd   : Rebuild
  mgt   : Mgmt
  keys  : Keys
  pair  : Pair
  bay   : Bays
  net   : Net
  trust : Trust
  deriving DecidableEq, Repr

/-- The machine: commands waiting, first in first out, the memories, and the rest. -/
structure State where
  pending : List Instr
  mem     : Mem
  c       : Ctl
  deriving DecidableEq, Repr

/-! ### Reset: the device in BOOT at its first power-on (Table 2.4 step 5), every register at its reset value -/

/-- 01_architecture.md, 18_telemetry.md: R455. -/
def Tel.reset : Tel :=
  { cnt := [], changed := [], snap := none, prev := none, samples := [], lastAt := none, period := 1000 }

/-- 16_service_endpoint.md; the AER masks and severities are those of Table 16.3, at the bit places of PCI Express
(notes/assumptions/32.md). -/
def Ept.reset : Ept :=
  { command := 0, bme := false, intxDis := false, msiEn := false, msiN := 1, msiAddr := 0, msiData := 0, msiMask := 0, msiPend := 0,
    msixEn := false, msixMask := false, pmeEn := false, pmeStat := false, d3cold := true, bars := [], devCtl := 0x2810, devStat := 0, capWords := [],
    aerUStat := 0, aerUMask := 0x8000, aerUSev := 0x462010, aerCStat := 0, aerCMask := 0xC000, aerFirst := none, hdrLog := [],
    crsUntil := 100000000, reads := [] }

/-- 02_package_and_power.md, 03_modes_and_startup.md. -/
def Power.reset : Power :=
  { slotId := false, testen := false, thermN := false, stop := none, pwrLow := false, pdHeld := none, pdQueue := [], drainEnd := none, issuePct := 100,
    peerAbsent := false, scanned := false, mirrorAbandoned := false, quiescing := false, psExit := false, deferredPs := false,
    ctlA := ⟨0, 0, 0, 0, 0⟩, ctlB := ⟨0, 0, 0, 0, 0⟩ }

/-- 04_network_time.md. -/
def Time.reset : Time :=
  { dt := 0, dnt := 0, slew := 0, good := 0, overCnt := 0, wait := none, lastSync := none, delayReq := none, pathDelay := 0, brkWait := false,
    announces := [], utc := 0, utcInUse := 0, lostNs := 0, lostAt := 0, ppsGood := false, refGood := false, lastTod := none }

/-- 05_host_command_path.md. -/
def HostPath.reset : HostPath :=
  { assocs := [], queues := [], tags := [], intake := [], capSeq := 0, served := 0, test := none, anaCnt := 0, closing := [] }

/-- 06_barista_and_dma.md. -/
def Barista.reset : Barista :=
  { steps := [], dir := [], loadIdx := 0, loadBad := false, loadExt := false, tokSeq := 0, brews := [], lanes := [], exc := [], drain := [], reEn := [],
    chans := [], sems := [] }

/-- 07_switch_core_and_buffers.md: R164. -/
def Switch.reset : Switch := { entries := [], holds := [], bufs := [], grants := [], accepts := [], turns := [], badMeta := [] }

/-- 08_read_path_and_crema.md: R193; the seeds are the free values from number `seed` on. -/
def Crema.reset (seed : Nat) : Crema :=
  { entries := [], bktEp := [], nsEp := [], recs := [], sketch := [], sketchEp := false, lastDecay := none, bktHand := [], poolHand := [],
    seedAt := seed, sweeps := [], capped := [], held := none }

/-- 09_layouts_and_write_path.md: the ring of a first power-on. -/
def Journal.reset : Journal :=
  { recs := [], head := 1, line := 0, units := [], pendU := [], pendUse := [], ns := [], idx := [], ranges := [],
    slots := [], works := [], owed := [], maps := [], forms := [], ckA := [], ckB := [], ckAt := [], umap := [], press := false, locks := [], failed := false, peerWt := false,
    invalid := false }

/-- 10_rebuild_cupping_regrind.md. -/
def Rebuild.reset : Rebuild :=
  { drives := [], ports := [], cmin := [], downAt := [], resetAt := [], hourAt := [], targets := [], formats := [], inits := [], bktRb := 0,
    bktCup := 0, bktRg := 0, bktTest := 0, shares := [], lost := [], repairs := [], prog := [], refill := 0, rgMap := [], rgRecs := [], progRec := [],
    tgtRec := [], markDue := [] }

/-- 15_management_and_transactions.md: R397. -/
def Mgmt.reset : Mgmt :=
  { nsBusy := [], nsDel := [], miFreq := 1, miMtu := 64, nguid := [], hosts := [], nqn := [], chans := [], taken := [], handles := [], txns := [], nextId := 1, expired := [],
    commits := [], schedNum := 0, cnum := 0, half := 0, used := 0, pcr := [], pcrWr := [], tests := [] }

/-- 11_tamp_and_cipher.md: R297. -/
def Keys.reset : Keys :=
  { mat := [], store := [], storeCnt := [], restored := false, skek := [], loads := [], zeros := [], pend := [], ctab := [] }

/-- 13_pairing_and_failover.md: R327, R330, R334. -/
def Pair.reset : Pair :=
  { faults := [], faultNum := 0, witEnd := none, endEnd := none, leaseAt := 0, reqs := [], reqNum := 0, witAt := 0, retryAt := none,
    refEnd := none, hbNum := 0, hbSent := [], hbPeer := 0, hbAt := none, tickAt := 0, misses := 0, rAt := none, asked := false,
    beganAt := none, freed := false, handed := false, hello := none, last := none, shadowed := none, waits := false, txSeq := 0, txAck := 0, credit := 1024, rxSeq := 0,
    rxHeld := 0, laneBad := 0, writes := [], wrNum := 0, mirNaks := [], resend := [], held := [], commit := [], shadow := 0,
    syncing := false, take := none, hand := none, handOp := none, forceAt := none, presets := [] }

/-- 14_bay_power.md: a channel with nothing driven. -/
def Bay.reset : Bay :=
  { since := 0, want := false, debAt := none, seated := false, timerAt := none, tripped := false, holdEnd := none, pgAt := none, perstAt := none, off := none,
    cycle := false, checkAt := none, againAt := none, ps2 := 0, ps2At := 0, gate := .hiZ, pg := .hiZ, perst := .hiZ }

/-- 14_bay_power.md: R361, R378. -/
def Bays.reset : Bays := { ch := [], events := [], evtNum := 0, cal := [] }

/-- 12_network_ports.md: R320. -/
def Net.reset : Net := { conns := [], ports := [], shapers := [] }

/-- 17_firmware_and_trust.md. -/
def Trust.reset : Trust :=
  { images := [], staged := [], commit := none, act := none, busyAct := false, meas := [], imageAt := 0, katOk := false, badSeen := false,
    leaving := false, peers := [], sessions := [] }

/-- The registers and blocks at a first power-on; the four Crema seeds are the first four free values (R167). -/
def Ctl.reset : Ctl :=
  { regs := [], out := [], fv := 4, tel := Tel.reset, ept := Ept.reset, power := Power.reset, time := Time.reset, host := HostPath.reset,
    bst := Barista.reset, swc := Switch.reset, crm := Crema.reset 0, car := Journal.reset, rbd := Rebuild.reset, mgt := Mgmt.reset,
    keys := Keys.reset, pair := Pair.reset, bay := Bays.reset, net := Net.reset, trust := Trust.reset }

/-- The machine right after reset: no command waits, no memory holds anything. -/
def State.reset : State := { pending := [], mem := { hbm := [], carafe := [], sram := [], bar2 := [], ue := [] }, c := Ctl.reset }

end Sys2Proof.Machine
end

