-- ==== Sys2Proof/Machine/Tables.lean ====
section
/-! DEFINITION. The sparse tables of the state (register words, tags, connections, entries, …): look-up, write, removal. -/

namespace Sys2Proof

/-- What table `t` holds under number `k`. -/
def Tab.at? {α : Type} : Tab α → Nat → Option α
  | [], _ => none
  | (a, x) :: t, k => if a = k then some x else Tab.at? t k

/-- What table `t` holds under `k`, or `d` where it holds nothing. -/
def Tab.getD {α : Type} (t : Tab α) (k : Nat) (d : α) : α := (Tab.at? t k).getD d

/-- Table `t` with `x` under `k`; rising numbers stay rising. -/
def Tab.put {α : Type} : Tab α → Nat → α → Tab α
  | [], k, x => [(k, x)]
  | (a, y) :: t, k, x => if k < a then (k, x) :: (a, y) :: t else if a = k then (k, x) :: t else (a, y) :: Tab.put t k x

/-- Table `t` with nothing under `k`. -/
def Tab.del {α : Type} (t : Tab α) (k : Nat) : Tab α := t.filter (fun e => e.1 != k)

/-- Table `t` with the value under `k`, if any, changed by `f`. -/
def Tab.upd {α : Type} (t : Tab α) (k : Nat) (f : α → α) : Tab α :=
  match Tab.at? t k with
  | some x => Tab.put t k (f x)
  | none => t

/-- Whether table `t` holds something under `k`. -/
def Tab.has {α : Type} (t : Tab α) (k : Nat) : Bool := (Tab.at? t k).isSome

/-- The least of `n` numbers counted from `i` under which table `t` holds nothing. -/
def Tab.freeKey {α : Type} (t : Tab α) : Nat → Nat → Option Nat
  | _, 0 => none
  | i, n + 1 => if Tab.has t i then Tab.freeKey t (i + 1) n else some i

/-- Table `t` with every value changed by `f`, which sees its number. -/
def Tab.mapV {α : Type} (t : Tab α) (f : Nat → α → α) : Tab α := t.map (fun e => (e.1, f e.1 e.2))

end Sys2Proof
end

