-- ==== Sys2Proof/Machine/Ops.lean ====
section
/-! DEFINITION. The named operations every block shares: registers and fields, outputs, free values, byte memory, DT, and the
two ways a command's effect is lifted to the whole state. -/

namespace Sys2Proof.Machine

/-! ### Fields of words -/

/-- Bits `hi` to `lo` of a word, as a number. -/
def getBits (w : Word) (hi lo : Nat) : Nat := w.toNat / 2 ^ lo % 2 ^ (hi + 1 - lo)

/-- The mask of bits `hi` to `lo`. -/
def fieldMask (hi lo : Nat) : Word := BitVec.ofNat 32 ((2 ^ (hi + 1 - lo) - 1) * 2 ^ lo)

/-- Word `w` with bits `hi` to `lo` set to `v`, cut to their width. -/
def setBits (w : Word) (hi lo v : Nat) : Word :=
  (w &&& ~~~ fieldMask hi lo) ||| BitVec.ofNat 32 (v % 2 ^ (hi + 1 - lo) * 2 ^ lo)

/-- Bit `i` of a word. -/
def getBit (w : Word) (i : Nat) : Bool := w.getLsbD i

/-! ### Registers -/

/-- Whether offset `off` is index list `dims` of a register based at `base`. -/
def Reg.hit (off base : Nat) : List Dim → Bool
  | [] => off == base
  | d :: ds =>
    match ds with
    | [] => decide (base ≤ off) && (off - base) % d.stride == 0 && decide (d.first ≤ (off - base) / d.stride)
        && decide ((off - base) / d.stride < d.first + d.count)
    | e :: es =>
      decide (base ≤ off) && decide (d.first ≤ (off - base) / d.stride) && decide ((off - base) / d.stride < d.first + d.count)
        && Reg.hit (off - d.stride * ((off - base) / d.stride)) base (e :: es)

/-- The register row that offset `off` falls in. -/
def Reg.find? (off : Nat) : Option RRow := Reg.table.find? (fun r => Reg.hit off r.base r.dims)

/-- The reset word of a row: its fields' reset values in place (R7, R8: reserved fields are 0). -/
def Reg.rowReset (r : RRow) : Word :=
  r.flds.foldl (fun w f => setBits w f.hi f.lo f.rst) 0

/-- Reset value of the register at `off`: its row's, or what the table's text gives by index: a NET_CLS_MAP word by class,
an engine-enable word by the instances of Table 6.3, the vector control word of an MSI-X entry (masked), the factory slot (VALID, R423)
and the fused key slots (notes/assumptions/36.md). -/
def Reg.resetWord (off : Nat) : Word :=
  if Reg.NET_CLS_MAP 0 ≤ off ∧ off ≤ Reg.NET_CLS_MAP 7 then
    setBits (setBits 0 31 29 ((off - Reg.NET_CLS_MAP 0) / 4)) 28 23 (8 * ((off - Reg.NET_CLS_MAP 0) / 4))
  else if Reg.EPT_MSIX 0 0 ≤ off ∧ off < Reg.EPT_MSIX 6 0 then
    (if (off - Reg.EPT_MSIX 0 0) % 16 = 12 then 1 else 0)
  else if off = Reg.FWU_SLOT 0 then 0x80000000
  else if off = Reg.FWU_KEYS then 0xF0
  else match Reg.find? off with
    | some r => Reg.rowReset r
    | none => 0

/-- The word register `off` holds. -/
def Ctl.rd (c : Ctl) (off : Nat) : Word :=
  match Tab.at? c.regs off with
  | some w => w
  | none => Reg.resetWord off

/-- The state with word `w` in register `off`. -/
def Ctl.wr (c : Ctl) (off : Nat) (w : Word) : Ctl := { c with regs := Tab.put c.regs off w }

/-- The value of field `f`. -/
def Ctl.get (c : Ctl) (f : Fld) : Nat := getBits (c.rd f.off) f.hi f.lo

/-- The state with field `f` set to `v`, cut to the field's width. -/
def Ctl.set (c : Ctl) (f : Fld) (v : Nat) : Ctl := c.wr f.off (setBits (c.rd f.off) f.hi f.lo v)

/-- Field `f` as a flag. -/
def Ctl.flag (c : Ctl) (f : Fld) : Bool := c.get f != 0

/-- The state with field `f` set to a flag. -/
def Ctl.setFlag (c : Ctl) (f : Fld) (b : Bool) : Ctl := c.set f (if b then 1 else 0)

/-- The largest value field `f` holds. -/
def Fld.max (f : Fld) : Nat := 2 ^ (f.hi + 1 - f.lo) - 1

/-- Field `f` raised by `n`, saturating at its largest value. -/
def Ctl.bump (c : Ctl) (f : Fld) (n : Nat) : Ctl := c.set f (min (c.get f + n) f.max)

/-- Bit `i` of the register whose field `f` starts at bit 0 or above, counted from the field's lowest bit. -/
def Ctl.bitOf (c : Ctl) (f : Fld) (i : Nat) : Bool := Nat.testBit (c.get f) i

/-- The state with bit `i` of field `f` given. -/
def Ctl.setBitOf (c : Ctl) (f : Fld) (i : Nat) (b : Bool) : Ctl :=
  c.set f (if Nat.testBit (c.get f) i = b then c.get f else if b then c.get f + 2 ^ i else c.get f - 2 ^ i)

/-! ### The Carafe control area (R209) -/

/-- The newest copy of the control area. -/
def Ctl.ctlNew (c : Ctl) : CtlCopy := if c.power.ctlA.seq < c.power.ctlB.seq then c.power.ctlB else c.power.ctlA

/-- The older copy of the control area is written with the newest content changed by `f`, under the next sequence number. -/
def Ctl.ctlPut (c : Ctl) (f : CtlCopy → CtlCopy) : Ctl :=
  let x : CtlCopy := { f c.ctlNew with seq := c.ctlNew.seq + 1 }
  { c with power := if c.power.ctlA.seq < c.power.ctlB.seq then { c.power with ctlA := x } else { c.power with ctlB := x } }

/-- The stored lease epoch (R340). -/
def Ctl.epoch (c : Ctl) : Nat := c.ctlNew.epoch

/-! ### Outputs and free values -/

/-- The state after the block has sent `o`. -/
def Ctl.emit (c : Ctl) (o : Output) : Ctl := { c with out := o :: c.out }

/-- The free value the next open value takes. -/
def Ctl.free (c : Ctl) : Nat := Config.freeNat c.fv

/-- The state after a free value has been taken. -/
def Ctl.tookFree (c : Ctl) : Ctl := { c with fv := c.fv + 1 }

/-- `n` free bytes. -/
def freeBytes (fv : Nat) : Nat → List Byte
  | 0 => []
  | n + 1 => BitVec.ofNat 8 (Config.freeNat fv) :: freeBytes (fv + 1) n

/-- The state after `n` free values have been taken. -/
def Ctl.tookN (c : Ctl) (n : Nat) : Ctl := { c with fv := c.fv + n }

/-! ### Byte memory in canonical form -/

/-- The byte that address `a` of a cell list reads as: the listed one, or 0. -/
def cellRead : List Host.Cell → Nat → Byte
  | [], _ => 0
  | (k, b) :: m, a => if k = a then b else cellRead m a

/-- The list with byte `b` at address `a`, canonical when it was. -/
def cellWrite : List Host.Cell → Nat → Byte → List Host.Cell
  | [], a, b => if b = 0 then [] else [(a, b)]
  | (k, x) :: m, a, b =>
    if a < k then (if b = 0 then (k, x) :: m else (a, b) :: (k, x) :: m)
    else if a = k then (if b = 0 then m else (a, b) :: m)
    else (k, x) :: cellWrite m a b

/-- Every address of the list is above `lo`, the addresses rise strictly, and no byte is 0. -/
def cellsAbove : Option Nat → List Host.Cell → Bool
  | _, [] => true
  | lo, (k, b) :: m => (match lo with | none => true | some l => decide (l < k)) && b != 0 && cellsAbove (some k) m

/-- The canonical form of a cell list: addresses strictly rising, no entry 0. -/
def cellsWf (m : List Host.Cell) : Bool := cellsAbove none m

/-- The canonical form of every memory. -/
def Memory.wf (m : Mem) : Bool := cellsWf m.hbm && cellsWf m.carafe && cellsWf m.sram && cellsWf m.bar2

/-- `n` bytes from address `a`. -/
def cellsRead (m : List Host.Cell) (a : Nat) : Nat → List Byte
  | 0 => []
  | n + 1 => cellRead m a :: cellsRead m (a + 1) n

/-- The list with `bs` written from address `a` up. -/
def cellsWrite (m : List Host.Cell) (a : Nat) : List Byte → List Host.Cell
  | [] => m
  | b :: bs => cellsWrite (cellWrite m a b) (a + 1) bs

/-- Little-endian number of a byte list. -/
def leNat : List Byte → Nat
  | [] => 0
  | b :: bs => b.toNat + 256 * leNat bs

/-- The `n` little-endian bytes of a number. -/
def leBytes : Nat → Nat → List Byte
  | 0, _ => []
  | n + 1, v => BitVec.ofNat 8 (v % 256) :: leBytes n (v / 256)

/-- The memories the device addresses, as spaces 0 to 2 of R134 and the mailbox window. -/
inductive MemSel where
  | hbm | carafe | sram | bar2
  deriving DecidableEq, Repr

/-- The cells of one memory. -/
def Mem.sel (m : Mem) : MemSel → List Host.Cell
  | .hbm => m.hbm
  | .carafe => m.carafe
  | .sram => m.sram
  | .bar2 => m.bar2

/-- The memories with one of them replaced. -/
def Mem.setSel (m : Mem) (s : MemSel) (x : List Host.Cell) : Mem :=
  match s with
  | .hbm => { m with hbm := x }
  | .carafe => { m with carafe := x }
  | .sram => { m with sram := x }
  | .bar2 => { m with bar2 := x }

/-- One byte of one memory. -/
def Mem.byte (m : Mem) (s : MemSel) (a : Nat) : Byte := cellRead (m.sel s) a

/-- `n` bytes of one memory from `a`. -/
def Mem.bytes (m : Mem) (s : MemSel) (a n : Nat) : List Byte := cellsRead (m.sel s) a n

/-- Words of HBM that a write covers whole are correctable again (R148, Table 6.13). -/
def Mem.ueClear (m : Mem) (s : MemSel) (a n : Nat) : Mem :=
  match s with
  | .hbm => { m with ue := m.ue.filter (fun w => !(decide (a ≤ w * 8) && decide (w * 8 + 8 ≤ a + n))) }
  | _ => m

/-- The memories with `bs` written to one of them from `a` up. -/
def Mem.put (m : Mem) (s : MemSel) (a : Nat) (bs : List Byte) : Mem := (m.setSel s (cellsWrite (m.sel s) a bs)).ueClear s a bs.length

/-- Whether HBM bytes `a` to `a + n − 1` touch a word marked uncorrectable (R148). -/
def Mem.hbmBad (m : Mem) (a n : Nat) : Bool := m.ue.any (fun w => decide (w * 8 < a + n) && decide (a < w * 8 + 8))

/-! ### Device time -/

/-- DT, in ns (R23). -/
def Ctl.dt (c : Ctl) : Nat := c.time.dt

/-- DNT in ns (R69). -/
def Ctl.dntNs (c : Ctl) : Nat := c.time.dnt / 65536

/-- The rate of DNT against DT, in parts per 10^9: the slew on the TCXO, or on REF10M_IN where that is enabled and within tolerance
(R67, R71); in HOLDOVER and UNSYNC REF10M_IN alone (Table 4.2). -/
def Ctl.dntRate (c : Ctl) : Int :=
  if !c.flag F.TIM_SYNC_STAT_ref_ok then c.time.slew
  else if 3 ≤ c.get F.TIM_SYNC_STAT_state then Config.refRate
  else Config.refRate + c.time.slew

/-- Event `e` of R136 occurs `k` times: every channel in WAIT on it counts them. -/
def Ctl.dmaEvents (c : Ctl) (e k : Nat) : Ctl :=
  { c with bst := { c.bst with chans := c.bst.chans.map (fun p =>
      match p.2.wait with
      | some (ev, n, j, t) => if ev = e then (p.1, { p.2 with wait := some (ev, n, j + k, t) }) else p
      | none => p) } }

/-- DNT reads `dnt`, in 2^-16 ns: the whole seconds it has passed on the way are DMA events (R136, event 64). -/
def Ctl.dntTo (c : Ctl) (dnt : Nat) : Ctl :=
  { c with time := { c.time with dnt := dnt } }.dmaEvents 64 (dnt / 65536000000000 - c.time.dnt / 65536000000000)

/-- DT moves on by `d` ns and DNT to `dnt`: the ticks of 1 ms are DMA events (R136, event 68). -/
def Ctl.passTo (c : Ctl) (d dnt : Nat) : Ctl :=
  ({ c with time := { c.time with dt := (c.time.dt + d) % 2 ^ 64 } }.dmaEvents 68 ((c.time.dt + d) / 1000000 - c.time.dt / 1000000)).dntTo dnt

/-- DT moves on by `d` ns, and DNT with it at its rate (R23, R67, R71). -/
def Ctl.pass (c : Ctl) (d : Nat) : Ctl :=
  c.passTo d (((c.time.dnt : Int) + (d : Int) * 65536 * (1000000000 + c.dntRate) / 1000000000)).toNat

/-- DT moves on to instant `t`, if `t` is still to come: a timed event's command says that its time has come
(notes/assumptions/5.md). -/
def Ctl.reach (c : Ctl) (t : Nat) : Ctl := if c.time.dt < t then c.pass (t - c.time.dt) else c

/-! ### Lifting a command's effect to the whole state -/

/-- A command that reads the memories and changes no byte of them: the queue and the memories stay. -/
def onCtl (f : Mem → Ctl → Ctl) (s : State) : Host.Outcome State Fault Refusal :=
  .next { s with c := f s.mem s.c }

/-- A command that may write memory: the queue stays. -/
def onAll (f : Mem → Ctl → Mem × Ctl) (s : State) : Host.Outcome State Fault Refusal :=
  .next { s with mem := (f s.mem s.c).1, c := (f s.mem s.c).2 }

end Sys2Proof.Machine
end

