-- ==== Sys2Proof/Machine/Interrupts.lean ====
section
/-! DEFINITION. Modes as codes (Table 3.1), and the interrupt sources of the service endpoint: INTx, MSI, MSI-X, PME and WAKE_N
(16_service_endpoint.md, R414 to R417; R62 of 03_modes_and_startup.md). -/

namespace Sys2Proof.Machine

/-- The code of a mode, Table 3.1. -/
def Mode.code : Mode → Nat
  | .off => 0 | .reset => 1 | .boot => 2 | .recovery => 3 | .standby => 4 | .active => 5 | .degraded => 6 | .quiesced => 7
  | .activating => 8 | .fenced => 9 | .idleLow => 10 | .test => 11

/-- The mode of a code; codes above 11 name no mode and are never written. -/
def Mode.ofCode : Nat → Mode
  | 1 => .reset | 2 => .boot | 3 => .recovery | 4 => .standby | 5 => .active | 6 => .degraded | 7 => .quiesced
  | 8 => .activating | 9 => .fenced | 10 => .idleLow | 11 => .test | _ => .off

/-- The device's mode (GLB_MODE_STAT.mode). -/
def Ctl.mode (c : Ctl) : Mode := Mode.ofCode (c.get F.GLB_MODE_STAT_mode)

/-- The device starts no step, record or completion: it holds in a safe stop, is off or in reset, or is fenced (R35, R48, R341). -/
def Ctl.halted (c : Ctl) : Bool := c.power.stop.isSome || c.mode == .off || c.mode == .reset || c.mode == .fenced

/-- Background work may start: the device holds the lease in ACTIVE, DEGRADED or, outside PS3, IDLE_LOW, and no safe stop has begun
(Table 3.1, Table 1.5, R35). -/
def Ctl.bgOk (c : Ctl) : Bool :=
  c.flag F.GLB_MODE_STAT_lease && c.power.stop.isNone
    && (c.mode == .active || c.mode == .degraded || (c.mode == .idleLow && c.get F.HCP_PS_STAT_eff_ps != 3))

/-- BAR0 accepts writes of registers: the device runs, and not in RECOVERY, where it accepts those of GLB_MODE_REQ only (Table 3.4). -/
def Ctl.bar0Open (c : Ctl) : Bool := !(c.mode == .off || c.mode == .reset || c.mode == .recovery)

/-- Whether a memory request reaches the function: its link has power and reference clock, the device is neither off nor in reset, and no
function reset discards it (R419). -/
def Ctl.eptLive (c : Ctl) : Bool := !c.ept.d3cold && !c.flag F.EPT_STAT_flr && c.mode != .off && c.mode != .reset

/-- Whether a mode permits message-signalled interrupts (Table 3.4). -/
def Mode.msiOk : Mode → Bool
  | .boot | .recovery | .test => true
  | _ => false

/-- How interrupts are delivered now: 0 INTx, 1 MSI, 2 MSI-X (R417). -/
def Ctl.irqStyle (c : Ctl) : Nat :=
  if c.mode.msiOk then (if c.ept.msixEn then 2 else if c.ept.msiEn then 1 else 0) else 0

/-- MSI vector of source `b`: min(b, N − 1) (R417). -/
def Ctl.msiVec (c : Ctl) (b : Nat) : Nat := min b (c.ept.msiN - 1)

/-- The function may send requests and messages: its link is up, in D0, with no function reset (R414, R419). -/
def Ctl.eptSends (c : Ctl) : Bool := !c.ept.d3cold && c.get F.EPT_STAT_dstate == 0 && !c.flag F.EPT_STAT_flr

/-- INTA is asserted while an enabled source is set and Interrupt Disable is 0, in the INTx style (R417). -/
def Ctl.intxUpdate (c : Ctl) : Ctl :=
  let want := c.eptSends && c.irqStyle == 0 && !c.ept.intxDis && (c.get F.EPT_INT_STAT_src &&& c.get F.EPT_INT_EN_src) != 0
  let c0 := c.set F.EPT_STAT_irq_mode c.irqStyle
  if want == c0.flag F.EPT_STAT_intx then c0 else (c0.setFlag F.EPT_STAT_intx want).emit (.inta want)

/-- One message for source `b` in a message-signalled style, or its pending bit where it is masked, or where bus-master enable is 0 or the
function sends nothing (R414, R417). -/
def Ctl.sendMessage (c : Ctl) (b : Nat) : Ctl :=
  if c.irqStyle = 2 then
    if c.ept.msixMask || (c.rd (Reg.EPT_MSIX b 3)).getLsbD 0 || !c.ept.bme || !c.eptSends then c.setBitOf F.EPT_MSIX_PBA_pend b true
    else (c.setBitOf F.EPT_MSIX_PBA_pend b false).emit (.msix b)
  else if c.irqStyle = 1 then
    if c.ept.msiMask.getLsbD (c.msiVec b) || !c.ept.bme || !c.eptSends then
      { c with ept := { c.ept with msiPend := c.ept.msiPend ||| BitVec.ofNat 8 (2 ^ c.msiVec b) } }
    else ({ c with ept := { c.ept with msiPend := c.ept.msiPend &&& ~~~ BitVec.ofNat 8 (2 ^ c.msiVec b) } }).emit (.msi (c.msiVec b))
  else c

/-- A wake event of source `b` in D3: PME_Status when PME_En, then a PME message in D3hot or WAKE_N low in D3cold (R415). -/
def Ctl.wakeEvent (c : Ctl) (b : Nat) : Ctl :=
  if c.bitOf F.EPT_WAKE_EN_src b && (c.ept.d3cold || c.get F.EPT_STAT_dstate == 3) && c.ept.pmeEn then
    let c1 := { c with ept := { c.ept with pmeStat := true } }
    if c.ept.d3cold then c1.setFlag F.EPT_STAT_wake true else c1.emit .pme
  else c

/-- INTERRUPT_SOURCE_SET (R416): the source bit rises; a rise sends the message of its style, wakes, or asserts INTA. -/
def Ctl.intSet (c : Ctl) (b : Nat) : Ctl :=
  if c.bitOf F.EPT_INT_STAT_src b then c
  else
    let c1 := (c.setBitOf F.EPT_INT_STAT_src b true).wakeEvent b
    (if c1.bitOf F.EPT_INT_EN_src b then c1.sendMessage b else c1).intxUpdate

/-- The level sources of Table 16.4 set their bits again while what underlies them is 1 (R416). -/
def Ctl.intLevels (c : Ctl) : Ctl :=
  let c1 := if c.get F.MGT_MB_STAT_done != 0 && c.flag F.MGT_CFG_mb_irq_en then c.intSet 0 else c
  let c2 := if c1.flag F.PEER_FAULT_STAT_pend then c1.intSet 1 else c1
  if c2.flag F.PCR_STAT_err_pend then c2.intSet 2 else c2

/-- Every message already pending is sent, as R62 asks before a change to a mode that permits only INTx. -/
def Ctl.flushMessages (c : Ctl) : Ctl :=
  (List.range 6).foldl (fun c b =>
    if c.irqStyle = 2 && c.bitOf F.EPT_MSIX_PBA_pend b then (c.setBitOf F.EPT_MSIX_PBA_pend b false).emit (.msix b)
    else if c.irqStyle = 1 && c.ept.msiPend.getLsbD (c.msiVec b) then
      ({ c with ept := { c.ept with msiPend := c.ept.msiPend &&& ~~~ BitVec.ofNat 8 (2 ^ c.msiVec b) } }).emit (.msi (c.msiVec b))
    else c) c

/-- Pending messages whose mask has cleared or whose bus-master enable has returned are sent while their source is still 1
(R417). -/
def Ctl.retryMessages (c : Ctl) : Ctl :=
  (List.range 6).foldl (fun c b =>
    let held := if c.irqStyle = 2 then c.bitOf F.EPT_MSIX_PBA_pend b
      else c.irqStyle = 1 && c.ept.msiPend.getLsbD (c.msiVec b)
    if held then (if c.bitOf F.EPT_INT_STAT_src b then c.sendMessage b else c) else c) c

end Sys2Proof.Machine
end

