-- ==== Sys2Proof/Machine/Crc.lean ====
section
/-! DEFINITION. The checks the spec gives by polynomial: CRC-16 of recipe steps (Table 6.2), CRC-32C of packets, records and
snapshots (Tables 8 to 18), CRC-64 of blocks and records (R203, R209). -/

namespace Sys2Proof

/-- One bit of a reflected CRC with polynomial `poly` on a register `r`. -/
def crcBit (poly r : Nat) : Nat := if r % 2 = 1 then (r / 2) ^^^ poly else r / 2

/-- One byte of a reflected CRC. -/
def crcByte (poly r : Nat) (b : Byte) : Nat :=
  let x := r ^^^ b.toNat
  crcBit poly (crcBit poly (crcBit poly (crcBit poly (crcBit poly (crcBit poly (crcBit poly (crcBit poly x)))))))

/-- A reflected CRC over bytes, from register `r`. -/
def crcFold (poly r : Nat) : List Byte → Nat
  | [] => r
  | b :: bs => crcFold poly (crcByte poly r b) bs

/-- CRC-32C over bytes: reflected polynomial 0x82F6_3B78, initial value and final inversion all ones. -/
def crc32c (bs : List Byte) : Nat := crcFold 0x82F63B78 0xFFFFFFFF bs ^^^ 0xFFFFFFFF

/-- The NVMe 64-bit guard CRC (Table 9.2): polynomial 0xAD93_D235_94C9_3659 reflected, all ones in and out. -/
def crc64 (bs : List Byte) : Nat := crcFold 0x9A6C9329AC4BC9B5 0xFFFFFFFFFFFFFFFF bs ^^^ 0xFFFFFFFFFFFFFFFF

/-- One bit of a 16-bit CRC fed from the top. -/
def crc16Bit (r : Nat) : Nat := if r ≥ 0x8000 then ((r * 2) % 0x10000) ^^^ 0x1021 else (r * 2) % 0x10000

/-- CRC-16 with polynomial 0x1021, initial value 0xFFFF and no reflection, over bytes (Table 6.2). -/
def crc16 (bs : List Byte) : Nat :=
  bs.foldl (fun r b =>
    crc16Bit (crc16Bit (crc16Bit (crc16Bit (crc16Bit (crc16Bit (crc16Bit (crc16Bit (r ^^^ (b.toNat * 256)))))))))) 0xFFFF

end Sys2Proof
end

