-- ==== Sys2Proof/Machine/Telemetry.lean ====
section
/-! DEFINITION. The telemetry collector (18_telemetry.md): counting events, sweeps, snapshots, samples and rates. -/

namespace Sys2Proof.Machine

/-- First counter and number of counters of a block, Table 18.1 (R444). -/
def TelBlk.range : TelBlk → Nat × Nat
  | .net => (0, 96) | .drv => (96, 48) | .hcp => (144, 32) | .bst => (176, 16) | .swc => (192, 32) | .bpm => (224, 16)
  | .crm => (240, 16) | .car => (256, 16) | .gal => (272, 8) | .cip => (280, 16) | .rbd => (296, 8) | .hbm => (304, 8)
  | .peer => (312, 8)

/-- The block of counter `n`, Table 18.1. -/
def telBlkOf (n : Nat) : TelBlk :=
  if n < 96 then .net else if n < 144 then .drv else if n < 176 then .hcp else if n < 192 then .bst else if n < 224 then .swc
  else if n < 240 then .bpm else if n < 256 then .crm else if n < 272 then .car else if n < 280 then .gal else if n < 296 then .cip
  else if n < 304 then .rbd else if n < 312 then .hbm else .peer

/-- Number of events of a block, Table 18.1. -/
def TelBlk.events : TelBlk → Nat
  | .net => 10 | .drv => 5 | .hcp => 8 | .bst => 6 | .swc => 4 | .bpm => 4 | .crm => 6 | .car => 6 | .gal => 4 | .cip => 3
  | .rbd => 4 | .hbm => 4 | .peer => 4

/-- Number of instances of a block, Table 18.1; 0 where inst is not used. -/
def TelBlk.insts : TelBlk → Nat
  | .net => 24 | .drv => 24 | .bst => 16 | .swc => 48 | .bpm => 5 | .cip => 24 | .rbd => 16 | .hbm => 2
  | .hcp => 0 | .crm => 0 | .car => 0 | .gal => 0 | .peer => 0

/-- Whether an event of a block carries a tenant: the starred events of Table 18.1. -/
def TelBlk.tenanted : TelBlk → Nat → Bool
  | .net, e => e == 0 || e == 1 || e == 4 || e == 8 || e == 9
  | .hcp, e => decide (e < 6)
  | .crm, e => e == 0 || e == 1 || e == 5
  | .cip, e => e == 1 || e == 2
  | _, _ => false

/-- The domain whose power a block's counters need (R445; Table 1.1). -/
def TelBlk.domain : TelBlk → Nat → Nat
  | .net, _ => 14 | .drv, i => if i < 12 then 16 else 17 | .hcp, _ => 4 | .bst, _ => 3 | .swc, _ => 5 | .bpm, _ => 8
  | .crm, _ => 8 | .car, _ => 9 | .gal, _ => 10 | .cip, i => if i < 12 then 12 else 13 | .rbd, _ => 2
  | .hbm, i => if i = 0 then 6 else 7 | .peer, _ => 18

/-- The word of TEL_SEL_n: its commit-time value, or its reset value. -/
def telSel (regs : Tab Word) (n : Nat) : Word := Tab.getD regs (Reg.TEL_SEL n) 0x3F00

/-- Whether counter `n` counts event `ev` of instance `inst` and tenant `ten` (R444). -/
def telCounts (regs : Tab Word) (n ev inst : Nat) (ten : Option Nat) : Bool :=
  let w := telSel regs n
  getBits w 7 0 == ev && (getBits w 13 8 == 0x3F || getBits w 13 8 == inst)
    && (getBits w 26 26 == 0 || ten == some (getBits w 25 14))

/-- The sample record of counter `n` that crosses `value`, a multiple of 2^e (R451). The step is one issued up to 16 issue slots after the
crossing event's, and the DT of a record without a brew lies up to 64 clocks of the block after it: free values bound by the record's fields
(notes/assumptions/43.md). -/
def telSampleOf (dt fv n inst : Nat) (ctx : Option (Nat × Nat × Nat)) (value : Nat) : Sample :=
  match (if 144 ≤ n ∧ n < 192 then ctx else none) with
  | some (tag, rcp, _) =>
    { dt := dt, counter := n, kind := 1, inst := inst, tag := tag, rcp := rcp, step := Config.freeNat fv % 256, value := value }
  | none =>
    { dt := dt + Config.freeNat fv % 43, counter := n, kind := 0, inst := inst, tag := 0, rcp := 0, step := 0, value := value }

/-- Write a sample record at the head, or count it lost when the ring is full (R452). -/
def Ctl.sampleRecord (c : Ctl) (x : Sample) : Ctl :=
  let h := c.get F.TEL_SMP_STAT_head
  if (h + 1) % 4096 = c.get F.TEL_SMP_TAIL_tail then c.bump F.TEL_SMP_STAT_lost 1
  else { c with tel := { c.tel with samples := Tab.put c.tel.samples h x } }.set F.TEL_SMP_STAT_head ((h + 1) % 4096)

/-- The sample records of `k` multiples of 2^e crossed, from the `i`-th on (R451). -/
def Ctl.samplesFrom (n inst : Nat) (ctx : Option (Nat × Nat × Nat)) (e : Nat) : Nat → Nat → Ctl → Ctl
  | _, 0, c => c
  | i, k + 1, c => Ctl.samplesFrom n inst ctx e (i + 1) k (c.sampleRecord (telSampleOf c.dt c.fv n inst ctx (i * 2 ^ e))).tookFree

/-- Counter `n` counts `amt` (R444), with one sample for each multiple of 2^e that its value crosses (R451). Past 69,632 of them the ring is
full and TEL_SMP_STAT.lost saturated. -/
def Ctl.telAdd (c : Ctl) (n inst : Nat) (ctx : Option (Nat × Nat × Nat)) (amt : Nat) : Ctl :=
  let old := (Tab.getD c.tel.cnt n 0).toNat
  let c1 := { c with tel := { c.tel with cnt := Tab.put c.tel.cnt n (BitVec.ofNat 64 (old + amt)) } }
  let e := getBits (telSel c.regs n) 31 27
  if e < 8 then c1 else Ctl.samplesFrom n inst ctx e (old / 2 ^ e + 1) (min 69632 ((old + amt) / 2 ^ e - old / 2 ^ e)) c1

/-- The counters from `n` on, `k` of them, that count this event. -/
def Ctl.telFold (ev inst : Nat) (ten : Option Nat) (ctx : Option (Nat × Nat × Nat)) (amt : Nat) : Nat → Nat → Ctl → Ctl
  | _, 0, c => c
  | n, k + 1, c =>
    Ctl.telFold ev inst ten ctx amt (n + 1) k (if telCounts c.regs n ev inst ten then c.telAdd n inst ctx amt else c)

/-- An event of block `b` occurs: `ev` on instance `inst`, for tenant `ten` where it carries one, `amt` times or units; `ctx` is
the tag, recipe and step of the brew it belongs to (R444, R451). A block whose domain is off counts nothing (R445). -/
def Ctl.tev (c : Ctl) (b : TelBlk) (ev inst : Nat) (ten : Option Nat) (ctx : Option (Nat × Nat × Nat)) (amt : Nat) : Ctl :=
  if c.bitOf F.GLB_PD_STAT_pd_is_on (b.domain inst) && amt != 0 then c.telFold ev inst ten ctx amt b.range.1 b.range.2 else c

/-- What counter `n` counted between two snapshots, modulo 2^64 (R444). -/
def telDiff (s p : Snapshot) (n : Nat) : Nat := (Tab.getD s.vals n 0 - Tab.getD p.vals n 0).toNat

/-- The value of TEL_RATE_n (R450). Of a window without time, or of a rate that its 32 bits do not hold, the spec states none. -/
def telRate (t : Tel) (n : Nat) : Word :=
  match t.snap, t.prev with
  | some s, some p =>
    if s.changed.contains n then 0xFFFFFFFF
    else
      let d := s.dt - p.dt
      let r := telDiff s p n * 1000000 / d
      if d = 0 ∨ 2 ^ 32 ≤ r then Config.rateOpen n (telDiff s p n) d else BitVec.ofNat 32 r
  | _, _ => 0xFFFFFFFF

/-- Whether DNT is unsynchronised (R69). -/
def Ctl.unsync (c : Ctl) : Bool := c.flag F.TIM_SYNC_STAT_unsync

/-- The snapshot a sweep takes now: all 320 counters, with its flags, its number and the period in force (R446, R447, Table 18.2). -/
def Ctl.takeSnapshot (c : Ctl) (late demand : Bool) (at_ period : Nat) : Snapshot :=
  { flags := (if c.unsync then 1 else 0) + (if late then 2 else 0) + (if demand then 4 else 0)
    seq := if demand then 0 else c.get F.TEL_SEQ_seq + 1
    dntS := at_ / 1000000000, ns := at_ % 1000000000, dt := c.dt, period := period
    domains := c.get F.GLB_PD_STAT_pd_is_on, changed := c.tel.changed, vals := c.tel.cnt }

/-- A bit map of 320 bits as 40 bytes. -/
def telMap (p : Nat → Bool) : List Byte :=
  (List.range 40).map (fun i => BitVec.ofNat 8 ((List.range 8).foldl (fun a j => if p (8 * i + j) then a + 2 ^ j else a) 0))

/-- The 2,560 bytes of a snapshot's values as a reader who sees the counters `vis` reads them (R453). -/
def snapValues (s : Snapshot) (vis : Nat → Bool) : List Byte :=
  (List.range 320).flatMap (fun n => leBytes 8 (if vis n then (Tab.getD s.vals n 0).toNat else 2 ^ 64 - 1))

/-- The header of Table 18.2 for a reader who sees the counters `vis`, with its crc. -/
def snapHeader (s : Snapshot) (vis : Nat → Bool) : List Byte :=
  let h := leBytes 4 0x54454C01 ++ leBytes 4 s.flags ++ leBytes 8 s.seq ++ leBytes 6 s.dntS ++ leBytes 4 s.ns ++ leBytes 2 0
    ++ leBytes 8 s.dt ++ leBytes 4 s.period ++ leBytes 4 s.domains ++ telMap s.changed.contains ++ telMap vis
  h ++ leBytes 4 (crc32c (h ++ snapValues s vis))

/-- The 2,688 bytes of log page C8h and of TEL_SNAPSHOT (R454). -/
def snapBytes (s : Snapshot) (vis : Nat → Bool) : List Byte := snapHeader s vis ++ snapValues s vis

/-- Occurrence of DMA event `e`: every channel that waits on it counts it (R136). -/
def Ctl.dmaEvent (c : Ctl) (e : Nat) : Ctl := c.dmaEvents e 1

/-- The 32 bytes of a sample record, Table 18.3 (R452). -/
def Sample.bytes (x : Sample) : List Byte :=
  leBytes 8 x.dt ++ leBytes 2 x.counter ++ leBytes 1 x.kind ++ leBytes 1 x.inst ++ leBytes 4 x.tag ++ leBytes 2 x.rcp ++ leBytes 1 x.step
    ++ leBytes 1 0 ++ leBytes 8 x.value ++ leBytes 4 0

/-- The memories as a reader of management SRAM sees them: with the sample records of the ring at 0x0003_0000 in their places (R452). -/
def Ctl.memView (c : Ctl) (m : Mem) : Mem := c.tel.samples.foldl (fun (m : Mem) p => m.put .sram (0x30000 + 32 * p.1) p.2.bytes) m

/-- The sample records enter the memory behind them, before something else is written there. -/
def Ctl.samplesDrop (c : Ctl) : Ctl := { c with tel := { c.tel with samples := [] } }

/-- Writing the latest snapshot into management SRAM (R447). -/
def snapPublish (m : Mem) (s : Snapshot) : Mem :=
  (m.put .sram 0x1FF80 (snapHeader s (fun _ => true))).put .sram 0x20000 (snapValues s (fun _ => true))

/-- A scheduled sweep of instant `at_` fires when DNT is `now`, with `period` in force: the counters are latched, the snapshot becomes the
latest, rates follow, event 65 is raised (R446, R447, R450). -/
def Ctl.sweepFire (c : Ctl) (late : Bool) (at_ now period : Nat) : Ctl :=
  let s := c.takeSnapshot late false at_ period
  (({ c with tel := { c.tel with prev := c.tel.snap, snap := some s, changed := [], lastAt := some now, period := period } }).set
    F.TEL_SEQ_seq s.seq).dmaEvent 65

/-- The next instant, in ns of DNT, of a periodic event of period `p` that last fired at `last` (R73). -/
def nextInstant (dnt : Nat) (last : Option Nat) (p : Nat) : Nat :=
  let l := last.getD 0
  if dnt % p = 0 ∧ last.isSome ∧ l < dnt then dnt else (max l dnt / p + 1) * p

/-- DNT reaches instant `t`, DT with it (notes/assumptions/5.md). -/
def Ctl.reachDnt (c : Ctl) (t : Nat) : Ctl :=
  if c.dntNs < t then
    c.passTo (t - c.dntNs) (t * 65536)
  else c

/-- A period of sweeps in ns. -/
def sweepNs (ms : Nat) : Nat := ms * 1000000

/-- The next sweep instant when DNT is `dnt`: of the period in force, or of the one committed since, which takes effect at its own first
instant (R448). -/
def Ctl.sweepNext (c : Ctl) (dnt : Nat) : Nat :=
  min (nextInstant dnt c.tel.lastAt (sweepNs c.tel.period)) (nextInstant dnt c.tel.lastAt (sweepNs (c.get F.TEL_CFG_period_ms)))

/-- The period in force at a sweep for the instants from `first` to `last` (R448). -/
def Ctl.sweepPeriod (c : Ctl) (first last : Nat) : Nat :=
  let p := c.get F.TEL_CFG_period_ms
  if (first - 1) / sweepNs p < last / sweepNs p then p else c.tel.period

end Sys2Proof.Machine
end

