-- ==== Sys2Proof/Machine/Faults.lean ====
section
/-! DEFINITION. The fault record (13_pairing_and_failover.md, R356, Tables 13.8 and 13.9). -/

namespace Sys2Proof.Machine

/-- Faults whose detection keeps an image on trial from confirming (R434). -/
def trialFaults : List Nat := [0x02, 0x03, 0x04, 0x06, 0x09]

/-- FAULT_RECORD_WRITE (R356): a record joins the ring, PEER_FAULT_STAT shows its code and interrupts M0, and source 1 of the
service endpoint follows (Table 16.4). A fault of R434 is noted for the trial. -/
def Ctl.faultRecord (c : Ctl) (code outcome detail : Nat) : Ctl :=
  let r : FaultRec :=
    { num := c.pair.faultNum + 1, dt := c.dt, dntS := if c.unsync then 2 ^ 48 - 1 else c.dntNs / 1000000000, code := code,
      outcome := outcome, mode := c.get F.GLB_MODE_STAT_mode, detail := detail, epoch := c.get F.PEER_EPOCH_epoch }
  let fs := c.pair.faults ++ [r]
  let c1 := { c with
    pair := { c.pair with faultNum := c.pair.faultNum + 1, faults := fs.drop (fs.length - 256) }
    trust := { c.trust with badSeen := c.trust.badSeen || trialFaults.contains code } }
  (((c1.setFlag F.PEER_FAULT_STAT_pend true).set F.PEER_FAULT_STAT_code code).emit (.coreIrq 0)).intSet 1

/-- The 60 bytes of a fault record before its crc. -/
def FaultRec.body (r : FaultRec) : List Byte :=
  leBytes 8 r.num ++ leBytes 8 r.dt ++ leBytes 6 r.dntS ++ leBytes 1 r.code ++ leBytes 1 r.outcome ++ leBytes 1 r.mode ++ leBytes 3 0
    ++ leBytes 4 r.detail ++ leBytes 4 r.epoch ++ leBytes 24 0

/-- A fault record, Table 13.9. -/
def FaultRec.bytes (r : FaultRec) : List Byte := r.body ++ leBytes 4 (crc32c r.body)

/-- Log page CBh (R356): the header, then the records, oldest first. -/
def Ctl.faultPage (c : Ctl) : List Byte :=
  leBytes 8 c.pair.faultNum ++ leBytes 4 c.pair.faults.length ++ leBytes 52 0 ++ c.pair.faults.flatMap FaultRec.bytes

end Sys2Proof.Machine
end

