-- ==== Sys2Proof/Machine/Buffers.lean ====
section
/-! DEFINITION. The buffer pool manager (07_switch_core_and_buffers.md, R155 to R164): pools, pointers, checks and operations. -/

namespace Sys2Proof.Machine

/-- Buffer size of a pool in units of 256 bytes, Table 7.5. -/
def poolUnits (p : Nat) : Nat :=
  match p with | 0 => 1 | 1 => 16 | 2 => 256 | 3 => 4096 | _ => 16384

/-- Buffer size of a pool in bytes, Table 7.5. -/
def poolSize (p : Nat) : Nat := 256 * poolUnits p

/-- Pool of a pointer (R161). -/
def ptrPool (w : Word) : Nat := getBits w 31 29

/-- Address of a pointer divided by 256 (R161). -/
def ptrAddr (w : Word) : Nat := getBits w 27 0

/-- The pointer of an address (divided by 256) in a pool. -/
def mkPtr (p a : Nat) : Word := setBits (setBits 0 31 29 p) 27 0 a

/-- First address of stack B divided by 256 (R144). -/
def stackBAddr : Nat := 0x6000000

/-- Start of a pool's region divided by 256 (R155). -/
def Ctl.poolBase (c : Ctl) (p : Nat) : Nat := c.get (F.BPM_POOL_BASE_base p) * 16384

/-- Buffers of a pool (R155). -/
def Ctl.poolCount (c : Ctl) (p : Nat) : Nat := c.get (F.BPM_POOL_CFG_count p)

/-- Allocations take stack-A buffers only: D07 is draining or off (R158). -/
def Ctl.stackAOnly (c : Ctl) : Bool := c.power.pdQueue.head? == some (7, false) || !c.bitOf F.GLB_PD_STAT_pd_is_on 7

/-- Metadata of the buffer at an address divided by 256 (R160). -/
def Ctl.bufAt (c : Ctl) (a : Nat) : BufMeta := Tab.getD c.swc.bufs a ⟨.free, false, 0, 0⟩

/-- The state with a buffer's metadata; a word that reads as after reset needs no entry. -/
def Ctl.setBuf (c : Ctl) (a : Nat) (b : BufMeta) : Ctl :=
  { c with swc := { c.swc with bufs := if b = ⟨.free, false, 0, 0⟩ then Tab.del c.swc.bufs a else Tab.put c.swc.bufs a b } }

/-- Buffers of pool `p` that allocation may use: all, or those of stack A (R158). -/
def Ctl.poolEligible (c : Ctl) (p : Nat) : Nat :=
  if c.stackAOnly then min (c.poolCount p) ((stackBAddr - c.poolBase p + (poolUnits p - 1)) / poolUnits p) else c.poolCount p

/-- Whether address `a` is a buffer of pool `p` numbered below `n`. -/
def Ctl.inPool (c : Ctl) (p n a : Nat) : Bool :=
  decide (c.poolBase p ≤ a) && decide (a < c.poolBase p + n * poolUnits p)

/-- Free buffers of pool `p` available to allocation (BPM_POOL_FREE_n, R158). -/
def Ctl.poolFree (c : Ctl) (p : Nat) : Nat :=
  c.poolEligible p - (c.swc.bufs.filter (fun e => c.inPool p (c.poolEligible p) e.1 && e.2.state != .free)).length

/-- Quarantined buffers of pool `p` (BPM_POOL_QUAR_n). -/
def Ctl.poolQuar (c : Ctl) (p : Nat) : Nat :=
  (c.swc.bufs.filter (fun e => c.inPool p (c.poolCount p) e.1 && e.2.state == .quarantined)).length

/-- Least free buffer number of pool `p` from `i` on (the spec does not say which free buffer is granted:
notes/assumptions/6.md). -/
def Ctl.freeIdx (c : Ctl) (p n : Nat) : Nat → Nat → Option Nat
  | _, 0 => none
  | i, fuel + 1 =>
    if n ≤ i then none
    else if (c.bufAt (c.poolBase p + i * poolUnits p)).state = .free then some i
    else c.freeIdx p n (i + 1) fuel

/-- Number of a buffer's word in the metadata region: buffers of the pools in rising order (R155 gives no order: DESIGN CHOICE,
notes/assumptions/71.md). -/
def Ctl.metaWord (c : Ctl) (p a : Nat) : Nat :=
  ((List.range p).map c.poolCount).sum + (a - c.poolBase p) / poolUnits p

/-- Whether the metadata word of the buffer at `a` in pool `p` is damaged (R162, cause 7). -/
def Ctl.metaBad (c : Ctl) (p a : Nat) : Bool := c.swc.badMeta.contains (c.metaWord p a)

/-- Who asks the buffer manager: the code and id of BPM_FAULT_STAT, its owner kind and tag (R160, R162), and the Barista priority,
4 for a management core. -/
structure BufReq where
  code  : Nat
  id    : Nat
  mgmt  : Bool
  owner : Nat
  prio  : Nat
  deriving DecidableEq, Repr

/-- A brew as a requester: its tag [11:0] is the owner (R162). -/
def brewReq (tag prio : Nat) : BufReq := ⟨0, tag, false, tag % 4096, prio⟩

/-- A management core as a requester (Table 7.7). -/
def coreReq (core : Nat) : BufReq := ⟨4, core, true, core, 4⟩

/-- The operations of Table 7.8 on an existing buffer. -/
inductive BufOp where
  | ref (k : Nat) | deref | free
  deriving DecidableEq, Repr

/-- The first check of Table 7.9 that an operation fails, in the order 1, 2, 7, 3, 4, 5, 6 (R162). A disabled pool's allocated
buffers still act normally (R156; notes/assumptions/7.md). -/
def Ctl.bufCheck (c : Ctl) (ptr : Word) (op : BufOp) (r : BufReq) (ue : Bool) : Option Nat :=
  let p := ptrPool ptr
  let a := ptrAddr ptr
  let b := c.bufAt a
  if 4 < p || !c.inPool p (c.poolCount p) a || (!c.flag (F.BPM_POOL_CFG_en p) && b.state == .free) then some 1
  else if (a - c.poolBase p) % poolUnits p ≠ 0 then some 2
  else if ue || b.state == .quarantined || c.metaBad p a then some 7
  else match op with
    | .free =>
      if b.mgmt != r.mgmt || b.owner != r.owner then some 3
      else if b.state != .owned then some 4 else none
    | .deref => if b.refs = 0 then some 5 else none
    | .ref _ => if b.state = .free then some 6 else none

/-- A refusal with a cause: counted, latched when none is pending, M1 interrupted (R162). -/
def Ctl.bufRefuse (c : Ctl) (cause : Nat) (ptr : Word) (r : BufReq) : Ctl :=
  let c0 := (c.bump (F.BPM_FAULT_CNT_count cause) 1).tev .bpm 3 (ptrPool ptr) none none 1
  let c1 := if cause = 7 then c0.faultRecord 0x07 0 (ptrPool ptr) else c0.faultRecord 0x08 1 cause
  if c1.flag F.BPM_FAULT_STAT_pend then c1
  else ((((c1.setFlag F.BPM_FAULT_STAT_pend true).set F.BPM_FAULT_STAT_cause cause).set F.BPM_FAULT_STAT_req r.code).set
    F.BPM_FAULT_STAT_id r.id |>.wr Reg.BPM_FAULT_PTR ptr).emit (.coreIrq 1)

/-- The result of an operation: done, REF_FULL, or refused with a cause. -/
inductive BufRes where
  | done | refFull | fault
  deriving DecidableEq, Repr

/-- BUFFER operations of Table 7.8 with their checks (R161, R162). `ue` says that the metadata word read has an uncorrectable
error, which quarantines the buffer. -/
def Ctl.bufDo (c : Ctl) (ptr : Word) (op : BufOp) (r : BufReq) (ue : Bool) : BufRes × Ctl :=
  let a := ptrAddr ptr
  let b := c.bufAt a
  match c.bufCheck ptr op r ue with
  | some cause =>
    (.fault, (if cause = 7 then c.setBuf a { b with state := .quarantined } else c).bufRefuse cause ptr r)
  | none =>
    match op with
    | .ref k => if b.refs + k > 65535 then (.refFull, c) else (.done, c.setBuf a { b with refs := b.refs + k })
    | .deref =>
      (.done, c.setBuf a (if b.state = .released ∧ b.refs = 1 then { b with state := .free, refs := 0 } else { b with refs := b.refs - 1 }))
    | .free => (.done, c.setBuf a (if b.refs = 0 then { b with state := .free } else { b with state := .released }))

/-- Free buffers of pool `p` available to a requester: priority-0 brews may use the reserve (R157). -/
def Ctl.poolAvail (c : Ctl) (p : Nat) (r : BufReq) : Nat :=
  if r.prio = 0 then c.poolFree p else c.poolFree p - c.get (F.BPM_POOL_RSV_rsv p)

/-- BPM_POOL_LOW_n follows the free count down. -/
def Ctl.noteLow (c : Ctl) (p : Nat) : Ctl :=
  c.set (F.BPM_POOL_LOW_low p) (min (c.get (F.BPM_POOL_LOW_low p)) (c.poolFree p))

/-- A grant from pool `p`, if it has a buffer available to the requester; a buffer whose metadata word is damaged is quarantined
and the pool counts as empty (R162). -/
def Ctl.poolGrant (c : Ctl) (p : Nat) (r : BufReq) (ue : Bool) : Option Word × Ctl :=
  if !c.flag (F.BPM_POOL_CFG_en p) || c.poolAvail p r == 0 then (none, c)
  else match c.freeIdx p (c.poolEligible p) 0 (c.swc.bufs.length + 1) with
    | none => (none, c)
    | some i =>
      let a := c.poolBase p + i * poolUnits p
      if ue || c.metaBad p a then (none, ((c.setBuf a { c.bufAt a with state := .quarantined }).noteLow p).bufRefuse 7 (mkPtr p a) r)
      else (some (mkPtr p a), (c.setBuf a ⟨.owned, r.mgmt, r.owner, 0⟩).noteLow p)

/-- The pools from `p` to `hi`, smallest first, until one grants (R159). -/
def Ctl.poolClimb (r : BufReq) (hi : Nat) : Nat → Nat → Ctl → Option Word × Ctl
  | _, 0, c => (none, c)
  | p, fuel + 1, c =>
    if hi < p then (none, c)
    else match c.poolGrant p r false with
      | (some w, c1) => (some w, c1)
      | (none, c1) => Ctl.poolClimb r hi (p + 1) fuel c1

/-- The smallest enabled pool whose buffers hold `size` bytes (R157). -/
def Ctl.firstPool (c : Ctl) (size : Nat) : Option Nat :=
  (List.range 5).find? (fun p => c.flag (F.BPM_POOL_CFG_en p) && decide (size ≤ poolSize p))

/-- ALLOC (R157 to R159). `race` says that the request lost a same-clock race at the first pool, which is then tried no more;
`ue` that the buffer the first pool would grant has a damaged metadata word. -/
def Ctl.alloc (c : Ctl) (size : Nat) (noFallback : Bool) (r : BufReq) (ue race : Bool) : Option Word × Ctl :=
  match c.firstPool size with
  | none => (none, c)
  | some p =>
    let c0 := if race then c.bump (F.BPM_POOL_FALL_races p) 1 else c
    match (if race then (none, c0) else c0.poolGrant p r ue) with
    | (some w, c1) => (some w, c1.tev .bpm 0 p none none 1)
    | (none, c1) =>
      match (if noFallback then (none, c1) else Ctl.poolClimb r (c1.get (F.BPM_POOL_CFG_fb_max p)) (p + 1) 5 c1) with
      | (some w, c2) =>
        (some w, ((c2.bump (F.BPM_POOL_FALL_moved p) 1).tev .bpm 0 (ptrPool w) none none 1).tev .bpm 2 p none none 1)
      | (none, c2) => (none, (c2.bump (F.BPM_POOL_NULL_count p) 1).tev .bpm 1 p none none 1)

/-- Buffer size of a pointer's pool in bytes. -/
def ptrSize (w : Word) : Nat := poolSize (ptrPool w)

/-- HBM byte address of a pointer. -/
def ptrByte (w : Word) : Nat := 256 * ptrAddr w

/-- The word of Table 7.7 for a buffer. -/
def BufMeta.word (b : BufMeta) : Word :=
  setBits (setBits (setBits (setBits 0 31 30 (match b.state with | .free => 0 | .owned => 1 | .released => 2 | .quarantined => 3))
    29 29 (if b.mgmt then 1 else 0)) 27 16 b.owner) 15 0 b.refs

/-- What a write of BPM_BUF_SEL latches into BPM_BUF_INFO: the metadata word, or all ones when the pointer fails cause 1 or 2. -/
def Ctl.bufInfo (c : Ctl) (ptr : Word) : Word :=
  match c.bufCheck ptr .deref ⟨4, 0, true, 0, 4⟩ false with
  | some 1 => 0xFFFFFFFF
  | some 2 => 0xFFFFFFFF
  | _ => (c.bufAt (ptrAddr ptr)).word

/-! ### BPM_MGT_OP (R161): the management cores' own accesses -/

/-- Status byte and busy of BPM_MGT_RESP after an operation. -/
def Ctl.mgtResp (c : Ctl) (st : Nat) : Ctl := (c.setFlag F.BPM_MGT_RESP_busy false).set F.BPM_MGT_RESP_status st

/-- Status code of an operation's result: OK, REF_FULL 0x40 of R163, or BPM_FAULT of Table 6.4. -/
def BufRes.status : BufRes → Nat
  | .done => 0 | .refFull => 0x40 | .fault => 2

/-- BPM_MGT_ALLOC: the pointer lands in BPM_MGT_PTR; a size out of 1 to 4,194,304 is ignored. -/
def execBpmMgtAlloc (core : Fin 2) (size : Nat) (noFallback ue race : Bool) (s : State) : Host.Outcome State Fault Refusal :=
  onCtl (fun _ c =>
    if size = 0 ∨ 4194304 < size then c
    else match c.alloc size noFallback (coreReq core.val) ue race with
      | (some w, c1) => (c1.wr Reg.BPM_MGT_PTR w).mgtResp 0
      | (none, c1) => c1.mgtResp 1) s

/-- BPM_MGT_REF: one reference on the buffer in BPM_MGT_PTR. -/
def execBpmMgtRef (core : Fin 2) (ue : Bool) (s : State) : Host.Outcome State Fault Refusal :=
  onCtl (fun _ c =>
    let r := c.bufDo (c.rd Reg.BPM_MGT_PTR) (.ref 1) (coreReq core.val) ue
    r.2.mgtResp r.1.status) s

/-- BPM_MGT_DEREF: one reference on the buffer in BPM_MGT_PTR is dropped. -/
def execBpmMgtDeref (core : Fin 2) (ue : Bool) (s : State) : Host.Outcome State Fault Refusal :=
  onCtl (fun _ c =>
    let r := c.bufDo (c.rd Reg.BPM_MGT_PTR) .deref (coreReq core.val) ue
    r.2.mgtResp r.1.status) s

/-- BPM_MGT_FREE: the buffer in BPM_MGT_PTR, owned by the core, is freed. -/
def execBpmMgtFree (core : Fin 2) (ue : Bool) (s : State) : Host.Outcome State Fault Refusal :=
  onCtl (fun _ c =>
    let r := c.bufDo (c.rd Reg.BPM_MGT_PTR) .free (coreReq core.val) ue
    r.2.mgtResp r.1.status) s

end Sys2Proof.Machine
end

