-- ==== Sys2Proof/Machine/Completion.lean ====
section
/-! DEFINITION. Statuses of completions, and the posting of a completion (05_host_command_path.md, R87, R97; 09_layouts_and_write_path.md, R216). -/

namespace Sys2Proof.Machine

/-! ### Statuses of Table 5.8 -/

/-- A status of Table 5.8 with CRD 0. -/
def stat (sct sc : Nat) (dnr : Bool) : NvStatus := ⟨sct, sc, dnr, 0⟩

def St.ok : NvStatus := stat 0 0x00 false
def St.badOpcode : NvStatus := stat 0 0x01 true
def St.badField : NvStatus := stat 0 0x02 true
def St.cidConflict : NvStatus := stat 0 0x03 true
def St.xferErr : NvStatus := stat 0 0x04 false
def St.internal : NvStatus := stat 0 0x06 false
def St.aborted : NvStatus := stat 0 0x07 true
def St.badNs : NvStatus := stat 0 0x0B true
def St.sequence : NvStatus := stat 0 0x0C true
def St.badSegment : NvStatus := stat 0 0x0D true
def St.sglCount : NvStatus := stat 0 0x0E true
def St.sglLength : NvStatus := stat 0 0x0F true
def St.sglType : NvStatus := stat 0 0x11 true
def St.denied : NvStatus := stat 0 0x15 true
def St.lbaRange : NvStatus := stat 0 0x80 true
def St.capacity : NvStatus := stat 0 0x81 true
def St.nsNotReady : NvStatus := stat 0 0x82 false
def St.abortLimit : NvStatus := stat 1 0x03 true
def St.aerLimit : NvStatus := stat 1 0x05 true
def St.fwSlot : NvStatus := stat 1 0x06 true
def St.fwImage : NvStatus := stat 1 0x07 true
def St.badLog : NvStatus := stat 1 0x09 true
def St.notSaveable : NvStatus := stat 1 0x0D true
def St.notChangeable : NvStatus := stat 1 0x0E true
def St.fwProhibited : NvStatus := stat 1 0x13 false
def St.fwOverlap : NvStatus := stat 1 0x14 true
def St.testRunning : NvStatus := stat 1 0x1D false
def St.connFormat : NvStatus := stat 1 0x80 true
def St.connBusy : NvStatus := stat 1 0x81 false
def St.connParam : NvStatus := stat 1 0x82 true
def St.connHost : NvStatus := stat 1 0x84 true
def St.katoInvalid : NvStatus := stat 0 0x1A true
def St.writeFault : NvStatus := stat 2 0x80 false
def St.readError : NvStatus := stat 2 0x81 true
def St.keyDenied : NvStatus := stat 2 0x86 true
def St.anaInaccessible : NvStatus := stat 3 0x02 false

/-- Command Interrupted: CRD 1 when the host has set ACRE (R97). -/
def St.interrupted (acre : Bool) : NvStatus := ⟨0, 0x21, false, if acre then 1 else 0⟩

/-! ### Posting a completion -/

/-- Whether a context serves an I/O command. -/
def TagKind.io : TagKind → Bool
  | .read | .write | .writeZeroes | .dsm | .flush => true
  | _ => false

/-- Whether a context serves a command of a host. -/
def TagKind.host : TagKind → Bool
  | .disconnect | .badOpcode | .conflict | .admin => true
  | k => k.io

/-- Whether a status is an error that the Error Information log holds: SCT 2h, or Internal Error (Table 5.6). -/
def NvStatus.logged (s : NvStatus) : Bool := s.sct == 2 || (s.sct == 0 && s.sc == 0x06)

/-- Whether a status is Successful Completion. -/
def NvStatus.isOk (s : NvStatus) : Bool := s.sct == 0 && s.sc == 0

/-- An error of a controller enters its Error Information log, newest first, at most 256 entries (R93 ELPE, Table 5.6). -/
def Ctl.errNote (c : Ctl) (k qid cid : Nat) (st : NvStatus) (lba nsid : Nat) : Ctl :=
  if st.logged then
    { c with host := { c.host with assocs := Tab.upd c.host.assocs k (fun a =>
        { a with errCount := a.errCount + 1, errLog := (⟨a.errCount + 1, qid, cid, st, lba, nsid⟩ :: a.errLog).take 256 }) } }
  else c

/-- Queues and associations that have ended are released: the queues of an association once no tag of the association is in use, a queue
that was disconnected once no tag of its own is (R84). -/
def Ctl.reap (c : Ctl) : Ctl :=
  let held (p : TagE → Bool) : Bool := c.host.tags.any (fun x => x.2.kind.host && p x.2)
  let gone (k : Nat) : Bool := (Tab.at? c.host.assocs k).all (fun a => a.ending)
  { c with host := { c.host with
    queues := c.host.queues.filter (fun x => !(x.2.ending && !held (fun t => t.assoc == x.2.assoc && (gone x.2.assoc || t.qid == x.2.qid))))
    assocs := c.host.assocs.filter (fun x => !(x.2.ending && !held (fun t => t.assoc == x.1))) } }

/-- A completion capsule leaves on a connection, unless the device is halted: errors are counted by SCT and as events
(HCP_STATUS_CNT_n, Table 18.1). -/
def Ctl.post (c : Ctl) (conn cid : Nat) (ten : Option Nat) (st : NvStatus) (dw0 dw1 : Nat) : Ctl :=
  let c1 := c.emit (.cqe conn cid st dw0 dw1)
  if c.halted then c else if st.isOk then c1 else (c1.bump (F.HCP_STATUS_CNT_count st.sct) 1).tev .hcp 3 0 ten none 1

/-- Whether a tag is the admin command of a connection and CID, in a state. -/
def TagE.isAdmin (t : TagE) (st : TagState) (conn cid : Nat) : Bool :=
  t.state == st && t.adm.any (fun x => x.cmd.conn == conn && x.cmd.cid == cid)

/-- The contexts that satisfy `p` are FREE (R87). -/
def Ctl.tagsFree (c : Ctl) (p : TagE → Bool) : Ctl := { c with host := { c.host with tags := c.host.tags.filter (fun x => !p x.2) } }

/-- The completion of a command of a connection: an admin command's context is FREE with it. -/
def Ctl.complete (c : Ctl) (conn cid : Nat) (ten : Option Nat) (st : NvStatus) (dw0 dw1 : Nat) : Ctl :=
  (c.post conn cid ten st dw0 dw1).tagsFree (fun t => t.isAdmin .running conn cid)

/-- Whether an outstanding admin command of association `k` is in DISCARD: no completion of it reaches the host (R84, R106). -/
def Ctl.adminDropped (c : Ctl) (k conn cid : Nat) : Bool :=
  c.host.tags.any (fun p => p.2.assoc == k && p.2.isAdmin .discard conn cid)

/-- An admin command in DISCARD has ended: its context is FREE, and what waited for it is released. -/
def Ctl.adminGone (c : Ctl) (k conn cid : Nat) : Ctl := (c.tagsFree (fun t => t.assoc == k && t.isAdmin .discard conn cid)).reap

/-- Tenant of an association. -/
def Ctl.assocTenant (c : Ctl) (k : Nat) : Option Nat := (Tab.at? c.host.assocs k).map (·.tenant)

/-- The completion of a tag's command (R87): its counts, its log entry, and its capsule. -/
def Ctl.completeTag (c : Ctl) (t : TagE) (st : NvStatus) : Ctl :=
  match t.cmd with
  | none => c
  | some x =>
    let ten := c.assocTenant t.assoc
    let n := x.nlb + 1
    let c1 := (c.post x.conn t.cid ten st 0 0).errNote t.assoc t.qid t.cid st x.slba x.nsid
    if !st.isOk then c1
    else match t.kind with
      | .read => (c1.tev .hcp 1 0 ten none 1).tev .hcp 4 0 ten none n
      | .write => (c1.tev .hcp 2 0 ten none 1).tev .hcp 5 0 ten none n
      | _ => c1

/-- Whether a kind of command writes: its completion makes its brew durable (R126). -/
def TagKind.writes : TagKind → Bool
  | .write | .writeZeroes | .dsm => true
  | _ => false

/-- A tag whose completion has been handed to the transport. -/
def Ctl.tagSent (c : Ctl) (tag : Nat) : Ctl :=
  { c with host := { c.host with tags := Tab.upd c.host.tags tag (fun t => { t with sent := true }) } }

/-- A tag in a new state. -/
def Ctl.tagTo (c : Ctl) (tag : Nat) (st : TagState) : Ctl :=
  { c with host := { c.host with tags := Tab.upd c.host.tags tag (fun t => { t with state := st }) } }

end Sys2Proof.Machine
end

