-- ==== Sys2Proof/Machine/BrewCore.lean ====
section
/-! DEFINITION. Barista's view of recipes and brews (06_barista_and_dma.md): steps as words, engine classes, lanes, issue,
exception records, tokens, failure. -/

namespace Sys2Proof.Machine

/-! ### Steps (R118, Table 6.2) -/

/-- A step's fields, Table 6.2. -/
structure Step where
  eng : Nat
  isel : Nat
  inst : Nat
  op : Nat
  fstep : Bool
  last : Bool
  tok : Bool
  next : Nat
  b0t : Nat
  b1t : Nat
  failt : Nat
  b0s : Nat
  b1s : Nat
  b0m : Nat
  b1m : Nat
  src : Nat
  dst : Nat
  aux : Nat
  out : Nat
  arg0 : Nat
  arg1 : Nat
  len : Nat
  arg2 : Nat
  chk : Nat
  deriving DecidableEq, Repr

/-- Word `i` of a list, 0 past its end. -/
def wordAt (ws : List Word) (i : Nat) : Word := ws.getD i 0

/-- The step of eight words. -/
def stepOf (ws : List Word) : Step :=
  let w0 := wordAt ws 0; let w1 := wordAt ws 1; let w2 := wordAt ws 2; let w3 := wordAt ws 3; let w7 := wordAt ws 7
  { eng := getBits w0 31 26, isel := getBits w0 25 24, inst := getBits w0 23 16, op := getBits w0 15 8,
    fstep := w0.getLsbD 7, last := w0.getLsbD 6, tok := w0.getLsbD 5,
    next := getBits w1 31 24, b0t := getBits w1 23 16, b1t := getBits w1 15 8, failt := getBits w1 7 0,
    b0s := getBits w2 31 24, b1s := getBits w2 23 16, b0m := getBits w2 15 12, b1m := getBits w2 11 8,
    src := getBits w3 31 28, dst := getBits w3 27 24, aux := getBits w3 23 20, out := getBits w3 19 16,
    arg0 := (wordAt ws 4).toNat, arg1 := (wordAt ws 5).toNat, len := getBits (wordAt ws 6) 23 0,
    arg2 := getBits w7 31 16, chk := getBits w7 15 0 }

/-- The CRC-16 over bytes 0 to 27 of a step (W7.chk). -/
def stepCrc (ws : List Word) : Nat := crc16 ((List.range 7).flatMap (fun i => leBytes 4 (wordAt ws i).toNat))

/-- Class numbers of Table 6.3. -/
def Cls.evt : Nat := 0
def Cls.bpm : Nat := 1
def Cls.dma : Nat := 2
def Cls.dqe : Nat := 3
def Cls.cip : Nat := 4
def Cls.tmpc : Nat := 5
def Cls.tmpd : Nat := 6
def Cls.gal : Nat := 7
def Cls.crc : Nat := 8
def Cls.crm : Nat := 9
def Cls.xpt : Nat := 10
def Cls.hcp : Nat := 11
def Cls.car : Nat := 12
def Cls.peer : Nat := 13
def Cls.swc : Nat := 14

/-- Instances of a class, Table 6.3. -/
def clsCount (e : Nat) : Nat :=
  match e with
  | 0 => 16 | 1 => 1 | 2 => 192 | 3 => 24 | 4 => 24 | 5 => 12 | 6 => 24 | 7 => 8 | 8 => 24 | 9 => 1 | 10 => 24 | 11 => 1 | 12 => 2
  | 13 => 1 | 14 => 1 | _ => 0

/-- Whether ENGINE_EN controls a class, Table 6.3. -/
def clsControlled (e : Nat) : Bool := [2, 3, 4, 5, 6, 7, 8, 10].contains e

/-- Length limit per step of a class in bytes, Table 6.3; none where the table gives none. -/
def clsLimit (e : Nat) : Option Nat :=
  match e with
  | 2 => some 524288 | 3 => some 262144 | 4 => some 1048576 | 5 => some 65536 | 6 => some 65536 | 7 => some 2097152
  | 8 => some 1048576 | 10 => some 2097152 | 12 => some 262144 | 13 => some 262144 | _ => none

/-- Reset word `n` of BST_ENGINE_EN: 1 for each existing instance (BST_ENGINE_EN_n, R132). -/
def engineEnReset (n : Nat) : Nat := 2 ^ min 32 (clsCount (n / 8) - 32 * (n % 8)) - 1

/-- BST_ENGINE_EN word `n` as it stands. -/
def Ctl.engineWord (c : Ctl) (n : Nat) : Nat :=
  match Tab.at? c.regs (Reg.BST_ENGINE_EN n) with
  | some w => w.toNat
  | none => engineEnReset n

/-- Whether instance `i` of class `e` accepts steps (R132). -/
def Ctl.engineOn (c : Ctl) (e i : Nat) : Bool :=
  decide (i < clsCount e) && (!clsControlled e || Nat.testBit (c.engineWord (8 * e + i / 32)) (i % 32))

/-- The power domain of an instance of a class (Table 1.1); classes outside the switchable domains give D00. -/
def engineDomain (e i : Nat) : Nat :=
  match e with
  | 3 => if i < 12 then 16 else 17
  | 4 => if i < 12 then 12 else 13
  | 5 => 11 | 6 => 11 | 7 => 10 | _ => 0

/-! ### Recipes and brews -/

/-- The version of a recipe a brew runs (R122). -/
def Ctl.brewVer (c : Ctl) (b : Brew) : Option RcpVer :=
  match Tab.at? c.bst.dir b.rcp with
  | none => none
  | some d => if d.cur.ver = b.ver then some d.cur else d.old.find? (fun v => v.ver == b.ver)

/-- The words of step `i` of a brew's version. -/
def Ctl.brewWords (c : Ctl) (b : Brew) (i : Nat) : List Word :=
  match c.brewVer b with
  | some v => Tab.getD c.bst.steps (v.base + i) []
  | none => []

/-- Step `i` of a brew's version. -/
def Ctl.brewStep (c : Ctl) (b : Brew) (i : Nat) : Step := stepOf (c.brewWords b i)

/-- The brew of a tag. -/
def Ctl.brew? (c : Ctl) (tag : Nat) : Option Brew := Tab.at? c.bst.brews tag

/-- The state with a tag's brew. -/
def Ctl.setBrew (c : Ctl) (tag : Nat) (b : Brew) : Ctl := { c with bst := { c.bst with brews := Tab.put c.bst.brews tag b } }

/-- State of a tag (R87). -/
def Ctl.tagState (c : Ctl) (tag : Nat) : TagState :=
  match Tab.at? c.host.tags tag with | some t => t.state | none => .free

/-- The slot `i` of a brew. -/
def Brew.slot? (b : Brew) (i : Nat) : Option BrewSlot := Tab.at? b.slots i

/-- Context word `i` of a brew (R123). -/
def Brew.ctxW (b : Brew) (i : Nat) : Word := wordAt b.ctx i

/-- Tag, recipe and step of a brew, for a sample record (R451). -/
def Ctl.ctxOf (c : Ctl) (tag : Nat) : Option (Nat × Nat × Nat) := (c.brew? tag).map (fun b => (tag, b.rcp, b.cur))

/-- Tenant of a tag's association. -/
def Ctl.tagTenant (c : Ctl) (tag : Nat) : Option Nat :=
  match Tab.at? c.host.tags tag with
  | none => none
  | some t => if t.qid = 0 then none else (Tab.at? c.host.assocs t.assoc).map (·.tenant)

/-! ### Lanes (R115, R116) -/

/-- An idle lane. -/
def Lane.idle : Lane := ⟨none, [], [], [], [], 0, 0⟩

/-- Lane of a tag: bits [3:0] (R115). -/
def laneOf (tag : Nat) : Nat := tag % 16

/-- Lane `l` as it stands. -/
def Ctl.lane (c : Ctl) (l : Nat) : Lane := Tab.getD c.bst.lanes l Lane.idle

/-- The state with lane `l`. -/
def Ctl.setLane (c : Ctl) (l : Nat) (x : Lane) : Ctl := { c with bst := { c.bst with lanes := Tab.put c.bst.lanes l x } }

/-- The ready queue of a priority. -/
def Lane.queue (x : Lane) : Nat → List Nat
  | 0 => x.q0 | 1 => x.q1 | 2 => x.q2 | _ => x.q3

/-- The lane with the ready queue of a priority. -/
def Lane.setQueue (x : Lane) (p : Nat) (q : List Nat) : Lane :=
  match p with
  | 0 => { x with q0 := q } | 1 => { x with q1 := q } | 2 => { x with q2 := q } | _ => { x with q3 := q }

/-- The lane without a tag anywhere. -/
def Lane.drop (x : Lane) (t : Nat) : Lane :=
  { x with cur := if x.cur = some t then none else x.cur, q0 := x.q0.filter (· != t), q1 := x.q1.filter (· != t),
           q2 := x.q2.filter (· != t), q3 := x.q3.filter (· != t) }

/-- The highest non-empty queue's head, and its priority; priority 3 takes its share of each 256 slots first when it must
(R116, BST_CFG.bg_share). -/
def Lane.head (x : Lane) (share : Nat) : Option (Nat × Nat) :=
  match x.q3 with
  | t :: _ =>
    if x.bg < share ∧ 256 - x.slot ≤ share - x.bg then some (t, 3)
    else match x.q0, x.q1, x.q2 with
      | a :: _, _, _ => some (a, 0)
      | [], a :: _, _ => some (a, 1)
      | [], [], a :: _ => some (a, 2)
      | [], [], [] => some (t, 3)
  | [] =>
    match x.q0, x.q1, x.q2 with
    | a :: _, _, _ => some (a, 0)
    | [], a :: _, _ => some (a, 1)
    | [], [], a :: _ => some (a, 2)
    | [], [], [] => none

/-- Every slot left of the window is owed to priority 3 (R116). -/
def Lane.bgOwed (x : Lane) (share : Nat) : Bool := decide (x.bg < share) && decide (256 - x.slot ≤ share - x.bg)

/-- Priority 3 must have every slot left of the window to receive its share (R116). -/
def Lane.bgDue (x : Lane) (share : Nat) : Bool := !x.q3.isEmpty && x.bgOwed share

/-- Whether a brew's own standing keeps it from being pre-empted: it is in its failure steps (R21), it has just branched (R20), or it is
of priority 3 and its slot belongs to that priority's share (R116). -/
def Lane.keeps (x : Lane) (share : Nat) (b : Brew) : Bool := b.failing || b.held || (b.prio == 3 && x.bgOwed share)

/-- The brew that lane `l` issues in its next slot: its current brew when its status has arrived, unless a brew of higher priority
is ready, or priority 3 must have its share; else the head (R116). -/
def Ctl.lanePick (c : Ctl) (l : Nat) : Option Nat :=
  let x := c.lane l
  let share := c.get F.BST_CFG_bg_share
  match x.cur.bind c.brew? with
  | some b =>
    if b.state = .current then
      match x.head share with
      | some (u, p) => if !x.keeps share b ∧ (p < b.prio ∨ (p = 3 ∧ b.prio ≠ 3 ∧ x.bgDue share)) then some u else x.cur
      | none => x.cur
    else (x.head share).map (·.1)
  | none => (x.head share).map (·.1)

/-- A current brew whose slot another takes is pre-empted: it joins the head of its priority queue (R116, Table 1.5). -/
def Ctl.preempt (c : Ctl) (l tag : Nat) : Ctl :=
  match (c.lane l).cur with
  | none => c
  | some t =>
    match c.brew? t with
    | some b =>
      if t ≠ tag ∧ b.state = .current then
        let x := (c.lane l).drop t
        ((c.setBrew t { b with state := .ready }).setLane l (x.setQueue b.prio (t :: x.queue b.prio))).tev .bst 3 l none (c.ctxOf t) 1
      else c
    | none => c

/-- An issue slot of a tag's lane: it becomes the current brew, and the window of 256 slots moves on (R116). -/
def Ctl.laneIssue (c : Ctl) (tag prio : Nat) : Ctl :=
  let c1 := c.preempt (laneOf tag) tag
  let x := (c1.lane (laneOf tag)).drop tag
  let bg := if prio = 3 then x.bg + 1 else x.bg
  c1.setLane (laneOf tag) { x with cur := some tag, slot := (x.slot + 1) % 256, bg := if x.slot + 1 = 256 then 0 else bg }

/-- A brew joins the tail of its priority queue (R116). -/
def Ctl.laneTail (c : Ctl) (tag prio : Nat) : Ctl :=
  let x := (c.lane (laneOf tag)).drop tag
  c.setLane (laneOf tag) (x.setQueue prio (x.queue prio ++ [tag]))

/-- A brew joins the head of its priority queue (Table 1.5). -/
def Ctl.laneHead (c : Ctl) (tag prio : Nat) : Ctl :=
  let x := (c.lane (laneOf tag)).drop tag
  c.setLane (laneOf tag) (x.setQueue prio (tag :: x.queue prio))

/-- A brew leaves its lane (an EVT wait, or its end). -/
def Ctl.laneLeave (c : Ctl) (tag : Nat) : Ctl := c.setLane (laneOf tag) ((c.lane (laneOf tag)).drop tag)

/-! ### Exception records (R131, Table 6.8) -/

/-- A bit map of the slots of a brew that satisfy `p`. -/
def Brew.slotMap (b : Brew) (p : BrewSlot → Bool) : Nat :=
  (List.range 8).foldl (fun a i => match b.slot? i with | some s => if p s then a + 2 ^ i else a | none => a) 0

/-- Write an exception record, or count it lost when the ring is full (R131). -/
def Ctl.exception (c : Ctl) (tag : Nat) (b : Brew) (kind st eng inst : Nat) : Ctl :=
  let t := c.get F.BST_EXC_STAT_tail
  let c1 := c.tev .bst 5 (laneOf tag) none (c.ctxOf tag) 1
  if (t + 1) % 256 = c.get F.BST_EXC_STAT_head then c1.bump F.BST_EXC_STAT_lost 1
  else
    let rec_ : List Word :=
      [ setBits (setBits 0 31 24 kind) 19 0 tag,
        setBits (setBits (setBits 0 31 24 b.cur) 17 11 b.ver) 10 0 b.rcp,
        setBits (setBits (setBits 0 21 14 inst) 13 8 eng) 7 0 st,
        setBits (setBits (setBits 0 19 16 b.tokens.length) 15 8 (b.slotMap (·.poison))) 7 0 (b.slotMap (fun _ => true)),
        BitVec.ofNat 32 c.dt, BitVec.ofNat 32 (c.dt / 2 ^ 32), 0, 0 ]
    ({ c1 with bst := { c1.bst with exc := Tab.put c1.bst.exc t rec_ } }).set F.BST_EXC_STAT_tail ((t + 1) % 256)

/-! ### Tokens and failure (R124, R125) -/

/-- Engine class of a step of the brew: the class that a status of its token is recorded with (R461). -/
def Brew.tokenCls (b : Brew) (step : Nat) (c : Ctl) : Nat := (c.brewStep b step).eng

/-- The status of the oldest token of a step, if it has arrived (R119). -/
def Brew.oldest (b : Brew) (step : Nat) : Option Nat :=
  match b.tokens.find? (fun t => t.step == step) with
  | some t => if t.arrived then some (t.fate.getD 0) else none
  | none => none

/-- What a COMPLETE step does when the token it names is OK, or when it names none (R126, R216): a RUNNING tag enters COMPLETING, a
write becomes durable, and the completion is posted; a DISCARD tag's write becomes durable; an ABORTED tag's does not. -/
def Ctl.hcpComplete (c : Ctl) (tag : Nat) : Ctl :=
  match Tab.at? c.host.tags tag, c.brew? tag with
  | some t, some b =>
    let durable := t.kind.writes
    match t.state with
    | .running => (((c.setBrew tag { b with durable := b.durable || durable }).tagTo tag .completing).tagSent tag).completeTag t St.ok
    | .discard => c.setBrew tag { b with durable := b.durable || durable }
    | _ => c
  | _, _ => c

/-- A WAIT_TOKEN ends with its token's status when the oldest token of its step has arrived, and the token is consumed (R119). A
COMPLETE step that waits for a token acts when it arrives (R216). -/
def Ctl.tokenWake (c : Ctl) (tag : Nat) : Ctl :=
  match c.brew? tag with
  | none => c
  | some b =>
    match b.wait, b.hcp with
    | some (some step, _), _ =>
      match b.oldest step with
      | some st =>
        c.setBrew tag { b with wait := none, state := .issued, result := some (st, b.tokenCls step c, laneOf tag),
                               tokens := b.tokens.eraseP (fun t => t.step == step) }
      | none => c
    | _, some step =>
      match b.oldest step with
      | some st =>
        let c1 := c.setBrew tag { b with hcp := none, result := some (st, if st = 0 then Cls.hcp else b.tokenCls step c, 0),
                                         tokens := b.tokens.eraseP (fun t => t.step == step) }
        if st = 0 then c1.hcpComplete tag else c1
      | none => c
    | _, none => c

/-- Token `id` of a brew has its final status from the engine and arrives (R125). A revoked token's arrival changes nothing. -/
def Ctl.tokenPost (c : Ctl) (tag id st : Nat) : Ctl :=
  match c.brew? tag with
  | none => c
  | some b =>
    match b.tokens.findIdx? (fun t => t.id == id && !t.arrived) with
    | none => c
    | some i =>
      (c.setBrew tag { b with
        tokens := b.tokens.modify i (fun t => { t with fate := some (t.fate.getD st), arrived := true }) }).tokenWake tag

/-- The engine settles a token's status before it arrives; the first settled status stands. -/
def Ctl.tokenFate (c : Ctl) (tag id st : Nat) : Ctl :=
  match c.brew? tag with
  | none => c
  | some b =>
    match b.tokens.findIdx? (fun t => t.id == id && !t.arrived) with
    | none => c
    | some i => c.setBrew tag { b with tokens := b.tokens.modify i (fun t => { t with fate := some (t.fate.getD st) }) }

/-- enter_failure of R124: failing, final status with the class that produced it, priority 0, tokens revoked, at `tgt`. -/
def Brew.enterFailure (b : Brew) (tgt st cls : Nat) : Brew :=
  { b with failing := true, final := st, finalCls := cls, prio := 0, tokens := [], cur := tgt, wait := none, hcp := none }

/-! ### Issue -/

/-- A step that Barista issues: the brew as it stands, its step and the instance that takes it. -/
structure Issued where
  brew : Brew
  step : Step
  inst : Nat
  deriving DecidableEq, Repr

/-- The channel of class DMA that a step takes is IDLE (R142); other classes queue the step. -/
def Ctl.instFree (c : Ctl) (e i : Nat) : Bool := e != Cls.dma || c.get (F.DMA_CH_STAT_state i) == 0

/-- The instance of a step under its isel (Table 6.2): 0b00 the lowest enabled and free one (DESIGN CHOICE,
notes/assumptions/78.md), the lane's own for EVT; 0b01 the named one; 0b10 the one a context word names. None when it does not exist or is not enabled (R133). -/
def Ctl.pickInst (c : Ctl) (tag : Nat) (b : Brew) (s : Step) : Option Nat :=
  match s.isel with
  | 0 => if s.eng = Cls.evt then some (laneOf tag)
    else match (List.range (clsCount s.eng)).find? (fun i => c.engineOn s.eng i && c.instFree s.eng i) with
      | some i => some i
      | none => (List.range (clsCount s.eng)).find? (c.engineOn s.eng)
  | 1 => if c.engineOn s.eng s.inst then some s.inst else none
  | _ => let i := getBits (b.ctxW (s.inst % 8)) 7 0; if c.engineOn s.eng i then some i else none

/-- Whether a step names a poisoned slot as src or aux (R128). -/
def Brew.poisoned (b : Brew) (s : Step) : Bool :=
  (match b.slot? s.src with | some x => x.poison | none => false) || (match b.slot? s.aux with | some x => x.poison | none => false)

/-- A step of a brew has ended with a status of class `cls` on an instance: the status waits for the boundary (R124). -/
def Ctl.stepResult (c : Ctl) (tag st cls inst : Nat) : Ctl :=
  match c.brew? tag with
  | some b => c.setBrew tag { b with result := some (st, cls, inst), state := .issued, fresh := false, held := false, ueSeen := b.ueSeen || st == 0x03 }
  | none => c

/-- The step that tag `tag` would issue now, if the lane picks the brew and the step is class `eng`, opcode `op` (R116). -/
def Ctl.issuable (c : Ctl) (tag eng op : Nat) : Option Issued :=
  match c.brew? tag with
  | none => none
  | some b =>
    if !c.halted && b.result.isNone && b.wait.isNone && b.hcp.isNone && c.lanePick (laneOf tag) == some tag then
      let s := c.brewStep b b.cur
      if s.eng = eng ∧ s.op = op then some ⟨b, s, 0⟩ else none
    else none

/-- Whether the tag of a brew forces it into its failure steps at a boundary (R107, R127). -/
def Ctl.forcedOut (c : Ctl) (tag : Nat) (b : Brew) : Bool :=
  match Tab.at? c.host.tags tag with
  | some t => t.state == .aborted || (t.state == .discard && !b.durable) || (t.forced && !b.durable)
  | none => false

/-- Abort or discard at the boundary before a brew's first step (R127). -/
def Ctl.abortedFresh (c : Ctl) (tag : Nat) (b : Brew) : Bool := b.fresh && !b.failing && c.forcedOut tag b

/-- What an engine does with a step it accepts: the step's status, what it has settled of the token's final status, where data
that comes with the token lands, the member command behind the token, and the memories and state after it. -/
structure Act where
  st   : Nat
  fate : Option Nat
  land : List Land
  io   : Option TokIo
  m    : Mem
  c    : Ctl

/-- An engine ends a step with a status and no output (R15). -/
def Act.refuse (m : Mem) (c : Ctl) (st : Nat) : Act := ⟨st, none, [], none, m, c⟩

/-- An engine ends a step with OK. -/
def Act.ok (m : Mem) (c : Ctl) : Act := ⟨0, none, [], none, m, c⟩

/-- Whether a class's engine works on the brew's slots alone: what it finds wrong is the action's final status, which a step with tok 1
leaves to its token (R125, notes/assumptions/69.md). -/
def lateCls (eng op : Nat) : Bool := [Cls.cip, Cls.tmpc, Cls.tmpd, Cls.gal, Cls.crc].contains eng || (eng == Cls.dma && op != 0x10)

/-- The action of a step with tok 1 of such a class: the step returns OK, and its token carries the status (R125). -/
def Act.late (a : Act) (s : Step) : Act :=
  if s.tok && lateCls s.eng s.op then { a with st := 0, fate := if s.eng = Cls.dma ∧ a.st = 0 then none else some a.st } else a

/-- Whether the step of a tag can be read intact: its chk is right (R129). -/
def Ctl.stepIntact (c : Ctl) (b : Brew) : Bool := stepCrc (c.brewWords b b.cur) == (c.brewStep b b.cur).chk

/-- Number of the token that the step being issued leaves. -/
def Ctl.tokNext (c : Ctl) : Nat := c.bst.tokSeq

/-- A token of the current step joins the brew's tokens when the step has tok = 1 and was accepted (R125). -/
def Ctl.takeToken (c : Ctl) (tag : Nat) (s : Step) (a : Act) : Ctl :=
  let c1 := { c with bst := { c.bst with tokSeq := c.tokNext + 1 } }
  if s.tok && a.st == 0 then
    match c1.brew? tag with
    | some b => c1.setBrew tag { b with tokens := b.tokens ++ [⟨c.tokNext, b.cur, a.fate, false, a.land, a.io⟩] }
    | none => c1
  else c1

/-- The HBM stack of a byte address (R144). -/
def hbmStack (a : Nat) : Nat := if a < 0x600000000 then 0 else 1

/-- An engine has met an uncorrectable HBM word in the slots of a step: the HBM telemetry counts it (Table 1.4, Table 18.1). -/
def Ctl.ueCount (c : Ctl) (tag : Nat) (i : Issued) : Ctl :=
  let a := match i.brew.slot? i.step.src, i.brew.slot? i.step.aux with
    | some x, _ => ptrByte x.ptr | none, some y => ptrByte y.ptr | none, none => 0
  c.tev .hbm 3 (hbmStack a) none (c.ctxOf tag) 1

/-- What ends a step at its issue, and the instance it is recorded with: no instance, ENGINE_OFF (R133); a poisoned src or aux, HBM_UE
unless the class is BPM (R128); a fifth token, BAD_STEP (R125). -/
def Issued.fault (i : Issued) (inst : Option Nat) (poisonOk : Bool) : Option (Nat × Nat) :=
  match inst with
  | none => some (0x05, 0)
  | some n =>
    if i.brew.poisoned i.step && !poisonOk then some (0x03, n)
    else if i.step.tok && decide (4 ≤ i.brew.tokens.length) then some (0x0B, n)
    else none

/-- A step is issued to an engine: an aborted fresh brew fails instead (R127); a step that fails its chk ends BAD_STEP (R129);
`Issued.fault` ends others; a DMA step whose channel is not IDLE waits (R142); else `act` carries it out on the state in which the lane
has issued it, and gives its status. With tok = 1 the step returns OK and leaves a token (R125). -/
def issueAt (pick : Issued → Option Nat) (m : Mem) (c : Ctl) (tag eng op : Nat) (poisonOk : Bool) (act : Issued → Mem → Ctl → Act) :
    Mem × Ctl :=
  match c.issuable tag eng op with
  | none => (m, c)
  | some i =>
    if c.abortedFresh tag i.brew then
      (m, (c.setBrew tag { (i.brew.enterFailure i.step.failt 0x0C eng) with fresh := false, state := .ready }).laneTail tag 0)
    else
      let c1 := (c.laneIssue tag i.brew.prio).tev .bst 0 (laneOf tag) none (c.ctxOf tag) 1
      if !c.stepIntact i.brew then (m, (c1.faultRecord 0x09 1 (i.brew.rcp * 256 + i.brew.cur)).stepResult tag 0x0B eng 0)
      else
        let inst := pick i
        match i.fault inst poisonOk with
        | some (st, n) => (m, c1.stepResult tag st eng n)
        | none =>
          let n := inst.getD 0
          if !c.instFree eng n then (m, c)
          else
            let r := act { i with inst := n } m c1
            let a := r.late i.step
            (a.m, ((if r.st = 0x03 then a.c.ueCount tag i else a.c).takeToken tag i.step a).stepResult tag a.st eng n)

/-- A step issued to the instance its isel selects. -/
def issue (m : Mem) (c : Ctl) (tag eng op : Nat) (poisonOk : Bool) (act : Issued → Mem → Ctl → Act) : Mem × Ctl :=
  issueAt (fun i => c.pickInst tag i.brew i.step) m c tag eng op poisonOk act

/-- A step issued unless its engine holds it at issue: then it stays at the head of its lane and nothing changes (R214, R220). -/
def issueUnless (hold : Issued → Bool) (m : Mem) (c : Ctl) (tag eng op : Nat) (poisonOk : Bool) (act : Issued → Mem → Ctl → Act) :
    Mem × Ctl :=
  match c.issuable tag eng op with
  | none => (m, c)
  | some i => if hold i && !c.abortedFresh tag i.brew then (m, c) else issue m c tag eng op poisonOk act

/-- The brew `b` after it has entered state `st`. -/
def Ctl.brewState (c : Ctl) (tag : Nat) (st : BrewState) : Ctl :=
  match c.brew? tag with
  | some b => c.setBrew tag { b with state := st }
  | none => c

/-! ### Starting a brew (R122, R123) -/

/-- The eight context words at instantiation: word 7 names whom the brew works for (R283); what the other words hold is a free value
(notes/assumptions/2.md). -/
def ctxWords (fv : Nat) (id : Word) : List Word := (List.range 7).map (fun i => BitVec.ofNat 32 (Config.freeNat (fv + i))) ++ [id]

/-- A brew of recipe `rcp` starts on `tag` for the identity `id` of R283: none when the recipe is retired or not installed
(R122). -/
def Ctl.startBrew (c0 : Ctl) (tag rcp : Nat) (id : Word) : Option Ctl :=
  let ctx := ctxWords c0.fv id
  let c := c0.tookN 7
  match Tab.at? c.bst.dir rcp with
  | none => none
  | some d =>
    if !d.valid then none
    else
      let b : Brew := { rcp := rcp, ver := d.cur.ver, cur := 0, prio := d.cur.prio, failing := false, final := 0, finalCls := 0,
                        durable := false, retry := 0, slots := [], tokens := [], ctx := ctx, state := .ready, result := none,
                        wait := none, fresh := true, run := 0, chkBad := [], unitBad := [], hcp := none, held := false,
                        ueSeen := false }
      let d1 := { d with cur := { d.cur with users := d.cur.users + 1 } }
      some (((({ c with bst := { c.bst with dir := Tab.put c.bst.dir rcp d1 } }).setBrew tag b).laneTail tag d.cur.prio).tev
        .bst 1 (laneOf tag) none (some (tag, rcp, 0)) 1)

/-- The version's user count after a brew of it has ended; an earlier version with no brew left is freed (R122). -/
def RcpDir.leave (d : RcpDir) (ver : Nat) : RcpDir :=
  if d.cur.ver = ver then { d with cur := { d.cur with users := d.cur.users - 1 } }
  else { d with old := (d.old.map (fun v => if v.ver = ver then { v with users := v.users - 1 } else v)).filter (fun v => v.users != 0) }

end Sys2Proof.Machine
end

