-- ==== Sys2Proof/Machine/Barista.lean ====
section
/-! DEFINITION. Barista's own steps (06_barista_and_dma.md, R119, R125, R132, R133), the BPM steps of R163, and the MOVE steps of
R142. -/

namespace Sys2Proof.Machine

/-! ### DMA channels of brews (R125, R142) -/

/-- A channel as it stands. -/
def DmaChan.idle : DmaChan :=
  { pc := 0, ctr0 := none, ctr1 := none, srcOff := 0, dstOff := 0, flight := [], shNext := 0, shPace := 1, edgeHit := false,
    wait := none, brew := none, move := none, failed := none, moveAt := none }

/-- Whether an instruction in flight moves data from or to host memory (space 3) or to the peer (space 4), and waits for them. -/
def DmaIns.remote (i : DmaIns) : Bool :=
  let w (k : Nat) : Nat := getBits (wordAt i.words k) 31 28
  (getBits (wordAt i.words 0) 27 24 == 1 || getBits (wordAt i.words 0) 27 24 == 2) && (w 2 == 3 || w 4 == 3 || w 4 == 4)

/-- Channel `n`. -/
def Ctl.chan (c : Ctl) (n : Nat) : DmaChan := Tab.getD c.bst.chans n DmaChan.idle

/-- The state with channel `n`. -/
def Ctl.setChan (c : Ctl) (n : Nat) (x : DmaChan) : Ctl := { c with bst := { c.bst with chans := Tab.put c.bst.chans n x } }

/-- The programs that a brew has started are cancelled with its tokens: each channel stops, and posts no token (R125,
notes/assumptions/70.md). -/
def Ctl.dmaRevoke (c : Ctl) (tag : Nat) : Ctl :=
  (c.bst.chans.filter (fun p => p.2.brew.any (fun x => x.1 == tag))).foldl (fun c p =>
    let c1 := c.setChan p.1 { p.2 with brew := none }
    if c1.get (F.DMA_CH_STAT_state p.1) = 1 ∨ c1.get (F.DMA_CH_STAT_state p.1) = 2 then c1.set (F.DMA_CH_STAT_state p.1) 3 else c1) c

/-- The tokens of a brew are revoked: its DMA programs and its WRITEs to the peer are cancelled (R125). -/
def Ctl.revoke (c : Ctl) (tag : Nat) : Ctl :=
  let own (w : PeerWho) : Bool := match w with | .step t _ => t == tag | .dma _ => false
  { c with pair := { c.pair with writes := c.pair.writes.filter (fun w => !own w.2.who) } }.dmaRevoke tag

/-! ### EVT steps (R119) -/

/-- An EVT step waits: the brew leaves its lane until `until_`, or until the token of step `step` arrives. -/
def Ctl.evtWait (c : Ctl) (tag : Nat) (step : Option Nat) (until_ : Nat) : Ctl :=
  match c.brew? tag with
  | some b => ((c.setBrew tag { b with wait := some (step, until_), state := .waiting, fresh := false }).laneLeave tag)
  | none => c

/-- The EVT step of a tag that its lane issues now, read intact; aborted and unreadable ones, and those that end at issue, end as any step
does (R127 to R129, R133). -/
def evtIssue (m : Mem) (c : Ctl) (tag op : Nat) (wait : Issued → Ctl → Ctl) : Mem × Ctl :=
  match c.issuable tag Cls.evt op with
  | none => (m, c)
  | some i =>
    if c.abortedFresh tag i.brew || !c.stepIntact i.brew || (i.fault (c.pickInst tag i.brew i.step) false).isSome then issue m c tag Cls.evt op true (fun _ m c => .ok m c)
    else (m, wait i ((c.laneIssue tag i.brew.prio).tev .bst 0 (laneOf tag) none (c.ctxOf tag) 1))

/-- EVT_WAIT_TOKEN (R119): the step waits for the oldest token of step arg2, at most arg0 µs of DT. -/
def execEvtWaitToken (tag : Nat) (s : State) : Host.Outcome State Fault Refusal :=
  onAll (fun m c => evtIssue m c tag 0x01 (fun i c =>
    (c.evtWait tag (some i.step.arg2) (c.dt + 1000 * i.step.arg0)).tokenWake tag)) s

/-- EVT_DELAY (R119): the step waits for arg0 ns of DT. -/
def execEvtDelay (tag : Nat) (s : State) : Host.Outcome State Fault Refusal :=
  onAll (fun m c => evtIssue m c tag 0x02 (fun i c => c.evtWait tag none (c.dt + i.step.arg0))) s

/-- EVT_WAIT_TIMEOUT (R119, R125): arg0 passes first; the step ends TIMEOUT and every outstanding token is revoked. -/
def execEvtWaitTimeout (tag : Nat) (s : State) : Host.Outcome State Fault Refusal :=
  onCtl (fun _ c =>
    match c.brew? tag with
    | some b =>
      match b.wait with
      | some (some step, t) =>
        ((c.reach t).setBrew tag { b with wait := none, state := .issued, tokens := [],
                                          result := some (0x07, b.tokenCls step c, laneOf tag) }).revoke tag
      | _ => c
    | none => c) s

/-- EVT_DELAY_EXPIRE (R119): the delay's time comes and the step ends OK. -/
def execEvtDelayExpire (tag : Nat) (s : State) : Host.Outcome State Fault Refusal :=
  onCtl (fun _ c =>
    match c.brew? tag with
    | some b =>
      match b.wait with
      | some (none, t) => (c.reach t).setBrew tag { b with wait := none, state := .issued, result := some (0, Cls.evt, laneOf tag) }
      | _ => c
    | none => c) s

/-! ### BPM steps (R163, Table 7.10) -/

/-- The brew with slot `i` filled. -/
def Brew.putSlot (b : Brew) (i : Nat) (x : BrewSlot) : Brew := { b with slots := Tab.put b.slots i x }

/-- The brew with slot `i` cleared. -/
def Brew.clearSlot (b : Brew) (i : Nat) : Brew := { b with slots := Tab.del b.slots i }

/-- The brew of a tag changed by `f`. -/
def Ctl.onBrew (c : Ctl) (tag : Nat) (f : Brew → Brew) : Ctl :=
  match c.brew? tag with
  | some b => c.setBrew tag (f b)
  | none => c

/-- ALLOC: a null grant ends POOL_EXHAUSTED; a valid dst ends SLOT_IN_USE. -/
def bpmAllocAct (tag : Nat) (ue race : Bool) (i : Issued) (m : Mem) (c : Ctl) : Act :=
  if (i.brew.slot? i.step.dst).isSome then .refuse m c 0x41
  else match c.alloc (i.step.arg0 % 2 ^ 23) (i.step.arg1 % 2 == 1) (brewReq tag i.brew.prio) ue race with
    | (some w, c1) => .ok m (c1.onBrew tag (·.putSlot i.step.dst ⟨w, true, false⟩))
    | (none, c1) => .refuse m c1 0x01

/-- BPM_ALLOC (R157, R163). -/
def execBpmAlloc (tag : Nat) (ue race : Bool) (s : State) : Host.Outcome State Fault Refusal :=
  onAll (fun m c => issue m c tag Cls.bpm 0x01 true (bpmAllocAct tag ue race)) s

/-- REF: dst receives src's pointer as a reference, without poison (R128). -/
def bpmRefAct (tag : Nat) (ue : Bool) (i : Issued) (m : Mem) (c : Ctl) : Act :=
  if (i.brew.slot? i.step.dst).isSome then .refuse m c 0x41
  else match i.brew.slot? i.step.src with
    | none => .refuse m c 0x42
    | some x =>
      let r := c.bufDo x.ptr (.ref 1) (brewReq tag i.brew.prio) ue
      if r.1 = .done then .ok m (r.2.onBrew tag (·.putSlot i.step.dst ⟨x.ptr, false, false⟩)) else .refuse m r.2 r.1.status

/-- BPM_REF (R163). -/
def execBpmRef (tag : Nat) (ue : Bool) (s : State) : Host.Outcome State Fault Refusal :=
  onAll (fun m c => issue m c tag Cls.bpm 0x02 true (bpmRefAct tag ue)) s

/-- The operation that drops a slot: FREE for an owned buffer, DEREF for a reference (Table 7.10). -/
def BrewSlot.dropOp (x : BrewSlot) : BufOp := if x.owned then .free else .deref

/-- DROP: the slot's buffer is freed or dereferenced and the slot cleared; a refused drop keeps the slot (R163 clears a refused
slot for RELEASE_ALL alone). -/
def bpmDropAct (tag : Nat) (ue : Bool) (i : Issued) (m : Mem) (c : Ctl) : Act :=
  match i.brew.slot? i.step.src with
  | none => .refuse m c 0x42
  | some x =>
    let r := c.bufDo x.ptr x.dropOp (brewReq tag i.brew.prio) ue
    if r.1 = .done then .ok m (r.2.onBrew tag (·.clearSlot i.step.src)) else .refuse m r.2 r.1.status

/-- BPM_DROP (R163). -/
def execBpmDrop (tag : Nat) (ue : Bool) (s : State) : Host.Outcome State Fault Refusal :=
  onAll (fun m c => issue m c tag Cls.bpm 0x03 true (bpmDropAct tag ue)) s

/-- Drop every valid slot of a brew, slot 0 first, clearing each; whether any drop was refused, and the state (R163). -/
def Ctl.releaseSlots (c : Ctl) (tag : Nat) (ue : BitVec 8) : Bool × Ctl :=
  (List.range 8).foldl (fun (acc : Bool × Ctl) k =>
    match (acc.2.brew? tag).bind (fun b => b.slot? k) with
    | none => acc
    | some x =>
      let r := acc.2.bufDo x.ptr x.dropOp (brewReq tag 0) (ue.getLsbD k)
      (acc.1 || r.1 != .done, r.2.onBrew tag (·.clearSlot k))) (false, c)

/-- RELEASE_ALL ends BPM_FAULT when any drop was refused. -/
def bpmReleaseAct (tag : Nat) (ue : BitVec 8) (_ : Issued) (m : Mem) (c : Ctl) : Act :=
  match c.releaseSlots tag ue with
  | (bad, c1) => if bad then .refuse m c1 0x02 else .ok m c1

/-- BPM_RELEASE_ALL (R163): issued only when every token of the brew has arrived or been revoked (R125). -/
def execBpmReleaseAll (tag : Nat) (ue : BitVec 8) (s : State) : Host.Outcome State Fault Refusal :=
  onAll (fun m c =>
    match c.brew? tag with
    | some b => if b.tokens.any (fun t => !t.arrived) then (m, c) else issue m c tag Cls.bpm 0x0F true (bpmReleaseAct tag ue)
    | none => (m, c)) s

/-! ### Byte reordering (R136, R142) -/

/-- Units of a swap mode, Table 6.12. -/
def swapUnit (mode : Nat) : Nat := match mode with | 0 => 2 | 1 => 4 | 2 => 4 | _ => 8

/-- One unit reordered, Table 6.12. -/
def swapOne (mode : Nat) (u : List Byte) : List Byte :=
  match mode, u with
  | 2, [a, b, c, d] => [c, d, a, b]
  | 2, u => u
  | _, u => u.reverse

/-- Whole units reordered, `n` of them. -/
def swapBytes (mode : Nat) : Nat → List Byte → List Byte
  | 0, _ => []
  | n + 1, bs => swapOne mode (bs.take (swapUnit mode)) ++ swapBytes mode n (bs.drop (swapUnit mode))

/-! ### DMA program start by a step (R142) -/

/-- The hand-over edge of R141: the shadow set becomes active when SHADOW_ARM was set earlier and no write hits the edge. -/
def Ctl.handOver (c : Ctl) (n : Nat) : Ctl :=
  let x := c.chan n
  if x.edgeHit then
    ((c.setChan n { x with edgeHit := false }).setFlag (F.DMA_CH_STAT_shadow_armed n) true).setFlag (F.DMA_CH_STAT_shadow_late n) true
  else if c.flag (F.DMA_CH_STAT_shadow_armed n) then
    (((c.wr (Reg.DMA_CH_NEXT_LO n) (BitVec.ofNat 32 x.shNext)).wr (Reg.DMA_CH_NEXT_HI n) (BitVec.ofNat 32 (x.shNext / 2 ^ 32))).wr
      (Reg.DMA_CH_PACE n) x.shPace).setFlag (F.DMA_CH_STAT_shadow_armed n) false
  else c

/-- A channel starts at an address: RUN, counters unloaded, offsets 0, no bytes moved (R136, R140, R141). -/
def Ctl.chanStart (c : Ctl) (n addr : Nat) (brew : Option (Nat × Nat)) : Ctl :=
  let c1 := c.handOver n
  ((c1.setChan n { c1.chan n with pc := addr, ctr0 := none, ctr1 := none, srcOff := 0, dstOff := 0, flight := [], wait := none,
                                  brew := brew, move := none, failed := none }).set (F.DMA_CH_STAT_state n) 1).wr (Reg.DMA_CH_BYTES n) 0

/-- State code of a channel, Table 6.14. -/
def Ctl.chState (c : Ctl) (n : Nat) : Nat := c.get (F.DMA_CH_STAT_state n)

/-- The state with a channel in a state. -/
def Ctl.toState (c : Ctl) (n st : Nat) : Ctl := c.set (F.DMA_CH_STAT_state n) st

/-- The token of the step that started a channel's program. -/
def Ctl.chToken (c : Ctl) (n st : Nat) : Ctl :=
  match (c.chan n).brew with
  | some (tag, tok) => (c.setChan n { c.chan n with brew := none }).tokenPost tag tok st
  | none => c

/-- A MOVE step ends on its channel with a status of Table 6.13: IDLE after DONE, STOPPED after any other, with the step's token. -/
def Ctl.moveEnd (c : Ctl) (n st tok : Nat) : Ctl :=
  (((c.setChan n { c.chan n with move := none }).set (F.DMA_CH_STAT_last_status n) st).toState n (if st = 1 then 0 else 4)).chToken n tok

/-- A MOVE step of `len` bytes runs on channel `n`: from IDLE to RUN, a hand-over edge (R141), and to its end; with tok 1 the end is
its token's arrival (R140, R142). -/
def Ctl.moveRun (c : Ctl) (n tag st len : Nat) (tok : Bool) : Ctl :=
  let c1 := (c.chanStart n 0 (if tok then some (tag, c.tokNext) else none)).set (F.DMA_CH_BYTES_bytes n) (if st = 1 then len else 0)
  if tok then c1.setChan n { c1.chan n with move := some st } else c1.moveEnd n st 0

/-- DMA_STEP_RUN (R142): tok 0 ends BAD_STEP; else the program at arg1:arg0 starts on the channel, whose end is the token. -/
def execDmaStepRun (tag : Nat) (s : State) : Host.Outcome State Fault Refusal :=
  onAll (fun m c => issue m c tag Cls.dma 0x10 false (fun i m c =>
    if !i.step.tok then .refuse m c 0x0B
    else .ok m (c.chanStart i.inst (i.step.arg1 * 2 ^ 32 + i.step.arg0) (some (tag, c.tokNext))))) s

/-! ### Engine enable and disable (R132, R133) -/

/-- The number that names an instance in the drain lists. -/
def engineKey (cls inst : Nat) : Nat := cls * 256 + inst

/-- Whether ENGINE_EN controls the instance: its class is marked Yes in Table 6.3 and it exists. -/
def engineControlled (cls inst : Nat) : Bool := clsControlled cls && decide (inst < clsCount cls)

/-- The ENGINE_EN bit of an instance set or cleared. -/
def Ctl.setEngine (c : Ctl) (cls inst : Nat) (b : Bool) : Ctl :=
  let n := 8 * cls + inst / 32
  let w := c.engineWord n
  let bit := inst % 32
  c.wr (Reg.BST_ENGINE_EN n) (BitVec.ofNat 32
    (if Nat.testBit w bit = b then w else if b then w + 2 ^ bit else w - 2 ^ bit))

/-- The instance is disabled: from this clock on it accepts no step, and it drains (R132); an enable that waits for the acknowledgement is
taken back. -/
def Ctl.engineOff (c : Ctl) (cls inst : Nat) : Ctl :=
  if engineControlled cls inst && c.engineOn cls inst then
    let c1 := c.setEngine cls inst false
    { c1 with bst := { c1.bst with drain := c1.bst.drain ++ [engineKey cls inst] } }
  else { c with bst := { c.bst with reEn := c.bst.reEn.filter (· != engineKey cls inst) } }

/-- ENGINE_DISABLE (R132). Bits of classes marked No, and of instances that do not exist, ignore writes. -/
def execEngineDisable (cls inst : Nat) (s : State) : Host.Outcome State Fault Refusal :=
  onCtl (fun _ c => if c.bar0Open then c.engineOff cls inst else c) s

/-- The accepted steps of a disabled instance have ended: its ACK bit is 1; an enable that waits then takes effect, and the bit
returns to 0 (R132, R133). -/
def Ctl.engineDrained (c : Ctl) (cls inst : Nat) : Ctl :=
  let k := engineKey cls inst
  if c.bst.drain.contains k then
    let c1 := { c with bst := { c.bst with drain := c.bst.drain.filter (· != k), reEn := c.bst.reEn.filter (· != k) } }
    if c.bst.reEn.contains k then c1.setEngine cls inst true
    else c1.setBitOf (F.BST_ENGINE_ACK_ack (8 * cls + inst / 32)) (inst % 32) true
  else c

/-- ENGINE_DISABLE_ACK (R132): the disabled instance has drained. -/
def execEngineDisableAck (cls inst : Nat) (s : State) : Host.Outcome State Fault Refusal :=
  onCtl (fun _ c => c.engineDrained cls inst) s

/-- The instance is enabled: at once when its disable has been acknowledged, else with the acknowledgement; a bit whose domain is
off ignores the write (R133). -/
def Ctl.engineOnReq (c : Ctl) (cls inst : Nat) : Ctl :=
  let k := engineKey cls inst
  if !engineControlled cls inst || !c.bitOf F.GLB_PD_STAT_pd_is_on (engineDomain cls inst) then c
  else if c.bst.drain.contains k then { c with bst := { c.bst with reEn := k :: c.bst.reEn.filter (· != k) } }
  else (c.setEngine cls inst true).setBitOf (F.BST_ENGINE_ACK_ack (8 * cls + inst / 32)) (inst % 32) false

/-- ENGINE_ENABLE (R133). -/
def execEngineEnable (cls inst : Nat) (s : State) : Host.Outcome State Fault Refusal :=
  onCtl (fun _ c => if c.bar0Open then c.engineOnReq cls inst else c) s

end Sys2Proof.Machine
end

