-- ==== Sys2Proof/Machine/Channels.lean ====
section
/-! DEFINITION. A bay channel as the registers and the state hold it (14_bay_power.md): its state code, its seat, and whether its drive is
usable (R10). -/

namespace Sys2Proof.Machine

/-- Channel states, Table 14.2. -/
def Ch.empty : Nat := 0
def Ch.seating : Nat := 1
def Ch.idle : Nat := 2
def Ch.precheck : Nat := 3
def Ch.ramp : Nat := 4
def Ch.on : Nat := 5
def Ch.latched : Nat := 6
def Ch.keeper : Nat := 7

/-- The state of a channel that no register shows. -/
def Ctl.ch (c : Ctl) (b : Nat) : Bay := Tab.getD c.bay.ch b Bay.reset

/-- A channel's hidden state changed. -/
def Ctl.onCh (c : Ctl) (b : Nat) (f : Bay → Bay) : Ctl := { c with bay := { c.bay with ch := Tab.put c.bay.ch b (f (c.ch b)) } }

/-- The state code of a channel. -/
def Ctl.chSt (c : Ctl) (b : Nat) : Nat := c.get (F.BAY_CH_STAT_state b)

/-- Whether the channel's drive is seated. -/
def Ctl.seat (c : Ctl) (b : Nat) : Bool := c.flag (F.BAY_CH_STAT_seat b)

/-- BAY_CH_STAT_n.usable of a channel. -/
def Ctl.bayUsable (c : Ctl) (b : Nat) : Nat :=
  if c.chSt b = Ch.latched then 4
  else if !c.seat b then 1
  else if c.chSt b ≠ Ch.on then 3
  else match Tab.at? c.rbd.ports b with | some true => 0 | _ => 2

/-- The channel's `usable` follows. -/
def Ctl.usableNote (c : Ctl) (b : Nat) : Ctl := c.set (F.BAY_CH_STAT_usable b) (c.bayUsable b)

end Sys2Proof.Machine
end

