-- ==== Sys2Proof/Machine/Contexts.lean ====
section
/-! DEFINITION. Command contexts and their tags (R85, R87), for hosts and for background work. -/

namespace Sys2Proof.Machine

/-- Command contexts of the device (R85). -/
def ctxTotal : Nat := 1048576

/-- Contexts that commands of I/O queues hold. -/
def Ctl.ioTags (c : Ctl) : Nat := (c.host.tags.filter (fun p => p.2.kind.host && p.2.kind != .admin)).length

/-- Contexts that host commands hold. -/
def Ctl.hostTags (c : Ctl) : Nat := (c.host.tags.filter (fun p => p.2.kind.host)).length

/-- Contexts that background and management brews hold. -/
def Ctl.bgTags (c : Ctl) : Nat := (c.host.tags.filter (fun p => !p.2.kind.host)).length

/-- The least tag whose context is FREE; the spec does not say which free context is given (notes/assumptions/10.md). -/
def Ctl.freeTag (c : Ctl) : Option Nat := Tab.freeKey c.host.tags 0 (c.host.tags.length + 1)

/-- The state with a tag's context. -/
def Ctl.setTag (c : Ctl) (tag : Nat) (t : TagE) : Ctl := { c with host := { c.host with tags := Tab.put c.host.tags tag t } }

/-- The state with a tag FREE; the controller whose command it served is idle since now (R112). -/
def Ctl.freeTagE (c : Ctl) (tag : Nat) : Ctl :=
  let as := match Tab.at? c.host.tags tag with
    | some t => if t.kind.io then Tab.upd c.host.assocs t.assoc (fun a => { a with idleAt := c.time.dt }) else c.host.assocs
    | none => c.host.assocs
  { c with host := { c.host with tags := Tab.del c.host.tags tag, assocs := as } }

/-- The context of a tag. -/
def Ctl.tag? (c : Ctl) (tag : Nat) : Option TagE := Tab.at? c.host.tags tag

/-- A context for background work of a kind, from the reserve of R85. -/
def Ctl.bgTag (c : Ctl) : Option Nat :=
  if c.get F.HCP_CTX_CFG_bg_reserve ≤ c.bgTags then none else c.freeTag

/-- Context word 7 of a device brew: it says so, and names the namespace it works on (R283). -/
def devId (ns : Nat) : Word := BitVec.ofNat 32 (2 ^ 31 + ns % 2 ^ 14)

/-- Context word 7 of a host brew: the command's nsid (R283). -/
def hostId (ns : Nat) : Word := BitVec.ofNat 32 (ns % 2 ^ 14)

/-- How a background brew starts: no context is left, its recipe is not installed (BAD_STEP, R122), or it runs on a tag. -/
inductive BgStart where
  | noContext
  | noRecipe
  | started (tag : Nat) (c : Ctl)

/-- A background brew of a kind runs a recipe on a context of the reserve (R85, R122), where background work may start (R46, R19). -/
def Ctl.bgStart (c : Ctl) (kind : TagKind) (rcp : Nat) (id : Word) : BgStart :=
  match (if c.bgOk then c.bgTag else none) with
  | none => .noContext
  | some tag =>
    match (c.setTag tag ⟨.running, kind, 0, 0, 0, none, false, 0, false, none⟩).startBrew tag rcp id with
    | none => .noRecipe
    | some c1 => .started tag c1

end Sys2Proof.Machine
end

