-- ==== Sys2Proof/Machine/Crema.lean ====
section
/-! DEFINITION. Crema (08_read_path_and_crema.md): keys, sketch, lookup, admission, eviction, invalidation. -/

namespace Sys2Proof.Machine

/-! ### Keys and grains (R165, R167) -/

/-- Blocks of 4 KiB in a grain of size code `g`. -/
def grainBlocks (g : Nat) : Nat := match g with | 0 => 1 | 1 => 16 | _ => 256

/-- Grain size code of a namespace. -/
def Ctl.nsGrain (c : Ctl) (ns : Nat) : Nat := c.get (F.CRM_NS_CFG_grain ns)

/-- The key of a grain. -/
def crmKey (ns gi : Nat) : Nat := ns * 2 ^ 48 + gi

/-- Seed `j` of the last reset: a free value. -/
def Ctl.crmSeed (c : Ctl) (j : Nat) : Nat := Config.freeNat (c.crm.seedAt + j) % 2 ^ 64

/-- Multiplier `j` of R167. -/
def crmMul (j : Nat) : Nat :=
  match j with
  | 0 => 0x9E3779B97F4A7C15 | 1 => 0xC2B2AE3D27D4EB4F | 2 => 0x165667B19E3779F9 | _ => 0xD6E8FEB86659FD93

/-- The product of a key with row `j`'s seed and multiplier. -/
def Ctl.crmHash (c : Ctl) (j k : Nat) : Nat := ((k ^^^ c.crmSeed j) * crmMul j) % 2 ^ 64

/-- Bucket of a key: bits [63:47]. -/
def Ctl.crmBucket (c : Ctl) (k : Nat) : Nat := c.crmHash 0 k / 2 ^ 47

/-- Sketch counter number of a key in row `j`: bits [63:48]. -/
def Ctl.crmCell (c : Ctl) (j k : Nat) : Nat := j * 65536 + c.crmHash j k / 2 ^ 48

/-- Epoch of a bucket. -/
def Ctl.bktEpoch (c : Ctl) (b : Nat) : Nat := Tab.getD c.crm.bktEp b 0

/-- Epoch of a namespace. -/
def Ctl.nsEpoch (c : Ctl) (ns : Nat) : Nat := Tab.getD c.crm.nsEp ns 0

/-- The eight entry numbers of a bucket. -/
def bktWays (b : Nat) : List Nat := (List.range 8).map (fun w => 8 * b + w)

/-- Entry number of a key, if it has an entry. -/
def Ctl.crmFind (c : Ctl) (ns gi : Nat) : Option Nat :=
  (bktWays (c.crmBucket (crmKey ns gi))).find? (fun k =>
    match Tab.at? c.crm.entries k with | some e => e.nsid == ns && e.gi == gi | none => false)

/-- Count one event of CRM_CNT_n. -/
def Ctl.crmCnt (c : Ctl) (n k : Nat) : Ctl := c.bump (F.CRM_CNT_count n) k

/-- The state with entry `k`. -/
def Ctl.setEntry (c : Ctl) (k : Nat) (e : CrmEntry) : Ctl := { c with crm := { c.crm with entries := Tab.put c.crm.entries k e } }

/-- The directory as a requester of the buffer manager (BPM_FAULT_STAT.req 3). -/
def crmReq : BufReq := ⟨3, 0, false, 0, 4⟩

/-- A pool whose use has fallen below its limit admits again (R183). -/
def Ctl.crmUncap (c : Ctl) : Ctl :=
  { c with crm := { c.crm with capped := c.crm.capped.filter (fun p => decide (c.get (F.CRM_LIMIT_limit p) ≤ c.get (F.CRM_USE_use p))) } }

/-- A commit of CRM_LIMIT_p: below the pool's use it refuses admissions (R183). -/
def Ctl.crmCap (c : Ctl) (p : Nat) : Ctl :=
  let c1 := c.crmUncap
  if c.get (F.CRM_LIMIT_limit p) < c.get (F.CRM_USE_use p) then
    { c1 with crm := { c1.crm with capped := p :: c1.crm.capped.filter (· != p) } } else c1

/-- An entry becomes FREE: its pool's use falls, and a VALID entry's reference is dropped. -/
def Ctl.entryFree (c : Ctl) (k : Nat) (e : CrmEntry) : Ctl :=
  let c1 := { c with crm := { c.crm with entries := Tab.del c.crm.entries k } }
  let c2 := (c1.set (F.CRM_USE_use (e.grain + 1)) (c1.get (F.CRM_USE_use (e.grain + 1)) - 1)).crmUncap
  if e.valid then (c2.bufDo e.ptr .deref crmReq false).2 else c2

/-! ### The directory region (R166) -/

/-- The 32 bytes of an entry, Table 8.1. -/
def CrmEntry.bytes (e : CrmEntry) : List Byte :=
  leBytes 8 ((if e.valid then 2 else 1) * 2 ^ 62 + e.nsid % 2 ^ 14 * 2 ^ 48 + e.gi % 2 ^ 48) ++ leBytes 4 e.ptr.toNat
    ++ leBytes 4 (e.grain % 4 * 2 ^ 21 + (if e.ref then 2 ^ 20 else 0) + (if e.valid then 0 else e.fillTag % 2 ^ 20))
    ++ leBytes 4 e.nsEpoch ++ leBytes 4 e.tAdm ++ leBytes 8 0

/-- First byte of the directory region. -/
def Ctl.dirBase (c : Ctl) : Nat := c.get F.CRM_DIR_BASE_base * 4194304

/-- The memories as a reader of HBM sees them while Crema is enabled: the entries from the start of the directory region, and the bucket
epochs from 96 MiB on (the spec gives a lookup record's place and no layout: its bytes read as what lies there,
notes/assumptions/72.md). -/
def Ctl.dirView (c : Ctl) (m : Mem) : Mem :=
  if !c.flag F.CRM_CFG_en then m
  else
    let m1 := c.crm.entries.foldl (fun (m : Mem) p => m.put .hbm (c.dirBase + 32 * p.1) p.2.bytes) m
    c.crm.bktEp.foldl (fun (m : Mem) p => m.put .hbm (c.dirBase + 100663296 + 2 * p.1) (leBytes 2 p.2)) m1

/-! ### The admission sketch (R178 to R181) -/

/-- Counter of a key in row `j`. -/
def Ctl.crmCount (c : Ctl) (j k : Nat) : Nat := Tab.getD c.crm.sketch (c.crmCell j k) 0

/-- Estimate of a key: the least of its four counters. -/
def Ctl.crmEst (c : Ctl) (k : Nat) : Nat := min (min (c.crmCount 0 k) (c.crmCount 1 k)) (min (c.crmCount 2 k) (c.crmCount 3 k))

/-- The sketch weight W. -/
def Ctl.sketchW (c : Ctl) : Nat := (c.rd Reg.CRM_SKETCH_W_LO).toNat + 2 ^ 32 * (c.rd Reg.CRM_SKETCH_W_HI).toNat

/-- The state with sketch weight `w`. -/
def Ctl.setSketchW (c : Ctl) (w : Nat) : Ctl :=
  (c.wr Reg.CRM_SKETCH_W_LO (BitVec.ofNat 32 w)).wr Reg.CRM_SKETCH_W_HI (BitVec.ofNat 32 (w / 2 ^ 32))

/-- One update of a key: conservative, saturating at 65,535 (R178). -/
def Ctl.sketchUpdate (c : Ctl) (k : Nat) : Ctl :=
  let m := c.crmEst k
  let raise (t : Tab Nat) (j : Nat) : Tab Nat :=
    Tab.put t (c.crmCell j k) (min 65535 (max (c.crmCount j k) (m + 1)))
  ({ c with crm := { c.crm with sketch := [0, 1, 2, 3].foldl raise c.crm.sketch } }).setSketchW (c.sketchW + 1)

/-- Effective mode of a namespace (R184). -/
def Ctl.crmMode (c : Ctl) (ns : Nat) : Nat :=
  if c.flag (F.CRM_NS_CFG_hint_ok ns) && c.flag (F.CRM_NS_CFG_host_set ns) then c.get (F.CRM_NS_CFG_host_mode ns)
  else c.get (F.CRM_NS_CFG_mgmt_mode ns)

/-- Whether the directory works: enabled, and its region initialised (R193; notes/assumptions/11.md). -/
def Ctl.crmOn (c : Ctl) : Bool := c.flag F.CRM_CFG_en && !c.flag F.CRM_STAT_init

/-- VERDICT of a grain: true admits (R181). -/
def Ctl.crmVerdict (c : Ctl) (ns gi : Nat) : Bool × Ctl :=
  let c1 := c.sketchUpdate (crmKey ns gi)
  let mode := c.crmMode ns
  let thr := if mode = 1 then 1 else c.get F.CRM_CFG_admit_thr
  (c.flag F.CRM_CFG_en && mode != 2 && decide (thr ≤ c1.crmEst (crmKey ns gi)), c1)

/-! ### Lookup at intake (R169 to R171) -/

/-- First grain of a record's range. -/
def Ctl.recFirst (c : Ctl) (r : LookupRec) : Nat := r.slba / grainBlocks (c.nsGrain r.nsid)

/-- Grains that a record's range touches. -/
def Ctl.recGrains (c : Ctl) (r : LookupRec) : Nat :=
  (r.slba + r.nlb) / grainBlocks (c.nsGrain r.nsid) + 1 - c.recFirst r

/-- Whether a record's range covers grain `gi` whole. -/
def Ctl.recCovers (c : Ctl) (r : LookupRec) (gi : Nat) : Bool :=
  let g := grainBlocks (c.nsGrain r.nsid)
  decide (r.slba ≤ gi * g) && decide (gi * g + g ≤ r.slba + r.nlb + 1)

/-- The lookup record of a tag. -/
def Ctl.rec? (c : Ctl) (tag : Nat) : Option LookupRec := Tab.at? c.crm.recs tag

/-- The state with a tag's lookup record. -/
def Ctl.setRec (c : Ctl) (tag : Nat) (r : LookupRec) : Ctl := { c with crm := { c.crm with recs := Tab.put c.crm.recs tag r } }

/-- The current VALID entries of `n` grains from `gi`, if each grain has one. -/
def Ctl.hitEntries (c : Ctl) (ns gi : Nat) : Nat → Option (List (Nat × CrmEntry))
  | 0 => some []
  | n + 1 =>
    match c.crmFind ns gi with
    | none => none
    | some k =>
      match Tab.at? c.crm.entries k with
      | none => none
      | some e =>
        if e.valid && e.nsEpoch == c.nsEpoch ns then (Ctl.hitEntries c ns (gi + 1) n).map ((k, e) :: ·) else none

/-- What an intake lookup gives: the pointers of a hit, or a miss, narrow or wide. -/
inductive LookupRes where
  | hit (ptrs : List Word)
  | miss
  deriving DecidableEq, Repr

/-- The lookup of a read at intake, for its tag's record (R170). A refused reference serves it as a miss, and a full one as a miss that is
not admitted: its tickets are left stale. -/
def Ctl.crmLookup (c : Ctl) (tag : Nat) (ns slba nlb : Nat) (ten : Option Nat) : LookupRes × Ctl :=
  let r0 : LookupRec := ⟨ns, slba, nlb, [], none⟩
  let n := c.recGrains r0
  let gi := c.recFirst r0
  if 4 < n then (.miss, (c.setRec tag r0).crmCnt 2 1)
  else
    let tick := (List.range n).map (fun i => c.bktEpoch (c.crmBucket (crmKey ns (gi + i))))
    let missed (c : Ctl) : Ctl := ((c.setRec tag { r0 with tickets := tick }).crmCnt 1 1).tev .crm 1 0 ten none 1
    match (if c.crmOn then c.hitEntries ns gi n else none) with
    | none => (.miss, missed c)
    | some es =>
      match es.find? (fun p => (c.bufCheck p.2.ptr (.ref 1) crmReq false).isSome) with
      | some p => (.miss, missed (c.bufDo p.2.ptr (.ref 1) crmReq false).2)
      | none =>
      if es.any (fun p => decide (65535 ≤ (c.bufAt (ptrAddr p.2.ptr)).refs)) then
        (.miss, (((c.setRec tag r0).crmCnt 1 1).tev .crm 1 0 ten none 1).crmCnt 9 1)
      else
        let c1 := es.foldl (fun c p => ((c.bufDo p.2.ptr (.ref 1) crmReq false).2.setEntry p.1 { p.2 with ref := true }).sketchUpdate
          (crmKey ns p.2.gi)) (c.setRec tag { r0 with tickets := tick })
        (.hit (es.map (fun p => p.2.ptr)), ((c1.crmCnt 0 1).tev .crm 0 0 ten none 1))

/-! ### Room and eviction (R182, R183) -/

/-- A clock hand's scan over entry numbers: the entries whose ref bits it clears, the victim, and how many it scanned. A pool's hand clears
the ref bits of every VALID entry it passes, and takes a victim of its pool (R182). -/
def crmScan (c : Ctl) (pool : Option Nat) : List Nat → List Nat × Option Nat × Nat
  | [] => ([], none, 0)
  | k :: ks =>
    match Tab.at? c.crm.entries k with
    | some e =>
      if e.valid && !e.ref && (match pool with | some p => e.grain + 1 == p | none => true) then ([], some k, 1)
      else match crmScan c pool ks with | (cl, v, n) => (if e.valid && e.ref then k :: cl else cl, v, n + 1)
    | none => match crmScan c pool ks with | (cl, v, n) => (cl, v, n + 1)

/-- Ref bits of the named entries cleared. -/
def Ctl.clearRefs (c : Ctl) (ks : List Nat) : Ctl :=
  { c with crm := { c.crm with entries := c.crm.entries.map (fun p => if ks.contains p.1 then (p.1, { p.2 with ref := false }) else p) } }

/-- Entries of a bucket from its hand on. -/
def Ctl.bktOrder (c : Ctl) (b : Nat) : List Nat :=
  let h := Tab.getD c.crm.bktHand b 0
  (List.range 8).map (fun i => 8 * b + (h + i) % 8)

/-- Up to 64 entries in index order from a pool's hand on, wrapping (R182). -/
def Ctl.poolOrder (c : Ctl) (p : Nat) : List Nat :=
  let h := Tab.getD c.crm.poolHand p 0
  (List.range 64).map (fun i => (h + i) % 1048576)

/-- An eviction: the entry is freed and counted. -/
def Ctl.evict (c : Ctl) (k : Nat) : Ctl :=
  match Tab.at? c.crm.entries k with
  | some e => ((c.entryFree k e).crmCnt 5 1).tev .crm 3 0 none none 1
  | none => c

/-- Room for a grain of pool `p` in bucket `b`: the victims to evict, and the state after the hands' scans; none when there is no
room (R182; notes/assumptions/12.md). -/
def Ctl.makeRoom (c : Ctl) (b p : Nat) : Option (List Nat) × Ctl :=
  let full := (bktWays b).all (fun k => Tab.has c.crm.entries k)
  let over_ := decide (c.get (F.CRM_LIMIT_limit p) ≤ c.get (F.CRM_USE_use p))
  let s := if full then crmScan c none (c.bktOrder b) else ([], none, 0)
  let c1 := if full then
      { c.clearRefs s.1 with crm := { (c.clearRefs s.1).crm with
          bktHand := Tab.put c.crm.bktHand b ((Tab.getD c.crm.bktHand b 0 + s.2.2) % 8) } } else c
  let frees := match s.2.1 with
    | some k => (match Tab.at? c.crm.entries k with | some e => e.grain + 1 == p | none => false)
    | none => false
  if full && s.2.1.isNone then (none, c1)
  else if c.crm.capped.contains p then (none, c1)
  else if over_ && !frees then
    let t := crmScan c1 (some p) (c1.poolOrder p)
    let c2 := { c1.clearRefs t.1 with crm := { (c1.clearRefs t.1).crm with
        poolHand := Tab.put c1.crm.poolHand p ((Tab.getD c1.crm.poolHand p 0 + t.2.2) % 1048576) } }
    match t.2.1 with
    | none => (none, c2)
    | some v => (some (s.2.1.toList ++ [v]), c2)
  else (some s.2.1.toList, c1)

/-- A FREE way of a bucket. -/
def Ctl.freeWay (c : Ctl) (b : Nat) : Option Nat := (bktWays b).find? (fun k => !Tab.has c.crm.entries k)

/-- An entry for a grain, with its pool's use raised. -/
def Ctl.entryAdd (c : Ctl) (k : Nat) (e : CrmEntry) : Ctl :=
  (c.setEntry k e).set (F.CRM_USE_use (e.grain + 1)) (c.get (F.CRM_USE_use (e.grain + 1)) + 1)

/-- Room made and its victims evicted: the FREE way for the grain, if any (R182). -/
def Ctl.roomFor (c : Ctl) (b p : Nat) : Option Nat × Ctl :=
  match c.makeRoom b p with
  | (none, c1) => (none, c1.crmCnt 11 1)
  | (some vs, c1) => let c2 := vs.foldl Ctl.evict c1; (c2.freeWay b, c2)

/-! ### Steps of class CRM (R192, Table 8.6) -/

/-- The grain a step names, from the tag's lookup record: namespace, grain index, ticket. -/
def Ctl.stepGrain (c : Ctl) (tag : Nat) (i : Issued) : Option (LookupRec × Nat × Option Nat) :=
  match c.rec? tag with
  | none => none
  | some r => some (r, c.recFirst r + i.step.arg0 % 4, r.tickets[i.step.arg0 % 4]?)

/-- CRM_VERDICT (R181): OK admits, else PASS 0x40. -/
def execCrmVerdict (tag : Nat) (s : State) : Host.Outcome State Fault Refusal :=
  onAll (fun m c => issue m c tag Cls.crm 0x01 false (fun i m c =>
    match c.stepGrain tag i with
    | none => .refuse m c 0x40
    | some (r, gi, _) =>
      if c.recGrains r ≤ 4 then
        match c.crmVerdict r.nsid gi with
        | (true, c1) => .ok m c1
        | (false, c1) => .refuse m (c1.crmCnt 4 1) 0x40
      else .refuse m (c.crmCnt 4 1) 0x40)) s

/-- Whether an admission of a grain is refused before room is looked for: stale ticket or key present (R190). -/
def Ctl.crmStale (c : Ctl) (ns gi : Nat) (ticket : Option Nat) : Bool :=
  ticket != some (c.bktEpoch (c.crmBucket (crmKey ns gi))) || (c.crmFind ns gi).isSome

/-- FILL (R174): a FILLING entry and a fill brew, or nothing; OK in every case, BAD_STEP when the fill recipe is not installed
(R122). -/
def crmFillAct (tag : Nat) (i : Issued) (m : Mem) (c : Ctl) : Act :=
  match c.stepGrain tag i with
  | none => .ok m c
  | some (r, gi, ticket) =>
    let g := c.nsGrain r.nsid
    if !c.crmOn then .ok m c
    else if c.get F.CRM_STAT_fills = c.get F.CRM_CFG_fill_max then .ok m (c.crmCnt 10 1)
    else if c.crmStale r.nsid gi ticket then .ok m (c.crmCnt 7 1)
    else
      let b := c.crmBucket (crmKey r.nsid gi)
      match c.roomFor b (g + 1) with
      | (none, c1) => .ok m c1
      | (some k, c1) =>
        match c1.bgStart .fill (c1.get F.CRM_FILL_RCP_rcp) (devId r.nsid) with
        | .noContext => .ok m c
        | .noRecipe => .refuse m c 0x0B
        | .started t c2 =>
          let e : CrmEntry := ⟨false, r.nsid, gi, 0, g, true, t, c2.nsEpoch r.nsid, c2.dntNs / 1000000000 % 2 ^ 32⟩
          let c3 := (c2.entryAdd k e).setRec t ⟨r.nsid, gi * grainBlocks g, grainBlocks g - 1, [c2.bktEpoch b], none⟩
          .ok m (((c3.set F.CRM_STAT_fills (c3.get F.CRM_STAT_fills + 1)).crmCnt 8 1).onBrew t (fun x => { x with prio := 2 }) |>.laneTail t 2)

/-- INSERT (R173, R190): the read's whole-grain buffer becomes an entry; a partly read grain is filled instead. -/
def crmInsertAct (tag : Nat) (i : Issued) (m : Mem) (c : Ctl) : Act :=
  match c.stepGrain tag i, i.brew.slot? i.step.src with
  | some (r, gi, ticket), some src =>
    let g := c.nsGrain r.nsid
    if !c.recCovers r gi then crmFillAct tag i m c
    else if ptrPool src.ptr ≠ g + 1 then .refuse m c 0x0B
    else if !c.crmOn then .ok m c
    else if c.crmStale r.nsid gi ticket then .ok m (c.crmCnt 7 1)
    else match c.roomFor (c.crmBucket (crmKey r.nsid gi)) (g + 1) with
      | (none, c1) => .refuse m c1 0x41
      | (some k, c1) =>
        match c1.bufDo src.ptr (.ref 1) crmReq false with
        | (.done, c2) =>
          let e : CrmEntry := ⟨true, r.nsid, gi, src.ptr, g, true, tag, c2.nsEpoch r.nsid, c2.dntNs / 1000000000 % 2 ^ 32⟩
          .ok m (((c2.entryAdd k e).crmCnt 3 1).tev .crm 2 0 none none 1)
        | (_, c2) => .refuse m c2 0x02
  | some (r, gi, _), none => if c.recCovers r gi then .refuse m c 0x0B else crmFillAct tag i m c
  | none, _ => .refuse m c 0x0B

/-- CRM_INSERT (R173). -/
def execCrmInsert (tag : Nat) (s : State) : Host.Outcome State Fault Refusal :=
  onAll (fun m c => issue m c tag Cls.crm 0x02 false (crmInsertAct tag)) s

/-- CRM_FILL (R174). -/
def execCrmFill (tag : Nat) (s : State) : Host.Outcome State Fault Refusal :=
  onAll (fun m c => issue m c tag Cls.crm 0x03 false (crmFillAct tag)) s

/-- Entry number FILLING under a tag. -/
def Ctl.fillOf (c : Ctl) (tag : Nat) : Option (Nat × CrmEntry) :=
  c.crm.entries.find? (fun p => !p.2.valid && p.2.fillTag == tag)

/-- CRM_COMMIT (R174, R190): the directory takes its reference and the FILLING entry becomes VALID; a freed entry commits
nothing. -/
def execCrmCommit (tag : Nat) (s : State) : Host.Outcome State Fault Refusal :=
  onAll (fun m c => issue m c tag Cls.crm 0x04 false (fun i m c =>
    match c.fillOf tag, i.brew.slot? i.step.src with
    | none, _ => .ok m c
    | some _, none => .refuse m c 0x0B
    | some (k, e), some src =>
      match c.bufDo src.ptr (.ref 1) crmReq false with
      | (.done, c1) => .ok m (((c1.setEntry k { e with valid := true, ptr := src.ptr, ref := true }).crmCnt 3 1).tev .crm 2 0 none none 1)
      | (_, c1) => .refuse m c1 0x02)) s

/-! ### Invalidation (R187, R188, R191) -/

/-- Entries that satisfy `p` become FREE; each is counted as invalidated. -/
def Ctl.entriesDrop (c : Ctl) (p : Nat → CrmEntry → Bool) : Ctl :=
  (c.crm.entries.filter (fun x => p x.1 x.2)).foldl (fun c x => ((c.entryFree x.1 x.2).crmCnt 6 1).tev .crm 4 0 none none 1) c

/-- The epoch of a bucket counts one invalidation. -/
def Ctl.bktBump (c : Ctl) (b : Nat) : Ctl :=
  { c with crm := { c.crm with bktEp := Tab.put c.crm.bktEp b ((c.bktEpoch b + 1) % 65536) } }

/-- One grain is invalidated: its bucket's epoch moves on and its entry is freed (R188). -/
def Ctl.invalGrain (c : Ctl) (ns gi : Nat) : Ctl :=
  (c.bktBump (c.crmBucket (crmKey ns gi))).entriesDrop (fun _ e => e.nsid == ns && e.gi == gi)

/-- A namespace-wide invalidation: its epoch moves on and a sweep starts (R188). -/
def Ctl.invalNs (c : Ctl) (ns : Nat) : Ctl :=
  ({ c with crm := { c.crm with nsEp := Tab.put c.crm.nsEp ns ((c.nsEpoch ns + 1) % 2 ^ 32),
                                sweeps := c.crm.sweeps ++ [some ns] } }).setFlag F.CRM_STAT_sweep true

/-- A full invalidation: the epoch of every namespace that has an entry moves on and a sweep starts (R191). -/
def Ctl.invalAll (c : Ctl) : Ctl :=
  let c1 := (c.crm.entries.map (fun p => p.2.nsid)).eraseDups.foldl Ctl.invalNs c
  ({ c1 with crm := { c1.crm with sweeps := c1.crm.sweeps ++ [none] } }).setFlag F.CRM_STAT_sweep true

/-- INVAL of `n + 1` blocks from `slba` (R188): up to 512 grains one by one, else the whole namespace. -/
def Ctl.invalRange (c : Ctl) (ns slba n : Nat) : Ctl :=
  let r : LookupRec := ⟨ns, slba, n, [], none⟩
  if 512 < c.recGrains r then c.invalNs ns
  else (List.range (c.recGrains r)).foldl (fun c' i => c'.invalGrain ns (c.recFirst r + i)) c

/-- CRM_INVAL (R188): the command's range, or the DSM range entry arg0 in slot src: 4 bytes of context attributes, 4 of length
in blocks, 8 of starting LBA. -/
def execCrmInval (tag : Nat) (s : State) : Host.Outcome State Fault Refusal :=
  onAll (fun m c => issue m c tag Cls.crm 0x05 false (fun i m c =>
    match c.rec? tag with
    | none => .ok m c
    | some r =>
      if i.step.arg1 / 2 ^ 31 % 2 = 0 then .ok m (c.invalRange r.nsid r.slba r.nlb)
      else match i.brew.slot? i.step.src with
        | none => .refuse m c 0x0B
        | some src =>
          let a := ptrByte src.ptr + 16 * (i.step.arg0 % 256)
          let n := leNat (m.bytes .hbm (a + 4) 4)
          .ok m (if n = 0 then c else c.invalRange r.nsid (leNat (m.bytes .hbm (a + 8) 8)) (n - 1)))) s

/-- CRM_CMD.op carried out: 1 the namespace, 2 everything (R191). -/
def Ctl.crmCmd (c : Ctl) (op ns : Nat) : Ctl :=
  if op ≠ 1 ∧ op ≠ 2 then c
  else if c.flag F.CRM_STAT_sweep then
    { c with crm := { c.crm with held := some (setBits (setBits 0 31 30 op) 13 0 ns) } }
  else if op = 1 then c.invalNs ns else c.invalAll

/-- CRM_INVALIDATE_NS (R191): CRM_CMD.op 1. -/
def execCrmInvalidateNs (nsid : Fin 16384) (s : State) : Host.Outcome State Fault Refusal :=
  onCtl (fun _ c => if c.bar0Open then c.crmCmd 1 nsid.val else c) s

/-- CRM_INVALIDATE_ALL (R191): CRM_CMD.op 2. -/
def execCrmInvalidateAll (s : State) : Host.Outcome State Fault Refusal := onCtl (fun _ c => if c.bar0Open then c.crmCmd 2 0 else c) s

/-- CRM_SWEEP_DONE (R188): every entry of an old namespace epoch is freed, the sweep ends, and a held command runs. -/
def execCrmSweepDone (s : State) : Host.Outcome State Fault Refusal :=
  onCtl (fun _ c =>
    if c.flag F.CRM_STAT_sweep then
      let c1 := ({ c with crm := { c.crm with sweeps := [], held := none } }).entriesDrop (fun _ e => e.nsEpoch != c.nsEpoch e.nsid)
      let c2 := c1.setFlag F.CRM_STAT_sweep false
      match c.crm.held with
      | some w => c2.crmCmd (getBits w 31 30) (getBits w 13 0)
      | none => c2
    else c) s

/-- CRM_INIT_DONE (R193): the directory region is initialised; entries that a sweep had still to free are freed now, each reference once
(R22). -/
def execCrmInitDone (s : State) : Host.Outcome State Fault Refusal :=
  onCtl (fun _ c =>
    if c.flag F.CRM_STAT_init then
      let c1 := c.crm.entries.foldl (fun c p => c.entryFree p.1 p.2) c
      ({ c1 with crm := { c1.crm with entries := [], bktEp := [], recs := [] } }).setFlag F.CRM_STAT_init false
    else c) s

/-- CRM_LIMIT_EVICT (R183): where use is at or above the limit after a commit lowered it, the pool hand evicts what it finds among
64 entries. -/
def execCrmLimitEvict (pool : Fin 3) (s : State) : Host.Outcome State Fault Refusal :=
  onCtl (fun _ c =>
    let p := pool.val + 1
    if c.get (F.CRM_LIMIT_limit p) < c.get (F.CRM_USE_use p) then
      let t := crmScan c (some p) (c.poolOrder p)
      let c1 := { c.clearRefs t.1 with crm := { (c.clearRefs t.1).crm with
          poolHand := Tab.put c.crm.poolHand p ((Tab.getD c.crm.poolHand p 0 + t.2.2) % 1048576) } }
      match t.2.1 with
      | some v => c1.evict v
      | none => c1
    else c) s

/-- A decay at instant `t` (R179): every counter is halved by floor, W halves, and the sketch epoch flips. -/
def Ctl.decayFire (c1 : Ctl) (t : Nat) : Ctl :=
  ({ c1 with crm := { c1.crm with sketch := c1.crm.sketch.map (fun (p : Nat × Nat) => (p.1, p.2 / 2)), sketchEp := !c1.crm.sketchEp,
                                  lastDecay := some t } }).setSketchW (c1.sketchW / 2)

/-- When a brew ends, an entry still FILLING under its tag becomes FREE, and a fill brew leaves the count (R174). -/
def Ctl.crmBrewEnd (c : Ctl) (tag : Nat) (fill : Bool) : Ctl :=
  let c1 := match c.fillOf tag with
    | some (k, e) => c.entryFree k e
    | none => c
  let c2 := { c1 with crm := { c1.crm with recs := Tab.del c1.crm.recs tag } }
  if fill then c2.set F.CRM_STAT_fills (c2.get F.CRM_STAT_fills - 1) else c2

/-- An uncorrectable error in a Crema buffer: its entry is invalidated with no epoch change (R187). -/
def Ctl.crmBufferBad (c : Ctl) (a : Nat) : Ctl := c.entriesDrop (fun _ e => e.valid && ptrAddr e.ptr == a)

/-- D07 drains: every entry in stack B is freed, epochs unchanged (R193). -/
def Ctl.crmDropStackB (c : Ctl) : Ctl := c.entriesDrop (fun _ e => e.valid && decide (stackBAddr ≤ ptrAddr e.ptr))

/-- CRM_CFG.en committed to 1 starts the region's initialisation; to 0 invalidates everything (R191, R193). -/
def Ctl.crmEnable (c : Ctl) (on : Bool) : Ctl := if on then c.setFlag F.CRM_STAT_init true else c.invalAll

/-- A write of CRM_PROBE_GI_HI latches CRM_PROBE_RES. -/
def Ctl.crmProbe (c : Ctl) : Ctl :=
  let ns := getBits (c.rd Reg.CRM_PROBE_NS) 13 0
  let gi := (c.rd Reg.CRM_PROBE_GI_LO).toNat + 2 ^ 32 * getBits (c.rd Reg.CRM_PROBE_GI_HI) 15 0
  let c1 := c.set F.CRM_PROBE_RES_est (c.crmEst (crmKey ns gi))
  match (c.crmFind ns gi).bind (fun k => Tab.at? c.crm.entries k) with
  | some e => (c1.set F.CRM_PROBE_RES_state (if e.valid then 2 else 1)).setFlag F.CRM_PROBE_RES_ref e.ref
  | none => (c1.set F.CRM_PROBE_RES_state 0).setFlag F.CRM_PROBE_RES_ref false

end Sys2Proof.Machine
end

