-- ==== Sys2Proof/Machine/Events.lean ====
section
/-! DEFINITION. Completions and asynchronous events to hosts (05_host_command_path.md, R96, R97, R110). -/

namespace Sys2Proof.Machine

/-- The association of an index. -/
def Ctl.assoc? (c : Ctl) (k : Nat) : Option Assoc := Tab.at? c.host.assocs k

/-- The state with an association. -/
def Ctl.setAssoc (c : Ctl) (k : Nat) (a : Assoc) : Ctl := { c with host := { c.host with assocs := Tab.put c.host.assocs k a } }

/-- An association changed by `f`. -/
def Ctl.onAssoc (c : Ctl) (k : Nat) (f : Assoc → Assoc) : Ctl := { c with host := { c.host with assocs := Tab.upd c.host.assocs k f } }

/-- The allowed-host entry of an association's host. -/
def Ctl.hostOf (c : Ctl) (nqn : Nqn) : Option HostEntry := c.mgt.hosts.find? (fun h => h.nqn == nqn)

/-- Whether the host of an association is in the in-band permitted list (R95). -/
def Ctl.inband (c : Ctl) (a : Assoc) : Bool := match c.hostOf a.hostNqn with | some h => h.inband | none => false

/-! ### Asynchronous events (R96, Table 5.7) -/

/-- The events of Table 5.7. -/
inductive Aen where
  | temperature | nsAttr | fwStart | ana | discovery | overQuota | lostStripe
  deriving DecidableEq, Repr

/-- Bit of Asynchronous Event Configuration that enables an event: the vendor bits of R96, and the NVMe bits (PRESUMED,
notes/assumptions/14.md). -/
def Aen.bit : Aen → Nat
  | .temperature => 1 | .nsAttr => 8 | .fwStart => 9 | .ana => 11 | .discovery => 31 | .overQuota => 16 | .lostStripe => 17

/-- The type, information and log page of an event; the lost-stripe page is named only to a permitted host (R96). -/
def Aen.event (permitted : Bool) : Aen → AsyncEvent
  | .temperature => ⟨1, 0x01, 0x02⟩ | .nsAttr => ⟨2, 0x00, 0x04⟩ | .fwStart => ⟨2, 0x01, 0x03⟩ | .ana => ⟨2, 0x03, 0x0C⟩
  | .discovery => ⟨2, 0xF0, 0x70⟩ | .overQuota => ⟨7, 0x00, 0x00⟩ | .lostStripe => ⟨7, 0x01, if permitted then 0xC9 else 0x00⟩

/-- An event with no log page is never masked (R96). -/
def AsyncEvent.maskable (e : AsyncEvent) : Bool := e.lid != 0

/-- DW0 of the completion that reports an event. -/
def AsyncEvent.dw0 (e : AsyncEvent) : Nat := e.typ + 256 * e.info + 65536 * e.lid

/-- An enabled event of one controller: it completes the oldest outstanding request, or is held until one comes (R96). -/
def Ctl.reportTo (c : Ctl) (k : Nat) (a : Assoc) (v : Aen) : Ctl :=
  let e := v.event (c.inband a)
  if !a.aecfg.getLsbD v.bit || (e.maskable && (a.masked.contains e || a.events.contains e)) then c
  else match a.aers with
    | [] => c.setAssoc k { a with events := a.events ++ [e] }
    | cid :: rest =>
      if c.halted then c.setAssoc k { a with events := a.events ++ [e] }
      else (c.setAssoc k { a with aers := rest, masked := if e.maskable then a.masked ++ [e] else a.masked }).complete
        a.adminConn cid (some a.tenant) St.ok e.dw0 0

/-- An event reported to every controller that satisfies `p`. -/
def Ctl.report (c : Ctl) (v : Aen) (p : Assoc → Bool) : Ctl :=
  c.host.assocs.foldl (fun c x => if p x.2 then c.reportTo x.1 x.2 v else c) c

/-- What the Discovery page shows has changed: discovery controllers say so (R82). -/
def Ctl.discoveryChanged (c : Ctl) : Ctl := c.report .discovery (fun a => a.discovery)

/-- Tenants that hold a namespace of a group. -/
def Ctl.grpTenants (c : Ctl) (g : Nat) : List Nat :=
  (c.car.ns.filter (fun p => c.get (F.GAL_NS_MAP2_group p.1) == g)).map (fun p => p.2.tenant)

/-- Tenant of a namespace (R206). -/
def Ctl.nsTenant (c : Ctl) (ns : Nat) : Nat := match Tab.at? c.car.ns ns with | some i => i.tenant | none => 0

/-- Namespace Attribute Changed for a namespace: noted in each controller's Changed Namespace List, and reported (R96). -/
def Ctl.nsChanged (c : Ctl) (ns : Nat) : Ctl :=
  let t := c.nsTenant ns
  let c1 := { c with host := { c.host with assocs := Tab.mapV c.host.assocs (fun _ a =>
    if a.tenant = t ∧ !a.discovery ∧ !a.changedNs.contains ns then { a with changedNs := a.changedNs ++ [ns] } else a) } }
  c1.report .nsAttr (fun a => a.tenant == t && !a.discovery)

/-- Namespace Attribute Changed for every namespace. -/
def Ctl.allNsChanged (c : Ctl) : Ctl := (c.car.ns.map (·.1)).foldl Ctl.nsChanged c

/-! ### ANA (R110) -/

/-- Whether a mode serves I/O for R110: ACTIVATING keeps what it reported. -/
def anaMode (mode : Nat) : Option Bool :=
  match mode with | 5 => some true | 6 => some true | 10 => some true | 8 => none | _ => some false

/-- A group is Optimized (1) or Inaccessible (0) on this device now (R110); HCP_ANA_GRP bit g reads 1 when Inaccessible. -/
def Ctl.anaInaccessible (c : Ctl) (g : Nat) : Bool :=
  match anaMode (c.get F.GLB_MODE_STAT_mode) with
  | none => c.bitOf F.HCP_ANA_GRP_inacc g
  | some ok => !ok || c.power.quiescing || c.pair.hand.any (fun h => h != .drain) || c.flag (F.RBD_GRP_STAT_beyond g)

/-- ANA_CHANGE (R110): the reported states follow; a change counts once and is announced. -/
def Ctl.anaUpdate (c : Ctl) : Ctl :=
  let w := (List.range 16).foldl (fun a g => if c.anaInaccessible g then a + 2 ^ g else a) 0
  if w = c.get F.HCP_ANA_GRP_inacc then c
  else
    let c1 := { c with host := { c.host with anaCnt := c.host.anaCnt + 1 } }
    ((c1.set F.HCP_ANA_GRP_inacc w).wr Reg.HCP_ANA_STAT (BitVec.ofNat 32 c1.host.anaCnt)).report .ana (fun a => !a.discovery)

end Sys2Proof.Machine
end

