-- ==== Sys2Proof/Machine/Layout.lean ====
section
/-! DEFINITION. Groups, layouts, the code and addressing (09_layouts_and_write_path.md, R194 to R204). -/

namespace Sys2Proof.Machine

/-! ### A group's parameters (R194, GAL_GRP_CFG) -/

/-- Data strips of a group: 1 in a mirror layout (Table 9.1). -/
def Ctl.grpD (c : Ctl) (g : Nat) : Nat := if c.get (F.GAL_GRP_CFG_layout g) < 2 then 1 else max 1 (c.get (F.GAL_GRP_CFG_d g))

/-- Redundant strips of a group (Table 9.1). -/
def Ctl.grpP (c : Ctl) (g : Nat) : Nat :=
  match c.get (F.GAL_GRP_CFG_layout g) with | 0 => 1 | 1 => 2 | _ => c.get (F.GAL_GRP_CFG_p g)

/-- Members of a group. -/
def Ctl.grpN (c : Ctl) (g : Nat) : Nat := c.grpD g + c.grpP g

/-- Blocks in a strip of code `k` (GAL_GRP_CFG_n.strip). -/
def stripBlocks (k : Nat) : Nat := 2 ^ (k + 2)

/-- Blocks in a strip of a group. -/
def Ctl.grpS (c : Ctl) (g : Nat) : Nat := stripBlocks (c.get (F.GAL_GRP_CFG_strip g))

/-- Data blocks in a stripe of a group. -/
def Ctl.grpDS (c : Ctl) (g : Nat) : Nat := c.grpD g * c.grpS g

/-- Bay of a position: 0x1F for none (GAL_GRP_MEM_n_w). -/
def Ctl.bayAt (c : Ctl) (g pos : Nat) : Nat := getBits (c.rd (Reg.GAL_GRP_MEM g (pos / 6))) (5 * (pos % 6) + 4) (5 * (pos % 6))

/-- The state with a position's bay. -/
def Ctl.setBayAt (c : Ctl) (g pos bay : Nat) : Ctl :=
  c.wr (Reg.GAL_GRP_MEM g (pos / 6)) (setBits (c.rd (Reg.GAL_GRP_MEM g (pos / 6))) (5 * (pos % 6) + 4) (5 * (pos % 6)) bay)

/-- The positions of a group. -/
def Ctl.positions (c : Ctl) (g : Nat) : List Nat := List.range (c.grpN g)

/-- Bays of a group's members. -/
def Ctl.grpBays (c : Ctl) (g : Nat) : List Nat := (c.positions g).map (c.bayAt g)

/-- Whether a group is enabled. -/
def Ctl.grpEn (c : Ctl) (g : Nat) : Bool := c.flag (F.GAL_GRP_CFG_en g)

/-- Whether a group is READY. -/
def Ctl.grpReady (c : Ctl) (g : Nat) : Bool := c.grpEn g && c.get (F.GAL_GRP_CFG_state g) == 2

/-- The enabled groups. -/
def Ctl.groups (c : Ctl) : List Nat := (List.range 16).filter c.grpEn

/-- Stripes of the journal area of a group (GAL_GRP_JRN). -/
def Ctl.grpJ (c : Ctl) (g : Nat) : Nat := c.get (F.GAL_GRP_JRN_value g)

/-- Stripes of a group (GAL_GRP_STRIPES). -/
def Ctl.grpStot (c : Ctl) (g : Nat) : Nat := c.get (F.GAL_GRP_STRIPES_value g)

/-! ### Capacity (R201, R202) -/

/-- Usable member blocks of a smallest member of `cmin` blocks. -/
def usable (tagblk : Bool) (cmin : Nat) : Nat := if tagblk then (cmin - 256) / 257 * 256 else cmin - 256

/-- Whether J stripes hold the journal area of a group of Stot stripes of `ds` data blocks (R202). -/
def journalFits (ds stot j : Nat) : Bool := decide (((stot - j) * ds + 127) / 128 + 67108864 ≤ j * ds * 4096)

/-- The least J at or above `j`, within `fuel` steps of search by halves below `2^fuel`. -/
def journalSearch (ds stot : Nat) : Nat → Nat → Nat
  | 0, lo => lo
  | fuel + 1, lo => if journalFits ds stot (lo + 2 ^ fuel - 1) then journalSearch ds stot fuel lo else journalSearch ds stot fuel (lo + 2 ^ fuel)

/-- J of R202: the least stripe count that holds checkpoint slots and unit map. -/
def journalStripes (ds stot : Nat) : Nat := journalSearch ds stot 32 0

/-- Units of 4 MiB that a group's unit map takes (R205). -/
def umapUnits (ds stot j : Nat) : Nat := (((stot - j) * ds + 127) / 128 + 4194303) / 4194304

/-! ### The code (R197, R198) -/

/-- One doubling in GF(2^8) with polynomial 0x11D. -/
def gfDouble (a : Nat) : Nat := if a < 128 then 2 * a else (2 * a) ^^^ 0x11D

/-- Product in GF(2^8), over `k` bits of the second factor. -/
def gfMulBits : Nat → Nat → Nat → Nat
  | 0, _, _ => 0
  | k + 1, a, b => (if b % 2 = 1 then a else 0) ^^^ gfMulBits k (gfDouble a) (b / 2)

/-- Product in GF(2^8) (R197). -/
def gfMul (a b : Nat) : Nat := gfMulBits 8 a b

/-- The power `a^(2^(k+1) − 2)` of squares, which for k = 7 is the inverse. -/
def gfPow : Nat → Nat → Nat
  | 0, _ => 1
  | k + 1, a => gfMul (gfMul a a) (gfPow k (gfMul a a))

/-- Inverse in GF(2^8); 0 for 0. -/
def gfInv (a : Nat) : Nat := gfPow 7 a

/-- Coefficient c of parity row `j` and data column `i` (R198). -/
def gfCoef (j i : Nat) : Nat := gfMul (i + 4) (gfInv (j ^^^ (i + 4)))

/-- Sum of two byte runs. -/
def xorBytes (a b : List Byte) : List Byte := List.zipWith (fun x y => x ^^^ y) a b

/-- A byte run scaled by a field element. -/
def scaleBytes (k : Nat) (a : List Byte) : List Byte := a.map (fun x => BitVec.ofNat 8 (gfMul k x.toNat))

/-- Sum of scaled runs of length `n`. -/
def gfCombine (n : Nat) (rows : List (Nat × List Byte)) : List Byte :=
  rows.foldl (fun acc r => xorBytes acc (scaleBytes r.1 r.2)) (List.replicate n 0)

/-- Coefficient of parity row `j` and data column `i` in a group of a layout: a mirror's copies are equal to the data (R197, Table 9.1). -/
def layCoef (layout j i : Nat) : Nat := if layout < 2 then 1 else gfCoef j i

/-- Parity row `j` of the data runs (R197). -/
def gfParity (n j : Nat) (data : List (List Byte)) : List Byte :=
  gfCombine n ((List.range data.length).zip data |>.map (fun p => (gfCoef j p.1, p.2)))

/-- An equation of the erased columns: their coefficients and the right side. -/
abbrev GfEq := List Nat × List Byte

/-- One step of elimination on unknown `k`: a pivot taken from the equations left, and the unknown removed from all others. -/
def gfStep (acc : List GfEq × List GfEq) (k : Nat) : List GfEq × List GfEq :=
  match acc.2.find? (fun e => e.1.getD k 0 != 0) with
  | none => acc
  | some p =>
    let v := gfInv (p.1.getD k 0)
    let q : GfEq := (p.1.map (gfMul v), scaleBytes v p.2)
    let red (e : GfEq) : GfEq :=
      let f := e.1.getD k 0
      (List.zipWith (fun x y => x ^^^ gfMul f y) e.1 q.1, xorBytes e.2 (scaleBytes f q.2))
    (q :: acc.1.map red, (acc.2.erase p).map red)

/-- The erased data columns recovered from the known data columns and parity rows under coefficients `co`: none where there are too few
rows. -/
def gfSolve (co : Nat → Nat → Nat) (n : Nat) (lost : List Nat) (known : List (Nat × List Byte)) (par : List (Nat × List Byte)) :
    Option (List (Nat × List Byte)) :=
  let eqs : List GfEq := par.map (fun p =>
    (lost.map (co p.1), xorBytes p.2 (gfCombine n (known.map (fun d => (co p.1 d.1, d.2))))))
  let done := ((List.range lost.length).foldl gfStep ([], eqs)).1
  let unit (k : Nat) : List Nat := (List.range lost.length).map (fun i => if i = k then 1 else 0)
  if par.length < lost.length then none
  else (lost.zip (List.range lost.length)).mapM (fun p => (done.find? (fun e => e.1 == unit p.2)).map (fun e => (p.1, e.2)))

/-! ### Addressing (R200, R201) -/

/-- A key in the tables of a group: group and number below 2^40. -/
def grpKey (g n : Nat) : Nat := g * 2 ^ 40 + n

/-- Whether a namespace exists. -/
def Ctl.nsValid (c : Ctl) (ns : Nat) : Bool := decide (ns < 16384) && c.flag (F.GAL_NS_MAP2_valid ns)

/-- Group of a namespace. -/
def Ctl.nsGroup (c : Ctl) (ns : Nat) : Nat := c.get (F.GAL_NS_MAP2_group ns)

/-- Blocks of a namespace, NSZE. -/
def Ctl.nsze (c : Ctl) (ns : Nat) : Nat := c.get (F.GAL_NS_MAP1_c ns) * c.grpDS (c.nsGroup ns)

/-- Group block of a namespace LBA. -/
def Ctl.nsBlock (c : Ctl) (ns l : Nat) : Nat := l + c.get (F.GAL_NS_MAP0_e ns) * c.grpDS (c.nsGroup ns)

/-- Stripe of a group block. -/
def Ctl.stripeOf (c : Ctl) (g b : Nat) : Nat := c.grpJ g + b / c.grpDS g

/-- First block of a stripe at or above the journal area. -/
def Ctl.stripeBase (c : Ctl) (g s : Nat) : Nat := (s - c.grpJ g) * c.grpDS g

/-- Data strip of a group block. -/
def Ctl.stripOf (c : Ctl) (g b : Nat) : Nat := b % c.grpDS g / c.grpS g

/-- Strip offset (row) of a group block. -/
def Ctl.rowOf (c : Ctl) (g b : Nat) : Nat := b % c.grpS g

/-- Position of data strip `i` of stripe `s`. -/
def Ctl.dataPos (c : Ctl) (g s i : Nat) : Nat := (i + s % c.grpN g) % c.grpN g

/-- Position of parity strip `j` of stripe `s`. -/
def Ctl.parPos (c : Ctl) (g s j : Nat) : Nat := (c.grpD g + j + s % c.grpN g) % c.grpN g

/-- Member LBA of a member block (R201). -/
def Ctl.memberLba (c : Ctl) (g mb : Nat) : Nat :=
  if c.flag (F.GAL_GRP_CFG_tagblk g) then 256 + 257 * (mb / 256) + mb % 256 else 256 + mb

/-- The tag block of a member block in tag-block mode, as a member LBA, and the block's entry in it (R201). -/
def memberTag (mb : Nat) : Nat × Nat := (256 + 257 * (mb / 256) + 256, mb % 256)

/-- The tag block and the entry of the block at a member LBA. -/
def tagPlace (lba : Nat) : Nat × Nat := (256 + 257 * ((lba - 256) / 257) + 256, (lba - 256) % 257)

/-- Whether a group keeps its tags in tag blocks (R196). -/
def Ctl.tagblk (c : Ctl) (g : Nat) : Bool := c.flag (F.GAL_GRP_CFG_tagblk g)

/-- Bay and member LBA of a group block. -/
def Ctl.locate (c : Ctl) (g b : Nat) : Nat × Nat :=
  let s := c.stripeOf g b
  (c.bayAt g (c.dataPos g s (c.stripOf g b)), c.memberLba g (s * c.grpS g + c.rowOf g b))

/-- Group and position of a bay's member (RBD_MEM_STAT). -/
def Ctl.memState (c : Ctl) (bay : Nat) : Nat := c.get (F.RBD_MEM_STAT_state bay)

/-- Whether the member of a bay is used for reads and writes: not FAILED. -/
def Ctl.memUsable (c : Ctl) (bay : Nat) : Bool := decide (bay < 24) && c.memState bay != 2 && c.memState bay != 0

/-- Positions of a group that are FAILED. -/
def Ctl.failedPos (c : Ctl) (g : Nat) : List Nat := (c.positions g).filter (fun p => c.memState (c.bayAt g p) == 2)

/-- Whether a group is beyond its redundancy (R237). -/
def Ctl.beyond (c : Ctl) (g : Nat) : Bool := decide (c.grpP g < (c.failedPos g).length)

/-! ### Integrity tags (R203, R204) -/

/-- The 16-byte tag of a block: crc, lba_tag, gen (Table 9.2). -/
def tagOf (blk : List Byte) (b gen : Nat) : List Byte := leBytes 8 (crc64 blk) ++ leBytes 4 (b % 2 ^ 32) ++ leBytes 4 gen

/-- CRC CHK of a block against its tag (R204). -/
def chkTag (blk tag : List Byte) (b : Nat) : Bool :=
  leNat (tag.take 8) == crc64 blk && leNat ((tag.drop 8).take 4) == b % 2 ^ 32 && leNat ((tag.drop 12).take 4) != 0

/-- The generation written by an intent of sequence number `q` (R213). -/
def genOf (q : Nat) : Nat := (q - 1) % (2 ^ 32 - 1) + 1

/-- Whether a unit of a group is allocated (R205). -/
def Ctl.unitOn (c : Ctl) (g u : Nat) : Bool := Tab.has c.car.units (grpKey g u)

/-- Allocated units of a group. -/
def Ctl.grpUnits (c : Ctl) (g : Nat) : List Nat := (c.car.units.filter (fun p => p.1 / 2 ^ 40 == g)).map (fun p => p.1 % 2 ^ 40)

/-- The stored form of a unit. -/
def Ctl.unit? (c : Ctl) (g u : Nat) : Option UnitE := Tab.at? c.car.units (grpKey g u)

/-- Whether a member holds data of a block: its unit is allocated and its slot is used (R204, R271). -/
def Ctl.blockLive (c : Ctl) (g b : Nat) : Bool :=
  match c.unit? g (b / 16) with
  | none => false
  | some u => u.comp.isNone || decide (b % 16 < u.stored) || b % 16 == 15

/-- Usage of an allocated unit in bytes (R206). -/
def UnitE.bytes (u : UnitE) : Nat := match u.comp with | none => 65536 | some _ => 4096 * u.stored + 16

end Sys2Proof.Machine
end

