-- ==== Sys2Proof/Machine/Journal.lean ====
section
/-! DEFINITION. The Carafe ring and its records, allocation, settlement and retirement (09_layouts_and_write_path.md, R205 to
R230), and the lost-stripe table (R252 to R256). -/

namespace Sys2Proof.Machine

/-! ### The ring (R209 to R213) -/

/-- Lines of the ring, Table 9.3. -/
def ringLines : Nat := 67010560

/-- First byte of the ring in Carafe space. -/
def ringBase : Nat := 0x600000

/-- Record type codes, Table 9.5. -/
def Rt.data : Nat := 1
def Rt.zero : Nat := 2
def Rt.intent : Nat := 3
def Rt.done : Nat := 4
def Rt.void : Nat := 5
def Rt.recon : Nat := 6
def Rt.ckpt : Nat := 7
def Rt.pad : Nat := 8
def Rt.lost : Nat := 9
def Rt.reshape : Nat := 10

/-- A record of a type with every other field empty. -/
def JRec.blank (typ : Nat) : JRec :=
  { typ := typ, seq := 0, nsid := 0, group := 0, loc := 0, count := 0, udelta := 0, tenant := 0, dt := 0, mirrored := false,
    allocs := [], unit0 := 0, line := 0, lines := 0, data := [], entries := [], names := [], buf := 0, tagBuf := 0, owner := none,
    landed := false, durable := false, peer := false, settled := false, void := false, badAt := [], torn := false, left := [] }

/-- Lines a record takes: its header and its payload. -/
def JRec.size (r : JRec) : Nat := r.lines + 1

/-- The records the device knows: those of the ring, after the ZERO records that have left it and that a slot still lists. -/
def Ctl.known (c : Ctl) : List JRec := c.car.owed ++ c.car.recs

/-- The record of a sequence number. -/
def Ctl.recBy (c : Ctl) (seq : Nat) : Option JRec := c.known.find? (fun r => r.seq == seq)

/-- Every record changed by `f`. -/
def Ctl.mapRecs (c : Ctl) (f : JRec → JRec) : Ctl :=
  { c with car := { c.car with recs := c.car.recs.map f, owed := c.car.owed.map f } }

/-- Whether records are mirrored (R217, CAR_STAT.mirror). -/
def Ctl.mirroring (c : Ctl) : Bool := c.flag F.CAR_STAT_mirror

/-- Line of the oldest record held, or the head. -/
def Ctl.ringFirst (c : Ctl) : Nat := match c.car.recs with | [] => c.car.line | r :: _ => r.line

/-- Lines of the ring in use. -/
def Ctl.ringUsed (c : Ctl) : Nat := c.car.line - c.ringFirst

/-- Oldest unretired sequence number (CAR_TAIL). -/
def Ctl.ringTail (c : Ctl) : Nat := match c.car.recs with | [] => c.car.head | r :: _ => r.seq

/-- Pressure flushing starts at hi_pct and ends below lo_pct (R222). -/
def Ctl.pressNote (c : Ctl) : Ctl :=
  let f := c.get F.CAR_STAT_fill_pct
  let on := decide (c.get F.CAR_PRESS_hi_pct ≤ f) || (c.car.press && decide (c.get F.CAR_PRESS_lo_pct ≤ f))
  { c with car := { c.car with press := on } }

/-- The registers that show ring, slots, index and ranges follow. -/
def Ctl.noteRing (c : Ctl) : Ctl :=
  let w (c : Ctl) (lo hi v : Nat) : Ctl := (c.wr lo (BitVec.ofNat 32 v)).wr hi (BitVec.ofNat 32 (v / 2 ^ 32))
  let c1 := (c.set F.CAR_STAT_fill_pct (min 100 (c.ringUsed * 100 / ringLines))).set F.CAR_STAT_slots c.car.slots.length
  let c2 := (c1.set F.CAR_IDX_STAT_entries c.car.idx.length).set F.CAR_RANGE_STAT_ranges c.car.ranges.length
  (w (w c2 Reg.CAR_HEAD_LO Reg.CAR_HEAD_HI c.car.head) Reg.CAR_TAIL_LO Reg.CAR_TAIL_HI c.ringTail).pressNote

/-- A record takes the next sequence number and the next lines; a PAD record fills the end of the ring first when it would wrap
(R210, R213). -/
def Ctl.recNew (c : Ctl) (r : JRec) : Nat × Ctl :=
  let pos := c.car.line % ringLines
  let pad : List JRec :=
    if ringLines < pos + r.size then
      [{ JRec.blank Rt.pad with seq := c.car.head, line := c.car.line, lines := ringLines - pos - 1, dt := c.dt, settled := true }] else []
  let line := c.car.line + (pad.map JRec.size).sum
  let seq := c.car.head + pad.length
  (seq, { c with car := { c.car with
    recs := c.car.recs ++ pad ++ [{ r with seq := seq, line := line, dt := c.dt, mirrored := c.mirroring }],
    head := seq + 1, line := line + r.size } })

/-- The eight bytes of an intent entry, Table 9.7. -/
def IntentE.bytes (e : IntentE) (seq : Nat) : List Byte :=
  leBytes 8 ((seq - e.src) % 2 ^ 32 * 2 ^ 32 + e.strip % 32 * 2 ^ 27 + e.row % 64 * 2 ^ 21 + e.pos % 64 * 2 ^ 15
    + (if e.zero then 2 ^ 14 else 0) + (if e.recon then 2 ^ 13 else 0))

/-- Payload bytes of a record, padded to its lines (Table 9.5). -/
def JRec.payload (r : JRec) : List Byte :=
  let raw := if r.typ = Rt.intent then r.entries.flatMap (fun e => e.bytes r.seq)
    else if r.typ = Rt.done then r.names.flatMap (leBytes 8) else r.data
  (raw ++ List.replicate (64 * r.lines) 0).take (64 * r.lines)

/-- The 64 header bytes of a record, Table 9.4. -/
def JRec.header (r : JRec) : List Byte :=
  let flags := (if r.mirrored then 1 else 0) + ((r.allocs.map (fun u => 2 ^ (3 + (u - r.unit0)))).sum)
  let h := leBytes 2 0xCAF0 ++ leBytes 1 r.typ ++ leBytes 1 flags ++ leBytes 4 r.lines ++ leBytes 8 r.seq ++ leBytes 2 r.nsid
    ++ leBytes 2 r.group ++ leBytes 8 r.loc ++ leBytes 4 r.count ++ leBytes 8 (r.udelta % 2 ^ 64).toNat ++ leBytes 2 r.tenant
    ++ leBytes 6 0 ++ leBytes 8 r.dt ++ leBytes 4 0
  h ++ leBytes 4 (crc32c (h ++ r.payload))

/-- The record's payload lines as stored: encrypted line by line (R210, R286). -/
def JRec.stored (r : JRec) : List Byte :=
  (List.range r.lines).flatMap (fun i => Config.carafeCipher (r.seq * 2 ^ 32 + i) ((r.payload.drop (64 * i)).take 64))

/-- Carafe with a record written: payload lines first, the header last (R210). -/
def recStore (m : Mem) (r : JRec) : Mem :=
  let a := ringBase + 64 * (r.line % ringLines)
  (m.put .carafe (a + 64) r.stored).put .carafe a r.header

/-- A record as it is written to the ring with its header persistent on each copy at once. -/
def Ctl.atOnce (c : Ctl) (r : JRec) : JRec :=
  { r with landed := !c.car.failed, durable := true, peer := true, settled := true, mirrored := c.mirroring }

/-- PAD records that fill the end of the ring are written, and mirrored, like any record (R210, R217). -/
def padsWrite (m : Mem) (c : Ctl) : Mem × Ctl :=
  match c.car.recs.filter (fun r => r.typ == Rt.pad && !r.landed) with
  | [] => (m, c)
  | ps =>
    if c.car.failed then (m, c)
    else
      let c1 := c.mapRecs (fun r => if r.typ = Rt.pad ∧ !r.landed then c.atOnce r else r)
      ((ps.map c.atOnce).foldl recStore m, if c.mirroring then c1.emit (.mirror (ps.map (·.seq))) else c1)

/-- A record written at once, its header persistent on each copy before its step ends (VOID, DONE, CKPT, 0x09, 0x0A); a local Carafe that
has failed takes none (R234). -/
def recWrite (m : Mem) (c : Ctl) (r : JRec) : Mem × Nat × Ctl :=
  match c.recNew (c.atOnce r) with
  | (seq, c1) =>
    match padsWrite m c1 with
    | (m1, c2) =>
      let c3 := if c.mirroring && !c.car.failed then c2.emit (.mirror [seq]) else c2
      match c3.recBy seq with
      | some x => (if c.car.failed then m1 else recStore m1 x, seq, c3.noteRing)
      | none => (m1, seq, c3.noteRing)

/-! ### Usage and quota (R206 to R208) -/

/-- Usage of a tenant in bytes. -/
def Ctl.tenUse (c : Ctl) (t : Nat) : Nat := (c.rd (Reg.CAR_TEN_USE_LO t)).toNat + 2 ^ 32 * (c.rd (Reg.CAR_TEN_USE_HI t)).toNat

/-- Quota of a tenant in bytes. -/
def Ctl.tenQuota (c : Ctl) (t : Nat) : Nat :=
  (c.rd (Reg.CAR_TEN_QUOTA_LO t)).toNat + 2 ^ 32 * (c.rd (Reg.CAR_TEN_QUOTA_HI t)).toNat

/-- The OVER_QUOTA flag follows usage and quota; each setting is reported (R208). -/
def Ctl.overQuota (c : Ctl) (t : Nat) : Ctl :=
  let over_ := decide (c.tenQuota t < c.tenUse t)
  let was := Nat.testBit (c.get (F.CAR_OVERQ_over (t / 32))) (t % 32)
  let c1 := c.setBitOf (F.CAR_OVERQ_over (t / 32)) (t % 32) over_
  if over_ && !was then c1.report .overQuota (fun a => a.tenant == t && !a.discovery) else c1

/-- Usage of a tenant and a namespace changes by `d` bytes. -/
def Ctl.useAdd (c : Ctl) (t ns : Nat) (d : Int) : Ctl :=
  let u := ((c.tenUse t : Int) + d).toNat
  let c1 := (c.wr (Reg.CAR_TEN_USE_LO t) (BitVec.ofNat 32 u)).wr (Reg.CAR_TEN_USE_HI t) (BitVec.ofNat 32 (u / 2 ^ 32))
  ({ c1 with car := { c1.car with ns := Tab.upd c1.car.ns ns (fun i => { i with usage := ((i.usage : Int) + d).toNat }) } }).overQuota t

/-- Pending usage of a tenant. -/
def Ctl.pendOf (c : Ctl) (t : Nat) : Nat := Tab.getD c.car.pendUse t 0

/-- Pending usage of a tenant set. -/
def Ctl.setPend (c : Ctl) (t v : Nat) : Ctl := { c with car := { c.car with pendUse := Tab.put c.car.pendUse t v } }

/-! ### What supplies a block (R214) -/

/-- The newest pending-zero range over a block. -/
def Ctl.rangeOf (c : Ctl) (g b : Nat) : Option ZRange :=
  (c.car.ranges.filter (fun r => r.group == g && decide (r.b ≤ b) && decide (b < r.b + r.n))).getLast?

/-- What Carafe supplies for a block: the newer of its index entry and its pending-zero range; none leaves it to the members. -/
def Ctl.supply (c : Ctl) (g b : Nat) : Option IdxE :=
  match Tab.at? c.car.idx (grpKey g b), c.rangeOf g b with
  | some e, some r => if e.seq < r.seq then some ⟨.zero, r.seq, 0⟩ else some e
  | some e, none => some e
  | none, some r => some ⟨.zero, r.seq, 0⟩
  | none, none => none

/-- Blocks of a DATA or ZERO record that carries data or zeros of its own: all blocks of DATA, the blocks of partly covered units
of ZERO (R220). -/
def Ctl.recBlocks (c : Ctl) (r : JRec) : List Nat :=
  let b := c.nsBlock r.nsid r.loc
  if r.typ = Rt.data then (List.range r.count).map (b + ·)
  else if r.typ = Rt.zero then
    let head := (List.range (min r.count ((16 - b % 16) % 16))).map (b + ·)
    let e := b + r.count
    let tail := if e / 16 * 16 < b then [] else (List.range (e % 16)).map (fun i => e / 16 * 16 + i)
    head ++ tail.filter (fun x => !head.contains x)
  else []

/-- Whole units a range of blocks covers. -/
def wholeUnits (b n : Nat) : List Nat := (List.range ((b + n) / 16 - (b + 15) / 16)).map (fun i => (b + 15) / 16 + i)

/-- Data of block `pos` of a record; the blocks of a ZERO record are zeros. -/
def JRec.block (r : JRec) (pos : Nat) : List Byte :=
  if r.typ = Rt.data then (r.data.drop (4096 * pos)).take 4096 else List.replicate 4096 0

/-- Tag of block `pos` of a DATA record. -/
def JRec.tag (r : JRec) (pos : Nat) : List Byte := (r.data.drop (4096 * r.count + 16 * pos)).take 16

/-- Uncorrectable lines of a DATA record's block and its tag, among its lines counted from the header (R210, R232, Table 9.5). -/
def JRec.badLines (r : JRec) (pos : Nat) : List Nat :=
  r.badAt.filter (fun k => (decide (64 * pos < k) && decide (k ≤ 64 * pos + 64)) || k == 1 + (4096 * r.count + 16 * pos) / 64)

/-! ### Reserve (R207, R215, R220) -/

/-- The pieces of R108: a range divided at every LBA that is a multiple of 64. -/
def pieces : Nat → Nat → Nat → List (Nat × Nat)
  | 0, _, _ => []
  | fuel + 1, l, n => if n = 0 then [] else (l, min n (64 - l % 64)) :: pieces fuel (l + min n (64 - l % 64)) (n - min n (64 - l % 64))

/-- Units that blocks `b` to `b + n − 1` touch. -/
def unitsOf (b n : Nat) : List Nat := (List.range ((b + n + 15) / 16 - b / 16)).map (fun i => b / 16 + i)

/-- Whether a write of a tag must wait for another brew's pending allocation of a unit it would allocate (R220). -/
def Ctl.allocHeld (c : Ctl) (tag g b n : Nat) : Bool :=
  (unitsOf b n).any (fun u => !c.unitOn g u && (match Tab.at? c.car.pendU (grpKey g u) with | some t => t != tag | none => false))

/-- Units a write would newly allocate (R207). -/
def Ctl.newUnits (c : Ctl) (g b n : Nat) : List Nat :=
  (unitsOf b n).filter (fun u => !c.unitOn g u && !Tab.has c.car.pendU (grpKey g u))

/-- One DATA record of a piece is reserved: its units and their usage become pending. -/
def Ctl.reserveData (c : Ctl) (tag ns l n buf tagBuf : Nat) : Ctl :=
  let g := c.nsGroup ns
  let us := c.newUnits g (c.nsBlock ns l) n
  let t := c.nsTenant ns
  let r : JRec := { JRec.blank Rt.data with
    nsid := ns, group := g, loc := l, count := n, udelta := (us.length * 65536 : Nat), tenant := t, allocs := us, unit0 := c.nsBlock ns l / 16,
    lines := (n * 4112 + 63) / 64, buf := buf, tagBuf := tagBuf, owner := some tag }
  let c1 := (c.recNew r).2
  { c1.setPend t (c1.pendOf t + us.length * 65536) with
    car := { (c1.setPend t (c1.pendOf t + us.length * 65536)).car with
      pendU := us.foldl (fun p u => Tab.put p (grpKey g u) tag) c1.car.pendU } }

/-- The DATA records of a write, piece by piece, from the offsets of its buffers. -/
def Ctl.reservePieces (tag ns l0 buf tagBuf : Nat) (ps : List (Nat × Nat)) (c : Ctl) : Ctl :=
  ps.foldl (fun c p => c.reserveData tag ns p.1 p.2 (buf + 4096 * (p.1 - l0)) (tagBuf + 16 * (p.1 - l0))) c

/-- Usage in bytes that deallocating the whole units of a range releases. -/
def Ctl.zeroGain (c : Ctl) (g b n : Nat) : Nat :=
  ((wholeUnits b n).map (fun u => match c.unit? g u with | some x => x.bytes | none => 0)).sum

/-- The ZERO record of a range. -/
def Ctl.reserveZero (c : Ctl) (tag ns l n : Nat) : Ctl :=
  let g := c.nsGroup ns
  (c.recNew { JRec.blank Rt.zero with
    nsid := ns, group := g, loc := l, count := n, udelta := -((c.zeroGain g (c.nsBlock ns l) n : Nat) : Int), tenant := c.nsTenant ns,
    owner := some tag }).2

/-- The range a RESERVE or INDEX step of a tag covers: the command's, or the DSM entry arg1 in slot src (R215). -/
def stepRange (m : Mem) (c : Ctl) (tag : Nat) (i : Issued) : Option (Nat × Nat × Nat) :=
  match c.rec? tag with
  | none => none
  | some r =>
    match (c.tag? tag).map TagE.kind, i.brew.slot? i.step.src with
    | some TagKind.dsm, some src =>
      let a := ptrByte src.ptr + 16 * (i.step.arg1 % 256)
      some (r.nsid, leNat (m.bytes .hbm (a + 8) 8), leNat (m.bytes .hbm (a + 4) 4))
    | _, _ => some (r.nsid, r.slba, r.nlb + 1)

end Sys2Proof.Machine
end

