-- ==== Sys2Proof/Machine/Pcr.lean ====
section
/-! DEFINITION. Persistent-register words: their numbers, wear, write tokens and writes (15_management_and_transactions.md, R401 to
R404). -/

namespace Sys2Proof.Machine

/-- The number of the persistent word at a BAR0 offset, Table 15.8. -/
def pcrWord (off : Nat) : Option Nat :=
  if off = Reg.GLB_START_CFG then some 0
  else if off = Reg.GLB_LIFE_HOURS then some 1
  else if off = Reg.GLB_LIFE_TJSUM then some 2
  else if off = Reg.CAR_WT_MARK then some 3
  else if off = Reg.BAY_PS2_OVR then some 4
  else if Reg.BAY_CH_OFS 0 ≤ off ∧ off ≤ Reg.BAY_CH_OFS 23 ∧ (off - Reg.BAY_CH_OFS 0) % 0x40 = 0 then some (8 + (off - Reg.BAY_CH_OFS 0) / 0x40)
  else if Reg.CIP_SKEK 0 ≤ off ∧ off ≤ Reg.CIP_SKEK 23 then some (32 + (off - Reg.CIP_SKEK 0) / 4)
  else if off = Reg.FWU_SVN then some 64
  else if off = Reg.FWU_STAT then some 65
  else if off = Reg.FWU_TRIAL_CFG then some 66
  else if Reg.FWU_SPDM_ROOT 0 ≤ off ∧ off ≤ Reg.FWU_SPDM_ROOT 7 then some (67 + (off - Reg.FWU_SPDM_ROOT 0) / 4)
  else if Reg.PCR_USER 0 ≤ off ∧ off ≤ Reg.PCR_USER 255 then some (768 + (off - Reg.PCR_USER 0) / 4)
  else none

/-- The bits of a register that its persistent word holds; FWU_STAT shows others beside them. -/
def pcrMask (off : Nat) : Word := if off = Reg.FWU_STAT then 0x000081DF else 0xFFFFFFFF

/-- The state of persistent word `w`: at first no write, row 0, 16 tokens. -/
def Ctl.pcrAt (c : Ctl) (w : Nat) : PcrWord := Tab.getD c.mgt.pcr w ⟨0, 0, 16, 0⟩

/-- The state with that of a word. -/
def Ctl.setPcr (c : Ctl) (w : Nat) (x : PcrWord) : Ctl := { c with mgt := { c.mgt with pcr := Tab.put c.mgt.pcr w x } }

/-- Tokens of a word now: one gained with each second of DT, 16 at most (R404). -/
def Ctl.pcrGain (c : Ctl) (w : Nat) : PcrWord :=
  let x := c.pcrAt w
  let n := c.dt / 1000000000 - x.at_ / 1000000000
  { x with tokens := min 16 (x.tokens + n), at_ := max x.at_ c.dt }

/-- One write more on a word's row, or on its next spare (R403). -/
def PcrWord.wear (x : PcrWord) : PcrWord :=
  if 5 ≤ x.row then x
  else if x.count < 100000 then (if x.count = 99999 ∧ x.row = 4 then { x with count := 100000, row := 5 } else { x with count := x.count + 1 })
  else { x with count := 1, row := x.row + 1 }

/-- A word has been written once more; PCR_STAT.worn counts it when that was its last write. -/
def Ctl.pcrWear (c : Ctl) (w : Nat) : Ctl :=
  let x := c.pcrAt w
  let c1 := c.setPcr w x.wear
  if x.row < 5 ∧ x.wear.row = 5 then c1.bump F.PCR_STAT_worn 1 else c1

/-- A write that the device makes of its own accord: exempt from the rate limit, counted against endurance, and persistent within the
operation that makes it (R403, R404, notes/assumptions/29.md). A worn word keeps its value. -/
def Ctl.pcrOwn (c : Ctl) (f : Fld) (v : Nat) : Ctl :=
  match pcrWord f.off with
  | none => c.set f v
  | some w => if (c.set f v).rd f.off = c.rd f.off then c else if 5 ≤ (c.pcrAt w).row then c else (c.pcrWear w).set f v

/-- Whether a requested write of word `w` is refused: worn, or no token (R403, R404); 0 when it is not. -/
def Ctl.pcrRefusal (c : Ctl) (w : Nat) : Nat := if 5 ≤ (c.pcrAt w).row then 0x30 else if (c.pcrGain w).tokens = 0 then 0x31 else 0

/-- A requested write of a word takes a token and starts, or waits for a write of the same word (R402). It completes 20 µs after its
start. -/
def Ctl.pcrStart (c : Ctl) (off w : Nat) (val : Word) (rate : Bool) : Ctl :=
  let x := c.pcrGain w
  let c1 := (if rate then c.setPcr w { x with tokens := x.tokens - 1 } else c).pcrWear w
  let start := (c1.mgt.pcrWr.filter (fun e => e.off == off)).foldl (fun t e => max t e.at_) c1.dt
  ({ c1 with mgt := { c1.mgt with pcrWr := c1.mgt.pcrWr ++ [(⟨off, val, start + 20000⟩ : PcrWr)] } }).setFlag F.PCR_STAT_busy true

/-- What a word will read once the writes in progress are done. -/
def Ctl.pcrLast (c : Ctl) (off : Nat) : Word :=
  match (c.mgt.pcrWr.filter (fun e => e.off == off)).getLast? with
  | some e => e.val
  | none => c.rd off

/-- A write of a persistent word has completed: its value is read from now on. -/
def Ctl.pcrLand (c : Ctl) (e : PcrWr) : Ctl := c.wr e.off ((c.rd e.off &&& ~~~ pcrMask e.off) ||| (e.val &&& pcrMask e.off))

/-- PCR_WRITE_DONE (R402): the oldest write in progress completes. -/
def Ctl.pcrDone (c : Ctl) : Ctl :=
  match c.mgt.pcrWr with
  | [] => c
  | e :: rest =>
    let c1 := ({ c with mgt := { c.mgt with pcrWr := rest } }).reach e.at_
    (c1.pcrLand e).setFlag F.PCR_STAT_busy (!rest.isEmpty)

/-- Every write in progress completes, as R30 and R35 ensure before a reset or a power loss. -/
def Ctl.pcrFinish (c : Ctl) : Ctl :=
  ({ c.mgt.pcrWr.foldl Ctl.pcrLand c with mgt := { c.mgt with pcrWr := [] } }).setFlag F.PCR_STAT_busy false

/-- A refused BAR0 write of a persistent word shows in PCR_STAT and, as source 2, at the service endpoint (R404, Table 16.4). -/
def Ctl.pcrError (c : Ctl) (w st : Nat) : Ctl :=
  (((c.setFlag F.PCR_STAT_err_pend true).set F.PCR_STAT_last_err (if st = 0x30 then 1 else 2)).set F.PCR_STAT_last_word w).intSet 2

/-- A requested write of persistent word `w` at an offset starts, or is refused with a status, which a BAR0 write shows in PCR_STAT
(R403, R404). -/
def Ctl.pcrRequest (c : Ctl) (off w : Nat) (val : Word) (bar0 : Bool) : Nat × Ctl :=
  let st := c.pcrRefusal w
  if st = 0 then (0, c.pcrStart off w val true) else (st, if bar0 then c.pcrError w st else c)

/-- PCR_WRITE_DONE (R402). -/
def execPcrWriteDone (s : State) : Host.Outcome State Fault Refusal := onCtl (fun _ c => c.pcrDone) s

/-- PCR_TOKEN_REFILL (R404): DT reaches the next whole second, and every word gains a token, up to 16. -/
def execPcrTokenRefill (s : State) : Host.Outcome State Fault Refusal :=
  onCtl (fun _ c =>
    let c1 := c.reach ((c.dt / 1000000000 + 1) * 1000000000)
    { c1 with mgt := { c1.mgt with pcr := Tab.mapV c1.mgt.pcr (fun w _ => c1.pcrGain w) } }) s

end Sys2Proof.Machine
end

