-- ==== Sys2Proof/Machine/JournalOps.lean ====
section
/-! DEFINITION. What records do to the index, the slots, the unit map and the lost-stripe table: index, void, settle, flush, done,
retire, checkpoint (09_layouts_and_write_path.md, R214 to R230; R252 to R256). -/

namespace Sys2Proof.Machine

/-! ### Gather slots (R221) -/

/-- Records a slot lists at most. -/
def slotMax : Nat := 1024

/-- Slots of the gather slot table (R214). -/
def slotCount : Nat := 8192

/-- The slot of a stripe. -/
def Ctl.slotOf (c : Ctl) (g s : Nat) : Option (Nat × GSlot) := c.car.slots.find? (fun p => p.2.group == g && p.2.strp == s)

/-- A record entered in the slot of a stripe, which is created when there is none. -/
def Ctl.slotAdd (c : Ctl) (g s seq : Nat) : Ctl :=
  match c.slotOf g s with
  | some (k, x) =>
    if x.recs.contains seq then c
    else { c with car := { c.car with slots := Tab.put c.car.slots k { x with recs := x.recs ++ [seq] } } }
  | none =>
    match Tab.freeKey c.car.slots 0 slotCount with
    | none => c
    | some k =>
      let born := c.car.slots.foldl (fun a p => max a (p.2.born + 1)) 0
      { c with car := { c.car with slots := Tab.put c.car.slots k ⟨g, s, [seq], none, [], none, born⟩ } }

/-- Stripes whose slots a record enters: all it touches for DATA; the first and last not wholly covered for ZERO (R221). -/
def Ctl.recStripes (c : Ctl) (r : JRec) : List Nat :=
  let b := c.nsBlock r.nsid r.loc
  let ds := c.grpDS r.group
  if r.count = 0 then []
  else if r.typ = Rt.data then
    (List.range ((b + r.count - 1) / ds + 1 - b / ds)).map (fun i => c.grpJ r.group + b / ds + i)
  else
    let first := if b % ds = 0 ∧ b + ds ≤ b + r.count then [] else [c.stripeOf r.group b]
    let last := if (b + r.count) % ds = 0 then [] else [c.stripeOf r.group (b + r.count - 1)]
    (first ++ last).eraseDups

/-! ### INDEX (R214, R215, R220) -/

/-- Records reserved by a tag and neither landed nor void. -/
def Ctl.ownRecs (c : Ctl) (tag : Nat) : List JRec := c.car.recs.filter (fun r => r.owner == some tag && !r.void)

/-- One record published: PENDING entries, or a pending-zero range, and its slots. -/
def Ctl.indexRec (tag : Nat) (c : Ctl) (r : JRec) : Ctl :=
  let b := c.nsBlock r.nsid r.loc
  let c1 := (c.recStripes r).foldl (fun c s => c.slotAdd r.group s r.seq) c
  if r.typ = Rt.data then
    { c1 with car := { c1.car with idx := (List.range r.count).foldl (fun t i =>
        match Tab.at? t (grpKey r.group (b + i)) with
        | some e => if r.seq < e.seq then t else Tab.put t (grpKey r.group (b + i)) ⟨.pending, r.seq, i⟩
        | none => Tab.put t (grpKey r.group (b + i)) ⟨.pending, r.seq, i⟩) c1.car.idx } }
  else { c1 with car := { c1.car with ranges := c1.car.ranges ++ [⟨r.group, b, r.count, r.seq, tag⟩] } }

/-! ### LAND and persistence (R217) -/

/-- The token of a brew's CAR step with opcode `op` ends with a status. -/
def Ctl.carToken (c : Ctl) (tag op st : Nat) : Ctl :=
  match c.brew? tag with
  | none => c
  | some b =>
    match b.tokens.find? (fun t => !t.arrived && (c.brewStep b t.step).eng == Cls.car && (c.brewStep b t.step).op == op) with
    | some t => c.tokenPost tag t.id st
    | none => c

/-- Whether a record's header is persistent on every copy the device asks for now (R217). -/
def Ctl.onCopies (c : Ctl) (r : JRec) : Bool := r.durable && (!c.mirroring || !r.mirrored || r.peer)

/-- The LAND or INTENT token of a brew is OK once every record of it is persistent on each copy (R217, R224). -/
def Ctl.landCheck (c : Ctl) (tag : Nat) : Ctl :=
  let rs := (c.ownRecs tag).filter (·.landed)
  if rs.all c.onCopies && !rs.isEmpty then
    c.carToken tag (if rs.any (fun r => r.typ == Rt.intent) then 0x07 else 0x03) 0 else c

/-- Every brew that waits for persistence is looked at again. -/
def Ctl.landCheckAll (c : Ctl) : Ctl :=
  ((c.car.recs.filterMap (fun r => if r.landed && !r.settled then r.owner else none)).eraseDups).foldl Ctl.landCheck c

/-- The header of record `seq` is persistent in the local ring. -/
def Ctl.headerPersistent (c : Ctl) (seq : Nat) : Ctl :=
  match c.recBy seq with
  | some r =>
    if r.landed then
      let c1 := c.mapRecs (fun x => if x.seq = seq then { x with durable := true } else x)
      match r.owner with | some t => c1.landCheck t | none => c1
    else c
  | none => c

/-- The peer reports the header of record `seq` persistent in its ring (R217, R329). -/
def Ctl.peerPersistent (c : Ctl) (seq : Nat) : Ctl :=
  match c.recBy seq with
  | some r =>
    let c1 := c.mapRecs (fun x => if x.seq = seq then { x with peer := true } else x)
    match r.owner with | some t => c1.landCheck t | none => c1
  | none => c

/-! ### The lost-stripe table (R253 to R256) -/

/-- Entry number of a stripe in the lost-stripe table. -/
def Ctl.lostOf (c : Ctl) (g s : Nat) : Option (Nat × LostE) := c.rbd.lost.find? (fun p => p.2.group == g && p.2.strp == s)

/-- The 64 bytes of a lost-stripe entry, Table 10.4. -/
def LostE.bytes (e : LostE) : List Byte :=
  let h := leBytes 8 e.seq ++ leBytes 8 e.strp ++ leBytes 8 e.rows ++ leBytes 4 e.posMask ++ leBytes 1 e.group ++ leBytes 1 e.cause
    ++ leBytes 2 (e.ns + if e.journal then 2 ^ 15 else 0) ++ leBytes 6 e.dntS ++ leBytes 2 0 ++ leBytes 8 e.dt ++ leBytes 12 0
  h ++ leBytes 4 (crc32c h)

/-- Carafe address of lost-stripe entry `k` (Table 9.3). -/
def lostAddr (k : Nat) : Nat := 0x100000 + 64 * k

/-- An entry of the table changes: a 0x09 record, then the entry itself; each change is counted and announced (R253, R254). -/
def lostPut (m : Mem) (c : Ctl) (k : Nat) (e : LostE) : Mem × Ctl :=
  let e1 := { e with seq := c.car.head, dt := c.dt }
  match recWrite m c { JRec.blank Rt.lost with group := e.group, loc := e.strp, count := 1, lines := 1, data := e1.bytes } with
  | (m1, _, c1) =>
    let gone := e.rows == 0
    let c2 := { c1 with rbd := { c1.rbd with lost := if gone then Tab.del c1.rbd.lost k else Tab.put c1.rbd.lost k e1 } }
    let c3 := (c2.set F.RBD_LST_STAT_entries c2.rbd.lost.length).set F.RBD_LST_GEN_changes (c2.get F.RBD_LST_GEN_changes + 1)
    (m1.put .carafe (lostAddr k) (if gone then List.replicate 64 0 else e1.bytes),
     c3.report .lostStripe (fun a => !a.discovery && (c3.grpTenants e.group).contains a.tenant))

/-- A namespace whose extent holds a data stripe of a group. -/
def Ctl.nsOfStripe (c : Ctl) (g s : Nat) : Nat :=
  match c.car.ns.find? (fun p => c.nsGroup p.1 == g && decide (c.grpJ g + c.get (F.GAL_NS_MAP0_e p.1) ≤ s)
      && decide (s < c.grpJ g + c.get (F.GAL_NS_MAP0_e p.1) + c.get (F.GAL_NS_MAP1_c p.1))) with
  | some p => p.1
  | none => 0

/-- A row of a stripe is lost (R252, R256): its bit is set in the stripe's entry, a new entry is made, or the overflow is counted. -/
def lostRow (m : Mem) (c : Ctl) (g s row cause posMask : Nat) : Mem × Ctl :=
  match c.lostOf g s with
  | some (k, e) => if Nat.testBit e.rows row then (m, c) else lostPut m c k { e with rows := e.rows + 2 ^ row }
  | none =>
    match Tab.freeKey c.rbd.lost 0 65536 with
    | none => (m, c.bump F.RBD_LST_STAT_overflow 1)
    | some k => lostPut m c k ⟨0, g, s, 2 ^ row, posMask, cause, c.nsOfStripe g s, decide (s < c.grpJ g), c.dntNs / 1000000000, c.dt⟩

/-- A row of a stripe is no longer lost (R255). -/
def foundRow (m : Mem) (c : Ctl) (g s row : Nat) : Mem × Ctl :=
  match c.lostOf g s with
  | some (k, e) => if Nat.testBit e.rows row then lostPut m c k { e with rows := e.rows - 2 ^ row } else (m, c)
  | none => (m, c)

/-- Blocks of a row of a stripe that members hold (R199, R271). -/
def Ctl.rowBlocks (c : Ctl) (g s row : Nat) : List Nat :=
  ((List.range (c.grpD g)).map (fun i => c.stripeBase g s + i * c.grpS g + row)).filter (c.blockLive g)

/-- Lost rows of the stripes of a deallocated range that have no block left in an allocated unit are cleared (R255). -/
def clearEmptyRows (m : Mem) (c : Ctl) (g b n : Nat) : Mem × Ctl :=
  let hit := c.rbd.lost.filter (fun p => p.2.group == g && decide (c.stripeOf g b ≤ p.2.strp) && decide (p.2.strp ≤ c.stripeOf g (b + n)))
  hit.foldl (fun (a : Mem × Ctl) p => (List.range (c.grpS g)).foldl (fun (a : Mem × Ctl) row =>
    if (a.2.rowBlocks g p.2.strp row).isEmpty then foundRow a.1 a.2 g p.2.strp row else a) a) (m, c)

/-! ### Settlement and voiding (R219, R220) -/

/-- Blocks no longer left to older settled records: a newer settled record supplies them (R228). -/
def Ctl.supersede (c : Ctl) (g seq : Nat) (bs : List Nat) : Ctl :=
  c.mapRecs (fun r => if r.group = g ∧ r.seq < seq ∧ r.settled then { r with left := r.left.filter (fun b => !bs.contains b) } else r)

/-- Slots that list a record get their deadline at its settlement, when it is the first (R221). -/
def Ctl.slotDeadline (c : Ctl) (seq : Nat) : Ctl :=
  { c with car := { c.car with slots := Tab.mapV c.car.slots (fun _ x =>
      if x.recs.contains seq ∧ x.dead = none then { x with dead := some (c.dt + c.get F.CAR_GATHER_DL_dl_ms * 1000000) } else x) } }

/-- Whether a Regrind copies or has copied, and a block of the source group lies in a unit its cursor has passed (R265). -/
def Ctl.rgPassed (c : Ctl) (g b : Nat) : Bool :=
  (c.get F.RBD_RG_STAT_state == 2 || c.get F.RBD_RG_STAT_state == 3) && c.get F.RBD_RG_CFG_src == g
    && decide ((c.rd Reg.RBD_RG_CUR_LO).toNat + 2 ^ 32 * (c.rd Reg.RBD_RG_CUR_HI).toNat ≤ b / 16)

/-- The block of the stage group that a block of a namespace of the source group goes to, by the target extents (R263). -/
def Ctl.rgFwd (c : Ctl) (ns l : Nat) : Option Nat :=
  (Tab.at? c.rbd.rgMap ns).map (fun e => e.1 * c.grpDS (c.get F.RBD_RG_CFG_stage) + l)

/-- The namespace and LBA behind a block of the stage group. -/
def Ctl.rgBack (c : Ctl) (b : Nat) : Option (Nat × Nat) :=
  let ds := c.grpDS (c.get F.RBD_RG_CFG_stage)
  match c.rbd.rgMap.find? (fun p => decide (p.2.1 * ds ≤ b) && decide (b < (p.2.1 + p.2.2) * ds)) with
  | some p => if b - p.2.1 * ds < c.nsze p.1 then some (p.1, b - p.2.1 * ds) else none
  | none => none

/-- Stripes of the stage group whose slots a record of blocks `bs` enters: those of the blocks in copied units (R265). -/
def Ctl.stageStripes (c : Ctl) (r : JRec) (bs : List Nat) : List Nat :=
  ((bs.filter (c.rgPassed r.group)).filterMap (fun b =>
    (c.rgFwd r.nsid (b - c.nsBlock r.nsid 0)).map (c.stripeOf (c.get F.RBD_RG_CFG_stage)))).eraseDups

/-- A settled record that touches a copied unit is entered in gather slots of the stage group too (R265). -/
def Ctl.rgEnter (c : Ctl) (r : JRec) (bs : List Nat) : Ctl :=
  if (bs.filter (c.rgPassed r.group)).isEmpty then c
  else
    let c1 := (c.stageStripes r bs).foldl (fun c s => c.slotAdd (c.get F.RBD_RG_CFG_stage) s r.seq) c
    { c1 with rbd := { c1.rbd with rgRecs := c1.rbd.rgRecs ++ [r.seq] } }

/-- The slots a record enters, as group and stripe: those of its own group, and those of the stage group (R221, R265). -/
def Ctl.recSlots (c : Ctl) (r : JRec) : List (Nat × Nat) :=
  (c.recStripes r).map (fun s => (r.group, s)) ++ (c.stageStripes r (c.recBlocks r)).map (fun s => (c.get F.RBD_RG_CFG_stage, s))

/-- Records that the slot of a stripe lists. -/
def Ctl.slotLen (c : Ctl) (g s : Nat) : Nat := match c.slotOf g s with | some (_, x) => x.recs.length | none => 0

/-- Whether an INDEX of records finds a table full (R214): the index, the ranges, the slots, or the list of a slot they enter (R221). -/
def Ctl.indexFull (c : Ctl) (rs : List JRec) : Bool :=
  let ds := rs.filter (fun r => r.typ == Rt.data)
  let all := rs.flatMap c.recSlots
  decide (2097152 < c.car.idx.length + (ds.map (·.count)).sum)
    || decide (4096 < c.car.ranges.length + (rs.length - ds.length))
    || decide (slotCount < c.car.slots.length + (all.eraseDups.filter (fun p => (c.slotOf p.1 p.2).isNone)).length)
    || all.eraseDups.any (fun p => decide (slotMax < c.slotLen p.1 p.2 + all.countP (· == p)))

/-- Whether a settled record newer than `seq` supplies or deallocates a block of a group (R228). -/
def Ctl.newerSettled (c : Ctl) (g seq b : Nat) : Bool :=
  c.car.recs.any (fun r => r.group == g && decide (seq < r.seq) && r.settled && !r.void && (r.typ == Rt.data || r.typ == Rt.zero)
    && decide (c.nsBlock r.nsid r.loc ≤ b) && decide (b < c.nsBlock r.nsid r.loc + r.count))

/-- Units that a settling record allocates or deallocates and the Regrind has passed change in the stage group's map too (R265). -/
def Ctl.rgUnits (c : Ctl) (r : JRec) (add del : List Nat) : Ctl :=
  let g := c.get F.RBD_RG_CFG_stage
  let tgt (u : Nat) : Option Nat := if c.rgPassed r.group (16 * u) then (c.rgFwd r.nsid (16 * u - c.nsBlock r.nsid 0)).map (· / 16) else none
  let t1 := (add.filterMap tgt).foldl (fun t u => Tab.put t (grpKey g u) ⟨none, 16⟩) c.car.units
  { c with car := { c.car with units := (del.filterMap tgt).foldl (fun t u => Tab.del t (grpKey g u)) t1 } }

/-- Index entries of a write that went to the members without landing (R234): older entries of its blocks are gone. -/
def Ctl.throughIndex (c : Ctl) (g seq : Nat) (bs : List Nat) : Tab IdxE :=
  bs.foldl (fun t b => match Tab.at? t (grpKey g b) with
    | some e => if e.seq < seq then Tab.del t (grpKey g b) else t
    | none => t) c.car.idx

/-- Blocks of the units a DATA record allocates that no record supplies: they read as zeros and the record owes them (R220). -/
def fillBlocks (t : Tab IdxE) (g : Nat) (units : List Nat) : List Nat :=
  (units.flatMap (fun u => (List.range 16).map (fun j => 16 * u + j))).filter (fun b => !Tab.has t (grpKey g b))

/-- One record settles (R220): its entries become LANDED, its units allocated, a ZERO record's whole units deallocated, pending
usage becomes usage. `maps` false leaves the map bits as a checkpoint has them (R231). The blocks of a record that never landed are on
the members already (R234). -/
def settle (m : Mem) (c : Ctl) (seq : Nat) (maps : Bool) : Mem × Ctl :=
  match c.recBy seq with
  | none => (m, c)
  | some r =>
    let g := r.group
    let b := c.nsBlock r.nsid r.loc
    let bs := (c.recBlocks r).filter (fun x => !c.newerSettled g seq x)
    let own (left : List Nat) : Ctl :=
      (c.mapRecs (fun x => if x.seq = seq then { x with settled := true, left := left, owner := none } else x)).supersede g seq bs
    if r.typ = Rt.data then
      let idx1 := if r.landed then (List.range r.count).foldl (fun t i => match Tab.at? t (grpKey g (b + i)) with
          | some e => if e.seq = seq then Tab.put t (grpKey g (b + i)) { e with kind := .landed } else t
          | none => t) c.car.idx
        else c.throughIndex g seq bs
      let fill := if r.landed then (fillBlocks idx1 g r.allocs).filter (fun x => !c.newerSettled g seq x) else []
      let idx2 := fill.foldl (fun t x => Tab.put t (grpKey g x) ⟨.zero, seq, 0⟩) idx1
      let c1 := own (if r.landed then bs ++ fill else [])
      let c2 := { c1 with car := { c1.car with
        idx := idx2
        units := if maps then r.allocs.foldl (fun t u => Tab.put t (grpKey g u) ⟨none, 16⟩) c1.car.units else c1.car.units
        pendU := r.allocs.foldl (fun t u => Tab.del t (grpKey g u)) c1.car.pendU } }
      let c3 := c2.setPend r.tenant (c2.pendOf r.tenant - 65536 * r.allocs.length)
      (m, ((((if maps then c3.useAdd r.tenant r.nsid r.udelta else c3).slotDeadline seq).rgUnits r r.allocs []).rgEnter r bs).noteRing)
    else if r.typ = Rt.zero then
      let c1 := own bs
      let us := wholeUnits b r.count
      let older (t : Tab IdxE) (x : Nat) : Bool := match Tab.at? t (grpKey g x) with | some e => decide (e.seq < seq) | none => true
      let idx1 := us.foldl (fun t u => (List.range 16).foldl (fun t j =>
        if older t (16 * u + j) then Tab.del t (grpKey g (16 * u + j)) else t) t) c1.car.idx
      let idx2 := bs.foldl (fun t x => if older t x then Tab.put t (grpKey g x) ⟨.zero, seq, 0⟩ else t) idx1
      let c2 := { c1 with car := { c1.car with
        idx := idx2
        units := if maps then us.foldl (fun t u => Tab.del t (grpKey g u)) c1.car.units else c1.car.units
        forms := us.foldl (fun t u => Tab.del t (grpKey g u)) c1.car.forms
        ranges := c1.car.ranges.filter (fun x => x.seq != seq) } }
      let c3 := c2.supersede g seq (us.flatMap (fun u => (List.range 16).map (fun j => 16 * u + j)))
      clearEmptyRows m (((((if maps then c3.useAdd r.tenant r.nsid r.udelta else c3).slotDeadline seq).rgUnits r [] us).rgEnter r bs).noteRing)
        g b r.count
    else (m, own bs)

/-- The newest record of a block's gather slot, not void, that supplies the block (R219): what a settled one still owes, or what one not
settled carries. -/
def Ctl.newestFor (c : Ctl) (g b : Nat) : Option JRec :=
  let qs := match c.slotOf g (c.stripeOf g b) with | some (_, x) => x.recs | none => []
  (c.known.filter (fun r => r.group == g && qs.contains r.seq && !r.void && (r.typ == Rt.data || r.typ == Rt.zero)
    && (if r.settled then r.left.contains b else (c.recBlocks r).contains b))).getLast?

/-- The index entry that a record gives a block: LANDED or PENDING for its own data, ZERO for the rest. -/
def Ctl.entryOf (c : Ctl) (r : JRec) (b : Nat) : IdxE :=
  if r.typ = Rt.data && (c.recBlocks r).contains b then ⟨if r.settled then .landed else .pending, r.seq, b - c.nsBlock r.nsid r.loc⟩ else ⟨.zero, r.seq, 0⟩

/-- Index entries of voided records revert to the newest non-void record of the block, or are removed (R219). -/
def Ctl.indexRevert (c : Ctl) (seqs : List Nat) : Ctl :=
  let hit := c.car.idx.filter (fun p => seqs.contains p.2.seq)
  let back (t : Tab IdxE) (p : Nat × IdxE) : Tab IdxE :=
    match c.newestFor (p.1 / 2 ^ 40) (p.1 % 2 ^ 40) with
    | some r => Tab.put t p.1 (c.entryOf r (p.1 % 2 ^ 40))
    | none => Tab.del t p.1
  { c with car := { c.car with idx := hit.foldl back c.car.idx } }

/-- VOID of a brew's records (R219): one VOID record, then index, ranges, pending allocations and usage. -/
def voidOwn (m : Mem) (c : Ctl) (tag : Nat) : Mem × Ctl :=
  let rs := (c.ownRecs tag).filter (fun r => !r.settled && (r.typ == Rt.data || r.typ == Rt.zero))
  match rs with
  | [] => (m, c)
  | r0 :: _ =>
    let seqs := rs.map (·.seq)
    let c1 := c.mapRecs (fun r => if seqs.contains r.seq then { r with void := true, owner := none } else r)
    let c2 := { c1 with car := { c1.car with
      ranges := c1.car.ranges.filter (fun x => !seqs.contains x.seq)
      pendU := c1.car.pendU.filter (fun p => p.2 != tag)
      slots := Tab.mapV c1.car.slots (fun _ x => { x with recs := x.recs.filter (fun q => !seqs.contains q) }) } }
    let c3 := { c2 with car := { c2.car with slots := c2.car.slots.filter (fun p => !p.2.recs.isEmpty || !p.2.redo.isEmpty) } }
    let freed := (rs.map (fun r => 65536 * r.allocs.length)).sum
    let c4 := (c3.setPend r0.tenant (c3.pendOf r0.tenant - freed)).indexRevert seqs
    match recWrite m c4 { JRec.blank Rt.void with nsid := r0.nsid, group := r0.group, loc := r0.seq, count := rs.length,
                                                  udelta := -(rs.map (·.udelta)).sum, tenant := r0.tenant } with
    | (m1, _, c5) => (m1, c5)

/-! ### Retirement and checkpoints (R228 to R230) -/

/-- Whether checkpoint `a` is no newer than `b`: by covered seq, then by DT (R229). -/
def Ckpt.older (a b : Ckpt) : Bool := decide (a.seq < b.seq) || (a.seq == b.seq && decide (a.dt ≤ b.dt))

/-- A checkpoint slot's content, if its CRC-32C holds. -/
def ckValid (k : Option Ckpt) : Option Ckpt := k.filter (·.crcOk)

/-- Newest valid checkpoint of a group: the covered seq is what it covers below (R229). -/
def Ctl.ckptOf (c : Ctl) (g : Nat) : Option Ckpt :=
  match ckValid (Tab.at? c.car.ckA g), ckValid (Tab.at? c.car.ckB g) with
  | some a, some b => if a.older b then some b else some a
  | a, b => a.or b

/-- Whether the older of a group's two checkpoint slots is B; a slot without a valid checkpoint is the older. -/
def Ctl.ckptToB (c : Ctl) (g : Nat) : Bool :=
  match ckValid (Tab.at? c.car.ckA g), ckValid (Tab.at? c.car.ckB g) with
  | some a, some b => !a.older b
  | some _, none => true
  | none, _ => false

/-- The state with a checkpoint in the older slot of a group. -/
def Ctl.ckptPut (c : Ctl) (g : Nat) (k : Ckpt) : Ctl :=
  let toB := c.ckptToB g
  { c with car := { c.car with
    ckA := if toB then c.car.ckA else Tab.put c.car.ckA g k
    ckB := if toB then Tab.put c.car.ckB g k else c.car.ckB
    ckAt := Tab.put c.car.ckAt g c.dt } }

/-- Whether a completed checkpoint of a record's group covers its seq (R228). -/
def Ctl.covered (c : Ctl) (r : JRec) : Bool := match c.ckptOf r.group with | some k => decide (r.seq < k.seq) | none => false

/-- Whether an intent has a DONE. -/
def Ctl.intentDone (c : Ctl) (seq : Nat) : Bool := c.car.recs.any (fun r => r.typ == Rt.done && r.names.contains seq)

/-- Whether an intent without a DONE names a record (R228). -/
def Ctl.named (c : Ctl) (seq : Nat) : Bool :=
  c.car.recs.any (fun r => r.typ == Rt.intent && !c.intentDone r.seq && r.entries.any (fun e => e.src == seq))

/-- Whether a record is retired (R228, R265); a PAD record is retired with what precedes it, and the newest reshape record of a Regrind under
way is not, since replay looks for it (R268). -/
def Ctl.retired (c : Ctl) (r : JRec) : Bool :=
  if r.torn then true
  else if r.typ = Rt.pad then true
  else if r.void then c.covered r
  else if r.typ = Rt.data then r.settled && r.left.isEmpty && !c.named r.seq && c.covered r && !c.rbd.rgRecs.contains r.seq
  else if r.typ = Rt.zero then r.settled && c.covered r && !c.rbd.rgRecs.contains r.seq
  else if r.typ = Rt.intent then c.intentDone r.seq && c.covered r
  else if r.typ = Rt.done then r.names.all (fun q => c.intentDone q) && c.covered r
  else if r.typ = Rt.recon then c.covered r && !c.car.recs.any (fun x => x.typ == Rt.intent && x.group == r.group && x.loc == r.loc
      && decide (r.seq < x.seq) && !c.intentDone x.seq)
  else if r.typ = Rt.reshape then
    c.covered r && (c.get F.RBD_RG_STAT_state == 0 || c.car.recs.any (fun x => x.typ == Rt.reshape && decide (r.seq < x.seq)))
  else c.covered r

/-- The tail advances over retired records in order; the device still knows the ZERO records among them whose blocks no flush has
written. -/
def Ctl.retire (c : Ctl) : Ctl :=
  let owes (r : JRec) : Bool := r.typ == Rt.zero && !r.void && !r.left.isEmpty
  ({ c with car := { c.car with
      recs := c.car.recs.dropWhile c.retired
      owed := (c.car.owed ++ c.car.recs.takeWhile c.retired).filter owes } }).noteRing

/-- The oldest record that is reserved and neither settled nor void (R230). -/
def Ctl.openSeq (c : Ctl) : Option Nat :=
  (c.car.recs.find? (fun r => (r.typ == Rt.data || r.typ == Rt.zero) && !r.settled && !r.void)).map (·.seq)

/-- The usage a checkpoint stores: without the udelta of settled records at or above the covered seq (R230). -/
def Ctl.ckptUsage (c : Ctl) (g seq : Nat) : Tab Nat :=
  (c.car.ns.filter (fun p => c.nsGroup p.1 == g)).map (fun p =>
    let later := (c.car.recs.filter (fun r => decide (seq ≤ r.seq) && r.nsid == p.1 && r.settled && !r.void && r.typ != Rt.void)).map (·.udelta)
    (p.1, ((p.2.usage : Int) - later.sum).toNat))

/-- Bytes of the journal area at which checkpoint slot B and the unit map start; slot A starts at 0 (R229). -/
def jrnSlotB : Nat := 33554432
def jrnMap : Nat := 67108864

/-- The stripe of the journal area that holds a byte of it (R229): its bytes are numbered in block order. -/
def Ctl.jrnStripe (c : Ctl) (g byte : Nat) : Nat := byte / (4096 * c.grpDS g)

/-- The unit-map stripes of a group that differ from what its journal area holds (R230). -/
def Ctl.mapChanged (c : Ctl) (g : Nat) : List Nat :=
  let old := Tab.getD c.car.maps g []
  let now := c.grpUnits g
  ((now.filter (fun u => !old.contains u) ++ old.filter (fun u => !now.contains u)).map (fun u => c.jrnStripe g (jrnMap + u / 8))).eraseDups

/-- A checkpoint of a group (R230): the changed stripes of the unit map and the older slot are written, a CKPT record is appended, retired
records leave the ring, and the control area holds the new tail. -/
def checkpoint (m : Mem) (c : Ctl) (g : Nat) : Mem × Ctl :=
  let seq := match c.openSeq with | some q => min q c.car.head | none => c.car.head
  let k : Ckpt := ⟨seq, c.dt, true, c.ckptUsage g seq, (c.rbd.lost.filter (fun p => p.2.group == g)).map (·.2)⟩
  let toB := c.ckptToB g
  let c0 := (c.mapChanged g).foldl (fun c s => c.emit (.mapWrite g s 1)) c
  let c1 := ({ c0 with car := { c0.car with maps := Tab.put c0.car.maps g (c.grpUnits g) } }).ckptPut g k
  match recWrite m (c1.emit (.journalWrite g (if toB then 1 else 0) seq)) { JRec.blank Rt.ckpt with group := g, loc := seq } with
  | (m1, _, c2) =>
    let c3 := c2.retire
    (m1, c3.ctlPut (fun x => { x with tail := c3.ringTail }))

/-! ### Write-through mode (R233) -/

/-- Cause of write-through mode now (CAR_STAT.wt_cause). -/
def Ctl.wtCause (c : Ctl) : Nat :=
  if c.flag F.CAR_CFG_wt_force then 1 else if c.car.failed then 2 else if c.car.peerWt then 3 else 0

/-- CAR_WT_MARK.mark is cleared once the device is out of the mode with no write in flight and no Cupping pass owed (R234, R262). -/
def Ctl.wtUnmark (c : Ctl) : Ctl :=
  if c.flag F.CAR_STAT_wt || !c.flag F.CAR_WT_MARK_mark || !c.rbd.markDue.isEmpty
      || c.host.tags.any (fun p => p.2.kind == .write && Tab.has c.bst.brews p.1) then c
  else c.pcrOwn F.CAR_WT_MARK_mark 0

/-- Whether a new write waits in write-through mode: some settled record is not flushed yet (R233). -/
def Ctl.wtHeld (c : Ctl) : Bool :=
  c.flag F.CAR_STAT_wt && c.known.any (fun r => r.settled && !r.void && !r.left.isEmpty)

/-- WRITE_THROUGH_ENTER and exit (R233, R109): each change of the mode is announced for every namespace; on entry every settled
record is to be flushed. -/
def Ctl.wtUpdate (c : Ctl) : Ctl :=
  let w := c.wtCause
  let on := w != 0
  let c1 := c.set F.CAR_STAT_wt_cause w
  if on == c.flag F.CAR_STAT_wt then c1
  else
    let c2 := c1.setFlag F.CAR_STAT_wt on
    let c3 := if on then { c2 with car := { c2.car with slots := Tab.mapV c2.car.slots (fun _ x =>
        if x.dead.isSome then { x with dead := some c.dt } else x) } } else c2.wtUnmark
    c3.allNsChanged

end Sys2Proof.Machine
end

