-- ==== Sys2Proof/Machine/Modes.lean ====
section
/-! DEFINITION. Changes of mode (R46 to R52), power domains' moves (R31 to R34), host power states (R111 to R113) and full
redundancy (R237). -/

namespace Sys2Proof.Machine

/-- Whether the device holds the lease. -/
def Ctl.lease (c : Ctl) : Bool := c.flag F.GLB_MODE_STAT_lease

/-! ### Changing mode -/

/-- The role the device holds now (GLB_START_STAT.last_role): 1 with the lease, 2 the standby of a pair, 0 otherwise. -/
def Ctl.roleNow (c : Ctl) : Nat :=
  if c.lease then 1
  else if c.flag F.PEER_CFG_en && (c.mode == .standby || (c.mode == .activating && c.get F.GLB_MODE_STAT_prev_mode == 4)) then 2 else 0

/-- The role is written to the Carafe control area at each change. -/
def Ctl.roleNote (c : Ctl) : Ctl := c.ctlPut (fun x => { x with role := c.roleNow })

/-- The device is in a new mode: prev_mode, the pending messages of R62, interrupt source 4 of Table 16.4, the times of
GLB_START_TIME, and the ANA states. In a safe stop and its hold the mode stays (R48). -/
def Ctl.setMode (c : Ctl) (m : Mode) : Ctl :=
  if c.mode = m ∨ c.power.stop.isSome then c
  else
    let c1 := if c.mode.msiOk && !m.msiOk then c.flushMessages else c
    let c2 := ((c1.set F.GLB_MODE_STAT_prev_mode c.mode.code).set F.GLB_MODE_STAT_mode m.code).intxUpdate
    let c3 := c2.intSet 4
    let ms := min 0xFFFE (c.dt / 1000000)
    let c4 := if m = .standby ∧ c3.get F.GLB_START_TIME_standby_ms = 0xFFFF then c3.set F.GLB_START_TIME_standby_ms ms else c3
    let c5 := if (m = .active ∨ m = .degraded) ∧ c4.get F.GLB_START_TIME_serve_ms = 0xFFFF then c4.set F.GLB_START_TIME_serve_ms ms
      else c4
    c5.roleNote.anaUpdate

/-! ### Power domains (R31 to R34) -/

/-- Whether GLB_PD_CTRL can switch a domain, Table 2.5. -/
def pdSwitchable (d : Nat) : Bool := [7, 10, 11, 13, 16, 17].contains d

/-- Engine instances of a domain that ENGINE_EN controls (Table 1.1, Table 6.3). -/
def pdEngines (d : Nat) : List (Nat × Nat) :=
  [3, 4, 5, 6, 7].flatMap (fun e => (List.range (clsCount e)).filterMap (fun i => if engineDomain e i = d then some (e, i) else none))

/-- Whether a switch-off is refused by the condition of Table 2.5, other than the drain of D07. -/
def Ctl.pdForbidden (c : Ctl) (d : Nat) : Bool :=
  match d with
  | 10 => c.groups.any (fun g => c.get (F.GAL_GRP_CFG_layout g) == 2)
  | 11 => c.car.units.any (fun u => u.2.comp.isSome)
  | 16 => (List.range 12).any (fun b => c.memState b != 0 && c.memState b != 5)
  | 17 => (List.range 12).any (fun b => c.memState (12 + b) != 0 && c.memState (12 + b) != 5)
  | _ => false

/-- A refused switch-off: last_err, last_dom, and the request bit at 1 again. -/
def Ctl.pdRefuse (c : Ctl) (d err : Nat) : Ctl :=
  ((c.set F.GLB_PD_STAT_last_err err).set F.GLB_PD_STAT_last_dom d).setBitOf F.GLB_PD_CTRL_pd_on d true

/-- The next move of the queue starts: a forbidden switch-off is refused and the one after it taken; the engines of a domain that
goes off are disabled, and D07 drains (R33). -/
def Ctl.pdStart : Nat → Ctl → Ctl
  | 0, c => c
  | n + 1, c =>
    match c.power.pdQueue with
    | [] => c.setFlag F.GLB_PD_STAT_busy false
    | (_, true) :: _ => c.setFlag F.GLB_PD_STAT_busy true
    | (d, false) :: rest =>
      if c.pdForbidden d then
        let c1 := { c with power := { c.power with pdQueue := rest } }
        Ctl.pdStart n (if c.bitOf F.GLB_PD_CTRL_pd_on d then c1 else c1.pdRefuse d 3)
      else
        let c1 := (pdEngines d).foldl (fun c p => c.engineOff p.1 p.2) (c.setFlag F.GLB_PD_STAT_busy true)
        if d = 7 then
          let c2 := ([0, 1, 2, 3, 4] : List Nat).foldl Ctl.noteLow c1.crmDropStackB
          { c2 with power := { c2.power with drainEnd := some (c2.dt + c2.get F.GLB_PD_DRAIN_TO_drain_ms * 1000000) } }
        else c1

/-- Domains that a host power state turns off, Table 5.10. -/
def psOff (ps : Nat) : List Nat := match ps with | 2 => [13] | 3 => [7, 10, 11, 13] | _ => []

/-- Whether domain `d` is to be on: its bit is 1 and the power state in force leaves it on (R32). -/
def Ctl.pdWant (c : Ctl) (d : Nat) : Bool :=
  c.bitOf F.GLB_PD_CTRL_pd_on d && !(c.mode == .idleLow && (psOff (c.get F.HCP_PS_STAT_eff_ps)).contains d)

/-- The moves that bring the domains to what is wanted: ups in ascending order, then offs in descending order (R34). -/
def Ctl.pdMoves (c : Ctl) : List (Nat × Bool) :=
  let ups := (List.range 20).filter (fun d => c.pdWant d && !c.bitOf F.GLB_PD_STAT_pd_is_on d)
  let offs := ((List.range 20).filter (fun d => !c.pdWant d && c.bitOf F.GLB_PD_STAT_pd_is_on d)).reverse
  ups.map (·, true) ++ offs.map (·, false)

/-- The class of drive power state that the power state in force gives the members (R114). -/
def Ctl.memberClass (c : Ctl) : Nat := if c.mode = .idleLow ∧ 2 ≤ c.get F.HCP_PS_STAT_eff_ps then c.get F.HCP_PS_STAT_eff_ps else 0

/-- The drive power state of a class, of a drive with these power states: the highest for PS0 and PS1; for PS2 the lowest operational one
whose exit latency is at most 1 ms; for PS3 the lowest whose exit latency is at most 18 ms (R114). The lowest is the one with the highest
number. -/
def drivePs (cls : Nat) (l : List (Bool × Nat)) : Nat :=
  let fits (p : Bool × Nat) : Bool := if cls = 2 then p.1 && decide (p.2 ≤ 1000) else decide (p.2 ≤ 18000)
  if cls < 2 then 0 else (List.range l.length).foldl (fun n i => if (l[i]?).any fits then i else n) 0

/-- A member that is ready is placed in the drive power state of the power state in force (R114). -/
def Ctl.memberPlace (c : Ctl) (b : Nat) : Ctl :=
  match Tab.at? c.rbd.drives b with
  | none => c
  | some d =>
    let n := drivePs c.memberClass d.states
    if !d.ready || n = d.ps then c
    else ({ c with rbd := { c.rbd with drives := Tab.put c.rbd.drives b { d with ps := n } } }).emit (.memberPower b n)

/-- Every member is placed. -/
def Ctl.memberPower (c : Ctl) : Ctl := (c.groups.flatMap c.grpBays).foldl Ctl.memberPlace c

/-- The domains move to what is wanted, and the members with them; a move in progress is completed first. -/
def Ctl.pdReconcile (c : Ctl) : Ctl :=
  let c1 := c.memberPower
  if c1.flag F.GLB_PD_STAT_busy then c1
  else Ctl.pdStart 21 { c1 with power := { c1.power with pdQueue := c1.pdMoves } }

/-- The sensors of HBM stack B read while D07 is powered (GLB_TEMP_n.valid). -/
def Ctl.pdTemp (c : Ctl) (d : Nat) (on : Bool) : Ctl :=
  if d = 7 then (c.setFlag (F.GLB_TEMP_valid 20) on).setFlag (F.GLB_TEMP_valid 21) on else c

/-- A domain is up: its bit is set, and its engines accept steps again (notes/assumptions/15.md). -/
def Ctl.pdUp (c : Ctl) (d : Nat) : Ctl :=
  let c1 := (c.setBitOf F.GLB_PD_STAT_pd_is_on d true).pdTemp d true
  (pdEngines d).foldl (fun c p => (c.setEngine p.1 p.2 true).setBitOf (F.BST_ENGINE_ACK_ack (8 * p.1 + p.2 / 32)) (p.2 % 32) false) c1

/-- The drive ports of D16 or D17 lose power with it: no port is trained, and no drive behind them is ready. -/
def Ctl.pdPorts (c : Ctl) (d : Nat) : Ctl :=
  let gone (b : Nat) : Bool := (d == 16 && decide (b < 12)) || (d == 17 && decide (12 ≤ b))
  { c with rbd := { c.rbd with
      ports := c.rbd.ports.filter (fun p => !gone p.1), downAt := c.rbd.downAt.filter (fun p => !gone p.1)
      drives := Tab.mapV c.rbd.drives (fun b x => if gone b then { x with ready := false } else x) } }

/-- A domain is off: isolated and unpowered; the ENGINE_EN bits of its instances read 0, and no enable waits (R133). -/
def Ctl.pdDown (c : Ctl) (d : Nat) : Ctl :=
  let c1 := (((c.setBitOf F.GLB_PD_STAT_pd_is_on d false).pdTemp d false).pdPorts d)
  (pdEngines d).foldl (fun c p =>
    let k := engineKey p.1 p.2
    let c2 := if c.engineOn p.1 p.2 then c.setEngine p.1 p.2 false else c
    { c2 with bst := { c2.bst with drain := c2.bst.drain.filter (· != k), reEn := c2.bst.reEn.filter (· != k) } }) c1

/-! ### Full redundancy, and the moves between ACTIVE, DEGRADED and IDLE_LOW (Table 3.2) -/

/-- Whether every group is at full redundancy: no position FAILED or REBUILDING. -/
def Ctl.redundLow (c : Ctl) : Bool :=
  c.groups.any (fun g => (c.grpBays g).any (fun b => c.memState b == 2 || c.memState b == 3))

/-- RBD_GRP_STAT of a group follows its members. -/
def Ctl.grpNote (c : Ctl) (g : Nat) : Ctl :=
  let n (st : Nat) : Nat := ((c.grpBays g).filter (fun b => c.memState b == st)).length
  (((c.set (F.RBD_GRP_STAT_failed g) (n 2)).set (F.RBD_GRP_STAT_rebuilding g) (n 3)).setFlag (F.RBD_GRP_STAT_beyond g)
    (decide (c.grpP g < n 2)))

/-- A deficit: a group below full redundancy, or the peer not synced (Table 3.2). -/
def Ctl.deficit (c : Ctl) : Bool := c.flag F.GLB_MODE_STAT_redund_low || !c.flag F.GLB_MODE_STAT_peer_synced

/-- The mode that serves now, by the deficit (R49 RESUME). -/
def Ctl.serveMode (c : Ctl) : Mode := if c.deficit then .degraded else .active

/-- The lowest-numbered power state held by any association, a discovery one included (R112); 0 with none. -/
def Ctl.minPs (c : Ctl) : Nat :=
  match (c.host.assocs.filter (fun p => !p.2.ending)).map (fun p => p.2.ps) with
  | [] => 0
  | p :: ps => ps.foldl min p

/-- The host power state takes effect: IDLE_LOW is entered from ACTIVE, unless a QUIESCE is in progress, and left to ACTIVE, and a change
waits while DEGRADED (R51, R112). -/
def Ctl.psApply (c : Ctl) : Ctl :=
  let ps := c.minPs
  let c1 := c.set F.HCP_PS_STAT_eff_ps ps
  if 2 ≤ ps then
    match c1.mode with
    | .active => if c1.power.quiescing then c1
      else (({ c1 with power := { c1.power with deferredPs := false } }).setMode .idleLow).pdReconcile
    | .degraded => { c1 with power := { c1.power with deferredPs := true } }
    | .idleLow => c1.pdReconcile
    | _ => c1
  else
    let c2 := { c1 with power := { c1.power with deferredPs := false } }
    if c2.mode = .idleLow then (c2.setMode c2.serveMode).pdReconcile else c2

/-- Redundancy or peer state has changed: redund_low, group states, ANA, and the moves of Table 3.2 (R50 item 4). -/
def Ctl.reassess (c : Ctl) : Ctl :=
  let c1 := (c.groups.foldl Ctl.grpNote c)
  let c2 := (c1.setFlag F.GLB_MODE_STAT_redund_low c1.redundLow).anaUpdate
  match c2.mode with
  | .active => if c2.deficit then c2.setMode .degraded else c2
  | .idleLow => if c2.deficit then (c2.setMode .degraded).pdReconcile else c2
  | .degraded =>
    if c2.deficit then c2
    else
      let c3 := c2.setMode .active
      if c3.power.deferredPs then c3.psApply else c3
  | _ => c2

/-- PS3 exit by the first I/O command (R113): the controllers in PS3 hold PS0 again (notes/assumptions/16.md). -/
def Ctl.psWake (c : Ctl) : Ctl :=
  if c.mode = .idleLow ∧ c.get F.HCP_PS_STAT_eff_ps = 3 then
    let c1 := ({ c with host := { c.host with assocs := Tab.mapV c.host.assocs (fun _ a => if a.ps = 3 then { a with ps := 0 } else a) },
                        power := { c.power with psExit := true } }).psApply
    if c1.flag F.GLB_PD_STAT_busy then c1 else { c1 with power := { c1.power with psExit := false } }
  else c

end Sys2Proof.Machine
end

