-- ==== Sys2Proof/Machine/Members.lean ====
section
/-! DEFINITION. Members of groups (10_rebuild_cupping_regrind.md, R237 to R243): their failure, targets and spares, group enable
and INIT (R195, R196), stripe locks (R246), background budgets (R241, R242), and the abort of a Regrind (R268). -/

namespace Sys2Proof.Machine

/-! ### Progress (R251) -/

/-- Progress of a group, none recorded yet. -/
def Progress.blank : Progress := ⟨0, 0, none, 0, false⟩

/-- Progress of a group. -/
def Ctl.progOf (c : Ctl) (g : Nat) : Progress := Tab.getD c.rbd.prog g Progress.blank

/-- Progress of a group changed by `f`, and noted as changed. -/
def Ctl.progSet (c : Ctl) (g : Nat) (f : Progress → Progress) : Ctl :=
  { c with rbd := { c.rbd with prog := Tab.put c.rbd.prog g { f (c.progOf g) with changed := true } } }

/-! ### Stripe locks (R246) -/

/-- The lock of a stripe. -/
def Ctl.lockOf (c : Ctl) (g s : Nat) : Lock := Tab.getD c.car.locks (grpKey g s) ⟨none, []⟩

/-- Whether an operation may run on a stripe now: it holds the lock, or nobody holds it and nobody waits. -/
def Ctl.lockFree (c : Ctl) (g s : Nat) (b : LockBy) : Bool :=
  (c.lockOf g s).holder == some b || ((c.lockOf g s).holder.isNone && (c.lockOf g s).waits.isEmpty)

/-- A request for a lock that cannot be had now waits (R246). -/
def Ctl.lockWait (c : Ctl) (g s : Nat) (b : LockBy) : Ctl :=
  let k := c.lockOf g s
  if k.waits.contains b then c
  else { c with car := { c.car with locks := Tab.put c.car.locks (grpKey g s) { k with waits := k.waits ++ [b] } } }

/-- A lock that can be had is taken. -/
def Ctl.lockTake (c : Ctl) (g s : Nat) (b : LockBy) : Ctl :=
  { c with car := { c.car with locks := Tab.put c.car.locks (grpKey g s) { c.lockOf g s with holder := some b } } }

/-- A lock is released; with nobody waiting it is gone. -/
def Ctl.lockDrop (c : Ctl) (g s : Nat) : Ctl :=
  let k := c.lockOf g s
  { c with car := { c.car with locks :=
    if k.waits.isEmpty then Tab.del c.car.locks (grpKey g s) else Tab.put c.car.locks (grpKey g s) { k with holder := none } } }

/-- Whether a request is a flush's. -/
def LockBy.flushes : LockBy → Bool
  | .flush _ => true
  | _ => false

/-- A released lock goes to the first waiting flush, else to the first waiter (R246). -/
def Ctl.lockGrant (c : Ctl) (g s : Nat) : Ctl :=
  let k := c.lockOf g s
  if k.holder.isSome then c
  else match (k.waits.find? LockBy.flushes).or k.waits.head? with
    | none => c
    | some b => { c with car := { c.car with locks := Tab.put c.car.locks (grpKey g s) ⟨some b, k.waits.erase b⟩ } }

/-- STRIPE_LOCK_GRANT (R246). -/
def execStripeLockGrant (group : Fin 16) (strp : Nat) (s : State) : Host.Outcome State Fault Refusal :=
  onCtl (fun _ c => c.lockGrant group strp) s

/-! ### Budgets (R241, R242) -/

/-- Rates in bytes per second of the set in use: rebuild, Cupping, Regrind, Test; all 0 while throttled (R43). -/
def Ctl.bgRates (c : Ctl) : Nat × Nat × Nat × Nat :=
  let n := c.get F.TIM_SYNC_STAT_set
  if c.flag F.GLB_THERM_STAT_throttle then (0, 0, 0, 0)
  else (c.get (F.RBD_BSET0_rbd_10mbs n) * 10000000, c.get (F.RBD_BSET0_cup_100mbs n) * 100000000,
        c.get (F.RBD_BSET1_rg_10mbs n) * 10000000, c.get (F.RBD_BSET1_test_100mbs n) * 100000000)

/-- Whether some group has no remaining redundancy (R242). -/
def Ctl.critical (c : Ctl) : Bool := c.groups.any (fun g => decide (c.grpP g ≤ (c.failedPos g).length))

/-- The rebuild rate in force (R242). -/
def Ctl.rbRate (c : Ctl) : Nat :=
  if c.critical && !c.flag F.GLB_THERM_STAT_throttle then max c.bgRates.1 (c.get F.RBD_CFG_crit_10mbs * 10000000) else c.bgRates.1

/-- A bucket after 1 ms at a rate: capped at 10 ms of it. -/
def refillOne (b : Int) (rate : Nat) : Int := min (b + ((rate / 1000 : Nat) : Int)) (((rate / 100 : Nat) : Int))

/-- The buckets after a refill. -/
def Ctl.refillAll (c : Ctl) : Ctl :=
  let r := c.bgRates
  { c with rbd := { c.rbd with
      bktRb := refillOne c.rbd.bktRb c.rbRate, bktCup := refillOne c.rbd.bktCup r.2.1,
      bktRg := refillOne c.rbd.bktRg r.2.2.1, bktTest := refillOne c.rbd.bktTest r.2.2.2, refill := c.dt } }

/-- BUDGET_REFILL (R242): the next whole 1 ms of DT comes. -/
def execBudgetRefill (s : State) : Host.Outcome State Fault Refusal :=
  onCtl (fun _ c => (c.reach ((c.rbd.refill / 1000000 + 1) * 1000000)).refillAll) s

/-! ### Equal shares (R241) -/

/-- Whether the Rebuild (0) or Cupping (1) of a group runs. -/
def Ctl.shareRuns (c : Ctl) (act g : Nat) : Bool :=
  c.grpReady g && c.flag (if act = 0 then F.RBD_GRP_STAT_rb_active g else F.RBD_GRP_STAT_cup_active g)

/-- Bytes charged to an activity of a group. -/
def Ctl.shareOf (c : Ctl) (act g : Nat) : Nat := Tab.getD c.rbd.shares (16 * act + g) 0

/-- Whether the next brew of an activity is a group's: no group where it runs has been charged less. -/
def Ctl.shareTurn (c : Ctl) (act g : Nat) : Bool :=
  (List.range 16).all (fun h => !c.shareRuns act h || decide (c.shareOf act g ≤ c.shareOf act h))

/-- A group's activity is charged `n` bytes. -/
def Ctl.shareAdd (c : Ctl) (act g n : Nat) : Ctl :=
  { c with rbd := { c.rbd with shares := Tab.put c.rbd.shares (16 * act + g) (c.shareOf act g + n) } }

/-- A group whose activity begins stands level with the group charged least. -/
def Ctl.shareJoin (c : Ctl) (act g : Nat) : Ctl :=
  let others := ((List.range 16).filter (fun h => h != g && c.shareRuns act h)).map (c.shareOf act)
  { c with rbd := { c.rbd with shares := Tab.put c.rbd.shares (16 * act + g) (match others with | [] => 0 | x :: xs => xs.foldl min x) } }

/-! ### Regrind records and abort (R264, R265, R268) -/

/-- The Regrind cursor. -/
def Ctl.rgCur (c : Ctl) : Nat := (c.rd Reg.RBD_RG_CUR_LO).toNat + 2 ^ 32 * (c.rd Reg.RBD_RG_CUR_HI).toNat

/-- The state with the Regrind cursor at a unit. -/
def Ctl.setRgCur (c : Ctl) (u : Nat) : Ctl :=
  (c.wr Reg.RBD_RG_CUR_LO (BitVec.ofNat 32 u)).wr Reg.RBD_RG_CUR_HI (BitVec.ofNat 32 (u / 2 ^ 32))

/-- Source and stage group of a Regrind. -/
def Ctl.rgSrc (c : Ctl) : Nat := c.get F.RBD_RG_CFG_src
def Ctl.rgStage (c : Ctl) : Nat := c.get F.RBD_RG_CFG_stage

/-- A 0x0A record: the cursor, the units passed, RBD_RG_CFG, the stage group and the state (R265). -/
def rgRecord (m : Mem) (c : Ctl) (passed state : Nat) : Mem × Ctl :=
  match recWrite m c { JRec.blank Rt.reshape with
    group := c.rgSrc, loc := c.rgCur, count := passed, lines := 1
    data := leBytes 4 (c.rd Reg.RBD_RG_CFG).toNat ++ leBytes 1 c.rgStage ++ leBytes 1 state } with
  | (m1, _, c1) => (m1, c1)

/-- Bays of a group's members leave it. -/
def Ctl.freeBays (c : Ctl) (bays : List Nat) : Ctl :=
  bays.foldl (fun c b => if b < 24 then c.wr (Reg.RBD_MEM_STAT b) 0 else c) c

/-- A group is disabled: its bays, its unit map and its INIT are gone (R205, R268). -/
def Ctl.grpDisable (c : Ctl) (g : Nat) : Ctl :=
  let c1 := c.freeBays (c.grpBays g)
  let c2 := { c1 with
    car := { c1.car with
      umap := Tab.del c1.car.umap g, units := c1.car.units.filter (fun p => p.1 / 2 ^ 40 != g)
      maps := Tab.del c1.car.maps g, forms := c1.car.forms.filter (fun p => p.1 / 2 ^ 40 != g)
      slots := c1.car.slots.filter (fun p => p.2.group != g), ckA := Tab.del c1.car.ckA g, ckB := Tab.del c1.car.ckB g
      ckAt := Tab.del c1.car.ckAt g }
    rbd := { c1.rbd with
      inits := c1.rbd.inits.filter (· != g), cmin := Tab.del c1.rbd.cmin g, prog := Tab.del c1.rbd.prog g
      repairs := c1.rbd.repairs.filter (fun e => e.group != g)
      targets := c1.rbd.targets.filter (fun p => p.1 / 32 != g), formats := c1.rbd.formats.filter (fun p => p.2 / 32 != g) } }
  ((((c2.setFlag (F.GAL_GRP_CFG_en g) false).set (F.GAL_GRP_CFG_state g) 0).wr (Reg.RBD_GRP_STAT g) 0).set (F.GAL_GRP_CFG_err_bay g) 0x1F).set
    F.RBD_REP_STAT_queued c2.rbd.repairs.length

/-- A Regrind is aborted (R268): the record, the stage's slots and dual entries, the stage group and its bays; the state ends IDLE
with the code in err. -/
def rgAbort (m : Mem) (c : Ctl) (err : Nat) : Mem × Ctl :=
  match rgRecord m c 0 6 with
  | (m1, c1) =>
    let c2 := c1.grpDisable c.rgStage
    (m1, (({ c2 with rbd := { c2.rbd with rgRecs := [], rgMap := [] } }).set F.RBD_RG_STAT_state 0).set F.RBD_RG_STAT_err err)

/-- Whether a Regrind in INIT, COPY or COPIED has group `g` as source or stage (R268). -/
def Ctl.rgUses (c : Ctl) (g : Nat) : Bool :=
  let st := c.get F.RBD_RG_STAT_state
  (st == 1 || st == 2 || st == 3) && (g == c.rgSrc || g == c.rgStage)

/-! ### Drives and targets (R240, R243) -/

/-- The drive known in a bay. -/
def Ctl.drive? (c : Ctl) (bay : Nat) : Option Drive := Tab.at? c.rbd.drives bay

/-- Group and position of a bay's member. -/
def Ctl.memGrp (c : Ctl) (bay : Nat) : Nat := c.get (F.RBD_MEM_STAT_group bay)
def Ctl.memPos (c : Ctl) (bay : Nat) : Nat := c.get (F.RBD_MEM_STAT_pos bay)

/-- The key of a position in the target table. -/
def posKey (g pos : Nat) : Nat := 32 * g + pos

/-- A position's rebuild. -/
def Ctl.target? (c : Ctl) (g pos : Nat) : Option Target := Tab.at? c.rbd.targets (posKey g pos)

/-- Whether a test of an opcode and target runs (R405, R406). -/
def Ctl.testOn (c : Ctl) (op target : Nat) : Bool := c.mgt.tests.any (fun t => t.op == op && t.target == target)

/-- Whether a drive can hold a member of a group: ready at x4, of capacity Cmin or more, with the group's block format (R240). -/
def Ctl.driveFits (c : Ctl) (g bay : Nat) : Bool :=
  match c.drive? bay with
  | none => false
  | some d => d.ready && !c.testOn 0x0A21 bay && Tab.at? c.rbd.ports bay == some true && decide (Tab.getD c.rbd.cmin g 0 ≤ d.cap)
      && (if c.flag (F.GAL_GRP_CFG_tagblk g) then d.meta0 else d.meta16)

/-- Whether a label is blank or names another subsystem (R240). -/
def Ctl.foreign (c : Ctl) (d : Drive) : Bool := match d.label with | none => true | some l => l.nqn != c.mgt.nqn

/-- Whether the drive in a bay is a replacement for the bay's position (R240). -/
def Ctl.replacement (c : Ctl) (g bay : Nat) : Bool :=
  c.driveFits g bay && (match c.drive? bay with | some d => c.foreign d | none => false)

/-- The bay is to be formatted and labelled as the target of a position (R243). -/
def Ctl.formatStart (c : Ctl) (g pos bay : Nat) : Ctl :=
  ({ c with rbd := { c.rbd with formats := Tab.put c.rbd.formats bay (posKey g pos) } }).emit (.memberFormat bay g pos)

/-- Position `pos` of group `g` is REBUILDING from the current sweep stripe, or from stripe 0 of a new sweep (R244). -/
def Ctl.rebuildPos (c : Ctl) (g pos : Nat) (spare : Bool) : Ctl :=
  let running := c.flag (F.RBD_GRP_STAT_rb_active g)
  let c1 := if running then c else (c.wr (Reg.RBD_RB_CUR g) 0).shareJoin 0 g
  let c2 := ({ c1 with rbd := { c1.rbd with
    targets := Tab.put c1.rbd.targets (posKey g pos) ⟨(c1.rd (Reg.RBD_RB_CUR g)).toNat, 0, spare⟩ } }).setFlag (F.RBD_GRP_STAT_rb_active g) true
  let c3 := (c2.set (F.RBD_MEM_STAT_state (c2.bayAt g pos)) 3).wr (Reg.RBD_RB_LEFT g) (BitVec.ofNat 32 (c2.grpStot g))
  (if spare then c3.set (F.RBD_SPARE_STAT_pos g) pos else c3).progSet g id

/-- The lowest HOTSPARE bay that fits a group. -/
def Ctl.hotspare (c : Ctl) (g : Nat) : Option Nat :=
  (List.range 24).find? (fun b => c.memState b == 5 && c.driveFits g b)

/-- A hot spare takes a position: the member list names it, and the old bay is no member (R243). -/
def Ctl.takeSpare (c : Ctl) (g pos bay : Nat) : Ctl :=
  let old := c.bayAt g pos
  let c1 := if old < 24 then c.set (F.RBD_MEM_STAT_state old) 0 else c
  let c2 := (c1.setBayAt g pos bay).wr (Reg.RBD_MEM_STAT bay) 0
  (((c2.set (F.RBD_MEM_STAT_state bay) 2).set (F.RBD_MEM_STAT_group bay) g).set (F.RBD_MEM_STAT_pos bay) pos).formatStart g pos bay

/-- Whether spare space can take a position of a group (R243, R250). -/
def Ctl.spareOpen (c : Ctl) (g : Nat) : Bool := c.flag (F.RBD_SPARE_STAT_ok g) && c.get (F.RBD_SPARE_STAT_pos g) == 0x1F

/-- A FAILED position receives a target in the first way of R243 that is available; without one it stays FAILED. -/
def Ctl.pickTarget (c : Ctl) (g pos : Nat) : Ctl :=
  let bay := c.bayAt g pos
  let auto := c.flag F.RBD_CFG_auto_rep
  if c.memState bay != 2 || Tab.has c.rbd.formats bay || !c.grpReady g then c
  else if auto && c.replacement g bay then c.formatStart g pos bay
  else match (if auto then c.hotspare g else none) with
    | some h => c.takeSpare g pos h
    | none => if c.spareOpen g then c.rebuildPos g pos true else c

/-- Every FAILED position looks for a target. -/
def Ctl.pickAll (c : Ctl) : Ctl :=
  c.groups.foldl (fun c g => (c.failedPos g).foldl (fun c p => c.pickTarget g p) c) c

/-! ### Failure (R238, R239) -/

/-- Tokens of member commands outstanding on a bay end DRIVE_ERR (R238, R239). -/
def Ctl.driveErr (c : Ctl) (bay : Nat) : Ctl :=
  { c with bst := { c.bst with brews := Tab.mapV c.bst.brews (fun _ b => { b with tokens := b.tokens.map (fun t =>
      match t.io with
      | some x => if x.bay = bay ∧ !t.arrived then { t with fate := some (t.fate.getD 6) } else t
      | none => t) }) } }

/-- Whether the bay holds a member whose strips are used or written: ONLINE, or REBUILDING onto the bay itself. -/
def Ctl.memLive (c : Ctl) (bay : Nat) : Bool :=
  c.memState bay == 1 || (c.memState bay == 3 && (match c.target? (c.memGrp bay) (c.memPos bay) with | some t => !t.spare | none => true))

/-- MEMBER_FAIL (R238, R239, R248): the member of a bay fails for a cause of Table 10.2. -/
def memFail (m : Mem) (c : Ctl) (bay cause : Nat) : Mem × Ctl :=
  if !c.memLive bay then (m, c)
  else
    let g := c.memGrp bay
    let pos := c.memPos bay
    let over_ := decide (c.grpP g ≤ (c.failedPos g).length)
    if cause = 5 ∧ over_ then (m, c.setFlag (F.RBD_MEM_STAT_ure_hold bay) true)
    else if cause = 8 ∧ over_ then (m, c)
    else
      let c0 := c.faultRecord 0x0F (if over_ then 1 else 0) bay
      let c1 := ((c0.set (F.RBD_MEM_STAT_state bay) 2).set (F.RBD_MEM_STAT_cause bay) cause).driveErr bay
      let c2 := ({ c1 with rbd := { c1.rbd with
        targets := Tab.del c1.rbd.targets (posKey g pos), formats := Tab.del c1.rbd.formats bay } }).progSet g id
      let c3 := if c2.rbd.targets.any (fun p => p.1 / 32 == g) then c2 else c2.setFlag (F.RBD_GRP_STAT_rb_active g) false
      let r := if c3.rgUses g then rgAbort m c3 7 else (m, c3)
      (r.1, (r.2.pickTarget g pos).reassess)

/-- The hour of DT. -/
def Ctl.dtHour (c : Ctl) : Nat := c.dt / 3600000000000

/-- A media error of a member counts in the current hour of DT (R238 cause 5). -/
def mediaError (m : Mem) (c : Ctl) (bay : Nat) : Mem × Ctl :=
  let fresh := Tab.at? c.rbd.hourAt bay != some c.dtHour
  let n := if fresh then 1 else c.get (F.RBD_MEM_STAT_ure_hr bay) + 1
  let c1 := ({ c with rbd := { c.rbd with hourAt := Tab.put c.rbd.hourAt bay c.dtHour } }).set (F.RBD_MEM_STAT_ure_hr bay)
    (min n (F.RBD_MEM_STAT_ure_hr bay).max)
  let c2 := c1.faultRecord 0x10 0 bay
  if c2.get F.RBD_CFG_ure_max < n then memFail m c2 bay 5 else (m, c2)

/-! ### The repair queue (R258) -/

/-- A block joins the repair queue, or is counted when the queue is full. -/
def Ctl.repairAdd (c : Ctl) (e : RepairE) : Ctl :=
  if c.rbd.repairs.contains e then c
  else if 4096 ≤ c.rbd.repairs.length then c.bump F.RBD_REP_STAT_overflow 1
  else ({ c with rbd := { c.rbd with repairs := c.rbd.repairs ++ [e] } }).set F.RBD_REP_STAT_queued (c.rbd.repairs.length + 1)

/-- The member block of a member LBA; none in the label area or a tag block (R201). -/
def Ctl.memberBlock (c : Ctl) (g lba : Nat) : Option Nat :=
  if lba < 256 then none
  else if c.flag (F.GAL_GRP_CFG_tagblk g) then
    (if (lba - 256) % 257 = 256 then none else some ((lba - 256) / 257 * 256 + (lba - 256) % 257))
  else some (lba - 256)

/-- The block at a member LBA of a bay joins the repair queue (R258). -/
def Ctl.repairLba (c : Ctl) (bay lba : Nat) : Ctl :=
  let g := c.memGrp bay
  match c.memberBlock g lba with
  | some mb => c.repairAdd ⟨g, mb / c.grpS g, c.memPos bay, mb % c.grpS g⟩
  | none => c

/-- Group block `b` joins the repair queue. -/
def Ctl.repairBlock (c : Ctl) (g b : Nat) : Ctl :=
  let s := c.stripeOf g b
  c.repairAdd ⟨g, s, c.dataPos g s (c.stripOf g b), c.rowOf g b⟩

/-! ### Group enable (R195, R196, R202, R205) -/

/-- Bays of a group's member list, by the configuration. -/
def Ctl.listBays (c : Ctl) (g : Nat) : List Nat := (c.positions g).map (c.bayAt g)

/-- The lowest offset, in units of 4 MiB, at which `n` units are free of every other group's map. -/
def umapPlace (used : List (Nat × Nat)) (n : Nat) : Nat :=
  let cands := 0 :: used.map (fun p => p.1 + p.2)
  let ok (x : Nat) : Bool := used.all (fun p => decide (x + n ≤ p.1) || decide (p.1 + p.2 ≤ x))
  (cands.filter ok).foldl (fun a x => min a x) (used.foldl (fun a p => max a (p.1 + p.2)) 0)

/-- Least capacity of the drives of a member list. -/
def Ctl.leastCap (c : Ctl) (bays : List Nat) : Nat :=
  match bays.map (fun b => match c.drive? b with | some d => d.cap | none => 0) with
  | [] => 0
  | x :: xs => xs.foldl min x

/-- A group enters INIT after en is committed to 1 (R196): metadata mode, Stot, J and the unit map (R201, R202, R205), the members,
and their formats. -/
def Ctl.grpInit (c : Ctl) (g : Nat) : Ctl :=
  let bays := c.listBays g
  let tagblk := !bays.all (fun b => match c.drive? b with | some d => d.meta16 | none => false)
  let cmin := c.leastCap bays
  let stot := usable tagblk cmin / c.grpS g
  let j := journalStripes (c.grpDS g) stot
  let n := umapUnits (c.grpDS g) stot j
  let off := umapPlace ((Tab.del c.car.umap g).map (·.2)) n
  let c1 := (((c.setFlag (F.GAL_GRP_CFG_en g) true).set (F.GAL_GRP_CFG_state g) 1).setFlag (F.GAL_GRP_CFG_tagblk g) tagblk).set
    (F.GAL_GRP_CFG_err_bay g) 0x1F
  let c2 := ((c1.wr (Reg.GAL_GRP_STRIPES g) (BitVec.ofNat 32 stot)).wr (Reg.GAL_GRP_JRN g) (BitVec.ofNat 32 j)).wr
    (Reg.GAL_GRP_UMOFF g) (BitVec.ofNat 32 (4194304 * off))
  let c3 := { c2 with
    car := { c2.car with umap := Tab.put c2.car.umap g (off, n) }
    rbd := { c2.rbd with inits := c2.rbd.inits ++ [g], cmin := Tab.put c2.rbd.cmin g cmin } }
  (c3.positions g).foldl (fun c p =>
    let b := c.bayAt g p
    if b < 24 then ((((c.wr (Reg.RBD_MEM_STAT b) 0).set (F.RBD_MEM_STAT_state b) 1).set (F.RBD_MEM_STAT_group b) g).set
      (F.RBD_MEM_STAT_pos b) p).emit (.memberFormat b g p) else c) c3

/-- The label of a position (R196). -/
def Ctl.labelOf (c : Ctl) (g p : Nat) : DriveLabel := ⟨g, c.get (F.GAL_GRP_CFG_layout g), p, c.mgt.nqn⟩

/-- The drive of a bay carries a label. -/
def Ctl.setLabel (c : Ctl) (bay : Nat) (l : DriveLabel) : Ctl :=
  { c with rbd := { c.rbd with drives := Tab.upd c.rbd.drives bay (fun d => { d with label := some l }) } }

/-! ### The key store (R293) -/

/-- Present members of READY groups. -/
def Ctl.presentBays (c : Ctl) : List Nat :=
  (c.groups.filter c.grpReady).flatMap (fun g => (c.grpBays g).filter (fun b => match c.drive? b with | some d => d.ready | none => false))

/-- Members of READY groups that are not present. -/
def Ctl.absentBays (c : Ctl) : List Nat :=
  (c.groups.filter c.grpReady).flatMap (fun g => (c.grpBays g).filter (fun b => match c.drive? b with | some d => !d.ready | none => true))

/-- The key-store block of member LBA `lba`: 50 entries of 80 bytes, its write count, and its CRC-32C. -/
def Ctl.storeBlock (c : Ctl) (lba : Nat) : List Byte :=
  let h := (List.range 50).flatMap (fun i => Tab.getD c.keys.store (50 * (lba - 16) + i) (List.replicate 80 0))
    ++ leBytes 8 (Tab.getD c.keys.storeCnt lba 0) ++ List.replicate 84 0
  h ++ leBytes 4 (crc32c h)

/-- A block of the current key store written to members, with FUA. -/
def Ctl.storeTo (c : Ctl) (bays : List Nat) (lba : Nat) : Ctl := c.emit (.keyStore lba (c.storeBlock lba) bays)

/-- INIT and every rebuild target receive the whole store. -/
def Ctl.storeAll (c : Ctl) (bays : List Nat) : Ctl := (List.range 164).foldl (fun c i => c.storeTo bays (16 + i)) c

/-- GROUP_INIT_DONE (R196): the group is READY with its labels, the key store and a first checkpoint, or FAILED with the bay named; a stage group
that fails aborts the Regrind with err 7 (R264). -/
def execGroupInitDone (group : Fin 16) (failBay : Option (Fin 24)) (s : State) : Host.Outcome State Fault Refusal :=
  onAll (fun m c =>
    if !c.rbd.inits.contains group.val then (m, c)
    else
      let c1 := { c with rbd := { c.rbd with inits := c.rbd.inits.filter (· != group.val) } }
      match failBay with
      | some b =>
        let c2 := (c1.set (F.GAL_GRP_CFG_state group) 3).set (F.GAL_GRP_CFG_err_bay group) b
        if c2.get F.RBD_RG_STAT_state == 1 && c2.rgStage == group.val then rgAbort m c2 7 else (m, c2)
      | none =>
        let c2 := (c1.positions group).foldl (fun c p => c.setLabel (c.bayAt group p) (c.labelOf group p)) c1
        match checkpoint m ((c2.set (F.GAL_GRP_CFG_state group) 2).storeAll (c2.grpBays group)) group with
        | (m1, c3) => (m1, c3.reassess)) s

/-! ### Member events -/

/-- Whether the port of a bay trains (Table 2.8): its domain is on, its PERST# is released, and the device holds the lease; in TEST the
ports are under test control. A device without the lease keeps its ports' LTSSM in Detect.Quiet or its lanes idle. -/
def Ctl.portRuns (c : Ctl) (bay : Nat) : Bool :=
  !c.halted && c.bitOf F.GLB_PD_STAT_pd_is_on (if bay < 12 then 16 else 17) && (c.mode == .test || (c.lease && (c.ch bay).perst == .high))

/-- DRIVE_LINK_TRAINED (R10): a port is a member port at x4 with no switch below it; else its bay is present and not usable. -/
def execDriveLinkTrained (bay : Fin 24) (lanes : Nat) (switch : Bool) (s : State) : Host.Outcome State Fault Refusal :=
  onCtl (fun _ c =>
    if !c.portRuns bay then c
    else ({ c with rbd := { c.rbd with
      ports := Tab.put c.rbd.ports bay (decide (4 ≤ lanes) && !switch), downAt := Tab.del c.rbd.downAt bay } }).usableNote bay) s

/-- The position that the configuration gives a bay, in an enabled group. -/
def Ctl.posOfBay (c : Ctl) (bay : Nat) : Option (Nat × Nat) :=
  (c.groups.flatMap (fun g => (c.positions g).map (fun p => (g, p)))).find? (fun x => c.bayAt x.1 x.2 == bay)

/-- Step 12 of Table 3.3 has ended on a starting lease holder when every position of every enabled group has been assessed
(GLB_START_STAT.members_ready). -/
def Ctl.membersNote (c : Ctl) : Ctl :=
  if c.lease && c.mode == .standby && c.pair.take.isNone && c.groups.all (fun g => (c.grpBays g).all (fun b => decide (24 ≤ b) || c.memState b != 0)) then
    c.setFlag F.GLB_START_STAT_members_ready true
  else c

/-- A member not yet assessed since start: its label decides whether it is the member (ONLINE, or REBUILDING, or SPARED, as its
progress record says, or after a takeover as the old active's last heartbeat says), or fails with cause 9; a blank or foreign label leaves it to be declared missing (R238, R240, R251). -/
def driveAtStart (m : Mem) (c : Ctl) (bay g p : Nat) (d : Drive) : Mem × Ctl :=
  let c1 := (c.set (F.RBD_MEM_STAT_group bay) g).set (F.RBD_MEM_STAT_pos bay) p
  match d.label with
  | none => (m, c)
  | some l =>
    if l = c.labelOf g p then
      let st := match c.target? g p with | some _ => 3 | none => if c.get (F.RBD_SPARE_STAT_pos g) = p then 4 else 1
      let was := if c.pair.take.isSome then (match c.pair.shadowed with | some x => x.2.getD bay 0 | none => 0) else 0
      (m, (c1.set (F.RBD_MEM_STAT_state bay) (if was = 2 ∨ was = 3 ∨ was = 4 then was else st)).membersNote)
    else 
      match memFail m (c1.set (F.RBD_MEM_STAT_state bay) 1) bay 9 with
      | (m1, c2) => (m1, c2.membersNote)

/-- A drive on a member port is ready (R240): a member is assessed, a replacement is taken, and a labelled drive in the bay of a FAILED
position is reported with cause 9. -/
def driveTake (m : Mem) (c : Ctl) (bay : Nat) (d : Drive) : Mem × Ctl :=
  match c.posOfBay bay with
  | none => (m, c.pickAll.reassess)
  | some (g, p) =>
    if c.memState bay = 0 then
      match driveAtStart m c bay g p d with
      | (m1, c2) => (m1, c2.reassess)
    else if c.memState bay = 2 then
      let c2 := if !c.foreign d && !Tab.has c.rbd.formats bay then c.set (F.RBD_MEM_STAT_cause bay) 9 else c
      (m, c2.pickAll.reassess)
    else if c.memState bay = 4 && c.flag F.RBD_CFG_auto_rep && c.replacement g bay then (m, c.formatStart g p bay)
    else (m, c.pickAll)

/-- DRIVE_READY (R240): CSTS.RDY rises on a port that runs, and a reset drive is back; behind a port that is no member port (R10) nothing
more follows. A member is placed in the drive power state of the power state in force (R114). -/
def execDriveReady (bay : Fin 24) (cap : Nat) (meta16 meta0 : Bool) (label : Option DriveLabel) (states : List (Bool × Nat))
    (s : State) : Host.Outcome State Fault Refusal :=
  onAll (fun m c =>
    let d : Drive := ⟨true, cap, meta16, meta0, label, states, 0⟩
    let c1 := { c with rbd := { c.rbd with drives := Tab.put c.rbd.drives bay d, resetAt := Tab.del c.rbd.resetAt bay } }
    if !c.portRuns bay then (m, c)
    else if Tab.at? c1.rbd.ports bay != some true then (m, c1)
    else match driveTake m c1 bay d with
      | (m1, c2) => (m1, c2.memberPower)) s

/-- TARGET_FORMAT_DONE (R243): the target of a position is formatted and labelled, and the position is REBUILDING. -/
def execTargetFormatDone (bay : Fin 24) (s : State) : Host.Outcome State Fault Refusal :=
  onCtl (fun _ c =>
    match Tab.at? c.rbd.formats bay with
    | none => c
    | some k =>
      let c1 := { c with rbd := { c.rbd with formats := Tab.del c.rbd.formats bay } }
      ((((c1.setLabel bay (c1.labelOf (k / 32) (k % 32))).storeAll [bay]).rebuildPos (k / 32) (k % 32) false).reassess)) s

/-- MEMBER_LINK_FAIL_TIMEOUT (R238 cause 2): the port has been down for link_fail_s of DT. -/
def execMemberLinkFailTimeout (bay : Fin 24) (s : State) : Host.Outcome State Fault Refusal :=
  onAll (fun m c =>
    match Tab.at? c.rbd.downAt bay with
    | none => (m, c)
    | some t => memFail m (c.reach (t + c.get F.RBD_CFG_link_fail_s * 1000000000)) bay 2) s

/-- MEMBER_COMMAND_TIMEOUT (R238 cause 3): the drive's controller is reset, and its commands end DRIVE_ERR. -/
def execMemberCommandTimeout (bay : Fin 24) (s : State) : Host.Outcome State Fault Refusal :=
  onCtl (fun _ c =>
    if (c.bst.brews.any (fun p => p.2.tokens.any (fun t => !t.arrived && (t.io.map (·.bay)) == some bay.val))) then
      (({ c with rbd := { c.rbd with
          resetAt := Tab.put c.rbd.resetAt bay c.dt
          drives := Tab.upd c.rbd.drives bay (fun d => { d with ready := false }) } }).driveErr bay).emit (.memberReset bay)
    else c) s

/-- MEMBER_RESET_TIMEOUT (R238 cause 3): no CSTS.RDY within 2 s of the reset. -/
def execMemberResetTimeout (bay : Fin 24) (s : State) : Host.Outcome State Fault Refusal :=
  onAll (fun m c =>
    match Tab.at? c.rbd.resetAt bay with
    | none => (m, c)
    | some t =>
      let c1 := c.reach (t + 2000000000)
      memFail m { c1 with rbd := { c1.rbd with resetAt := Tab.del c1.rbd.resetAt bay } } bay 3) s

/-- DRIVE_CRITICAL_WARNING (R238 cause 4). -/
def execDriveCriticalWarning (bay : Fin 24) (s : State) : Host.Outcome State Fault Refusal :=
  onAll (fun m c => memFail m c bay 4) s

/-! ### RBD_MEM_CMD -/

/-- RBD_MEM_CMD op 1: a live member fails by management, unless its group would go beyond redundancy (R239, R243). -/
def rbdFail (m : Mem) (c : Ctl) (bay : Nat) : Mem × Ctl :=
  if !c.memLive bay then (m, c.set F.RBD_CMD_STAT_err 1)
  else if c.grpP (c.memGrp bay) ≤ (c.failedPos (c.memGrp bay)).length then (m, c.set F.RBD_CMD_STAT_err 2)
  else memFail m (c.set F.RBD_CMD_STAT_err 0) bay 8

/-- RBD_MEM_CMD op 2: a bay that is no member and holds a ready drive becomes a HOTSPARE. -/
def Ctl.rbdSpare (c : Ctl) (bay : Nat) : Ctl :=
  if 24 ≤ bay || c.memState bay != 0 || !(match c.drive? bay with | some d => d.ready | none => false) || (c.posOfBay bay).isSome then
    c.set F.RBD_CMD_STAT_err 1
  else (((c.wr (Reg.RBD_MEM_STAT bay) 0).set (F.RBD_MEM_STAT_state bay) 5).set F.RBD_CMD_STAT_err 0).pickAll.reassess

/-- RBD_MEM_CMD op 3: a HOTSPARE is released. -/
def Ctl.rbdRelease (c : Ctl) (bay : Nat) : Ctl :=
  if c.memState bay != 5 then c.set F.RBD_CMD_STAT_err 1
  else (c.set (F.RBD_MEM_STAT_state bay) 0).set F.RBD_CMD_STAT_err 0

/-- RBD_MEM_CMD op 4: the labelled drive in the bay of a FAILED position becomes its replacement; err 3 where it is smaller than
Cmin. -/
def Ctl.rbdUse (c : Ctl) (bay : Nat) : Ctl :=
  match c.drive? bay with
  | none => c.set F.RBD_CMD_STAT_err 1
  | some d =>
    if c.memState bay != 2 || d.label.isNone || !d.ready || Tab.has c.rbd.formats bay then c.set F.RBD_CMD_STAT_err 1
    else if d.cap < Tab.getD c.rbd.cmin (c.memGrp bay) 0 then c.set F.RBD_CMD_STAT_err 3
    else if !c.driveFits (c.memGrp bay) bay then c.set F.RBD_CMD_STAT_err 1
    else (c.formatStart (c.memGrp bay) (c.memPos bay) bay).set F.RBD_CMD_STAT_err 0

/-- A write of RBD_MEM_CMD; other ops are ignored. -/
def memCmd (m : Mem) (c : Ctl) (bay op : Nat) : Mem × Ctl :=
  match op with
  | 1 => rbdFail m c bay
  | 2 => (m, c.rbdSpare bay)
  | 3 => (m, c.rbdRelease bay)
  | 4 => (m, c.rbdUse bay)
  | _ => (m, c)

/-- RBD_FAIL_MEMBER (R243). -/
def execRbdFailMember (bay : Fin 24) (s : State) : Host.Outcome State Fault Refusal :=
  onAll (fun m c => if c.bar0Open then memCmd m c bay 1 else (m, c)) s

/-- RBD_DESIGNATE_HOTSPARE (R243). -/
def execRbdDesignateHotspare (bay : Fin 24) (s : State) : Host.Outcome State Fault Refusal :=
  onAll (fun m c => if c.bar0Open then memCmd m c bay 2 else (m, c)) s

/-- RBD_RELEASE_HOTSPARE (R243). -/
def execRbdReleaseHotspare (bay : Fin 24) (s : State) : Host.Outcome State Fault Refusal :=
  onAll (fun m c => if c.bar0Open then memCmd m c bay 3 else (m, c)) s

/-- RBD_USE_LABELLED_DRIVE (R240). -/
def execRbdUseLabelledDrive (bay : Fin 24) (s : State) : Host.Outcome State Fault Refusal :=
  onAll (fun m c => if c.bar0Open then memCmd m c bay 4 else (m, c)) s

end Sys2Proof.Machine
end

