-- ==== Sys2Proof/Machine/BayCore.lean ====
section
/-! DEFINITION. The bay-power channels (14_bay_power.md): their states, events, gates and latches, keeper modes (R40), and what a device
that takes the lease does with each bay (R346, R375). -/

namespace Sys2Proof.Machine

/-- A channel enters a state. -/
def Ctl.chTo (c : Ctl) (b st : Nat) : Ctl :=
  ((c.set (F.BAY_CH_STAT_state b) st).onCh b (fun x => { x with since := c.dt })).usableNote b

/-- The measurement registers show a sample. -/
def Ctl.bayMeas (c : Ctl) (b : Nat) (v : BaySample) : Ctl :=
  (((c.set (F.BAY_CH_MEAS0_vsrc_mv b) v.vsrc).set (F.BAY_CH_MEAS0_vin_mv b) v.vin).set (F.BAY_CH_MEAS1_tfet b) v.tfet).set
    (F.BAY_CH_MEAS1_i_ma b) v.i

/-- A bay event joins the ring (R378, Table 14.5). -/
def Ctl.bayEvent (c : Ctl) (b ev cause from_ : Nat) (v : BaySample) : Ctl :=
  let e : BayEvt :=
    { dt := c.dt, dntS := if c.unsync then 2 ^ 48 - 1 else c.dntNs / 1000000000, bay := b, event := ev, cause := cause,
      flags := (if c.power.pwrLow then 1 else 0) + (if from_ = Ch.keeper then 2 else 0), old := from_, new := c.chSt b,
      vin := v.vin, vsrc := v.vsrc, i := v.i, tfet := v.tfet }
  let es := c.bay.events ++ [e]
  let c1 := if 1024 < es.length then c.bump F.BAY_EVT_STAT_lost 1 else c
  { c1.set F.BAY_EVT_STAT_held (min 1024 es.length) with
    bay := { c1.bay with events := es.drop (es.length - 1024), evtNum := c1.bay.evtNum + 1 } }

/-- The 28 bytes of a bay event before its crc. -/
def BayEvt.body (e : BayEvt) : List Byte :=
  leBytes 8 e.dt ++ leBytes 6 e.dntS ++ leBytes 1 e.bay ++ leBytes 1 e.event ++ leBytes 1 e.cause ++ leBytes 1 e.flags ++ leBytes 1 e.old
    ++ leBytes 1 e.new ++ leBytes 2 e.vin ++ leBytes 2 e.vsrc ++ leBytes 2 e.i ++ leBytes 2 e.tfet

/-- Log page CAh (R378): the header, then the records, oldest first. -/
def Ctl.bayPage (c : Ctl) : List Byte :=
  leBytes 8 c.bay.evtNum ++ leBytes 4 c.bay.events.length ++ leBytes 4 (c.get F.BAY_EVT_STAT_lost) ++ leBytes 48 0
    ++ c.bay.events.flatMap (fun e => e.body ++ leBytes 4 (crc32c e.body))

/-- VSRC is at or above 92 %, or 90 %, of VIN (R365, R370, R364). -/
def at92 (v : BaySample) : Bool := decide (92 * v.vin ≤ 100 * v.vsrc)
def at90 (v : BaySample) : Bool := decide (90 * v.vin ≤ 100 * v.vsrc)

/-- The drive of a bay loses its port: PERST# is low, so its controller is not ready and its link is down. -/
def Ctl.perstLow (c : Ctl) (b : Nat) : Ctl :=
  let c1 := c.onCh b (fun x => { x with perst := .low, pgAt := none, perstAt := none })
  { c1 with rbd := { c1.rbd with
      drives := Tab.upd c1.rbd.drives b (fun d => { d with ready := false }), ports := Tab.del c1.rbd.ports b } }

/-- The fault timer stops and returns to 0, and the limit releases. -/
def Ctl.timerStop (c : Ctl) (b : Nat) : Ctl :=
  (((c.setFlag (F.BAY_CH_STAT_limit b) false).setFlag (F.BAY_CH_STAT_timer b) false).set (F.BAY_CH_STAT_tmr_us b) 0).onCh b
    (fun x => { x with timerAt := none, tripped := false, holdEnd := none })

/-- The gate is off and PG low; PERST# is low too (R370, R371). -/
def Ctl.gateOff (c : Ctl) (b : Nat) : Ctl :=
  ((((c.timerStop b).setFlag (F.BAY_CH_STAT_pg b) false).onCh b (fun x =>
    { x with gate := .driven false, pg := .driven false, off := none, want := false })).perstLow b)

/-- The fault timer starts, unless it runs (R366, R367). -/
def Ctl.timerStart (c : Ctl) (b : Nat) : Ctl :=
  if (c.ch b).timerAt.isSome then c else (c.setFlag (F.BAY_CH_STAT_timer b) true).onCh b (fun x => { x with timerAt := some c.dt })

/-- PG asserts when R370 says (ON, VSRC at 92 % of VIN, no fault timer): its event, and PERST#'s release to come. -/
def Ctl.pgCheck (c : Ctl) (b : Nat) (v : BaySample) : Ctl :=
  if c.chSt b = Ch.on ∧ at92 v ∧ !(c.ch b).timerAt.isSome ∧ !c.flag (F.BAY_CH_STAT_pg b) then
    ((c.setFlag (F.BAY_CH_STAT_pg b) true).onCh b (fun x => { x with pg := .driven true, pgAt := some c.dt })).bayEvent b 4 0 Ch.on v
  else c

/-- The bay fails its member with cause 6, if it holds one; in the hold after a safe stop no member is served. -/
def bayMember (m : Mem) (c : Ctl) (b : Nat) : Mem × Ctl := if c.power.stop.isSome then (m, c) else memFail m c b 6

/-- A latch cause arises (R372, R376): gate off, PG and PERST# low, the member fails, the event, and fault 0x11 where the cause is one of
current or heat (Table 13.8); after PWRFAIL_N is accepted the gate goes off with no latch. -/
def bayLatch (m : Mem) (c : Ctl) (b cause : Nat) (v : BaySample) : Mem × Ctl :=
  let from_ := c.chSt b
  let c1 := ((c.bayMeas b v).gateOff b).onCh b (fun x => { x with cycle := false, againAt := none, checkAt := none })
  if c.power.pwrLow then (m, (if from_ = Ch.keeper then c1 else c1.chTo b Ch.idle).bayEvent b 8 cause from_ v)
  else
    let c2 := ((c1.chTo b Ch.latched).set (F.BAY_CH_STAT_cause b) cause).setBitOf F.BAY_STAT_latched b true
    let c3 := (c2.usableNote b).bayEvent b 8 cause from_ v
    bayMember m (if cause ≤ 3 then c3.faultRecord 0x11 0 b else c3) b

/-- A channel that reaches IDLE otherwise than by a commanded OFF waits for a ramp slot with auto = 1 and en = 1 (Table 14.2). -/
def Ctl.chIdle (c : Ctl) (b : Nat) : Ctl :=
  (c.chTo b Ch.idle).onCh b (fun x => { x with want := c.flag (F.BAY_CH_CFG_auto b) && c.flag (F.BAY_CH_CFG_en b) })

/-- Step 9 of Table 3.3 has ended when no channel waits for a slot or ramps (GLB_START_STAT.bays_up). -/
def Ctl.baysUpNote (c : Ctl) : Ctl :=
  if c.lease && (List.range 24).all (fun b => !(c.ch b).want && c.chSt b != Ch.precheck && c.chSt b != Ch.ramp
      && (c.chSt b != Ch.on || c.flag (F.BAY_CH_STAT_pg b))) then c.setFlag F.GLB_START_STAT_bays_up true
  else c

/-! ### Keeper modes (R40) -/

/-- The level of a node as the device last drove or sampled it. -/
def NodeDrive.level : NodeDrive → Bool
  | .hiZ => false
  | .driven h => h
  | .keeper h => h
  | .follower h => h

/-- Every channel enters KEEPER: fixed keepers at the present levels, or follower keepers; the SEAT debounce goes on (R40, R375). -/
def Ctl.baysKeep (c : Ctl) (follow : Bool) : Ctl :=
  (List.range 24).foldl (fun c b =>
    let x := c.ch b
    let k (n : NodeDrive) : NodeDrive := if follow then .follower n.level else .keeper n.level
    let c1 := ((c.timerStop b).onCh b (fun y =>
      { y with
        gate := k x.gate, pg := k x.pg, want := false, off := none, cycle := false, checkAt := none, againAt := none
        seated := x.seated || c.chSt b == Ch.idle || c.chSt b == Ch.on })).set (F.BAY_CH_STAT_cause b) 0
    c1.chTo b Ch.keeper) (c.set F.BAY_STAT_latched 0)

/-! ### Taking the lease (R346, R375) -/

/-- A bay that is on with its gate high is driven on with no ramp and its fault timers at zero. -/
def Ctl.bayHold (c : Ctl) (b : Nat) (v : BaySample) : Ctl :=
  let c1 := ((c.timerStop b).onCh b (fun x => { x with gate := .driven true, pg := .driven false, perst := if x.perst = .high then .high else .low })).chTo b Ch.on
  (c1.bayMeas b v).pgCheck b v

/-- A bay is driven off: EMPTY without a drive, SEATING while the debounce runs, else IDLE. -/
def Ctl.bayOffState (c : Ctl) (b : Nat) : Ctl :=
  let c1 := c.gateOff b
  if !c1.seat b then c1.chTo b Ch.empty
  else if (c1.ch b).seated then c1.chTo b Ch.idle
  else c1.chTo b Ch.seating

/-- What a device that takes the lease does with a bay: by the shadowed channel state and the sampled gate level (R346), or, with no
shadowed state, by the sampled gate and VSRC (R375). A drive seated since the last heartbeat is a new insertion. -/
def Ctl.bayTake (c : Ctl) (b : Nat) (shadow : Option Nat) (v : BaySample) : Ctl :=
  let high := (c.ch b).gate.level
  let again (c : Ctl) : Ctl :=
    let c1 := c.bayOffState b
    if c1.chSt b = Ch.idle then c1.chIdle b else c1
  match shadow with
  | some st =>
    if st = Ch.on ∧ high then c.bayHold b v
    else if [Ch.on, Ch.ramp, Ch.precheck, Ch.empty, Ch.seating].contains st then again c
    else c.bayOffState b
  | none => if c.seat b && high && at92 v then c.bayHold b v else again c

/-- Every bay is handled (R345 step 3). -/
def Ctl.baysTake (c : Ctl) (shadow : Option (List Nat)) (vs : List BaySample) : Ctl :=
  ((List.range 24).foldl (fun c b => c.bayTake b (shadow.map (fun l => l.getD b 0)) (vs.getD b ⟨0, 0, 0, 0⟩)) c).baysUpNote

end Sys2Proof.Machine
end

