-- ==== Sys2Proof/Machine/Aer.lean ====
section
/-! DEFINITION. Advanced Error Reporting of the service endpoint (16_service_endpoint.md, R413, Table 16.3), at the bit places and by the
logging and signalling of the PCI Express Base Specification (notes/assumptions/32.md). -/

namespace Sys2Proof.Machine

/-- The bit of a correctable error in the Correctable Error Status register. -/
def aerCorBit : AerErr → Option Nat
  | .receiver => some 0
  | .badTlp => some 6
  | .badDllp => some 7
  | .replayRollover => some 8
  | .replayTimer => some 12
  | .correctedInternal => some 14
  | .headerOverflow => some 15
  | _ => none

/-- The bit of an uncorrectable error in the Uncorrectable Error Status register. -/
def aerUncBit : AerErr → Option Nat
  | .dlProtocol => some 4
  | .poisoned => some 12
  | .fcProtocol => some 13
  | .cplTimeout => some 14
  | .completerAbort => some 15
  | .unexpectedCpl => some 16
  | .receiverOverflow => some 17
  | .malformed => some 18
  | .ecrc => some 19
  | .unsupported => some 20
  | .internal => some 22
  | _ => none

/-- The errors that log the header of a TLP. -/
def aerHasHeader : AerErr → Bool
  | .poisoned | .unexpectedCpl | .malformed | .ecrc | .unsupported => true
  | _ => false

/-- The state with a Device Status bit set. -/
def Ctl.devStatSet (c : Ctl) (b : Nat) : Ctl := { c with ept := { c.ept with devStat := c.ept.devStat ||| BitVec.ofNat 4 (2 ^ b) } }

/-- An error message leaves, while the function can send one (R414: in D3hot it issues PME messages only). -/
def Ctl.aerSend (c : Ctl) (sev : Nat) : Ctl := if c.eptSends then c.emit (.aerMsg sev) else c

/-- The status bit of a correctable error is set, and ERR_COR leaves where it is unmasked and reporting is enabled. -/
def Ctl.aerCor (c : Ctl) (b : Nat) : Ctl :=
  let c1 := ({ c with ept := { c.ept with aerCStat := c.ept.aerCStat ||| BitVec.ofNat 32 (2 ^ b) } }).devStatSet 0
  if !c.ept.aerCMask.getLsbD b && c.ept.devCtl.getLsbD 0 then c1.aerSend 0 else c1

/-- An unmasked uncorrectable error is the First Error when none is held, with its header in the header log; a second header overflows
it. -/
def Ctl.aerFirstSet (c : Ctl) (b : Nat) (hdr : Option (List Word)) : Ctl :=
  match c.ept.aerFirst, hdr with
  | none, some h => { c with ept := { c.ept with aerFirst := some b, hdrLog := h } }
  | none, none => { c with ept := { c.ept with aerFirst := some b } }
  | some _, some _ => c.aerCor 15
  | some _, none => c

/-- The status bit of an uncorrectable error is set; unmasked, it is logged. -/
def Ctl.aerUncLog (c : Ctl) (b : Nat) (hdr : Option (List Word)) : Ctl :=
  let c1 := { c with ept := { c.ept with aerUStat := c.ept.aerUStat ||| BitVec.ofNat 32 (2 ^ b) } }
  if c.ept.aerUMask.getLsbD b then c1 else c1.aerFirstSet b hdr

/-- An uncorrectable error at its severity: ERR_FATAL or ERR_NONFATAL leaves where it is unmasked and reporting or SERR# is enabled, and an
Unsupported Request also needs its reporting enabled; an advisory non-fatal one is told as a correctable one. -/
def Ctl.aerUnc (c : Ctl) (e : AerErr) (b : Nat) (adv : Bool) (hdr : Option (List Word)) : Ctl :=
  let fatal := c.ept.aerUSev.getLsbD b
  let c0 := if e = .unsupported then c.devStatSet 3 else c
  if adv && !fatal then
    (if c.ept.aerCMask.getLsbD 13 then c0 else c0.aerUncLog b hdr).aerCor 13
  else
    let c1 := (c0.devStatSet (if fatal then 2 else 1)).aerUncLog b hdr
    let on := c.ept.command.getLsbD 8 || (c.ept.devCtl.getLsbD (if fatal then 2 else 1) && (e != .unsupported || c.ept.devCtl.getLsbD 3))
    if !c.ept.aerUMask.getLsbD b && on then c1.aerSend (if fatal then 2 else 1) else c1

/-- An error of Table 16.3, with the header of its TLP; Completer Abort is never signalled. -/
def Ctl.aerLog (c : Ctl) (e : AerErr) (adv : Bool) (hdr : List Word) : Ctl :=
  match aerCorBit e, aerUncBit e with
  | some b, _ => c.aerCor b
  | none, some b => if e = .completerAbort then c else c.aerUnc e b adv (if aerHasHeader e then some hdr else none)
  | none, none => c

/-- An error whose TLP's header the command does not give: the header logged is open. -/
def Ctl.aerFree (c : Ctl) (e : AerErr) (adv : Bool) : Ctl :=
  (c.tookN 4).aerLog e adv ((List.range 4).map (fun i => BitVec.ofNat 32 (Config.freeNat (c.fv + i))))

/-- An Unsupported Request (R410): one that asks for a completion is advisory. -/
def Ctl.aerUr (c : Ctl) (nonPosted : Bool) : Ctl := c.aerFree .unsupported nonPosted

end Sys2Proof.Machine
end

