-- ==== Sys2Proof/Machine/CarSteps.lean ====
section
/-! DEFINITION. The steps of the Carafe controllers (class 0x0C, Table 9.10) for writes and reads: RESERVE, INDEX, LAND, VOID, READ,
and the persistence of headers. An argument that depends on the command is taken from the brew's lookup record
(notes/assumptions/17.md). -/

namespace Sys2Proof.Machine

/-- The slot a step names as src, dst or aux. -/
def Issued.srcSlot (i : Issued) : Option BrewSlot := i.brew.slot? i.step.src
def Issued.dstSlot (i : Issued) : Option BrewSlot := i.brew.slot? i.step.dst
def Issued.auxSlot (i : Issued) : Option BrewSlot := i.brew.slot? i.step.aux

/-- Byte address of a slot's buffer, 0 without one. -/
def slotAddr (x : Option BrewSlot) : Nat := match x with | some s => ptrByte s.ptr | none => 0

/-! ### RESERVE (R207, R214, R215, R220) -/

/-- Lines that a step's records would take, at most. -/
def reserveLines (zero : Bool) (n : Nat) : Nat := if zero then 1 else (n * 4112 + 63) / 64 + 2 * (n / 64 + 2)

/-- Whether RESERVE is held: a pending allocation of another brew, a full table, or no room in the ring. -/
def reserveHold (tag : Nat) (m : Mem) (c : Ctl) (i : Issued) : Bool :=
  match stepRange m c tag i with
  | none => false
  | some (ns, l, n) =>
    let zero := i.step.arg0 % 2 == 1
    (!zero && c.allocHeld tag (c.nsGroup ns) (c.nsBlock ns l) n)
      || decide (2097152 ≤ c.car.idx.length) || decide (4096 ≤ c.car.ranges.length) || decide (slotCount ≤ c.car.slots.length)
      || decide (ringLines < c.ringUsed + 2 * reserveLines zero n)

/-- RESERVE: QUOTA 0x40 where new units would take the tenant above its quota (R207). -/
def carReserveAct (tag : Nat) (i : Issued) (m : Mem) (c : Ctl) : Act :=
  match stepRange m c tag i with
  | none => .ok m c
  | some (ns, l, n) =>
    let done (c1 : Ctl) : Act := match padsWrite m c1.noteRing with | (m2, c2) => .ok m2 c2
    if i.step.arg0 % 2 = 1 then (if n = 0 then .ok m c else done (c.reserveZero tag ns l n))
    else match i.srcSlot, i.auxSlot with
      | some x, some y =>
        let t := c.nsTenant ns
        let add := 65536 * (c.newUnits (c.nsGroup ns) (c.nsBlock ns l) n).length
        if 0 < add ∧ c.tenQuota t ≠ 2 ^ 64 - 1 ∧ c.tenQuota t < c.tenUse t + c.pendOf t + add then .refuse m c 0x40
        else done (c.reservePieces tag ns l (ptrByte x.ptr) (ptrByte y.ptr) (pieces n l n))
      | _, _ => .refuse m c 0x02

/-- CAR_RESERVE (R207). -/
def execCarReserve (tag : Nat) (s : State) : Host.Outcome State Fault Refusal :=
  onAll (fun m c => issueUnless (reserveHold tag m c) m c tag Cls.car 0x01 false (carReserveAct tag)) s

/-! ### INDEX (R214, R221) -/

/-- Records of a tag not yet landed. -/
def Ctl.unlanded (c : Ctl) (tag : Nat) : List JRec :=
  (c.ownRecs tag).filter (fun r => !r.landed && (r.typ == Rt.data || r.typ == Rt.zero))

/-- CAR_INDEX (R214): entries, ranges and slots of the brew's records; held while a table is full. -/
def execCarIndex (tag : Nat) (s : State) : Host.Outcome State Fault Refusal :=
  onAll (fun m c => issueUnless (fun _ => c.indexFull (c.unlanded tag)) m c tag Cls.car 0x02 false (fun _ m c =>
    .ok m ((c.unlanded tag).foldl (Ctl.indexRec tag) c).noteRing)) s

/-! ### LAND (R217) -/

/-- A record takes its data and tags from the write brew's buffers and is written to the ring. -/
def landRec (acc : Mem × Ctl) (r : JRec) : Mem × Ctl :=
  let m := acc.1
  let x : JRec := { r with landed := true, mirrored := acc.2.mirroring, data := if r.typ = Rt.data then m.bytes .hbm r.buf (4096 * r.count) ++ m.bytes .hbm r.tagBuf (16 * r.count) else [] }
  (recStore m x, acc.2.mapRecs (fun y => if y.seq = r.seq then x else y))

/-- LAND writes every record of the brew to the local ring and, when mirroring, to the peer's; a failed local Carafe settles the
token as CAR_UE. -/
def carLandAct (tag : Nat) (_ : Issued) (m : Mem) (c : Ctl) : Act :=
  let rs := c.unlanded tag
  if c.car.failed then { Act.ok m c with fate := some 0x41 }
  else
    let bytes := (rs.map (fun r => 64 * r.size)).sum
    match rs.foldl landRec (m, c) with
    | (m1, c1) =>
      let c2 := ((c1.tev .car 0 0 none (c.ctxOf tag) rs.length).tev .car 1 0 none (c.ctxOf tag) bytes)
      .ok m1 (if c.mirroring then (c2.emit (.mirror (rs.map (·.seq)))).tev .car 5 0 none (c.ctxOf tag) bytes else c2)

/-- CAR_LAND (R217): a brew with no record, or a failed Carafe, has its token at once. -/
def execCarLand (tag : Nat) (s : State) : Host.Outcome State Fault Refusal :=
  onAll (fun m c =>
    match issue m c tag Cls.car 0x03 false (carLandAct tag) with
    | (m1, c1) =>
      if c.car.failed then (m1, c1.carToken tag 0x03 0x41)
      else if (c.ownRecs tag).isEmpty then (m1, c1.carToken tag 0x03 0) else (m1, c1)) s

/-- CARAFE_HEADER_PERSISTENT (R217): the header of record `seq` is persistent in the local ring. -/
def execCarafeHeaderPersistent (seq : Nat) (s : State) : Host.Outcome State Fault Refusal :=
  onCtl (fun _ c => c.headerPersistent seq) s

/-- CAR_VOID (R219): ends OK at once in a brew that reserved nothing. -/
def execCarVoid (tag : Nat) (s : State) : Host.Outcome State Fault Refusal :=
  onAll (fun m c => issue m c tag Cls.car 0x04 false (fun _ m c => match voidOwn m c tag with | (m1, c1) => .ok m1 c1)) s

/-! ### READ (R171, R214, R232, R235) -/

/-- Blocks of a command that lie in grain number `k` of it, by namespace LBA, and how far into the grain's part each lies. -/
def Ctl.grainPart (c : Ctl) (r : LookupRec) (k : Nat) : List Nat :=
  let gb := grainBlocks (c.nsGrain r.nsid)
  let gi := c.recFirst r + k
  (List.range gb).filterMap (fun j =>
    let l := gi * gb + j
    if r.slba ≤ l ∧ l ≤ r.slba + r.nlb then some l else none)

/-- Data that Carafe supplies for a block: its 4,096 bytes; none where its record cannot be read and no synced peer has it. -/
def Ctl.carBlock (m : Mem) (c : Ctl) (e : IdxE) : Option (List Byte) :=
  match e.kind, c.recBy e.seq with
  | .zero, _ => some (List.replicate 4096 0)
  | .pending, some r => some (m.bytes .hbm (r.buf + 4096 * e.pos) 4096)
  | .landed, some r => if !(r.badLines e.pos).isEmpty && !c.flag F.GLB_MODE_STAT_peer_synced then none else some (r.block e.pos)
  | _, none => none

/-- Tag of a block that Carafe supplies; a ZERO entry has none. -/
def Ctl.carTag (m : Mem) (c : Ctl) (e : IdxE) : Option (List Byte) :=
  match e.kind, c.recBy e.seq with
  | .zero, _ => none
  | .pending, some r => some (m.bytes .hbm (r.tagBuf + 16 * e.pos) 16)
  | .landed, some r => some (r.tag e.pos)
  | _, none => none

/-- Uncorrectable lines behind what Carafe supplies for a block. -/
def Ctl.entryBadLines (c : Ctl) (e : IdxE) : Nat :=
  match e.kind, c.recBy e.seq with
  | .landed, some r => (r.badLines e.pos).length
  | _, _ => 0

/-- READ copies the blocks of the grain that Carafe supplies into dst; `fixed` lines are corrected by their ECC (R210), and an uncorrectable
line is counted, fetched from a synced peer, or ends CAR_UE. -/
def carReadAct (tag fixed : Nat) (i : Issued) (m : Mem) (c : Ctl) : Act :=
  match c.rec? tag, i.dstSlot with
  | some r, some d =>
    let g := c.nsGroup r.nsid
    let ls := c.grainPart r (i.step.arg0 % 4)
    let parts := (List.range ls.length).zip ls |>.filterMap (fun p => (c.supply g (c.nsBlock r.nsid p.2)).map (fun e => (p.1, e)))
    let c1 := (c.bump F.CAR_ERR_STAT_corrected fixed).bump F.CAR_ERR_STAT_ue ((parts.map (fun p => c.entryBadLines p.2)).sum)
    if parts.any (fun p => (c.carBlock m p.2).isNone) then .refuse m c1 0x41
    else .ok (parts.foldl (fun m1 p => match c.carBlock m p.2 with
      | some bs => m1.put .hbm (ptrByte d.ptr + 4096 * p.1) bs
      | none => m1) m) c1
  | _, _ => .refuse m c 0x02

/-- CAR_READ (R235). -/
def execCarRead (tag fixed : Nat) (s : State) : Host.Outcome State Fault Refusal :=
  onAll (fun m c => issue m c tag Cls.car 0x05 false (carReadAct tag fixed)) s

end Sys2Proof.Machine
end

