-- ==== Sys2Proof/Machine/FlushSteps.lean ====
section
/-! DEFINITION. Flushes (09_layouts_and_write_path.md, R221 to R228, R233, R234): the start of a flush brew, GATHER, INTENT, DONE and
checkpoints. -/

namespace Sys2Proof.Machine

/-! ### Where strips lie (R201, R245, R250) -/

/-- Whether a rebuild has covered stripe `s` of `stot` (R244). -/
def Target.covers (t : Target) (stot s : Nat) : Bool := decide ((s + stot - t.start) % max stot 1 < t.covered)

/-- Whether spare space holds, or is being given, the strips of a position (R250). -/
def Ctl.spared (c : Ctl) (g pos : Nat) : Bool := c.get (F.RBD_SPARE_STAT_pos g) == pos

/-- Bay and member LBA of row `row` of the spare copy of position `pos` in stripe `s` (R250). -/
def Ctl.spareLoc (c : Ctl) (g s pos row : Nat) : Nat × Nat :=
  let n := c.grpN g
  let hosts := (List.range n).filter (· != pos)
  let z := c.grpStot g - c.get (F.RBD_SPARE_stripes g) + s / (n - 1)
  (c.bayAt g (hosts.getD (s % (n - 1)) 0), c.memberLba g (z * c.grpS g + row))

/-- Bay and member LBA of row `row` of position `pos` in stripe `s` on its own bay (R201). -/
def Ctl.homeLoc (c : Ctl) (g s pos row : Nat) : Nat × Nat := (c.bayAt g pos, c.memberLba g (s * c.grpS g + row))

/-- The spare copy, unless its host has failed. -/
def Ctl.spareRead (c : Ctl) (g s pos row : Nat) : Option (Nat × Nat) :=
  if c.memUsable (c.spareLoc g s pos row).1 then some (c.spareLoc g s pos row) else none

/-- Where a strip is read: none where it is an erasure (Table 10.1, R245, R250). -/
def Ctl.readLoc (c : Ctl) (g s pos row : Nat) : Option (Nat × Nat) :=
  let st := c.memState (c.bayAt g pos)
  let done := match c.target? g pos with | some t => t.covers (c.grpStot g) s | none => true
  match c.target? g pos with
  | some t =>
    if t.spare then (if done then c.spareRead g s pos row else none)
    else if st = 3 && done then some (c.homeLoc g s pos row)
    else if c.spared g pos then c.spareRead g s pos row else none
  | none =>
    if st = 1 then some (c.homeLoc g s pos row)
    else if st = 4 && c.spared g pos then c.spareRead g s pos row else none

/-- Where a strip is written: its bay when ONLINE or REBUILDING onto it, its spare copy when it has one (R245, R249, R250). -/
def Ctl.writeLocs (c : Ctl) (g s pos row : Nat) : List (Nat × Nat) :=
  let st := c.memState (c.bayAt g pos)
  let toBay := st == 1 || (st == 3 && (match c.target? g pos with | some t => !t.spare | none => true))
  (if toBay then [c.homeLoc g s pos row] else []) ++ (if c.spared g pos then (c.spareRead g s pos row).toList else [])

/-! ### Keys of namespaces (R291, R296) -/

/-- State of a key slot. -/
def Ctl.slotState (c : Ctl) (t slot : Nat) : Nat :=
  getBits (c.rd (Reg.KP_SLOT_STAT t (slot / 8))) (4 * (slot % 8) + 3) (4 * (slot % 8))

/-- State of a namespace's data slot. -/
def Ctl.nsKey (c : Ctl) (ns : Nat) : Nat :=
  match Tab.at? c.car.ns ns with
  | some i => c.slotState i.tenant i.kslot
  | none => 0

/-- Whether a namespace's data is beyond decryption: its slot is ZEROISING or ZEROISED (R296). -/
def Ctl.nsDead (c : Ctl) (ns : Nat) : Bool := c.nsKey ns == 2 || c.nsKey ns == 3

/-! ### Sources of a flush (R222, R225, R227, R265) -/

/-- What record `r` supplies for block `b` of group `g`, if it still owes it: its own block, or zeros for a block of a unit it allocates
(R220). A stage group's block stands for a block of the source group (R265). -/
def Ctl.recSrc (c : Ctl) (r : JRec) (g b : Nat) : Option FlushSrc :=
  let own (x : Nat) : Option FlushSrc :=
    if (c.recBlocks r).contains x then
      some ⟨b, r.seq, if r.typ = Rt.data then x - c.nsBlock r.nsid r.loc else 0, r.typ == Rt.zero⟩ else none
  if r.group = g then (if r.left.contains b then (own b).or (some ⟨b, r.seq, 0, true⟩) else none)
  else match c.rgBack b with
    | some (ns, l) =>
      let x := c.nsBlock ns l
      if ns = r.nsid then (own x).or (if r.allocs.contains (x / 16) then some ⟨b, r.seq, 0, true⟩ else none) else none
    | none => none

/-- The newest of the records `qs` that supplies a block. -/
def Ctl.srcFor (c : Ctl) (qs : List Nat) (g b : Nat) : Option FlushSrc :=
  (c.known.filter (fun r => qs.contains r.seq && r.settled && !r.void && !c.nsDead r.nsid && (c.recSrc r g b).isSome)).getLast?.bind
    (fun r => c.recSrc r g b)

/-- Blocks of a stripe. -/
def Ctl.stripeBlocks (c : Ctl) (g s : Nat) : List Nat := (List.range (c.grpDS g)).map (fun w => c.stripeBase g s + w)

/-- Settled records of a slot. -/
def Ctl.slotSettled (c : Ctl) (x : GSlot) : List Nat :=
  x.recs.filter (fun q => match c.recBy q with | some r => r.settled | none => false)

/-- Whether settled records supply every data block of a slot's stripe (R222). -/
def Ctl.slotFull (c : Ctl) (x : GSlot) : Bool :=
  (c.stripeBlocks x.group x.strp).all (fun b => (c.srcFor (c.slotSettled x) x.group b).isSome)

/-- Whether a slot is the oldest of those that could be flushed. -/
def Ctl.slotOldest (c : Ctl) (x : GSlot) : Bool :=
  c.car.slots.all (fun p => p.2.flush.isSome || (c.slotSettled p.2).isEmpty || decide (x.born ≤ p.2.born))

/-- Whether one of the triggers of R222 holds for a slot now. -/
def Ctl.flushDue (c : Ctl) (x : GSlot) : Bool :=
  x.flush.isNone && (!(c.slotSettled x).isEmpty || !x.redo.isEmpty) && c.bgOk
    && (c.slotFull x || (match x.dead with | some t => decide (t ≤ c.dt) | none => false) || (c.car.press && c.slotOldest x)
      || decide (slotMax ≤ x.recs.length) || (decide (slotCount ≤ c.car.slots.length) && c.slotOldest x)
      || decide (2097152 * 90 ≤ c.car.idx.length * 100) || !x.redo.isEmpty)

/-- A flush brew of priority 2 starts for a slot (R222), its work recorded; with no context or no recipe it stays undone. -/
def Ctl.flushStart (c : Ctl) (k : Nat) : Ctl :=
  match Tab.at? c.car.slots k with
  | none => c
  | some x =>
    if !c.flushDue x then c
    else
      let stage := c.get F.RBD_RG_STAT_state != 0 && x.group == c.rgStage
      match c.bgStart .stripeFlush (Config.recipeOf 5) (devId (c.nsOfStripe x.group x.strp)) with
      | .started tag c1 =>
        let w : FlushWork := { slot := some k, group := x.group, strp := x.strp, recs := c.slotSettled x, srcs := [], recons := [],
                               buf := 0, tagBuf := 0, recon := [], intent := none, tried := 0, forms := [], stage := stage }
        ({ c1 with car := { c1.car with
            works := Tab.put c1.car.works tag w
            slots := Tab.put c1.car.slots k { x with flush := some tag } } }).onBrew tag (fun b => { b with prio := 2 }) |>.laneTail tag 2
      | _ => c

/-- FLUSH_BREW_START (R222). -/
def execFlushBrewStart (slot : Fin 8192) (s : State) : Host.Outcome State Fault Refusal :=
  onCtl (fun _ c => c.flushStart slot) s

/-- GATHER_DEADLINE_EXPIRE (R221): the slot's deadline comes and its flush starts. -/
def execGatherDeadlineExpire (slot : Fin 8192) (s : State) : Host.Outcome State Fault Refusal :=
  onCtl (fun _ c =>
    match (Tab.at? c.car.slots slot).bind (·.dead) with
    | some t => (c.reach t).flushStart slot
    | none => c) s

/-- CHECKPOINT_TIMER (R230): period_ms since the group's last checkpoint passes, or the ring's fill is at hi_pct already. -/
def execCheckpointTimer (group : Fin 16) (s : State) : Host.Outcome State Fault Refusal :=
  onAll (fun m c =>
    if !c.grpReady group || !c.bgOk then (m, c)
    else if c.get F.CAR_PRESS_hi_pct ≤ c.get F.CAR_STAT_fill_pct then checkpoint m c group
    else checkpoint m (c.reach (Tab.getD c.car.ckAt group 0 + c.get F.CAR_CKPT_period_ms * 1000000)) group) s

/-! ### Rows of a flush (R223) -/

/-- Whether a namespace is a Tamp namespace (R270). -/
def Ctl.tamp (c : Ctl) (ns : Nat) : Bool := c.flag (F.TMP_NS_CFG_en ns)

/-- Blocks a flush writes: its sources, and in a Tamp namespace every slot of each unit they touch (R277). -/
def Ctl.workBlocks (c : Ctl) (w : FlushWork) : List Nat :=
  let bs := w.srcs.map (·.b)
  if c.tamp (c.nsOfStripe w.group w.strp) then
    ((bs.map (· / 16)).eraseDups).flatMap (fun u => (List.range 16).map (fun j => 16 * u + j))
  else bs

/-- Rows of a flush: the strip offsets of the blocks it writes. -/
def Ctl.workRows (c : Ctl) (w : FlushWork) : List Nat := ((c.workBlocks w).map (c.rowOf w.group)).eraseDups

/-- Data block `i` of a row. -/
def Ctl.rowBlock (c : Ctl) (g s row i : Nat) : Nat := c.stripeBase g s + i * c.grpS g + row

/-- How a flush writes a row: whole, by reconstruct-write, or by delta update (R223). -/
inductive RowHow where
  | full | recon | delta
  deriving DecidableEq, Repr

/-- Unchanged data blocks of a row that members hold: those of allocated units, but for the unused slots of compressed ones (R223, R271). -/
def Ctl.rowKeep (c : Ctl) (w : FlushWork) (row : Nat) : List Nat :=
  let bs := c.workBlocks w
  ((List.range (c.grpD w.group)).map (c.rowBlock w.group w.strp row)).filter (fun b => !bs.contains b && c.blockLive w.group b)

/-- Changed data blocks of a row. -/
def Ctl.rowChanged (c : Ctl) (w : FlushWork) (row : Nat) : List Nat :=
  (c.workBlocks w).filter (fun b => c.rowOf w.group b == row)

/-- The method of R223 for a row. -/
def Ctl.rowHow (c : Ctl) (w : FlushWork) (row : Nat) : RowHow :=
  let a := (c.rowKeep w row).length
  let ch := c.rowChanged w row
  if ch.length = c.grpD w.group ∨ a = 0 then .full
  else if !(c.failedPos w.group).isEmpty then .recon
  else if a ≤ (ch.filter (c.blockLive w.group)).length + c.grpP w.group then .recon else .delta

/-- Whether the strip of a data block is an erasure for reads. -/
def Ctl.blockErased (c : Ctl) (g b : Nat) : Bool :=
  let s := c.stripeOf g b
  (c.readLoc g s (c.dataPos g s (c.stripOf g b)) (c.rowOf g b)).isNone

/-! ### GATHER (R225) -/

/-- The work of a brew's GATHER: a flush brew's own, or that of a write in write-through mode for stripe `arg0` of its command
(R234). -/
def Ctl.workOf (c : Ctl) (tag : Nat) (i : Issued) : Option FlushWork :=
  match Tab.at? c.car.works tag with
  | some w => some w
  | none =>
    match c.rec? tag, (c.tag? tag).map TagE.kind with
    | some r, some .write =>
      let g := c.nsGroup r.nsid
      let s := c.stripeOf g (c.nsBlock r.nsid r.slba) + i.step.arg0
      if s ≤ c.stripeOf g (c.nsBlock r.nsid (r.slba + r.nlb)) then
        some { slot := none, group := g, strp := s, recs := [], srcs := [], recons := [], buf := 0, tagBuf := 0, recon := [],
               intent := none, tried := 0, forms := [], stage := false }
      else none
    | _, _ => none

/-- Sources of a write in write-through mode: its own blocks in the stripe, from the records it reserved, and zeros for the other
blocks of the units they allocate. -/
def Ctl.throughSrcs (c : Ctl) (tag : Nat) (w : FlushWork) : List FlushSrc :=
  match c.rec? tag with
  | none => []
  | some r =>
    let b0 := c.nsBlock r.nsid r.slba
    (c.stripeBlocks w.group w.strp).filterMap (fun b =>
      if b0 ≤ b ∧ b ≤ b0 + r.nlb then
        let q := (c.ownRecs tag).find? (fun x => (c.recBlocks x).contains b)
        some ⟨b, match q with | some x => x.seq | none => 0, match q with | some x => b - c.nsBlock x.nsid x.loc | none => 0, false⟩
      else ((c.ownRecs tag).find? (fun x => x.allocs.contains (b / 16))).map (fun x => ⟨b, x.seq, 0, true⟩))

/-- Bytes of a source block: zeros, the record's block, or, in write-through mode, the block in the command's src buffer. -/
def Ctl.srcBytes (m : Mem) (c : Ctl) (tag : Nat) (i : Issued) (w : FlushWork) (x : FlushSrc) : Option (List Byte) :=
  if x.zero then some (List.replicate 4096 0)
  else match w.slot, c.recBy x.seq with
    | none, _ =>
      match c.rec? tag, i.srcSlot with
      | some r, some p => some (m.bytes .hbm (ptrByte p.ptr + 4096 * (x.b - c.nsBlock r.nsid r.slba)) 4096)
      | _, _ => none
    | some _, some r =>
      if !(r.badLines x.pos).isEmpty && !c.flag F.GLB_MODE_STAT_peer_synced then none else some (r.block x.pos)
    | some _, none => none

/-- The blocks of the RECON records of a flush: 64 at most in each, since an intent entry names a position below 64 (Table 9.7). -/
def reconParts : Nat → List Nat → List (List Nat)
  | 0, _ => []
  | n + 1, bs => if bs.isEmpty then [] else bs.take 64 :: reconParts n (bs.drop 64)

/-- Bytes of a block in a RECON record (Table 9.5). -/
def Ctl.reconSize (c : Ctl) (g : Nat) : Nat := if c.flag (F.GAL_GRP_CFG_tagblk g) then 4096 else 4112

/-- The entry of an intent for block `b` of a group. -/
def Ctl.intentEntry (c : Ctl) (g b src pos : Nat) (zero recon : Bool) : IntentE := ⟨src, c.stripOf g b, c.rowOf g b, pos, zero, recon⟩

/-- RECON and INTENT records of a work, numbered and given their lines; nothing where the local Carafe has failed or no block is
written (R224, R234). The intent names the blocks of its sources and those of its RECON records. -/
def Ctl.intentReserve (c : Ctl) (tag : Nat) (w : FlushWork) : FlushWork × Ctl :=
  if c.car.failed || w.srcs.isEmpty then (w, c)
  else
    let ns := c.nsOfStripe w.group w.strp
    let one (acc : List Nat × List IntentE × Ctl) (bs : List Nat) : List Nat × List IntentE × Ctl :=
      let r := acc.2.2.recNew { JRec.blank Rt.recon with
        nsid := ns, group := w.group, loc := w.strp, count := bs.length, owner := some tag, lines := (c.reconSize w.group * bs.length + 63) / 64 }
      (acc.1 ++ [r.1], acc.2.1 ++ ((List.range bs.length).zip bs).map (fun p => c.intentEntry w.group p.2 r.1 p.1 false true), r.2)
    let es0 := w.srcs.map (fun x => c.intentEntry w.group x.b x.seq x.pos x.zero false)
    let r1 := (reconParts w.recons.length w.recons).foldl one ([], es0, c)
    let es := r1.2.1
    let r2 := r1.2.2.recNew { JRec.blank Rt.intent with
      nsid := ns, group := w.group, loc := w.strp, count := es.length, entries := es, owner := some tag, lines := (8 * es.length + 63) / 64 }
    ({ w with recon := r1.1, intent := some r2.1 }, r2.2.noteRing)

/-- Data blocks that a flush writes with the content the members hold: those of a partly changed unit of a Tamp namespace that no record
supplies (R277). -/
def Ctl.workOld (c : Ctl) (w : FlushWork) : List Nat := (c.workBlocks w).filter (fun b => !w.srcs.any (fun x => x.b == b))

/-- Uncorrectable lines of the ring that a flush's sources lie in (R210). -/
def Ctl.srcBadLines (c : Ctl) (xs : List FlushSrc) : Nat :=
  (xs.map (fun x => if x.zero then 0 else match c.recBy x.seq with | some r => (r.badLines x.pos).length | none => 0)).sum

/-- GATHER: the sources go to dst at their places in the stripe, the RECON blocks and the intent are settled, and the numbers of
their records taken; an unreadable source ends CAR_UE 0x41. `fixed` lines of the ring were corrected (R210). The old blocks of a Tamp
unit, which no record holds, stand in RECON records too (notes/assumptions/74.md). -/
def carGatherAct (tag fixed : Nat) (i : Issued) (m : Mem) (c : Ctl) : Act :=
  match c.workOf tag i, i.dstSlot with
  | some w0, some d =>
    let base := c.stripeBase w0.group w0.strp
    let own := match w0.slot with
      | none => c.throughSrcs tag w0
      | some _ => (c.stripeBlocks w0.group w0.strp).filterMap (c.srcFor w0.recs w0.group)
    let w1 : FlushWork := { w0 with srcs := own, buf := ptrByte d.ptr, tagBuf := slotAddr i.auxSlot }
    let keep := (c.workRows w1).flatMap (fun row => if (c.failedPos w1.group).isEmpty then [] else (c.rowKeep w1 row).filter (c.blockErased w1.group))
    let data := own.map (fun x => (x.b, c.srcBytes m tag i w1 x))
    let c0 := (c.bump F.CAR_ERR_STAT_corrected fixed).bump F.CAR_ERR_STAT_ue (if w0.slot.isSome then c.srcBadLines own else 0)
    if data.any (fun p => p.2.isNone) then .refuse m c0 0x41
    else
      let m1 := data.foldl (fun m1 p => match p.2 with
        | some bs => if 4096 * (p.1 - base) + 4096 ≤ ptrSize d.ptr then m1.put .hbm (ptrByte d.ptr + 4096 * (p.1 - base)) bs else m1
        | none => m1) m
      match c0.intentReserve tag { w1 with recons := keep ++ c.workOld w1 } with
      | (w2, c1) =>
        match padsWrite m1 { c1 with car := { c1.car with works := Tab.put c1.car.works tag w2 } } with
        | (m2, c2) => .ok m2 c2
  | _, _ => .refuse m c 0x02

/-- CAR_GATHER (R225), held while the ring lacks room for its records. -/
def execCarGather (tag fixed : Nat) (s : State) : Host.Outcome State Fault Refusal :=
  onAll (fun m c => issueUnless (fun i => match c.workOf tag i with
    | some w => decide (ringLines < c.ringUsed + 70 * c.grpDS w.group + 64)
    | none => false) m c tag Cls.car 0x06 false (carGatherAct tag fixed)) s

/-! ### INTENT (R224) -/

/-- Payload of the RECON record of blocks `bs`: with their tags in metadata mode, from where the brew put them. -/
def reconData (m : Mem) (c : Ctl) (w : FlushWork) (bs : List Nat) : List Byte :=
  let base := c.stripeBase w.group w.strp
  bs.flatMap (fun b => m.bytes .hbm (w.buf + 4096 * (b - base)) 4096
    ++ (if c.flag (F.GAL_GRP_CFG_tagblk w.group) then [] else m.bytes .hbm (w.tagBuf + 16 * (b - base)) 16))

/-- A numbered record of a flush is written to the ring. -/
def writeReserved (acc : Mem × Ctl) (seq : Option Nat) (data : List Byte) : Mem × Ctl :=
  match seq.bind acc.2.recBy with
  | none => acc
  | some r =>
    let x : JRec := { r with landed := true, mirrored := acc.2.mirroring, data := data }
    (recStore acc.1 x, acc.2.mapRecs (fun y => if y.seq = r.seq then x else y))

/-- INTENT writes the RECON and INTENT records; with the local Carafe failed, CAR_WT_MARK is set instead (R234). -/
def carIntentAct (tag : Nat) (_ : Issued) (m : Mem) (c : Ctl) : Act :=
  match Tab.at? c.car.works tag with
  | none => .ok m c
  | some w =>
    if c.car.failed then .ok m (c.pcrOwn F.CAR_WT_MARK_mark 1)
    else
      let a := (w.recon.zip (reconParts w.recons.length w.recons)).foldl (fun a p => writeReserved a (some p.1) (reconData m c w p.2)) (m, c)
      match writeReserved a w.intent [] with
      | (m1, c1) => .ok m1 (if c.mirroring && w.intent.isSome then c1.emit (.mirror (w.recon ++ w.intent.toList)) else c1)

/-- CAR_INTENT (R224): its token is OK at once where there is no intent to write. -/
def execCarIntent (tag : Nat) (s : State) : Host.Outcome State Fault Refusal :=
  onAll (fun m c =>
    match issue m c tag Cls.car 0x07 false (carIntentAct tag) with
    | (m1, c1) =>
      match Tab.at? c.car.works tag with
      | some w => if w.intent.isNone then (m1, c1.carToken tag 0x07 0) else (m1, c1)
      | none => (m1, c1.carToken tag 0x07 0)) s

/-! ### DONE (R226, R227, R255) -/

/-- Change of usage in bytes from the new stored forms of a flush (R206, R277). -/
def Ctl.formsDelta (c : Ctl) (w : FlushWork) : Int :=
  (w.forms.map (fun p => (p.2.bytes : Int) - (match c.unit? w.group p.1 with | some x => (x.bytes : Int) | none => 0))).sum

/-- An intent's blocks are written: entries of the index that its sources gave are removed, and its sources no longer supply them
(R226). -/
def Ctl.applyIntent (c : Ctl) (i : JRec) : Ctl :=
  i.entries.foldl (fun c e =>
    let b := c.rowBlock i.group i.loc e.row e.strip
    let c1 := match Tab.at? c.car.idx (grpKey i.group b) with
      | some x => if x.seq = e.src then { c with car := { c.car with idx := Tab.del c.car.idx (grpKey i.group b) } } else c
      | none => c
    let c2 := c1.mapRecs (fun r => if r.seq = e.src ∧ r.group = i.group then { r with left := r.left.filter (· != b) } else r)
    if i.group = c2.rgStage ∧ c2.get F.RBD_RG_STAT_state ≠ 0 then
      { c2 with rbd := { c2.rbd with rgRecs := c2.rbd.rgRecs.filter (· != e.src) } }
    else c2) c

/-- A DONE record takes effect. -/
def Ctl.applyDone (c : Ctl) (names : List Nat) : Ctl :=
  names.foldl (fun c q => match c.recBy q with | some i => c.applyIntent i | none => c) c

/-- Intents that the slot of a work is to redo (R227). -/
def Ctl.workRedo (c : Ctl) (w : FlushWork) : List Nat := match w.slot.bind (Tab.at? c.car.slots) with | some x => x.redo | none => []

/-- Every row that an intent names is rewritten by reconstruct-write from the intent's sources (R227). -/
def Ctl.redoWrite (c : Ctl) (i : JRec) : Ctl :=
  let strips := (i.entries.map (·.strip)).eraseDups
  c.emit (.stripeWrite i.group i.loc (strips.map (c.dataPos i.group i.loc) ++ (List.range (c.grpP i.group)).map (c.parPos i.group i.loc)))

/-- A flush that has its stripe's lock first redoes what its slot's earlier intents name, oldest first (R227). -/
def Ctl.workFirst (c : Ctl) (w : FlushWork) : Ctl := ((c.workRedo w).filterMap c.recBy).foldl Ctl.redoWrite c

/-- Index entries whose block and source the flush wrote are gone; the records no longer owe those blocks, and records of a
zeroised namespace owe nothing (R226, R228, R296). -/
def Ctl.doneIndex (c : Ctl) (w : FlushWork) : Ctl :=
  let idx := w.srcs.foldl (fun t x => match Tab.at? t (grpKey w.group x.b) with
    | some e => if e.seq = x.seq then Tab.del t (grpKey w.group x.b) else t
    | none => t) c.car.idx
  let dead (e : IdxE) : Bool := w.recs.contains e.seq && (match c.recBy e.seq with | some r => c.nsDead r.nsid | none => false)
  let c1 := if w.stage then c else { c with car := { c.car with idx := idx.filter (fun p =>
    !(p.1 / 2 ^ 40 == w.group && c.stripeOf w.group (p.1 % 2 ^ 40) == w.strp && dead p.2)) } }
  c1.mapRecs (fun r =>
    if w.recs.contains r.seq && c.nsDead r.nsid then { r with left := [] }
    else if r.group = w.group && w.recs.contains r.seq then
      { r with left := r.left.filter (fun b => !(decide (c.stripeOf w.group b = w.strp))) }
    else r)

/-- The slot loses the flushed records; an empty one is freed (R226); stage records leave the Regrind's list with their last slot
(R265). -/
def Ctl.doneSlot (c : Ctl) (w : FlushWork) : Ctl :=
  match w.slot.bind (fun k => (Tab.at? c.car.slots k).map (fun x => (k, x))) with
  | none => c
  | some (k, x) =>
    let rest := x.recs.filter (fun q => !w.recs.contains q)
    let x1 : GSlot := { x with recs := rest, flush := none, redo := [], dead := if (c.slotSettled { x with recs := rest }).isEmpty then none else x.dead }
    let slots := if rest.isEmpty then Tab.del c.car.slots k else Tab.put c.car.slots k x1
    let c1 := { c with car := { c.car with slots := slots } }
    if w.stage then
      { c1 with rbd := { c1.rbd with rgRecs := c1.rbd.rgRecs.filter (fun q =>
          slots.any (fun p => p.2.group == w.group && p.2.recs.contains q)) } }
    else c1

/-- Rows of the flush that were lost and are written whole are no longer lost; rows of a stripe now beyond its redundancy are lost
(R227, R255). -/
def doneRows (m : Mem) (c : Ctl) (w : FlushWork) : Mem × Ctl :=
  let failed := c.failedPos w.group
  let mask := (failed.map (fun p => 2 ^ p)).sum
  (c.workRows w).foldl (fun (a : Mem × Ctl) row =>
    if c.grpP w.group < failed.length then lostRow a.1 a.2 w.group w.strp row 3 mask
    else if c.rowHow w row = .full then foundRow a.1 a.2 w.group w.strp row else a) (m, c)

/-- New stored forms of units take effect, and the tenant's usage with them. -/
def Ctl.doneForms (c : Ctl) (w : FlushWork) : Ctl :=
  let ns := c.nsOfStripe w.group w.strp
  let d := c.formsDelta w
  let c1 := { c with car := { c.car with
    units := w.forms.foldl (fun t p => Tab.put t (grpKey w.group p.1) p.2) c.car.units
    forms := w.forms.foldl (fun t p => if p.2.comp.isSome then Tab.put t (grpKey w.group p.1) p.2 else Tab.del t (grpKey w.group p.1)) c.car.forms } }
  if d = 0 || w.stage then c1 else c1.useAdd (c.nsTenant ns) ns d

/-- DONE: the record names the flush's intent and those its slot was to redo; index, slot, forms, lost rows, lock and ring follow (R226,
R227). -/
def carDoneAct (tag : Nat) (_ : Issued) (m : Mem) (c : Ctl) : Act :=
  match Tab.at? c.car.works tag with
  | none => .ok m c
  | some w =>
    let redo := c.workRedo w
    let names := redo ++ w.intent.toList
    let ns := c.nsOfStripe w.group w.strp
    let full := (c.workRows w).countP (fun r => c.rowHow w r == .full)
    let part := (c.workRows w).length - full
    let r0 := if names.isEmpty then (m, c) else
      let r := recWrite m c { JRec.blank Rt.done with nsid := ns, group := w.group, loc := w.strp, count := names.length, names := names, udelta := if w.stage then 0 else c.formsDelta w, tenant := c.nsTenant ns, lines := (8 * names.length + 63) / 64 }
      (r.1, r.2.2)
    match doneRows r0.1 r0.2 w with
    | (m1, c1) =>
      let c2 := ((((c1.applyDone redo).doneIndex w).doneSlot w).doneForms w).lockDrop w.group w.strp
      let c3 := { c2 with car := { c2.car with works := Tab.del c2.car.works tag } }
      let c4 := ((c3.tev .car 2 0 none (c.ctxOf tag) 1).tev .car 3 0 none (c.ctxOf tag) full).tev .car 4 0 none (c.ctxOf tag) part
      .ok m1 c4.retire

/-- CAR_DONE (R226). -/
def execCarDone (tag : Nat) (s : State) : Host.Outcome State Fault Refusal :=
  onAll (fun m c => issue m c tag Cls.car 0x08 false (carDoneAct tag)) s

/-- The slot of a stripe is to redo an intent (R227); it is made where there is none. -/
def Ctl.slotRedo (c : Ctl) (g s q : Nat) : Ctl :=
  match c.slotOf g s with
  | some (k, x) => { c with car := { c.car with slots := Tab.put c.car.slots k { x with flush := none, redo := x.redo ++ [q] } } }
  | none =>
    match Tab.freeKey c.car.slots 0 slotCount with
    | none => c
    | some k => { c with car := { c.car with slots := Tab.put c.car.slots k (⟨g, s, [], none, [q], none, c.car.slots.foldl (fun a p => max a (p.2.born + 1)) 0⟩ : GSlot) } }

/-- A brew that ends with its flush work unfinished (R227): an intent that is written is left to be redone by the next flush of the stripe's
slot, records never written are of no account, and the stripe lock is released. -/
def Ctl.workDrop (c : Ctl) (tag : Nat) : Ctl :=
  let c0 := { c with car := { c.car with locks := Tab.mapV c.car.locks (fun _ k => { k with waits := k.waits.filter (· != .flush tag) }) } }
  match Tab.at? c0.car.works tag with
  | none => c0
  | some w =>
    let c1 := c0.mapRecs (fun r =>
      if r.owner = some tag ∧ !r.landed ∧ (r.typ = Rt.intent ∨ r.typ = Rt.recon) then { r with torn := true, owner := none } else r)
    let c2 : Ctl := { c1 with car := { c1.car with
      works := Tab.del c1.car.works tag
      slots := match w.slot with | some k => Tab.upd c1.car.slots k (fun x => { x with flush := none }) | none => c1.car.slots } }
    let c3 : Ctl := match w.intent.bind c0.recBy with | some r => if r.landed then c2.slotRedo w.group w.strp r.seq else c2 | none => c2
    if (c3.lockOf w.group w.strp).holder = some (.flush tag) then c3.lockDrop w.group w.strp else c3

end Sys2Proof.Machine
end

