-- ==== Sys2Proof/Machine/DataSteps.lean ====
section
/-! DEFINITION. Member reads and writes (class DQE, R236, R462), the arrival of tokens (R125), the Galois engine (R197, R236), and the
CRC units (R203, R204, R236). -/

namespace Sys2Proof.Machine

/-! ### Member runs (R462) -/

/-- A member run: its bay and LBA (none where the strip is an erasure), blocks, the place of its first block in the command or
stripe, and which blocks the member holds (R271, R204: the rest read as zeros). A tag block (R201) is a run of its own, with the entry of
its first block; a flush keeps it whole at place `keep` of its buffer, and `live` tells which of its entries are rewritten
(notes/assumptions/73.md). -/
structure Run where
  loc  : Option (Nat × Nat)
  locs : List (Nat × Nat)
  n    : Nat
  off  : Nat
  live : List Bool
  entry : Option Nat
  keep : Option Nat
  deriving DecidableEq, Repr

/-- Block ranges of at most one strip each. -/
def stripPieces (s : Nat) : Nat → Nat → Nat → List (Nat × Nat)
  | 0, _, _ => []
  | fuel + 1, b, n => if n = 0 then [] else (b, min n (s - b % s)) :: stripPieces s fuel (b + min n (s - b % s)) (n - min n (s - b % s))

/-- The group and the group block of LBA `l` that a brew maps its command through: those it started with (R130, R267). -/
def Ctl.recGrp (c : Ctl) (r : LookupRec) : Nat := match r.old with | some p => p.1 | none => c.nsGroup r.nsid
def Ctl.recB (c : Ctl) (r : LookupRec) (l : Nat) : Nat := match r.old with | some p => p.2 + l | none => c.nsBlock r.nsid l

/-- Where the index keeps a block that a brew maps as block `b` of group `g`. -/
def Ctl.indexAt (c : Ctl) (tag g b : Nat) : Nat × Nat :=
  match c.rec? tag with
  | some r => (match r.old with | some p => (if p.1 = g then (c.nsGroup r.nsid, c.nsBlock r.nsid (b - p.2)) else (g, b)) | none => (g, b))
  | none => (g, b)

/-- What Carafe supplies for a block as a brew maps it. -/
def Ctl.supplyTo (c : Ctl) (tag g b : Nat) : Option IdxE := c.supply (c.indexAt tag g b).1 (c.indexAt tag g b).2

/-- The run of the tag block that holds the tags of a run's blocks (R201, R276). -/
def Run.tags (r : Run) : Run :=
  let at_ (p : Nat × Nat) : Nat × Nat := (p.1, (tagPlace p.2).1)
  { r with loc := r.loc.map at_, locs := r.locs.map at_, entry := r.loc.map (fun p => (tagPlace p.2).2) }

/-- Runs of a host command or a fill: its range cut at strips, whole units in a Tamp namespace (R276); in tag-block mode their tag blocks
follow. -/
def Ctl.cmdRuns (c : Ctl) (r : LookupRec) : List Run :=
  let g := c.recGrp r
  let b0 := c.recB r r.slba
  let lo := if c.tamp r.nsid then b0 / 16 * 16 else b0
  let hi := if c.tamp r.nsid then (b0 + r.nlb) / 16 * 16 + 16 else b0 + r.nlb + 1
  let runs := (stripPieces (max 1 (c.grpS g)) (hi - lo) lo (hi - lo)).map (fun p =>
    let s := c.stripeOf g p.1
    let pos := c.dataPos g s (c.stripOf g p.1)
    ({ loc := c.readLoc g s pos (c.rowOf g p.1), locs := c.writeLocs g s pos (c.rowOf g p.1), n := p.2, off := p.1 - lo
       live := (List.range p.2).map (fun j => c.blockLive g (p.1 + j)), entry := none, keep := none } : Run))
  if c.tagblk g then runs ++ runs.map Run.tags else runs

/-- Neighbouring rows as ranges. -/
def rowRanges : List Nat → List (Nat × Nat)
  | [] => []
  | r :: rs =>
    match rowRanges rs with
    | (a, n) :: rest => if a = r + 1 then (r, n + 1) :: rest else (r, 1) :: (a, n) :: rest
    | [] => [(r, 1)]

/-- Runs of rows of one strip: data strip `i`, or parity strip `i − d`. -/
def Ctl.stripRuns (c : Ctl) (g s i : Nat) (rows : List Nat) : List Run :=
  let pos := if i < c.grpD g then c.dataPos g s i else c.parPos g s (i - c.grpD g)
  (rowRanges ((List.range (c.grpS g)).filter (fun k => rows.contains k))).map (fun p =>
    { loc := c.readLoc g s pos p.1, locs := c.writeLocs g s pos p.1, n := p.2, off := i * c.grpS g + p.1
      live := List.replicate p.2 true, entry := none, keep := none })

/-- The tag blocks of strip `i`, on each place that holds the strip, with the entries of the rows that are rewritten: in tag-block mode
they form a row of their own under the code (R199). -/
def Ctl.tagRuns (c : Ctl) (g s i : Nat) (rows : List Nat) : List Run :=
  let pos := if i < c.grpD g then c.dataPos g s i else c.parPos g s (i - c.grpD g)
  let locs := c.writeLocs g s pos 0
  ((List.range locs.length).zip locs).map (fun p =>
    let l : Nat × Nat := (p.2.1, (tagPlace p.2.2).1)
    { loc := some l, locs := [l], n := c.grpS g, off := i * c.grpS g, live := (List.range (c.grpS g)).map rows.contains
      entry := some (tagPlace p.2.2).2, keep := some (c.grpN g * c.grpS g + 2 * i + p.1) })

/-- What a flush reads of strip `i` in a row (R223). -/
def Ctl.rowReads (c : Ctl) (w : FlushWork) (row i : Nat) : Bool :=
  let d := c.grpD w.group
  match c.rowHow w row with
  | .full => false
  | .recon =>
    let keep := c.rowKeep w row
    if keep.any (c.blockErased w.group) then true
    else decide (i < d) && keep.contains (c.rowBlock w.group w.strp row i)
  | .delta => if i < d then (c.rowChanged w row).contains (c.rowBlock w.group w.strp row i) && c.blockLive w.group (c.rowBlock w.group w.strp row i)
    else true

/-- Rows of strip `i` that a flush reads, and those it writes: changed data blocks, and all parity blocks of the named rows (R225). -/
def Ctl.readRows (c : Ctl) (w : FlushWork) (i : Nat) : List Nat := (c.workRows w).filter (fun row => c.rowReads w row i)
def Ctl.writeRows (c : Ctl) (w : FlushWork) (i : Nat) : List Nat :=
  let bs := c.workBlocks w
  (c.workRows w).filter (fun row => decide (c.grpD w.group ≤ i) || bs.contains (c.rowBlock w.group w.strp row i))

/-- Runs that a flush reads: what R223 requires, and in tag-block mode the tag blocks of every strip it reads or writes (R225). -/
def Ctl.workReads (c : Ctl) (w : FlushWork) : List Run :=
  let is_ := List.range (c.grpN w.group)
  is_.flatMap (fun i => c.stripRuns w.group w.strp i (c.readRows w i))
    ++ (if c.tagblk w.group then is_.flatMap (fun i => if (c.readRows w i ++ c.writeRows w i).isEmpty then [] else c.tagRuns w.group w.strp i (c.writeRows w i)) else [])

/-- Runs that a flush writes: changed data blocks, all parity blocks of the named rows, and the tag blocks affected (R225); none on a member
that takes no write. -/
def Ctl.workWrites (c : Ctl) (w : FlushWork) : List Run :=
  let is_ := List.range (c.grpN w.group)
  ((is_.flatMap (fun i => c.stripRuns w.group w.strp i (c.writeRows w i))).filter (fun r => !r.locs.isEmpty))
    ++ (if c.tagblk w.group then is_.flatMap (fun i => if (c.writeRows w i).isEmpty then [] else c.tagRuns w.group w.strp i (c.writeRows w i)) else [])

/-- The run that a walking step takes next: one list for a read; a flush's writes follow its reads (R462). -/
def Ctl.nextRun (c : Ctl) (tag : Nat) (b : Brew) (write : Bool) : Option (Run × Nat) :=
  match Tab.at? c.car.works tag with
  | some w =>
    let n := (c.workReads w).length
    if write then ((c.workWrites w)[b.run - n]?).map (fun r => (r, max b.run n + 1))
    else ((c.workReads w)[b.run]?).map (fun r => (r, b.run + 1))
  | none => match c.rec? tag with
    | some r => if write then none else ((c.cmdRuns r)[b.run]?).map (fun x => (x, b.run + 1))
    | none => none

/-- A step that walks the runs. -/
def Step.walks (s : Step) : Bool := s.arg2 == 0xFFFF

/-- The instance of a DQE step: the run's port for a walking step; none when it is disabled (R133, R462). -/
def Ctl.dqeInst (c : Ctl) (tag : Nat) (write : Bool) (i : Issued) : Option Nat :=
  if i.step.walks then
    match c.nextRun tag i.brew write with
    | some (r, _) =>
      match if write then r.locs.head? else r.loc with
      | some (bay, _) => if c.engineOn Cls.dqe bay then some bay else none
      | none => some 0
    | none => some 0
  else c.pickInst tag i.brew i.step

/-- Pieces of a buffer: an address within `size` bytes of the buffer, or nothing. -/
def landAt (base size off len : Nat) : Land := ⟨if off + len ≤ size then some (base + off) else none, len, false⟩

/-- Where the tag of block `j` lands: in the aux buffer, where there is one. -/
def landTag (aux : Option (Nat × Nat)) (j : Nat) : Land :=
  match aux with | some (a, n) => landAt a n (16 * j) 16 | none => ⟨none, 16, false⟩

/-- Where the data of a run lands: each block in the buffer and, in metadata mode, its tag in aux; of a tag block, the whole block where a
flush keeps it, else the tags of the run's blocks in aux. Blocks that no member holds are zeros. -/
def Run.lands (r : Run) (tagblk : Bool) (base size : Nat) (aux : Option (Nat × Nat)) : List Land :=
  let js := (List.range r.n).zip r.live
  match r.entry, r.keep with
  | none, _ => js.map (fun p => { landAt base size (4096 * (r.off + p.1)) 4096 with zero := !p.2 })
      ++ (if tagblk then [] else js.map (fun p => landTag aux (r.off + p.1)))
  | some _, some k => [landAt base size (4096 * k) 4096]
  | some e, none => ⟨none, 16 * e, false⟩ :: js.map (fun p => { landTag aux (r.off + p.1) with zero := !p.2 })

/-- Blocks that a run takes on its member: one for a tag block. -/
def Run.blocks (r : Run) : Nat := if r.entry.isSome then 1 else r.n

/-- A member read: DRIVE_ERR for an erasure, at issue; blocks that no member holds are zeros in the buffer when the data of the
others lands. -/
def dqeReadAct (tag : Nat) (i : Issued) (m : Mem) (c : Ctl) : Act :=
  match i.dstSlot with
  | none => .refuse m c 0x02
  | some d =>
    let base := ptrByte d.ptr
    let size := ptrSize d.ptr
    let aux := match i.auxSlot with | some y => if i.step.aux = i.step.dst then none else some (ptrByte y.ptr, ptrSize y.ptr) | none => none
    if i.step.walks then
      if i.step.isel ≠ 0 then .refuse m c 0x0B
      else match c.nextRun tag i.brew false with
        | none => .refuse m c 0x40
        | some (r, nx) =>
          let c1 := c.onBrew tag (fun b => { b with run := nx })
          match r.loc with
          | none => .refuse m c1 0x06
          | some (bay, lba) =>
            let land := r.lands (c.tagblk (c.memGrp bay)) base size aux
            if r.live.any id || r.keep.isSome then
              { Act.ok m (c1.emit (.memberRead bay lba r.blocks tag i.brew.cur)) with land := land, io := some ⟨bay, lba, r.blocks, false⟩ }
            else { Act.ok m c1 with fate := some 0, land := land.filter (·.zero) }
    else
      let bay := i.inst
      let lba := i.step.arg1 * 2 ^ 32 + i.step.arg0
      let g := c.memGrp bay
      let inline_ := !c.tagblk g && aux.isNone && i.step.len % 4112 == 0 && i.step.len != 0
      let n := if inline_ then i.step.len / 4112 else i.step.len / 4096
      let gone := match c.memberBlock g lba with
        | some mb => !c.memUsable bay || (c.memState bay == 3 && (match c.target? g (c.memPos bay) with
            | some t => t.spare || !t.covers (c.grpStot g) (mb / max 1 (c.grpS g)) | none => true))
        | none => !c.memUsable bay
      if n = 0 then .refuse m c 0x0B
      else if gone then .refuse m c 0x06
      else
        let land := if inline_ then
            (List.range n).map (fun j => landAt base size (4112 * j) 4096) ++ (List.range n).map (fun j => landAt base size (4112 * j + 4096) 16)
          else (List.range n).map (fun j => landAt base size (4096 * j) 4096)
            ++ (if c.tagblk g then [] else (List.range n).map (landTag aux))
        { Act.ok m (c.emit (.memberRead bay lba n tag i.brew.cur)) with land := land, io := some ⟨bay, lba, n, false⟩ }

/-- Data and, in metadata mode, tags of `n` blocks at place `off` of src and aux. -/
def runBytes (m : Mem) (i : Issued) (src : BrewSlot) (tagblk : Bool) (off n : Nat) : List Byte × List Byte :=
  (m.bytes .hbm (ptrByte src.ptr + 4096 * off) (4096 * n),
   if tagblk then []
   else match i.auxSlot with | some y => m.bytes .hbm (ptrByte y.ptr + 16 * off) (16 * n) | none => List.replicate (16 * n) 0)

/-- A tag block as a flush writes it: the entries of the rows it rewrites from aux, the rest as it was read. -/
def tagBytes (m : Mem) (i : Issued) (src : BrewSlot) (r : Run) (e k : Nat) : List Byte :=
  let old := m.bytes .hbm (ptrByte src.ptr + 4096 * k) 4096
  let new := (List.range r.n).zip r.live |>.flatMap (fun p =>
    if p.2 then (runBytes m i src false (r.off + p.1) 1).2 else (old.drop (16 * (e + p.1))).take 16)
  old.take (16 * e) ++ new ++ old.drop (16 * (e + r.n))

/-- What a walking step writes for a run. -/
def Run.bytes (r : Run) (m : Mem) (i : Issued) (src : BrewSlot) (tagblk : Bool) : List Byte × List Byte :=
  match r.entry, r.keep with
  | some e, some k => (tagBytes m i src r e k, [])
  | _, _ => runBytes m i src tagblk r.off r.n

/-- A member write with FUA, to every place that holds the strip. -/
def dqeWriteAct (tag : Nat) (i : Issued) (m : Mem) (c : Ctl) : Act :=
  match i.srcSlot with
  | none => .refuse m c 0x02
  | some x =>
    if i.step.walks then
      if i.step.isel ≠ 0 then .refuse m c 0x0B
      else match c.nextRun tag i.brew true with
        | none => .refuse m c 0x40
        | some (r, nx) =>
          let c1 := c.onBrew tag (fun b => { b with run := nx })
          match r.locs with
          | [] => .refuse m c1 0x06
          | (bay, lba) :: _ =>
            let d := r.bytes m i x (c.tagblk (c.memGrp bay))
            let c2 := r.locs.foldl (fun c l => c.emit (.memberWrite l.1 l.2 d.1 d.2 tag i.brew.cur)) c1
            { Act.ok m c2 with io := some ⟨bay, lba, r.blocks, true⟩ }
    else
      let n := i.step.len / 4096
      let lba := i.step.arg1 * 2 ^ 32 + i.step.arg0
      if n = 0 ∨ ptrSize x.ptr < 4096 * n then .refuse m c 0x0B
      else if !c.memUsable i.inst then .refuse m c 0x06
      else
        let d := runBytes m i x (c.tagblk (c.memGrp i.inst)) 0 n
        { Act.ok m (c.emit (.memberWrite i.inst lba d.1 d.2 tag i.brew.cur)) with io := some ⟨i.inst, lba, n, true⟩ }

/-- A DQE step of a flush takes the stripe lock first, from stage 3 of Table 9.9 until DONE, or waits for it (R246). -/
def dqeIssue (op : Nat) (write : Bool) (act : Issued → Mem → Ctl → Act) (tag : Nat) (m : Mem) (c : Ctl) : Mem × Ctl :=
  match Tab.at? c.car.works tag with
  | none => issueAt (c.dqeInst tag write) m c tag Cls.dqe op false act
  | some w =>
    if (c.issuable tag Cls.dqe op).isNone then (m, c)
    else if c.lockFree w.group w.strp (.flush tag) then
      let c1 := if (c.lockOf w.group w.strp).holder = some (.flush tag) then c else (c.lockTake w.group w.strp (.flush tag)).workFirst w
      issueAt (c1.dqeInst tag write) m c1 tag Cls.dqe op false act
    else (m, c.lockWait w.group w.strp (.flush tag))

/-- DQE_READ (R462). -/
def execDqeRead (tag : Nat) (s : State) : Host.Outcome State Fault Refusal :=
  onAll (fun m c => dqeIssue 0x01 false (dqeReadAct tag) tag m c) s

/-- DQE_WRITE (R462). -/
def execDqeWrite (tag : Nat) (s : State) : Host.Outcome State Fault Refusal :=
  onAll (fun m c => dqeIssue 0x02 true (dqeWriteAct tag) tag m c) s

/-! ### Arrival of a token (R125) -/

/-- Data lands in order along the pieces of a token; the data of a whole command counts the blocks of zeros as well. -/
def landPieces (m : Mem) : List Land → List Byte → Mem
  | [], _ => m
  | p :: rest, bs =>
    landPieces (match p.addr with
      | some x => m.put .hbm x (if p.zero then List.replicate p.len 0 else (bs ++ List.replicate p.len 0).take p.len)
      | none => m) rest (bs.drop p.len)

/-- Steps whose tokens arrive by the operations of the table that end their actions: DMA programs, Carafe, the peer, the transports and the
switch. -/
def ownArrival (s : Step) : Bool := [Cls.car, Cls.peer, Cls.xpt, Cls.swc].contains s.eng || (s.eng == Cls.dma && s.op == 0x10)

/-- The channel that runs the MOVE step behind a token (R142). -/
def Ctl.moveChan (c : Ctl) (tag tok : Nat) : Option Nat :=
  (c.bst.chans.find? (fun p => p.2.move.isSome && p.2.brew == some (tag, tok))).map (·.1)

/-- The token of a MOVE step arrives as its channel ends, unless the channel is being stopped (R140, R142). -/
def Ctl.moveArrive (c : Ctl) (n : Nat) : Ctl :=
  match (c.chan n).move with
  | some st => if c.chState n = 1 then c.moveEnd n st (if st = 1 then 0 else if st = 5 then 0x03 else 0x0A) else c
  | none => c

/-- What the end of a member command does: its counts (Table 18.1), the repair queue and the media-error rule for a media error
(R238, R258), and the failure of a member whose write failed (R227, R238). -/
def memberDone (m : Mem) (c : Ctl) (x : TokIo) (st : Nat) (media : Option Nat) : Mem × Ctl :=
  let bad := st != 0
  let c1 := (c.tev .drv 2 x.bay none none 1).tev .drv (if x.write then 1 else 0) x.bay none none (if bad then 0 else 4096 * x.n)
  let c2 := if bad then c1.tev .drv 3 x.bay none none 1 else c1
  let r := match media with
    | some k => mediaError m (if x.write then c2 else c2.repairLba x.bay (x.lba + k)) x.bay
    | none => (m, c2)
  if bad && x.write then memFail r.1 r.2 x.bay 1 else r

/-- TOKEN_ARRIVE (R125): the first token of the step still outstanding arrives with the status its engine settled, or with the one
given; its data lands when that is OK. A media error names a block of the command. -/
def execTokenArrive (tag step status : Nat) (media : Option Nat) (data : List Byte) (s : State) : Host.Outcome State Fault Refusal :=
  onAll (fun m c =>
    match c.brew? tag with
    | none => (m, c)
    | some b =>
      if ownArrival (c.brewStep b step) then (m, c)
      else match b.tokens.find? (fun t => t.step == step && !t.arrived) with
        | none => (m, c)
        | some t =>
          match c.moveChan tag t.id with
          | some n => (m, c.moveArrive n)
          | none =>
          let st := t.fate.getD (status % 256)
          let r := match t.io with
            | some x => memberDone m c x st (if t.fate.isNone && st != 0 then media else none)
            | none => (m, c)
          (if st = 0 then landPieces r.1 t.land data else r.1, r.2.tokenPost tag t.id st)) s

/-! ### The Galois engine (R197, R236) -/

/-- An entry of GAL's aux list: pointer, role and index; 8 bytes as pointer 4, role 2, index 2. Roles: 0 data, 1 parity, 2 new data,
3 parity out, 4 data out (notes/assumptions/18.md). -/
structure GalEntry where
  ptr  : Word
  role : Nat
  idx  : Nat
  deriving DecidableEq, Repr

/-- The aux list at an address: entries up to the first whose eight bytes are 0, at most 32. -/
def galList (m : Mem) (a : Nat) : Nat → List GalEntry
  | 0 => []
  | n + 1 =>
    let p := leNat (m.bytes .hbm a 4)
    let role := leNat (m.bytes .hbm (a + 4) 2)
    let idx := leNat (m.bytes .hbm (a + 6) 2)
    if p = 0 ∧ role = 0 ∧ idx = 0 then [] else ⟨BitVec.ofNat 32 p, role, idx⟩ :: galList m (a + 8) n

/-- Entries of a role. -/
def galRole (es : List GalEntry) (r : Nat) : List GalEntry := es.filter (fun e => e.role == r)

/-- Bytes of an entry's run. -/
def galBytes (m : Mem) (n : Nat) (e : GalEntry) : List Byte := m.bytes .hbm (ptrByte e.ptr) n

/-- Runs written to the buffers of entries. -/
def galPut (m : Mem) (outs : List (GalEntry × List Byte)) : Mem := outs.foldl (fun m p => m.put .hbm (ptrByte p.1.ptr) p.2) m

/-- The coefficients of a brew's group: those of its layout (R197). -/
def Ctl.galCoef (c : Ctl) (tag : Nat) : Nat → Nat → Nat :=
  match Tab.at? c.car.works tag, c.rec? tag with
  | some w, _ => layCoef (c.get (F.GAL_GRP_CFG_layout w.group))
  | none, some r => layCoef (c.get (F.GAL_GRP_CFG_layout (c.recGrp r)))
  | none, none => gfCoef

/-- A Galois step over its aux list: a missing aux ends BPM_FAULT, an uncorrectable input HBM_UE. -/
def galAct (tag : Nat) (f : (Nat → Nat → Nat) → Nat → List GalEntry → Mem → Ctl → Act) (i : Issued) (m : Mem) (c : Ctl) : Act :=
  match i.auxSlot with
  | none => .refuse m c 0x02
  | some y =>
    let es := galList m (ptrByte y.ptr) 32
    let ins := es.filter (fun e => e.role ≤ 2)
    if ins.any (fun e => m.hbmBad (ptrByte e.ptr) i.step.len) then .refuse m c 0x03
    else f (c.galCoef tag) i.step.len es m (c.tev .gal 0 0 none none (i.step.len * ins.length))

/-- ENCODE: each parity run out from the data runs. -/
def galEncodeAct (co : Nat → Nat → Nat) (n : Nat) (es : List GalEntry) (m : Mem) (c : Ctl) : Act :=
  let data := (galRole es 0).map (fun e => (e.idx, galBytes m n e))
  .ok (galPut m ((galRole es 3).map (fun e => (e, gfCombine n (data.map (fun d => (co e.idx d.1, d.2))))))) c

/-- GAL_ENCODE (R197). -/
def execGalEncode (tag : Nat) (s : State) : Host.Outcome State Fault Refusal :=
  onAll (fun m c => issue m c tag Cls.gal 0x01 false (galAct tag galEncodeAct)) s

/-- UPDATE: new parity j is old parity j plus column i of R198 times the change of data i. -/
def galUpdateAct (co : Nat → Nat → Nat) (n : Nat) (es : List GalEntry) (m : Mem) (c : Ctl) : Act :=
  let old (i : Nat) : List Byte := match (galRole es 0).find? (fun e => e.idx == i) with | some e => galBytes m n e | none => List.replicate n 0
  let par (j : Nat) : List Byte := match (galRole es 1).find? (fun e => e.idx == j) with | some e => galBytes m n e | none => List.replicate n 0
  .ok (galPut m ((galRole es 3).map (fun o => (o, (galRole es 2).foldl (fun acc e =>
    xorBytes acc (scaleBytes (co o.idx e.idx) (xorBytes (old e.idx) (galBytes m n e)))) (par o.idx))))) c

/-- GAL_UPDATE (R236). -/
def execGalUpdate (tag : Nat) (s : State) : Host.Outcome State Fault Refusal :=
  onAll (fun m c => issue m c tag Cls.gal 0x02 false (galAct tag galUpdateAct)) s

/-- DECODE: the erased data runs from the known runs, then erased parity from all the data; more erasures than parity runs known
end TOO_MANY_ERASURES 0x40. -/
def galDecodeAct (co : Nat → Nat → Nat) (n : Nat) (es : List GalEntry) (m : Mem) (c : Ctl) : Act :=
  let known := (galRole es 0).map (fun e => (e.idx, galBytes m n e))
  let par := (galRole es 1).map (fun e => (e.idx, galBytes m n e))
  let lost := (galRole es 4).map (·.idx)
  match gfSolve co n lost known par with
  | none => .refuse m c 0x40
  | some sol =>
    let all := known ++ sol
    let outD := (galRole es 4).filterMap (fun e => (sol.find? (fun p => p.1 == e.idx)).map (fun p => (e, p.2)))
    let outP := (galRole es 3).map (fun e => (e, gfCombine n (all.map (fun d => (co e.idx d.1, d.2)))))
    .ok (galPut m (outD ++ outP)) c

/-- GAL_DECODE (R236). -/
def execGalDecode (tag : Nat) (s : State) : Host.Outcome State Fault Refusal :=
  onAll (fun m c => issue m c tag Cls.gal 0x03 false (galAct tag galDecodeAct)) s

/-! ### The CRC units (R203, R204, R236) -/

/-- The first block and the number of blocks of a step: arg0 counts on from the first block of the command or stripe, and a length
of 0 is the whole of it (notes/assumptions/17.md). -/
def Ctl.crcRange (c : Ctl) (tag : Nat) (i : Issued) : Nat × Nat × Nat :=
  match Tab.at? c.car.works tag, c.rec? tag with
  | some w, _ => (w.group, c.stripeBase w.group w.strp + i.step.arg0, if i.step.len = 0 then c.grpDS w.group else i.step.len / 4096)
  | none, some r => (c.recGrp r, c.recB r r.slba + i.step.arg0, if i.step.len = 0 then r.nlb + 1 else i.step.len / 4096)
  | none, none => (0, i.step.arg0, i.step.len / 4096)

/-- First block of a host command's runs as a read loads them: whole units in a Tamp namespace. -/
def Ctl.recBase (c : Ctl) (r : LookupRec) : Nat :=
  if c.tamp r.nsid then c.recB r r.slba / 16 * 16 else c.recB r r.slba

/-- The end of those runs: the block after their last. -/
def Ctl.recEnd (c : Ctl) (r : LookupRec) : Nat :=
  if c.tamp r.nsid then c.recB r (r.slba + r.nlb) / 16 * 16 + 16 else c.recB r (r.slba + r.nlb) + 1

/-- The blocks a CHK works on: as GEN's, but a read of a Tamp namespace checks the 16 blocks of each unit, slot 15 with them (R273, R276). -/
def Ctl.chkRange (c : Ctl) (tag : Nat) (i : Issued) : Nat × Nat × Nat :=
  match Tab.at? c.car.works tag, c.rec? tag with
  | none, some r =>
    let b := c.recBase r + i.step.arg0
    (c.recGrp r, b, if i.step.len = 0 then c.recEnd r - b else i.step.len / 4096)
  | _, _ => c.crcRange tag i

/-- Generation of GEN's tags: arg1, or the generation of the flush's intent where arg1 is 0 (R213). -/
def Ctl.crcGen (c : Ctl) (tag : Nat) (i : Issued) : Nat :=
  match Tab.at? c.car.works tag with
  | some w => match w.intent with | some q => if i.step.arg1 = 0 then genOf q else i.step.arg1 | none => i.step.arg1
  | none => i.step.arg1

/-- GEN tags the blocks of src into aux. -/
def crcGenAct (tag : Nat) (i : Issued) (m : Mem) (c : Ctl) : Act :=
  match i.srcSlot, i.auxSlot with
  | some x, some y =>
    match c.crcRange tag i with
    | (_, b, n) =>
      if m.hbmBad (ptrByte x.ptr) (4096 * n) then .refuse m c 0x03
      else .ok ((List.range n).foldl (fun m1 j =>
        m1.put .hbm (ptrByte y.ptr + 16 * j) (tagOf (m.bytes .hbm (ptrByte x.ptr + 4096 * j) 4096) (b + j) (c.crcGen tag i))) m) c
  | _, _ => .refuse m c 0x02

/-- CRC_GEN (R236). -/
def execCrcGen (tag : Nat) (s : State) : Host.Outcome State Fault Refusal :=
  onAll (fun m c => issue m c tag Cls.crc 0x01 false (crcGenAct tag)) s

/-- The tag of block `j` of a CHK: Carafe's for a block it supplies, else aux's from byte arg1, or, with no aux, the one
inline after the block. -/
def chkTagOf (m : Mem) (c : Ctl) (tag : Nat) (i : Issued) (src : Nat) (g b j : Nat) : Option (List Byte) :=
  match c.supplyTo tag g b with
  | some e => c.carTag m e
  | none => match i.auxSlot with
    | some y => some (m.bytes .hbm (ptrByte y.ptr + i.step.arg1 + 16 * j) 16)
    | none => some (m.bytes .hbm (src + 4112 * j + 4096) 16)

/-- CHK accepts the blocks whose tags pass; a block of an unallocated unit, and one that Carafe supplies as zeros, is zeros and needs
none. A block that fails is noted for the repair queue (R204, R258). -/
def crcChkAct (tag : Nat) (i : Issued) (m : Mem) (c : Ctl) : Act :=
  match i.srcSlot with
  | none => .refuse m c 0x02
  | some x =>
    match c.chkRange tag i with
    | (g, b, n) =>
      let src := ptrByte x.ptr
      let ok (j : Nat) : Bool :=
        if (c.rec? tag).isSome && (c.supplyTo tag g (b + j)).isNone && !c.unitOn g ((b + j) / 16) then true
        else match chkTagOf m c tag i src g (b + j) j with
          | none => true
          | some t => chkTag (m.bytes .hbm (src + (if i.auxSlot.isNone then 4112 else 4096) * j) 4096) t (b + j)
      let bad := (List.range n).filter (fun j => !ok j)
      if m.hbmBad src (4096 * n) then .refuse m c 0x03
      else if bad.isEmpty then .ok m c
      else .refuse m (c.onBrew tag (fun y => { y with chkBad := y.chkBad ++ bad.map (fun j => (g, b + j)) })) 0x08

/-- CRC_CHK (R204). -/
def execCrcChk (tag : Nat) (s : State) : Host.Outcome State Fault Refusal :=
  onAll (fun m c => issue m c tag Cls.crc 0x02 false (crcChkAct tag)) s

/-! ### Moves between slots (R142) -/

/-- `len` bytes go from slot src at offset arg0 to slot dst at offset arg1; `f` reorders them. The step runs its channel from IDLE to its end
(R140). An uncorrectable word ends HBM_UE with nothing moved, and a Crema entry that holds the buffer is removed (R187); a slot that is
not valid ends BPM_FAULT; a length or range that no buffer holds ends DMA_ERR (notes/assumptions/9.md). -/
def moveAct (tag unit : Nat) (f : List Byte → List Byte) (hbmUe : Bool) (i : Issued) (m : Mem) (c : Ctl) : Act :=
  match i.brew.slot? i.step.src, i.brew.slot? i.step.dst with
  | some x, some y =>
    let n := i.step.len
    let a := ptrByte x.ptr + i.step.arg0
    let d := ptrByte y.ptr + i.step.arg1
    let run (c : Ctl) (st : Nat) : Ctl := c.moveRun i.inst tag st n i.step.tok
    let fail (c : Ctl) (st tok : Nat) : Act := ⟨if i.step.tok then 0 else tok, none, [], none, m, run c st⟩
    if n = 0 ∨ n % unit ≠ 0 ∨ a % unit ≠ 0 ∨ d % unit ≠ 0 then fail c 3 0x0A
    else if ptrSize x.ptr < i.step.arg0 + n ∨ ptrSize y.ptr < i.step.arg1 + n then fail c 4 0x0A
    else if hbmUe || m.hbmBad a n then fail (c.crmBufferBad (ptrAddr x.ptr)) 5 0x03
    else .ok (m.put .hbm d (f (m.bytes .hbm a n))) (run c 1)
  | _, _ => .refuse m c 0x02

/-- DMA_STEP_MOVE (R142). -/
def execDmaStepMove (tag : Nat) (hbmUe : Bool) (s : State) : Host.Outcome State Fault Refusal :=
  onAll (fun m c => issue m c tag Cls.dma 0x01 false (moveAct tag 1 id hbmUe)) s

/-- DMA_STEP_MOVE_SWAP (R142): with swap mode arg2 [1:0]. -/
def execDmaStepMoveSwap (tag : Nat) (hbmUe : Bool) (s : State) : Host.Outcome State Fault Refusal :=
  onAll (fun m c => issue m c tag Cls.dma 0x02 false (fun i =>
    let mode := i.step.arg2 % 4
    moveAct tag (swapUnit mode) (fun bs => swapBytes mode (bs.length / swapUnit mode) bs) hbmUe i)) s

end Sys2Proof.Machine
end

