-- ==== Sys2Proof/Machine/HostIo.lean ====
section
/-! DEFINITION. I/O commands from intake to the start of their brew, and the end of a queue's tags (05_host_command_path.md, R83 to R89, R98 to
R102, R105, R169, R170). -/

namespace Sys2Proof.Machine

/-! ### Checks of an I/O command (R89, Tables 5.1, 5.3, 5.8) -/

/-- Whether a namespace is attached to a tenant. -/
def Ctl.nsAttached (c : Ctl) (ns ten : Nat) : Bool := c.nsValid ns && c.nsTenant ns == ten

/-- Bytes of data a command moves. -/
def ioBytes (k : TagKind) (x : IoCmd) : Nat :=
  match k with
  | .read | .write => 4096 * (x.nlb + 1)
  | .dsm => 16 * x.ranges.length
  | _ => 0

/-- What the data descriptors get wrong for a transport (R89): an in-capsule block stands alone. The status of one that does not is
notes/assumptions/21.md. -/
def sglCheck (tcp : Bool) (k : TagKind) (x : IoCmd) : Option NvStatus :=
  let ok (d : Sgl) : Bool := match d.kind with
    | .inCapsule => true | .keyed => !tcp | .transport => tcp | .segment => true | .other => false
  if ioBytes k x = 0 then none
  else if x.badSeg then some St.badSegment
  else if (if tcp then 1 else 16) < x.sgls.length then some St.sglCount
  else if x.sgls.any (fun d => !ok d) || (x.sgls.any (fun d => d.kind == .inCapsule) && decide (1 < x.sgls.length)) then some St.sglType
  else if x.sgls.any (fun d => d.kind == .inCapsule && decide (4096 < d.len)) then some St.sglLength
  else if (x.sgls.map (fun d => if d.kind = .segment then 0 else d.len)).sum ≠ ioBytes k x then some St.sglLength
  else none

/-- Whether a reserved field is not 0, a limit of Table 5.3 is broken, PRINFO is set, or Dataset Management asks for anything but
deallocation (R88, R89, R97). -/
def fieldBad (k : TagKind) (x : IoCmd) : Bool :=
  x.rsvd || match k with
  | .read | .write => x.prinfo != 0 || decide (512 < x.nlb + 1)
  | .writeZeroes => x.prinfo != 0 || decide (65536 < x.nlb + 1)
  | .dsm => !x.ad || x.ranges.isEmpty || decide (256 < x.ranges.length)
  | _ => false

/-- Whether a range leaves the namespace (R89). -/
def Ctl.outOfRange (c : Ctl) (k : TagKind) (x : IoCmd) : Bool :=
  match k with
  | .flush => false
  | .dsm => x.ranges.any (fun p => decide (c.nsze x.nsid < p.1 + p.2))
  | _ => decide (c.nsze x.nsid ≤ x.slba + x.nlb)

/-- Why an I/O command completes without a brew; none when it may run. The order of the checks is notes/assumptions/21.md. -/
def Ctl.ioCheck (c : Ctl) (k : TagKind) (x : IoCmd) (ten : Nat) (tcp : Bool) : Option NvStatus :=
  let all := k == .flush && x.nsid == 0xFFFFFFFF
  if !(c.mode == .active || c.mode == .degraded || c.mode == .idleLow) then some St.anaInaccessible
  else if all then (if fieldBad k x then some St.badField else none)
  else if !c.nsAttached x.nsid ten then some St.badNs
  else if c.mgt.nsBusy.contains x.nsid then some St.nsNotReady
  else if c.bitOf F.HCP_ANA_GRP_inacc (c.nsGroup x.nsid) then some St.anaInaccessible
  else if fieldBad k x then some St.badField
  else if c.outOfRange k x then some St.lbaRange
  else match sglCheck tcp k x with
    | some st => some st
    | none => if c.nsKey x.nsid ≠ 1 then some St.keyDenied else none

/-! ### Starting (R102, R107, R113, R170, R215) -/

/-- Whether a tag is earlier on the same queue and its completion has not been handed to the transport. -/
def TagE.blocks (e t : TagE) : Bool :=
  e.kind.host && e.assoc == t.assoc && e.qid == t.qid && decide (e.seq < t.seq) && !e.sent

/-- The queue of a tag. -/
def Ctl.tagQueue (c : Ctl) (t : TagE) : Option HostQueue := (t.cmd.bind (fun x => Tab.at? c.host.queues x.conn))

/-- Whether a tag's place in its queue has come: at once, and on an ordered queue when the command before it has completed (R102). -/
def Ctl.inOrder (c : Ctl) (t : TagE) : Bool :=
  let ord := match c.tagQueue t with | some q => q.ordered | none => false
  !(ord && c.host.tags.any (fun p => p.2.blocks t))

/-- Whether WAITING tags are held: while ACTIVATING, and during an exit from PS3 (R107, R113). -/
def Ctl.startHeld (c : Ctl) : Bool := c.mode == .activating || c.power.psExit

/-- Whether thermal throttling holds this start of a host command: of the starts that are asked for, the percentage of R43 goes on; which
ones do is open (notes/assumptions/66.md). -/
def Ctl.issueCut (c : Ctl) : Bool := decide (c.power.issuePct ≤ c.free % 100)

/-- A start that throttling decided about has used its free value. -/
def Ctl.issueTook (c : Ctl) : Ctl := if c.power.issuePct < 100 then c.tookFree else c

/-- Recipe of a host command: the hit or miss recipe of a read, the write recipes of Table 9.6 and R234. -/
def Ctl.ioRecipe (c : Ctl) (k : TagKind) (hit : Bool) : Nat :=
  match k with
  | .read => Config.recipeOf (if hit then 0 else 1)
  | .write => Config.recipeOf (if c.flag F.CAR_STAT_wt then 13 else 2)
  | .writeZeroes => Config.recipeOf 3
  | _ => Config.recipeOf 4

/-- The brew of a command that passed its checks: lookup for a read, the lookup record for the others, and the recipe's start; a
recipe that is retired or not installed completes with Internal Error (R122). -/
def Ctl.ioBrew (c : Ctl) (tag : Nat) (t : TagE) (x : IoCmd) : Ctl :=
  let ten := c.assocTenant t.assoc
  let r := if t.kind = .read then c.crmLookup tag x.nsid x.slba x.nlb ten else (.miss, c.setRec tag ⟨x.nsid, x.slba, x.nlb, [], none⟩)
  let ptrs := match r.1 with | .hit ps => ps | .miss => []
  match (r.2.tagTo tag .running).startBrew tag (r.2.ioRecipe t.kind (!ptrs.isEmpty)) (hostId x.nsid) with
  | some c1 => c1.onBrew tag (fun b => { b with slots := (List.range ptrs.length).zip ptrs |>.map (fun p => (p.1, ⟨p.2, false, false⟩)) })
  | none =>
    let c1 := ptrs.foldl (fun c w => (c.bufDo w .deref crmReq false).2) r.2
    ({ c1 with crm := { c1.crm with recs := Tab.del c1.crm.recs tag } }.completeTag t St.internal).freeTagE tag

/-! ### The end of a queue's tags (R84, R106) -/

/-- The controller-reset rule of R106 for one tag: WAITING goes FREE with no completion; a running one enters DISCARD. An ABORTED tag
whose brew runs enters DISCARD too, since no completion reaches the host (DEDUCED, notes/assumptions/23.md). -/
def Ctl.discardTag (c : Ctl) (tag : Nat) : Ctl :=
  match c.tag? tag with
  | none => c
  | some t =>
    match t.state with
    | .waiting => c.freeTagE tag
    | .running | .completing => if t.adm.any (fun x => x.op == .asyncEvent) then c.freeTagE tag else c.tagTo tag .discard
    | .aborted => if (c.brew? tag).isSome then c.tagTo tag .discard else c.freeTagE tag
    | _ => c

/-- The rule for every host tag that satisfies `p`. -/
def Ctl.discardTags (c : Ctl) (p : TagE → Bool) : Ctl :=
  (c.host.tags.filter (fun x => x.2.kind.host && p x.2)).foldl (fun c x => c.discardTag x.1) c

/-- The device closes a transport connection: a capsule that still arrives on it is discarded (R80). -/
def Ctl.closeConn (c : Ctl) (k : Nat) : Ctl :=
  if Tab.has c.net.conns k && !c.host.closing.contains k then
    ({ c with host := { c.host with closing := c.host.closing ++ [k] } }).emit (.connClose k)
  else c

/-- A Disconnect completes (R80, R84): the queue's tags are discarded, the queue is released once they are FREE, and its connection
closes. -/
def Ctl.queueEnd (c : Ctl) (t : TagE) (x : IoCmd) : Ctl :=
  match Tab.at? c.host.queues x.conn with
  | none => c
  | some q =>
    let c1 := c.completeTag t St.ok
    let c2 := { c1 with host := { c1.host with
      queues := Tab.put c1.host.queues x.conn { q with ending := true }, intake := c1.host.intake.filter (fun e => e.conn != x.conn) } }
    ((c2.discardTags (fun u => u.assoc == q.assoc && u.qid == q.qid)).reap).closeConn x.conn

/-! ### A tag's turn (R98, R102, R103, R105) -/

/-- The command of a tag that no brew serves: a Disconnect, an opcode that is not supported (R88), and a CID in use (R86). -/
def Ctl.ioPlain (c : Ctl) (tag : Nat) (t : TagE) (x : IoCmd) : Ctl :=
  match t.kind with
  | .disconnect => (c.freeTagE tag).queueEnd t x
  | .badOpcode => (c.completeTag t St.badOpcode).freeTagE tag
  | _ => (c.completeTag t St.cidConflict).freeTagE tag

/-- A tag whose turn has come: an abort that won completes at its place (R102, R103); Flush completes (R105); a failed check
completes with its status (R98); else the brew starts. -/
def Ctl.ioStart (c : Ctl) (tag : Nat) : Ctl :=
  match c.tag? tag with
  | none => c
  | some t =>
    match t.cmd with
    | none => c
    | some x =>
      if !c.inOrder t then c
      else if t.state = .aborted then
        (if (c.brew? tag).isNone then (c.completeTag t St.aborted).freeTagE tag else c)
      else if t.state ≠ .waiting then c
      else if !t.kind.io then (if c.mode = .activating then c else c.ioPlain tag t x)
      else if c.startHeld ∨ ((t.kind = .write ∨ t.kind = .writeZeroes ∨ t.kind = .dsm) ∧ c.wtHeld) then c
      else if c.issueCut then c.issueTook
      else
        let tcp := match c.tagQueue t with | some q => q.tcp | none => false
        let c1 := c.issueTook
        match c1.ioCheck t.kind x ((c1.assocTenant t.assoc).getD 0) tcp with
        | some st => (c1.completeTag t st).freeTagE tag
        | none => if t.kind = .flush then (c1.completeTag t St.ok).freeTagE tag else c1.ioBrew tag t x

/-- Tags by their place in the order of acceptance. -/
def insertSeq (e : Nat × TagE) : List (Nat × TagE) → List (Nat × TagE)
  | [] => [e]
  | f :: r => if e.2.seq < f.2.seq then e :: f :: r else f :: insertSeq e r

/-- Every tag whose turn has come starts, in the order of acceptance. -/
def Ctl.startReady (c : Ctl) : Ctl :=
  ((c.host.tags.filter (fun p => p.2.cmd.isSome && (p.2.state == .waiting || p.2.state == .aborted))).foldl
    (fun l e => insertSeq e l) []).foldl (fun c p => c.ioStart p.1) c

/-! ### Intake (R80, R85, R86) -/

/-- Tags that an association holds. -/
def Ctl.assocTags (c : Ctl) (k : Nat) : Nat := (c.host.tags.filter (fun p => p.2.kind.host && p.2.assoc == k)).length

/-- Whether capsules stay in their submission queues: while quiescing or QUIESCED (R52), and during a handover (R349). -/
def Ctl.fetchStopped (c : Ctl) : Bool := c.mode == .quiesced || c.power.quiescing || c.pair.hand.isSome

/-- Whether a capsule of an association can take a context now (R85). -/
def Ctl.contextFor (c : Ctl) (k : Nat) : Bool :=
  decide (c.hostTags + c.get F.HCP_CTX_CFG_bg_reserve < ctxTotal) && decide (c.assocTags k < 65535) && c.freeTag.isSome

/-- Whether a CID is in use on a queue: a tag of the queue holds it, and its completion has not gone to the host (R86). -/
def Ctl.cidUsed (c : Ctl) (k qid cid : Nat) : Bool :=
  c.host.tags.any (fun p => p.2.kind.host && p.2.assoc == k && p.2.qid == qid && p.2.cid == cid && !p.2.sent)

/-- A capsule of an I/O queue takes a context and its tag is WAITING; it starts when it may (R85, R87). One whose CID is in use is to be
refused in its turn (R86, R102). CC.EN is not asked (DESIGN CHOICE, notes/assumptions/77.md). -/
def Ctl.ioAccept (c : Ctl) (kind : TagKind) (x : IoCmd) (q : HostQueue) : Ctl :=
  match c.freeTag with
  | none => c
  | some tag =>
    let k := if c.cidUsed q.assoc q.qid x.cid then .conflict else kind
    let c1 := (c.setTag tag ⟨.waiting, k, q.assoc, q.qid, x.cid, some x, false, c.host.capSeq, false, none⟩).tev .hcp 0 0
      (c.assocTenant q.assoc) none 1
    let c2 := { c1 with host := { c1.host with capSeq := c1.host.capSeq + 1 } }
    (if k.io then c2.psWake else c2).startReady

/-- Whether capsules of admin queues are served: not before STANDBY, in RECOVERY, TEST or FENCED; in ACTIVATING they are held (R83,
R107). -/
def Mode.adminOk : Mode → Bool
  | .standby | .active | .degraded | .quiesced | .idleLow => true
  | _ => false

/-- Whether a capsule on a connection reaches the device: it runs, and the connection is there and not closing (R80). -/
def Ctl.capsuleHere (c : Ctl) (conn : Nat) : Bool := !c.halted && Tab.has c.net.conns conn && !c.host.closing.contains conn

/-- Whether a capsule is taken in: in ACTIVATING it is held (R107). -/
def Ctl.ioOpen (c : Ctl) (conn : Nat) : Bool := (c.mode.adminOk || c.mode == .activating) && c.capsuleHere conn

/-- The connected queue of a connection; a queue whose Disconnect has completed is connected no longer. -/
def Ctl.openQueue (c : Ctl) (k : Nat) : Option HostQueue := (Tab.at? c.host.queues k).filter (fun q => !q.ending)

/-- A capsule stays in its submission queue, or waits at intake, behind those that are there. -/
def Ctl.keepCapsule (c : Ctl) (conn : Nat) (x : Capsule) : Ctl :=
  { c with host := { c.host with intake := c.host.intake ++ [⟨conn, x⟩] } }

/-- A capsule waits at intake for a context, which HCP_CTX_WAIT counts (R85). -/
def Ctl.starve (c : Ctl) (conn : Nat) (x : Capsule) : Ctl := ((c.keepCapsule conn x).bump F.HCP_CTX_WAIT_starved 1).tev .hcp 6 0 none none 1

/-- Whether a capsule of a queue waits at intake already, or its association has no context for another (R85). -/
def Ctl.mustWait (c : Ctl) (k conn : Nat) : Bool := !c.contextFor k || c.host.intake.any (fun e => e.conn == conn)

/-- The connection served next: the first in turn after the one served last (R85). -/
def turnNext (last : Nat) (ks : List Nat) : Option Nat :=
  match (ks.filter (fun k => decide (last < k))).min? with
  | some k => some k
  | none => ks.min?

/-- A capsule of a connected I/O queue: kept in its queue while fetching is stopped, counted when it waits for a context, else accepted,
whatever CC.EN is (DESIGN CHOICE, notes/assumptions/77.md). -/
def Ctl.ioTake (c : Ctl) (kind : TagKind) (x : IoCmd) (q : HostQueue) : Ctl :=
  if c.fetchStopped then c.keepCapsule x.conn (.io kind x)
  else if c.mustWait q.assoc x.conn then c.starve x.conn (.io kind x)
  else c.ioAccept kind x q

/-- The association whose admin queue a connection carries. -/
def Ctl.adminAssoc (c : Ctl) (k : Nat) : Option (Nat × Assoc) := c.host.assocs.find? (fun a => a.2.adminConn == k && !a.2.ending)

end Sys2Proof.Machine
end

