-- ==== Sys2Proof/Machine/SwitchCore.lean ====
section
/-! DEFINITION. The switch core (07_switch_core_and_buffers.md, R143 to R154): links, queue entries, holds, ENQ. -/

namespace Sys2Proof.Machine

/-- Link index of the Kweistash link (R143). -/
def peerLink : Nat := 48

/-- Lanes of network port `n` (NET_PORT_STAT.lanes). -/
def Ctl.npLanes (c : Ctl) (n : Nat) : Nat := max 1 (c.get (F.NET_PORT_STAT_lanes n))

/-- Switch port of a link for a flow: an NPnn that spans several NET ports binds to its lowest plus flow mod their number
(R143). -/
def Ctl.linkPort (c : Ctl) (link flow : Nat) : Nat :=
  if link < 24 then link / 2 + flow % max 1 (c.npLanes link / 2)
  else if link < 48 then 12 + (link - 24) / 3 else 34

/-- Switch port of an HBM byte address (R144). -/
def hbmPort (a : Nat) : Nat :=
  if a < 0x600000000 then 20 + a / 2 ^ 22 % 6 else 26 + a / 2 ^ 22 % 6

/-- Queue entries in use (SWC_QE_STAT.in_use, R149). -/
def Ctl.qeUsed (c : Ctl) : Nat := c.swc.entries.length

/-- Queue entries the switch holds in total (R149). -/
def qeTotal : Nat := 262144

/-- Number of the next queue entry: above every entry held, so that entries rise in enqueue order. -/
def Ctl.qeNext (c : Ctl) : Nat := (c.swc.entries.foldl (fun a e => max a (e.1 + 1)) 0)

/-- Whether a link is down with its hold expired (R153). -/
def Ctl.linkExpired (c : Ctl) (link : Nat) : Bool := c.flag (F.SWC_LINK_STAT_expired link)

/-- The high-water mark follows the entries in use (SWC_QE_HWM). -/
def Ctl.noteHwm (c : Ctl) : Ctl := c.set F.SWC_QE_HWM_hwm (max (c.get F.SWC_QE_HWM_hwm) c.qeUsed)

/-- A queue entry is appended to its VOQ (R146, R149); its reference has been taken. -/
def Ctl.qeAppend (c : Ctl) (e : QEntry) : Ctl :=
  ({ c with swc := { c.swc with entries := Tab.put c.swc.entries c.qeNext e } }).noteHwm

/-- The switch as a requester of the buffer manager (BPM_FAULT_STAT.req 1, id the port). -/
def swReq (port : Nat) : BufReq := ⟨1, port, false, 0, 4⟩

/-- A transport as a requester (BPM_FAULT_STAT.req 2, id the NPnn). -/
def xptReq (np : Nat) : BufReq := ⟨2, np, false, 0, 4⟩

/-- Entries still to be sent for the token of a brew's step (R150). -/
def Ctl.qeLeft (c : Ctl) (o : Nat × Nat) : Nat := (c.swc.entries.filter (fun e => e.2.owner == some o)).length

/-- The ENQ token arrives when the last of its entries is gone: OK, or PORT_DROP when one was discarded (R150). -/
def Ctl.qeToken (c : Ctl) (o : Option (Nat × Nat)) (dropped : Bool) : Ctl :=
  match o with
  | none => c
  | some (tag, tok) =>
    let c1 := if dropped then c.tokenFate tag tok 0x44 else c
    if c1.qeLeft (tag, tok) = 0 then c1.tokenPost tag tok 0 else c1

/-- One queue entry is retired: its reference is dropped, whatever the buffer manager answers (R149, R162). -/
def Ctl.qeRetire (c : Ctl) (k : Nat) (e : QEntry) (dropped ue : Bool) : Ctl :=
  let c1 := { c with swc := { c.swc with entries := Tab.del c.swc.entries k } }
  ((c1.bufDo e.ptr .deref (swReq e.port) ue).2).qeToken e.owner dropped

/-- Every entry of a link is discarded: references dropped, unsent cells counted (R153). -/
def Ctl.linkDiscard (c : Ctl) (link : Nat) : Ctl :=
  (c.swc.entries.filter (fun e => e.2.link == some link)).foldl (fun c e =>
    ((c.bump (F.SWC_DROP_CNT_cells link) e.2.cells).tev .swc 3 e.2.port none none e.2.cells).qeRetire e.1 e.2 true false) c

/-- The entries of a link that no longer exists are discarded as at expiry, whatever the hold (R154). -/
def Ctl.linkGone (c : Ctl) (link : Nat) : Ctl :=
  let c1 := { c with swc := { c.swc with holds := Tab.del c.swc.holds link } }
  let c2 := ((c1.setFlag (F.SWC_LINK_STAT_holding link) false).setFlag (F.SWC_LINK_STAT_expired link) true).linkDiscard link
  if c.flag (F.SWC_LINK_STAT_holding link) then c2.bump (F.SWC_FLAP_CNT_expired link) 1 else c2

/-- The hold of a link expires with the link still down (R153). -/
def Ctl.holdExpire (c : Ctl) (link : Nat) : Ctl :=
  if c.flag (F.SWC_LINK_STAT_holding link) then c.linkGone link else c

/-- A link goes down: its VOQs stop and a full hold starts; with hold_us 0 it expires at once (R151, R154). -/
def Ctl.linkDown (c : Ctl) (link : Nat) : Ctl :=
  if c.flag (F.SWC_LINK_STAT_down link) && (c.flag (F.SWC_LINK_STAT_holding link) || c.flag (F.SWC_LINK_STAT_expired link)) then c
  else
    let c1 := ({ c with swc := { c.swc with holds := Tab.put c.swc.holds link c.dt } }).setFlag (F.SWC_LINK_STAT_down link) true
    let c2 := c1.setFlag (F.SWC_LINK_STAT_holding link) true
    if c2.get F.SWC_PORT_HOLD_hold_us = 0 then c2.holdExpire link else c2

/-- A link comes up: within its hold its VOQs resume with no loss; after expiry new entries are taken again (R152, R153). -/
def Ctl.linkUp (c : Ctl) (link : Nat) : Ctl :=
  let c1 := if c.flag (F.SWC_LINK_STAT_holding link) then c.bump (F.SWC_FLAP_CNT_returned link) 1 else c
  (((({ c1 with swc := { c1.swc with holds := Tab.del c1.swc.holds link } }).setFlag (F.SWC_LINK_STAT_down link) false).setFlag
    (F.SWC_LINK_STAT_holding link) false).setFlag (F.SWC_LINK_STAT_expired link) false)

/-- SWC_PORT_HOLD changed in a commit window: a running hold whose elapsed DT meets the new value expires (R154). -/
def Ctl.holdsRecheck (c : Ctl) : Ctl :=
  c.swc.holds.foldl (fun c h => if h.2 + c.get F.SWC_PORT_HOLD_hold_us * 1000 ≤ c.dt then c.holdExpire h.1 else c) c

/-- The VOQ of an entry, by its input, its target (a link, or a port that carries none) and its priority: entries that share it leave in
enqueue order (R146). -/
def QEntry.voq (e : QEntry) : Nat × Option Nat × Nat × Nat := (e.input, e.link, if e.link.isSome then 0 else e.port, e.sp)

/-- Whether entry `k` is the first of its VOQ and its target is no down link (R146, R147). -/
def Ctl.qeEligible (c : Ctl) (k : Nat) (e : QEntry) : Bool :=
  (c.swc.entries.all (fun x => !(decide (x.1 < k) && x.2.voq == e.voq)))
    && (match e.link with | some l => !c.flag (F.SWC_LINK_STAT_down l) | none => true)

/-! ### Cells (R145, Table 7.2) -/

/-- The header of an entry's next cell. -/
def QEntry.header (e : QEntry) (poison : Bool) : Nat :=
  let last := decide (e.cells ≤ 1)
  e.port * 2 ^ 58 + e.input * 2 ^ 52 + e.sub * 2 ^ 47 + e.sp * 2 ^ 45 + (if e.cell0 = e.start then 2 ^ 44 else 0)
    + (if last then 2 ^ 43 else 0) + (if poison then 2 ^ 42 else 0) + ((if last then e.last else 256) - 1) % 256 * 2 ^ 34
    + e.flow % 2 ^ 20 * 2 ^ 14 + e.cell0 % 2 ^ 14

/-- Destination, source, and whether the cell is the last of its entry, as the destination port reads them. -/
def hdrDst (h : Nat) : Nat := h / 2 ^ 58 % 64
def hdrSrc (h : Nat) : Nat := h / 2 ^ 52 % 64
def hdrLast (h : Nat) : Bool := h / 2 ^ 43 % 2 == 1

/-- The next cell of entry `k` crosses the switch: counted at both ports; after the last one the entry is retired (R149). -/
def Ctl.cellMove (c : Ctl) (k : Nat) (e : QEntry) (ue : Bool) : Ctl :=
  let h := e.header false
  let c1 := (c.tev .swc 0 (hdrDst h) none none 1).tev .swc 1 (hdrSrc h) none none 1
  if hdrLast h then c1.qeRetire k e false ue
  else { c1 with swc := { c1.swc with entries := Tab.put c1.swc.entries k { e with cell0 := e.cell0 + 1, cells := e.cells - 1 } } }

/-! ### Matching (R147) -/

/-- The least of some numbers at or after `p`, else the least of all: the first one in turn from `p`. -/
def fromTurn (p : Nat) (xs : List Nat) : Option Nat :=
  match (xs.filter (fun x => decide (p ≤ x))).min? with
  | some x => some x
  | none => xs.min?

/-- Those of some pairs that have the least first member, the highest priority; their second members, with it. -/
def bestOf (xs : List (Nat × Nat)) : Option (Nat × List Nat) :=
  ((xs.map (·.1)).min?).map (fun s => (s, (xs.filter (fun x => x.1 == s)).map (·.2)))

/-- The sp at which input `i` requests output `o`: the highest of its eligible entries for it. -/
def reqSp (es : List QEntry) (i o : Nat) : Option Nat := ((es.filter (fun e => e.input == i && e.port == o)).map (·.sp)).min?

/-- Grants of the unmatched outputs `outs` to the unmatched inputs `ins`: output, input and sp. -/
def grantsOf (w : Switch) (es : List QEntry) (ins outs : List Nat) : List (Nat × Nat × Nat) :=
  outs.filterMap (fun o =>
    match bestOf (ins.filterMap (fun i => (reqSp es i o).map (fun s => (s, i)))) with
    | some (s, is) => (fromTurn (Tab.getD w.grants o 0) is).map (fun i => (o, i, s))
    | none => none)

/-- One iteration of request, grant and accept: the pairs matched so far, as input and output, with those it adds. -/
def matchIter (w : Switch) (es : List QEntry) (ms : List (Nat × Nat)) : List (Nat × Nat) :=
  let ins := ((es.map (·.input)).eraseDups).filter (fun i => !ms.any (fun p => p.1 == i))
  let outs := ((es.map (·.port)).eraseDups).filter (fun o => !ms.any (fun p => p.2 == o))
  let gs := grantsOf w es ins outs
  ms ++ ins.filterMap (fun i =>
    match bestOf ((gs.filter (fun g => g.2.1 == i)).map (fun g => (g.2.2, g.1))) with
    | some (_, os) => (fromTurn (Tab.getD w.accepts i 0) os).map (fun o => (i, o))
    | none => none)

/-- The entry that a matched pair serves: of its highest-sp eligible VOQs, the one of the link in turn. -/
def pairEntry (w : Switch) (es : Tab QEntry) (i o : Nat) : Option (Nat × QEntry) :=
  match reqSp (es.map (·.2)) i o with
  | none => none
  | some s =>
    let cs := es.filter (fun p => p.2.input == i && p.2.port == o && p.2.sp == s)
    match fromTurn (Tab.getD w.turns (i * 256 + o * 4 + s) 0) (cs.filterMap (·.2.link)) with
    | some l => cs.find? (fun p => p.2.link == some l)
    | none => cs.head?

/-- The switch forwards cells: from the end of step 4 of Table 3.3 (R164), while the device runs. -/
def Ctl.swRuns (c : Ctl) : Bool := c.flag F.GLB_START_STAT_hbm_ok && !c.halted

/-- One cell time: the matching over the eligible entries, and one cell of each matched pair; the pointers move past the partners of the
first iteration, an input counts a cell time in which a request of it stays unmatched. `ue`: the metadata word behind entry `k` is
damaged. -/
def Ctl.cellTime (c : Ctl) (k : Nat) (ue : Bool) : Ctl :=
  if !c.swRuns then c else
  let es := c.swc.entries.filter (fun p => c.qeEligible p.1 p.2)
  let q := es.map (·.2)
  let m1 := matchIter c.swc q []
  let ms := matchIter c.swc q (matchIter c.swc q m1)
  let c1 := m1.foldl (fun (c : Ctl) p => { c with swc := { c.swc with
    grants := Tab.put c.swc.grants p.2 ((p.1 + 1) % 48), accepts := Tab.put c.swc.accepts p.1 ((p.2 + 1) % 48) } }) c
  let c2 := (((q.map (·.input)).eraseDups).filter (fun i => !ms.any (fun p => p.1 == i))).foldl (fun c i => c.tev .swc 2 i none none 1) c1
  ms.foldl (fun a p =>
    match pairEntry c.swc es p.1 p.2 with
    | none => a
    | some (n, e) =>
      let a1 := match e.link with
        | some l => { a with swc := { a.swc with turns := Tab.put a.swc.turns (p.1 * 256 + p.2 * 4 + e.sp) (l + 1) } }
        | none => a
      a1.cellMove n e (ue && n == k)) c2

/-- `n` cell times. -/
def Ctl.cellTimes (c : Ctl) : Nat → Ctl
  | 0 => c
  | n + 1 => (c.cellTime 0 false).cellTimes n

/-- Cell times until the last cell of entry `k` has been sent. -/
def Ctl.cellRun (c : Ctl) (k : Nat) (ue : Bool) : Nat → Ctl
  | 0 => c
  | n + 1 => if Tab.has c.swc.entries k then (c.cellTime k ue).cellRun k ue n else c

/-- Cells not yet sent, of all entries, and of those for a link. -/
def Ctl.cellsLeft (c : Ctl) : Nat := (c.swc.entries.map (fun p => p.2.cells)).sum
def Ctl.linkCells (c : Ctl) (l : Nat) : Nat := ((c.swc.entries.filter (fun p => p.2.link == some l)).map (fun p => p.2.cells)).sum

/-- Up to the event that takes link `l` down `n` cell times pass; the cells of the last one were matched when it came, and are delivered to
the port that is down: how many, and the state (R151). -/
def Ctl.cellsTill (c : Ctl) (l n : Nat) : Nat × Ctl :=
  if n = 0 then (0, c)
  else
    let c1 := c.cellTimes (n - 1)
    let c2 := c1.cellTime 0 false
    (c1.linkCells l - c2.linkCells l, c2)

/-! ### Fan-out lists (R150, Table 7.3) -/

/-- A fan-out entry of eight bytes: port, sub, sp, flow, and whether it is well formed. -/
structure FanOut where
  port : Nat
  sub  : Nat
  sp   : Nat
  flow : Nat
  ok   : Bool
  deriving DecidableEq, Repr

/-- The fan-out entry of a 64-bit little-endian value. -/
def fanOutOf (v : Nat) : FanOut :=
  let port := v % 64
  let sub := v / 64 % 32
  { port := port, sub := sub, sp := v / 2048 % 4, flow := v / 8192 % 2 ^ 20,
    ok := decide (12 ≤ port) && decide (port ≤ 47) && decide (v / 2 ^ 33 = 0)
      && (if port < 20 then decide (3 * (port - 12) ≤ sub) && decide (sub ≤ 3 * (port - 12) + 2) else sub == 0) }

/-- The link a fan-out entry names. -/
def FanOut.link (f : FanOut) : Option Nat :=
  if f.port < 20 then some (24 + f.sub) else if f.port = 34 then some peerLink else none

/-- The `k` fan-out entries at an HBM address. -/
def fanList (m : Mem) (a k : Nat) : List FanOut :=
  (List.range k).map (fun i => fanOutOf (leNat (m.bytes .hbm (a + 8 * i) 8)))

/-- ENQ (R150): every check passes and k references are taken, or nothing is appended; a fan-out list with an uncorrectable word ends HBM_UE.
With tok = 1 the token waits for the entries. A slot that is not valid ends BAD_RANGE, and a REF refused by a fault of Table 7.9 ends BPM_FAULT with
the switch at the HBM port as the fault's requester (DESIGN CHOICE, notes/assumptions/79.md). -/
def swcEnqAct (tag : Nat) (i : Issued) (m : Mem) (c : Ctl) : Act :=
  match i.brew.slot? i.step.src, i.brew.slot? i.step.aux with
  | some src, some aux =>
    let k := i.step.arg2 % 64
    let off := i.step.arg0
    let n := i.step.arg1 % 2 ^ 24
    let fs := fanList m (ptrByte aux.ptr) k
    if m.hbmBad (ptrByte aux.ptr) (8 * k) then .refuse m c 0x03
    else if ptrSize src.ptr < off + n ∨ fs.any (fun f => !f.ok) then .refuse m c 0x42
    else if qeTotal - c.qeUsed < k then .refuse m c 0x40
    else if fs.any (fun f => match f.link with | some l => c.linkExpired l | none => false) then .refuse m c 0x41
    else match c.bufDo src.ptr (.ref k) (swReq (hbmPort (ptrByte src.ptr))) false with
      | (.refFull, c1) => .refuse m c1 0x43
      | (.fault, c1) => .refuse m c1 0x02
      | (.done, c1) =>
        let c2 := fs.foldl (fun c f => c.qeAppend
          { input := hbmPort (ptrByte src.ptr), port := f.port, sub := f.sub, ptr := src.ptr, start := off / 256, cell0 := off / 256,
            cells := (n + 255) / 256, last := (n - 1) % 256 + 1, flow := f.flow, sp := f.sp, link := f.link,
            owner := if i.step.tok then some (tag, c.tokNext) else none }) c1
        .ok m c2
  | _, _ => .refuse m c 0x42

/-- SWC_ENQ (R150). -/
def execSwcEnq (tag : Nat) (s : State) : Host.Outcome State Fault Refusal :=
  onAll (fun m c => issue m c tag Cls.swc 0x01 false (swcEnqAct tag)) s

/-- QUEUE_ENTRY_SENT (R147, R149): cell times pass until the last cell of an eligible entry is sent, and its reference is dropped; what the
matching sends meanwhile of the other entries is sent too. `corrected` of the cells had an error that their check bits corrected
(R145). -/
def execQueueEntrySent (entry corrected : Nat) (ue : Bool) (s : State) : Host.Outcome State Fault Refusal :=
  onCtl (fun _ c =>
    match Tab.at? c.swc.entries entry with
    | none => c
    | some e =>
      if c.swRuns && c.qeEligible entry e then (c.cellRun entry ue (c.cellsLeft + 1)).bump F.SWC_ERR_STAT_corrected corrected
      else c) s

/-- PORT_HOLD_EXPIRE (R153): the hold's time comes with the link still down. -/
def execPortHoldExpire (link : Fin 49) (s : State) : Host.Outcome State Fault Refusal :=
  onCtl (fun _ c =>
    match Tab.at? c.swc.holds link.val with
    | none => c
    | some t => (c.reach (t + c.get F.SWC_PORT_HOLD_hold_us * 1000)).holdExpire link.val) s

end Sys2Proof.Machine
end

