-- ==== Sys2Proof/Machine/Assoc.lean ====
section
/-! DEFINITION. The end of associations and of queues (05_host_command_path.md, R81, R84, R106), and the loss of a connection. -/

namespace Sys2Proof.Machine

/-- Connections of an association's queues. -/
def Ctl.assocConns (c : Ctl) (k : Nat) : List Nat :=
  (match c.assoc? k with | some a => [a.adminConn] | none => []) ++ (c.host.queues.filter (fun q => q.2.assoc == k)).map (·.1)

/-- ASSOCIATION_END (R84): its tags are discarded, its queues released, its CNTLID freed once no tag is in use; its connections are
closed, and the effective power state follows the associations that are left (R112). -/
def Ctl.assocEnd (c : Ctl) (k : Nat) : Ctl :=
  match c.assoc? k with
  | none => c
  | some a =>
    if a.ending then c
    else
      let ks := c.assocConns k
      let c1 := ks.foldl Ctl.closeConn c
      let c2 := { c1 with host := { c1.host with
        intake := c1.host.intake.filter (fun e => !ks.contains e.conn),
        queues := Tab.mapV c1.host.queues (fun _ q => if q.assoc = k then { q with ending := true } else q),
        assocs := Tab.put c1.host.assocs k { a with ending := true, aers := [], aborts := 0, events := [], aecfg := 0, rdy := false } } }
      ((c2.discardTags (fun t => t.assoc == k)).reap).psApply

/-- The association that a connection carries a queue of. -/
def Ctl.connAssoc (c : Ctl) (k : Nat) : Option Nat :=
  match (c.host.assocs.find? (fun a => a.2.adminConn == k && !a.2.ending)).map (·.1) with
  | some a => some a
  | none => match Tab.at? c.host.queues k with | some q => if q.ending then none else some q.assoc | none => none

/-- Tenant of a connection's association. -/
def Ctl.connTenant (c : Ctl) (k : Nat) : Option Nat := (c.connAssoc k).bind c.assocTenant

/-- Connection `k`. -/
def Ctl.conn? (c : Ctl) (k : Nat) : Option Conn := Tab.at? c.net.conns k

/-- The state with connection `k`. -/
def Ctl.setConn (c : Ctl) (k : Nat) (x : Conn) : Ctl := { c with net := { c.net with conns := Tab.put c.net.conns k x } }

/-- Whether the token of a transfer is still outstanding: a revoked transfer moves no new data (R125, R319). -/
def Ctl.xferLive (c : Ctl) (x : Xfer) : Bool :=
  match c.brew? x.tag with
  | some b => b.tokens.any (fun t => t.id == x.tok && !t.arrived)
  | none => false

/-- A transfer ends with a status: the transport's reference of a PUSH drops, and its token arrives (R22, R319). -/
def Ctl.xferEnd (c : Ctl) (port : Nat) (x : Xfer) (st : Nat) : Ctl :=
  let c1 := if x.push then (c.bufDo x.ptr .deref (xptReq port) false).2 else c
  c1.tokenPost x.tag x.tok st

/-- A connection has gone: every transfer ends with CONN_ERR, its keys go, and its context is free (R287, R305). -/
def Ctl.connDrop (c : Ctl) (k : Nat) : Ctl :=
  match c.conn? k with
  | none => c
  | some x =>
    let c1 := x.xfers.foldl (fun c t => c.xferEnd x.port t 0x09) c
    { c1 with
      net := { c1.net with conns := Tab.del c1.net.conns k }
      keys := { c1.keys with ctab := Tab.upd c1.keys.ctab k (fun e => { e with valid := false, key := [] }) }
      host := { c1.host with closing := c1.host.closing.filter (· != k), intake := c1.host.intake.filter (fun e => e.conn != k) } }

/-- CONNECTION_LOSS (R81): the connection goes, and the association of its queue ends, which HCP_KATO_STAT counts; a connection that
the device is closing ends nothing more. -/
def Ctl.connLost (c : Ctl) (k : Nat) : Ctl :=
  let a := if c.host.closing.contains k then none else c.connAssoc k
  let c1 := c.connDrop k
  match a with
  | none => c1
  | some n => (c1.bump F.HCP_KATO_STAT_conn_loss 1).assocEnd n

end Sys2Proof.Machine
end

