-- ==== Sys2Proof/Machine/ChiebCore.lean ====
section
/-! DEFINITION. Chieb packets: their format, channels and sequence states, the checks of a request, replies and operation handles
(15_management_and_transactions.md, R381 to R388). -/

namespace Sys2Proof.Machine

/-! ### Statuses of Table 15.4 -/

def Cs.ok : Nat := 0x0000
def Cs.pending : Nat := 0x0001
def Cs.badOpcode : Nat := 0x0010
def Cs.badParam : Nat := 0x0011
def Cs.denied : Nat := 0x0012
def Cs.badState : Nat := 0x0013
def Cs.badFormat : Nat := 0x0014
def Cs.badSeq : Nat := 0x0015
def Cs.badLength : Nat := 0x0016
def Cs.noHandle : Nat := 0x0017
def Cs.txnConflict : Nat := 0x0020
def Cs.txnNotOpen : Nat := 0x0021
def Cs.txnExpired : Nat := 0x0022
def Cs.txnFull : Nat := 0x0023
def Cs.timeUnsync : Nat := 0x0024
def Cs.txnSealed : Nat := 0x0025
def Cs.pcrWorn : Nat := 0x0030
def Cs.pcrRate : Nat := 0x0031
def Cs.busyExclusive : Nat := 0x0040
def Cs.testModeOnly : Nat := 0x0041
def Cs.testRunning : Nat := 0x0042
def Cs.poolExhausted : Nat := 0x0050
def Cs.noWitness : Nat := 0x0060
def Cs.notActive : Nat := 0x0061
def Cs.peerNotSynced : Nat := 0x0062
def Cs.peerAlive : Nat := 0x0063
def Cs.nsExists : Nat := 0x0401
def Cs.nsNoSpace : Nat := 0x0402
def Cs.nsUnknown : Nat := 0x0403
def Cs.hostFull : Nat := 0x0404
def Cs.hostUnknown : Nat := 0x0405
def Cs.keyNoSkek : Nat := 0x0501
def Cs.keyUnwrap : Nat := 0x0502
def Cs.keyBadBlob : Nat := 0x0503
def Cs.keyInUse : Nat := 0x0504
def Cs.keyNoStore : Nat := 0x0505
def Cs.keyBusy : Nat := 0x0506
def Cs.fwBadImage : Nat := 0x0601
def Cs.fwBadKey : Nat := 0x0602
def Cs.fwRollback : Nat := 0x0603
def Cs.fwOverlap : Nat := 0x0604
def Cs.fwIncomplete : Nat := 0x0605
def Cs.fwSlot : Nat := 0x0606
def Cs.fwPeerImage : Nat := 0x0607
def Cs.bayMember : Nat := 0x0901
def Cs.bayState : Nat := 0x0902

/-! ### The format (R381, Table 15.1) -/

/-- Bytes `a` to `a + n − 1` of a packet as a number. -/
def pktField (bs : List Byte) (a n : Nat) : Nat := leNat ((bs.drop a).take n)

/-- Little-endian words of a byte list. -/
def leWords : Nat → List Byte → List Word
  | 0, _ => []
  | n + 1, bs => BitVec.ofNat 32 (leNat (bs.take 4)) :: leWords n (bs.drop 4)

/-- Bytes of words. -/
def wordBytes (ws : List Word) : List Byte := ws.flatMap (fun w => leBytes 4 w.toNat)

/-- A word from a number. -/
def wd (n : Nat) : Word := BitVec.ofNat 32 n

/-- The request in a packet's bytes. -/
def pktOf (bs : List Byte) : Pkt :=
  ⟨pktField bs 4 2, pktField bs 6 2, pktField bs 8 4, leWords ((bs.length - 32) / 4) (bs.drop 32)⟩

/-- The reply to a request. -/
def pktReply (p : Pkt) (st : Nat) (ws : List Word) : List Byte :=
  let pay := wordBytes ws
  let h := leBytes 2 0xC1EB ++ leBytes 1 1 ++ leBytes 1 1 ++ leBytes 2 p.op ++ leBytes 2 p.txn ++ leBytes 4 p.seq
    ++ leBytes 4 pay.length ++ leBytes 2 st ++ leBytes 10 0
  h ++ leBytes 4 (crc32c (h ++ pay)) ++ pay

/-- Checks 1 and 2 of R385: 0 or the status. `exact` says that the bytes are all that was received; a mailbox slot holds more. -/
def pktBad (bs : List Byte) (exact : Bool) : Nat :=
  let len := pktField bs 12 4
  if bs.length < 32 ∨ pktField bs 0 2 ≠ 0xC1EB ∨ pktField bs 2 1 ≠ 1 ∨ pktField bs 28 4 ≠ crc32c (bs.take 28 ++ bs.drop 32) then Cs.badFormat
  else if 65536 < len ∨ len % 4 ≠ 0 ∨ (exact ∧ len + 32 ≠ bs.length) then Cs.badLength
  else 0

/-! ### Opcodes (Table 15.3) -/

/-- The opcodes of Table 15.3. -/
def chiebOps : List Nat :=
  [0x0000, 0x0001, 0x0002, 0x0100, 0x0101, 0x0102, 0x0200, 0x0201, 0x0202, 0x0203, 0x0204, 0x0300, 0x0400, 0x0401, 0x0402, 0x0403,
   0x0410, 0x0411, 0x0412, 0x0420, 0x0500, 0x0501, 0x0502, 0x0503] ++
  [0x0600, 0x0601, 0x0602, 0x0603, 0x0604, 0x0605, 0x0700, 0x0701, 0x0702, 0x0800, 0x0801, 0x0802, 0x0900, 0x0901, 0x0902,
   0x0A00, 0x0A10, 0x0A11, 0x0A12, 0x0A13, 0x0A20, 0x0A21, 0x0A22, 0x0A30, 0x0A40, 0x0A41, 0x0A42, 0x0B00, 0x0B01]

/-- Opcodes that run a test or a calibration: their own statuses say what a mode refuses (R61). -/
def chiebTest (op : Nat) : Bool := decide (0x0A10 ≤ op) && decide (op ≤ 0x0A42)

/-- The classes of R405. -/
inductive TestClass where
  | concurrent | quiesced | testOnly
  deriving DecidableEq, Repr

/-- What Table 3.4 answers a test of a class with in a mode; 0 where it runs. -/
def testMode (k : TestClass) : Mode → Nat
  | .test => 0
  | .standby => match k with | .concurrent => 0 | .quiesced => Cs.badState | .testOnly => Cs.testModeOnly
  | .active | .degraded | .quiesced | .idleLow => if k = .testOnly then Cs.testModeOnly else 0
  | _ => Cs.badState

/-- The class of a test opcode (Table 15.6). -/
def testClass (op : Nat) : TestClass := if op < 0x0A20 then .concurrent else if op < 0x0A40 then .quiesced else .testOnly

/-- The status of a request that a check after the mode refuses with `st`: a test that the mode refuses has that status instead. -/
def Ctl.chiebLate (c : Ctl) (t : Taken) (st : Nat) : Nat :=
  if chiebTest t.pkt.op && testMode (testClass t.pkt.op) c.mode != 0 then testMode (testClass t.pkt.op) c.mode else st

/-- Check 5 of R385: whether Table 3.4 accepts a request in the mode. -/
def Ctl.chiebModeOk (c : Ctl) (t : Taken) : Bool :=
  let r := t.pkt.op / 256
  let reads := t.pkt.op == 0x0100
  chiebTest t.pkt.op || (match c.mode with
    | .boot => r == 0 || (r == 6 && c.flag F.GLB_START_STAT_image_ok)
    | .recovery => t.chan == 0 && (r == 0 || reads || r == 6
        || (t.pkt.op == 0x0101 && t.pkt.txn == 0 && t.pkt.words.length == 3
            && t.pkt.words.take 2 == [wd Reg.GLB_MODE_REQ, wd 1]))
    | .activating => r == 0
    | .fenced => r == 0 || reads || r == 7
    | .off => false
    | .reset => false
    | _ => true)

/-- Check 6 of R385: whether R386 accepts a request's source. -/
def Ctl.chiebSrcOk (c : Ctl) (t : Taken) : Bool :=
  let r := t.pkt.op / 256
  if t.pkt.op = 0x0501 then t.secured
  else if t.chan = 0 then true
  else if t.chan < 8192 then
    r != 5 && r != 8 && c.bitOf F.MGT_INBAND_PERM_ranges r
      && (match c.assoc? (t.chan - 1) with | some a => c.inband a | none => false)
  else r != 5 || t.secured

/-! ### Channels and transactions' owners (R382, R391) -/

/-- Channel `k`; one with no state accepts any seq. -/
def Ctl.chan? (c : Ctl) (k : Nat) : Chan := Tab.getD c.mgt.chans k ⟨none, none, []⟩

/-- The state with a channel. -/
def Ctl.setChanC (c : Ctl) (k : Nat) (x : Chan) : Ctl := { c with mgt := { c.mgt with chans := Tab.put c.mgt.chans k x } }

/-- A channel's sequence state as after reset (R385). -/
def Ctl.chanReset (c : Ctl) (k : Nat) : Ctl := { c with mgt := { c.mgt with chans := Tab.del c.mgt.chans k } }

/-- The slot of a transaction by its id. -/
def Ctl.txnBy (c : Ctl) (id : Nat) : Option (Nat × Txn) := c.mgt.txns.find? (fun p => p.2.id == id)

/-- The status of a request that names transaction `id` from channel `k`: 0 where it is the channel's (R391, R396). -/
def Ctl.txnStatus (c : Ctl) (k id : Nat) : Nat :=
  match c.txnBy id with
  | some (_, x) => if x.owner = k then 0 else Cs.txnNotOpen
  | none => if c.mgt.expired.contains id then Cs.txnExpired else Cs.txnNotOpen

/-! ### Replies (R383, R385, R90) -/

/-- A reply reaches whoever sent the request: payload and header in the mailbox slot with done, unless the slot has been cleared; the
pending reply and the completion of a C1h; a message. -/
def deliver (m : Mem) (c : Ctl) (t : Taken) (bs : List Byte) : Mem × Ctl :=
  match t.src with
  | .mailbox s =>
    if c.bitOf F.MGT_MB_STAT_busy s then
      let a := 0x40000 * s.val + 0x20000
      let m1 := (m.put .bar2 (a + 32) (bs.drop 32)).put .bar2 a (bs.take 32)
      let c1 := (c.setBitOf F.MGT_MB_STAT_busy s false).setBitOf F.MGT_MB_STAT_done s true
      (m1, if c1.flag F.MGT_CFG_mb_irq_en then c1.intSet 0 else c1)
    else (m, c)
  | .inband k =>
    match c.assoc? k with
    | some a =>
      if a.ending || c.adminDropped k t.conn t.cid then (m, c.adminGone k t.conn t.cid)
      else (m, (c.setAssoc k { a with chieb := some bs }).complete t.conn t.cid (some a.tenant) St.ok (pktField bs 16 2) bs.length)
    | none => (m, c)
  | .sideband e _ => (m, c.emit (.mctp e (leBytes 2 Config.vendorId.toNat ++ bs)))
  | .session k =>
    match Tab.at? c.trust.sessions k with
    | some x => (m, c.emit (.secured k ((if x.peer = 0 then [] else leBytes 2 Config.vendorId.toNat) ++ bs)))
    | none => (m, c)

/-- The request's reply is ready: it is stored for repeats, delivered, and delivered to the repeats that waited (R385). -/
def chiebReply (m : Mem) (c : Ctl) (t : Taken) (st : Nat) (ws : List Word) : Mem × Ctl :=
  let bs := pktReply t.pkt st ws
  let ch := c.chan? t.chan
  let own := ch.seq == some t.pkt.seq
  let c1 := { c with mgt := { c.mgt with taken := c.mgt.taken.filter (fun x => !(x.src == t.src && x.pkt.seq == t.pkt.seq)) } }
  let c2 := if own then c1.setChanC t.chan { ch with reply := some bs, waits := [] } else c1
  let c3 := if st = Cs.pending then c2.bump (F.MGT_CNT_count 4) 1 else c2
  (if own then ch.waits else []).foldl (fun a w => deliver a.1 a.2 w bs) (deliver m c3 t bs)

/-! ### Taking a request (R382, R383, R385) -/

/-- Checks 1 to 4 of R385 on the bytes of a request: a refused one is answered, a repeat gets the stored reply or waits, and an accepted
one is taken, or answered BAD_OPCODE. `t` says whence the request comes; its packet is read here. -/
def chiebTake (m : Mem) (c : Ctl) (t0 : Taken) (bs : List Byte) (exact : Bool) : Mem × Ctl :=
  let t := { t0 with pkt := pktOf bs }
  let ch := c.chan? t.chan
  if pktBad bs exact ≠ 0 then deliver m c t (pktReply t.pkt (pktBad bs exact) [])
  else if ch.seq = some t.pkt.seq then
    let c1 := c.bump (F.MGT_CNT_count 2) 1
    match ch.reply with
    | some r => deliver m c1 t r
    | none => (m, c1.setChanC t.chan { ch with waits := ch.waits ++ [t] })
  else if (match ch.seq with | some q => decide ((q + 1) % 2 ^ 32 ≠ t.pkt.seq) | none => false) then
    deliver m (c.bump (F.MGT_CNT_count 3) 1) t (pktReply t.pkt Cs.badSeq [])
  else
    let c1 := c.setChanC t.chan ⟨some t.pkt.seq, none, []⟩
    if chiebOps.contains t.pkt.op then (m, { c1 with mgt := { c1.mgt with taken := c1.mgt.taken ++ [t] } })
    else chiebReply m c1 t Cs.badOpcode []

/-- The channel of a source. -/
def Ctl.chanOf (c : Ctl) : ChiebSrc → Nat
  | .mailbox _ => 0
  | .inband k => 1 + k
  | .sideband e _ => 8192 + e
  | .session k => match Tab.at? c.trust.sessions k with | some x => if x.peer = 0 then 0 else 8191 + x.peer | none => 0

/-! ### Running a request -/

/-- What an opcode does: its reply, none while it is still executing, and the memories and state after it. -/
structure CRes where
  reply : Option (Nat × List Word)
  m     : Mem
  c     : Ctl

def CRes.ok (m : Mem) (c : Ctl) (ws : List Word) : CRes := ⟨some (Cs.ok, ws), m, c⟩
def CRes.err (m : Mem) (c : Ctl) (st : Nat) : CRes := ⟨some (st, []), m, c⟩
def CRes.wait (m : Mem) (c : Ctl) : CRes := ⟨none, m, c⟩

/-- Parameter word `i` of a request. -/
def Taken.w (t : Taken) (i : Nat) : Nat := (t.pkt.words.getD i 0).toNat

/-- Checks 5 to 7 of R385 on a taken request, then its opcode's own; the reply follows where there is one. MGT_CNT_0 counts a packet
that its opcode has executed. -/
def chiebExec (m : Mem) (c : Ctl) (t : Taken) (h : Taken → Mem → Ctl → CRes) : Mem × Ctl :=
  if !c.chiebModeOk t then chiebReply m c t Cs.badState []
  else if !c.chiebSrcOk t then chiebReply m c t (c.chiebLate t Cs.denied) []
  else if t.pkt.txn ≠ 0 ∧ c.txnStatus t.chan t.pkt.txn ≠ 0 then chiebReply m c t (c.chiebLate t (c.txnStatus t.chan t.pkt.txn)) []
  else
    let r := h t m c
    match r.reply with
    | some (st, ws) => chiebReply r.m (r.c.bump (F.MGT_CNT_count 0) 1) t st ws
    | none => (r.m, r.c)

/-- The request that the row of opcode `op` executes: the one taken from `src`, if it has that opcode (notes/assumptions/28.md). -/
def Ctl.chiebNext (c : Ctl) (op : Nat) (src : ChiebSrc) : Option Taken :=
  match c.mgt.taken.find? (fun t => t.src == src) with
  | some t => if t.pkt.op = op then some t else none
  | none => none

/-- The sideband is not answered while slot_conflict is 1 on a device that does not serve (R58). -/
def Ctl.sidebandMute (c : Ctl) : Bool := c.flag F.GLB_MODE_STAT_slot_conflict && !c.flag F.GLB_MODE_STAT_lease

/-- A row of an opcode: the taken request of its source is executed. A sideband message is taken and executed at once, when its endpoint
has none in progress. -/
def chiebRun (op : Nat) (src : ChiebSrc) (h : Taken → Mem → Ctl → CRes) (m : Mem) (c : Ctl) : Mem × Ctl :=
  match src with
  | .sideband e bs =>
    let p := bs.drop 2
    if (pktOf p).op ≠ op ∨ pktField bs 0 2 ≠ Config.vendorId.toNat ∨ c.sidebandMute then (m, c)
    else
      let r := if c.mgt.taken.any (fun t => t.src == src) then (m, c)
        else if c.mgt.taken.any (fun t => t.chan == 8192 + e && t.pkt.seq != (pktOf p).seq) then (m, c)
        else chiebTake m c ⟨8192 + e, src, pktOf p, false, 0, 0⟩ p true
      match r.2.chiebNext op src with
      | some t => chiebExec r.1 r.2 t h
      | none => r
  | _ =>
    match c.chiebNext op src with
    | some t => chiebExec m c t h
    | none => (m, c)

/-- The meaning of an opcode's row. -/
def chiebRow (op : Nat) (src : ChiebSrc) (h : Taken → Mem → Ctl → CRes) (s : State) : Host.Outcome State Fault Refusal :=
  onAll (fun m c => chiebRun op src h m c) s

/-! ### MAILBOX_DOORBELL (R383) -/

/-- One slot is rung: a busy one is ignored and counted; else its request is taken. -/
def ringSlot (m : Mem) (c : Ctl) (s : Fin 4) : Mem × Ctl :=
  if c.bitOf F.MGT_MB_STAT_busy s then (m, c.bump (F.MGT_CNT_count 1) 1)
  else
    let h := m.bytes .bar2 (0x40000 * s) 32
    let p := m.bytes .bar2 (0x40000 * s.val + 32) (min (pktField h 12 4) 65536)
    chiebTake m (c.setBitOf F.MGT_MB_STAT_busy s true) ⟨0, .mailbox s, pktOf h, false, 0, 0⟩ (h ++ p) false

/-- Rung slots in ascending order, and event 66 (R136). -/
def doorbell (m : Mem) (c : Ctl) (ring : Nat) : Mem × Ctl :=
  if ring % 16 = 0 ∨ c.mode = .off ∨ c.mode = .reset then (m, c)
  else ([0, 1, 2, 3] : List (Fin 4)).foldl (fun a s => if Nat.testBit ring s.val then ringSlot a.1 a.2 s else a) (m, c.dmaEvent 66)

/-- The service processor writes bytes to BAR2: those that fall in a request region stand there, the others are discarded (R458). -/
def bar2Write (m : Mem) (off : Nat) (bs : List Byte) : Mem :=
  (bs.zipIdx).foldl (fun (m : Mem) p =>
    let a := off + p.2
    if a % 0x40000 < 0x20000 ∧ a < 0x100000 then m.put .bar2 a [p.1] else m) m

/-- MAILBOX_DOORBELL (R383): the requests that the service processor has written to BAR2 since the last doorbell, in order, and the write of
MGT_MB_DB. BAR2 writes have no row of their own. -/
def execMailboxDoorbell (writes : List (Nat × List Byte)) (ring : Fin 16) (s : State) : Host.Outcome State Fault Refusal :=
  onAll (fun m c =>
    if !c.eptLive then (m, c)
    else if c.get F.EPT_STAT_dstate = 3 then (m, (writes ++ [(0, [])]).foldl (fun (c : Ctl) _ => c.aerUr false) c)
    else doorbell (writes.foldl (fun (m : Mem) w => bar2Write m w.1 w.2) m) c ring) s

/-! ### Handles (R387) -/

/-- The lowest handle not in use. -/
def Ctl.handleFree (c : Ctl) : Option Nat := Tab.freeKey c.mgt.handles 0 64

/-- A long operation starts under a handle. -/
def Ctl.handleStart (c : Ctl) (h op : Nat) : Ctl :=
  { c with mgt := { c.mgt with handles := Tab.put c.mgt.handles h ⟨op, Cs.pending, [], none⟩ } }

/-- The operation of a handle has ended. -/
def Ctl.handleEnd (c : Ctl) (h st : Nat) (ws : List Word) : Ctl :=
  { c with mgt := { c.mgt with handles := Tab.upd c.mgt.handles h (fun e =>
      if e.ended.isNone then { e with status := st, words := ws, ended := some c.dt } else e) } }

/-- A long opcode: NO_HANDLE with none free and nothing started, else PENDING with its handle, and what it starts. -/
def longOp (op : Nat) (m : Mem) (c : Ctl) (f : Nat → Mem → Ctl → Mem × Ctl) : CRes :=
  match c.handleFree with
  | none => .err m c Cs.noHandle
  | some h =>
    let r := f h m (c.handleStart h op)
    ⟨some (Cs.pending, [wd h]), r.1, r.2⟩

/-- OP_QUERY: PENDING until the operation ends; then its status and words, and the handle is free. -/
def opQuery (t : Taken) (m : Mem) (c : Ctl) : CRes :=
  match Tab.at? c.mgt.handles (t.w 0) with
  | none => .err m c Cs.badParam
  | some e =>
    if t.pkt.words.isEmpty then .err m c Cs.badParam
    else if e.ended.isNone then .err m c Cs.pending
    else ⟨some (e.status, e.words), m, { c with mgt := { c.mgt with handles := Tab.del c.mgt.handles (t.w 0) } }⟩

/-- OP_QUERY (R387). -/
def execOpQuery (src : ChiebSrc) (s : State) : Host.Outcome State Fault Refusal := chiebRow 0x0002 src opQuery s

/-- HANDLE_EXPIRE (R387): 60 s of DT after its operation ended, a handle is freed. -/
def execHandleExpire (handle : Fin 64) (s : State) : Host.Outcome State Fault Refusal :=
  onCtl (fun _ c =>
    match (Tab.at? c.mgt.handles handle).bind (·.ended) with
    | some t => { c.reach (t + 60000000000) with mgt := { c.mgt with handles := Tab.del c.mgt.handles handle } }
    | none => c) s

end Sys2Proof.Machine
end

