-- ==== Sys2Proof/Machine/TimeCore.lean ====
section
/-! DEFINITION. Sync states and the selected PTP port (04_network_time.md, R65, R69, R70, R75). -/

namespace Sys2Proof.Machine

/-- Sync states, Table 4.2. -/
def Sync.free : Nat := 0
def Sync.acquiring : Nat := 1
def Sync.locked : Nat := 2
def Sync.holdover : Nat := 3
def Sync.unsync : Nat := 4

/-- The sync state (TIM_SYNC_STAT.state). -/
def Ctl.sync (c : Ctl) : Nat := c.get F.TIM_SYNC_STAT_state

/-- A new sync state, and whether DNT is unsynchronised in it (R69). -/
def Ctl.setSync (c : Ctl) (st : Nat) : Ctl :=
  (c.set F.TIM_SYNC_STAT_state st).setFlag F.TIM_SYNC_STAT_unsync (st == Sync.free || st == Sync.unsync)

/-- Entry into HOLDOVER from ACQUIRING or LOCKED: the sync-lost timer starts (R69, R70). -/
def Ctl.enterHoldover (c : Ctl) : Ctl :=
  if c.sync = Sync.acquiring ∨ c.sync = Sync.locked then
    { c.setSync Sync.holdover with time := { c.time with lostNs := 0, lostAt := c.dt, good := 0, overCnt := 0, wait := none } }
  else c

/-- Whether a port is up in the current breakout. -/
def Ctl.netUp (c : Ctl) (np : Nat) : Bool :=
  c.flag (F.NET_PORT_STAT_exists np) && c.flag (F.NET_PORT_CFG_en np) && c.flag (F.NET_PORT_STAT_up np)

/-- Whether a port is up and carries Announce messages of a time transmitter (R65). -/
def Ctl.ptpUsable (c : Ctl) (np : Nat) : Bool := c.netUp np && Tab.has c.time.announces np

/-- The port whose time transmitter is used: the primary while it is usable, else the backup where one is enabled (R65). -/
def Ctl.ptpPort (c : Ctl) : Option Nat :=
  let pri := c.get F.TIM_PTP_CFG_port_pri
  let bak := c.get F.TIM_PTP_CFG_port_bak
  if !c.flag F.TIM_PTP_CFG_en then none
  else if c.ptpUsable pri then some pri
  else if bak ≠ pri ∧ c.ptpUsable bak then some bak
  else none

/-- The selection is made anew: the port shows in TIM_SYNC_STAT, and with neither port usable the device enters HOLDOVER (R65), unless a
change of breakout has rewritten the ports and the Sync that R66 gives them 4 intervals for may still come. -/
def Ctl.ptpSelect (c : Ctl) : Ctl :=
  match c.ptpPort with
  | some np => c.set F.TIM_SYNC_STAT_port np
  | none => if c.time.brkWait then c else c.enterHoldover

/-- The time of day in s (R75). -/
def Ctl.tod (c : Ctl) : Nat :=
  let off := c.get F.TIM_TOD_CFG_offset_s
  let soff : Int := if 2 ^ 16 ≤ off then (off : Int) - 2 ^ 17 else off
  (((c.dntNs / 1000000000 : Nat) : Int) - (if c.flag F.TIM_TOD_CFG_use_utc then c.time.utcInUse else 0) + soff) % 86400 |>.toNat

/-- The background budget set of the active entry, or unsync_set while DNT is unsynchronised (R74, R75). -/
def Ctl.todSet (c : Ctl) : Nat :=
  if c.unsync then c.get F.TIM_TOD_CFG_unsync_set
  else
    let k := c.tod / 1800
    (c.rd (Reg.TIM_TOD (k / 8))).toNat / 16 ^ (k % 8) % 16

/-- The entry is evaluated again: TIM_SYNC_STAT.set shows the set in use (R75). -/
def Ctl.todEval (c : Ctl) : Ctl := c.set F.TIM_SYNC_STAT_set c.todSet

end Sys2Proof.Machine
end

