-- ==== Sys2Proof/Machine/NetCore.lean ====
section
/-! DEFINITION. Network ports, gates and shapers (12_network_ports.md, R298 to R303, R309 to R318). -/

namespace Sys2Proof.Machine

/-! ### Ports -/

/-- A port as reset leaves it (R320). -/
def NetPort.idle : NetPort := ⟨none, [], [], [], 0, false, [], none, none⟩

/-- Port NPnn as it stands. -/
def Ctl.np (c : Ctl) (n : Nat) : NetPort := Tab.getD c.net.ports n NetPort.idle

/-- The state with port NPnn. -/
def Ctl.setNp (c : Ctl) (n : Nat) (x : NetPort) : Ctl := { c with net := { c.net with ports := Tab.put c.net.ports n x } }

/-- Lanes per port of a breakout mode, Table 12.1. -/
def brkLanes (mode : Nat) : Nat := match mode with | 0 => 1 | 1 => 2 | 2 => 4 | _ => 8

/-- Port rate in Gb/s: 200 for each lane, Table 12.1. -/
def Ctl.npRate (c : Ctl) : Nat := 200 * brkLanes (c.get F.NET_BRK_mode)

/-- Counter `k` of a port counts `n`. -/
def Ctl.npCnt (c : Ctl) (np k n : Nat) : Ctl := c.bump (F.NET_PORT_CNT_count np k) n

/-- Whether port NPnn exists in the current breakout (R298). -/
def Ctl.npExists (c : Ctl) (np : Nat) : Bool := np % brkLanes (c.get F.NET_BRK_mode) == 0

/-- NET_PORT_STAT of every port after a breakout: existence, lanes and speed (R298). -/
def Ctl.npShape (c : Ctl) : Ctl :=
  (List.range 24).foldl (fun c n =>
    let e := c.npExists n
    ((c.setFlag (F.NET_PORT_STAT_exists n) e).set (F.NET_PORT_STAT_lanes n) (if e then brkLanes (c.get F.NET_BRK_mode) else 0)).set
      (F.NET_PORT_STAT_speed n) (if e then c.get F.NET_BRK_mode + 1 else 0)) c

/-- A port goes down (R302, R303): counted; pause state and PFC generation end; the switch and the PTP selection follow. -/
def Ctl.netDrop (c : Ctl) (np : Nat) : Ctl :=
  if c.flag (F.NET_PORT_STAT_up np) then
    let c1 := ((c.setFlag (F.NET_PORT_STAT_up np) false).set (F.NET_PORT_STAT_paused np) 0).npCnt np 11 1
    ((c1.setNp np { c1.np np with pauseEnd := [], xoff := [] }).linkDown np).ptpSelect.discoveryChanged
  else c

/-- A port fails: it goes down, and fault 0x12 is recorded. -/
def Ctl.netDown (c : Ctl) (np : Nat) : Ctl :=
  if c.flag (F.NET_PORT_STAT_up np) then (c.netDrop np).faultRecord 0x12 0 np else c

/-- Modes in which the ports may be up: from STANDBY onward, and not in FENCED (R320). -/
def Mode.netOk : Mode → Bool
  | .standby | .active | .degraded | .quiesced | .activating | .idleLow | .test => true
  | _ => false

/-- NET_PORT_DOWN (R302), with the faults its PCS reports, after `cells` cell times; the MAC discards and counts the cells of the last one
(R151, R303). -/
def execNetPortDown (np : Fin 24) (localFault remoteFault : Bool) (cells : Nat) (s : State) : Host.Outcome State Fault Refusal :=
  onCtl (fun _ c0 =>
    if c0.npExists np.val then
      let r := if c0.flag (F.NET_PORT_STAT_up np.val) then c0.cellsTill np.val cells else (0, c0)
      let c := r.2.npCnt np.val 3 r.1
      ((c.setFlag (F.NET_PORT_STAT_local_fault np.val) localFault).setFlag (F.NET_PORT_STAT_remote_fault np.val) remoteFault).netDown np.val
    else c0) s

/-- NET_PORT_UP (R302): the port comes up, and its link with it (R152, R154). -/
def execNetPortUp (np : Fin 24) (s : State) : Host.Outcome State Fault Refusal :=
  onCtl (fun _ c =>
    if c.npExists np.val && c.flag (F.NET_PORT_CFG_en np.val) && c.mode.netOk && c.power.stop.isNone && !c.flag (F.NET_PORT_STAT_up np.val) then
      ((((c.setFlag (F.NET_PORT_STAT_local_fault np.val) false).setFlag (F.NET_PORT_STAT_remote_fault np.val) false).setFlag
        (F.NET_PORT_STAT_up np.val) true).linkUp np.val).ptpSelect.discoveryChanged
    else c) s

/-! ### Frames for the port itself (R300, R301) -/

/-- A frame is received on a port that is up; its bytes count for a tenant where a connection's. -/
def Ctl.frameIn (c : Ctl) (np : Nat) (ten : Option Nat) (bytes : Nat) : Ctl :=
  ((c.npCnt np 1 1).tev .net 3 np none none 1).tev .net 1 np ten none bytes

/-- A frame that matches no connection, no listening port and no protocol of the port is discarded and counted. -/
def Ctl.frameNoMatch (c : Ctl) (np : Nat) : Ctl := c.npCnt np 12 1

/-- A frame for one of the port's own addresses is answered; any other is discarded (R301). -/
def Ctl.ownAnswer (c : Ctl) (np : Nat) (own : Bool) (o : Output) : Ctl :=
  if !c.netUp np then c
  else
    let c1 := c.frameIn np none 0
    if own then c1.emit o else c1.frameNoMatch np

/-- Whether an IPv4 address is the port's; all zero disables the family. -/
def Ctl.ownIp4 (c : Ctl) (np : Nat) (ip : BitVec 32) : Bool := ip != 0 && c.rd (Reg.NET_PORT_IP4 np) == ip

/-- The port's IPv6 address. -/
def Ctl.ip6 (c : Ctl) (np : Nat) : Nat := (List.range 4).foldl (fun a w => a * 2 ^ 32 + (c.rd (Reg.NET_PORT_IP6 np w)).toNat) 0

/-- Whether an IPv6 address is the port's. -/
def Ctl.ownIp6 (c : Ctl) (np : Nat) (ip : BitVec 128) : Bool := ip != 0 && c.ip6 np == ip.toNat

/-- ARP_REQUEST (R301). -/
def execArpRequest (np : Fin 24) (ip : BitVec 32) (s : State) : Host.Outcome State Fault Refusal :=
  onCtl (fun _ c => c.ownAnswer np.val (c.ownIp4 np.val ip) (.arpReply np.val)) s

/-- NEIGHBOR_SOLICITATION (R301). -/
def execNeighborSolicitation (np : Fin 24) (ip : BitVec 128) (s : State) : Host.Outcome State Fault Refusal :=
  onCtl (fun _ c => c.ownAnswer np.val (c.ownIp6 np.val ip) (.neighborAdvertisement np.val)) s

/-- ICMP_ECHO (R301): an echo to an IPv4 address (`v6` false) or an IPv6 address. -/
def execIcmpEcho (np : Fin 24) (v6 : Bool) (ip : BitVec 128) (s : State) : Host.Outcome State Fault Refusal :=
  onCtl (fun _ c =>
    c.ownAnswer np.val (if v6 then c.ownIp6 np.val ip else decide (ip.toNat < 2 ^ 32) && c.ownIp4 np.val (ip.setWidth 32))
      (.echoReply np.val)) s

/-- FRAME_DISCARD (R300, R301): a frame with an FCS error, shorter than 64 bytes or longer than max_frame counts as such; any other
frame counts as one with no connection or protocol. -/
def execFrameDiscard (np : Fin 24) (len : Nat) (fcsBad : Bool) (s : State) : Host.Outcome State Fault Refusal :=
  onCtl (fun _ c =>
    if !c.netUp np.val then c
    else if fcsBad ∨ len < 64 ∨ c.get (F.NET_PORT_MTU_max_frame np.val) < len then c.npCnt np.val 2 1
    else (c.frameIn np.val none len).frameNoMatch np.val) s

/-- PAUSE_FRAME_RECEIVE (R300). -/
def execPauseFrameReceive (np : Fin 24) (s : State) : Host.Outcome State Fault Refusal :=
  onCtl (fun _ c => if c.netUp np.val then c.npCnt np.val 6 1 else c) s

/-! ### Priority flow control (R309) -/

/-- Whether PFC is enabled for a priority on a port. -/
def Ctl.pfcOn (c : Ctl) (np prio : Nat) : Bool := c.bitOf (F.NET_PORT_CFG_pfc_en np) prio

/-- A quanta count as ns at the port rate: 512 bit times each, rounded up to whole ns. -/
def Ctl.quantaNs (c : Ctl) (q : Nat) : Nat := (512 * q + c.npRate - 1) / c.npRate

/-- The pause of a priority ends; its time is counted (Table 18.1). -/
def Ctl.pfcResume (c : Ctl) (np prio : Nat) : Ctl :=
  match Tab.at? (c.np np).pauseEnd prio with
  | none => c
  | some (t0, _) =>
    ((c.setNp np { c.np np with pauseEnd := Tab.del (c.np np).pauseEnd prio }).setBitOf (F.NET_PORT_STAT_paused np) prio false).tev
      .net 6 np none none ((c.dt - t0) / 64)

/-- A pause of a priority for a quanta count begins, or is prolonged. -/
def Ctl.pfcPause (c : Ctl) (np prio q : Nat) : Ctl :=
  let t0 := match Tab.at? (c.np np).pauseEnd prio with | some p => p.1 | none => c.dt
  (c.setNp np { c.np np with pauseEnd := Tab.put (c.np np).pauseEnd prio (t0, c.dt + c.quantaNs q) }).setBitOf
    (F.NET_PORT_STAT_paused np) prio true

/-- PFC_FRAME_RECEIVE (R309): the quanta of each priority the frame names; 0 ends its pause at once. -/
def execPfcFrameReceive (np : Fin 24) (quanta : List (Fin 8 × Fin 65536)) (s : State) : Host.Outcome State Fault Refusal :=
  onCtl (fun _ c =>
    if !c.netUp np.val then c
    else quanta.foldl (fun c p =>
      if !c.pfcOn np.val p.1.val then c
      else if p.2.val = 0 then c.pfcResume np.val p.1.val
      else c.pfcPause np.val p.1.val p.2.val) (c.npCnt np.val 4 1)) s

/-- PFC_PAUSE_EXPIRE (R309): the quanta of a received XOFF run out. -/
def execPfcPauseExpire (np : Fin 24) (prio : Fin 8) (s : State) : Host.Outcome State Fault Refusal :=
  onCtl (fun _ c =>
    match Tab.at? (c.np np.val).pauseEnd prio.val with
    | some t => (c.reach t.2).pfcResume np.val prio.val
    | none => c) s

/-- A PFC frame is sent for a priority. -/
def Ctl.pfcSend (c : Ctl) (np prio quanta : Nat) : Ctl := (c.emit (.pfc np prio quanta)).npCnt np 5 1

/-- PFC_XOFF_SEND (R309): the frames of a priority in the receive buffer now fill `bytes`: above xoff_kib the port sends XOFF, and
at xon_kib XON. -/
def execPfcXoffSend (np : Fin 24) (prio : Fin 8) (bytes : Nat) (s : State) : Host.Outcome State Fault Refusal :=
  onCtl (fun _ c =>
    if !c.netUp np.val || !c.pfcOn np.val prio.val then c
    else
      let x := c.np np.val
      if Tab.has x.xoff prio.val then
        if bytes ≤ 1024 * c.get (F.NET_PORT_PFC_xon_kib np.val) then
          (c.setNp np.val { x with xoff := Tab.del x.xoff prio.val }).pfcSend np.val prio.val 0
        else c
      else if 1024 * c.get (F.NET_PORT_PFC_xoff_kib np.val) < bytes then
        (c.setNp np.val { x with xoff := Tab.put x.xoff prio.val c.dt }).pfcSend np.val prio.val 0xFFFF
      else c) s

/-- PFC_XOFF_REFRESH (R309): half a quanta period after the last XOFF it is sent again. -/
def execPfcXoffRefresh (np : Fin 24) (prio : Fin 8) (s : State) : Host.Outcome State Fault Refusal :=
  onCtl (fun _ c =>
    match Tab.at? (c.np np.val).xoff prio.val with
    | some t =>
      let c1 := c.reach (t + c.quantaNs 0xFFFF / 2)
      (c1.setNp np.val { c1.np np.val with xoff := Tab.put (c1.np np.val).xoff prio.val c1.dt }).pfcSend np.val prio.val 0xFFFF
    | none => c) s

/-- RECEIVE_BUFFER_OVERFLOW (R309). -/
def execReceiveBufferOverflow (np : Fin 24) (s : State) : Host.Outcome State Fault Refusal :=
  onCtl (fun _ c => if c.netUp np.val then c.npCnt np.val 7 1 else c) s

/-! ### Shapers (R313, R314) -/

/-- Number of a class shaper and of a tenant shaper. -/
def clsShaper (np cls : Nat) : Nat := 8 * np + cls
def tenShaper (t : Nat) : Nat := 192 + t

/-- RATE and BKT registers of a shaper. -/
def shaperRegs (k : Nat) : Nat × Nat :=
  if k < 192 then (Reg.NET_CSHP_RATE (k / 8) (k % 8), Reg.NET_CSHP_BKT (k / 8) (k % 8)) else (Reg.NET_TSHP_RATE (k - 192), Reg.NET_TSHP_BKT (k - 192))

/-- A shaper as its registers now describe it, at its cap. -/
def Ctl.shaperCfg (c : Ctl) (k : Nat) : Shaper :=
  let w := c.rd (shaperRegs k).1
  let b := getBits (c.rd (shaperRegs k).2) 23 0
  ⟨getBit w 31, getBits w 20 0, b, b, 0⟩

/-- Shaper `k`: unlisted, it is at its cap (R320). -/
def Ctl.shaper (c : Ctl) (k : Nat) : Shaper := match Tab.at? c.net.shapers k with | some x => x | none => c.shaperCfg k

/-- One refill (R313, R314): the settings in force become the registers', tokens are clipped to the bucket, and the rate's gain of
64 ns is added, its fraction carried, up to the bucket. -/
def Shaper.refill (x cfg : Shaper) : Shaper :=
  let acc := x.frac + cfg.rate
  { cfg with tok := min (min x.tok cfg.bucket + (acc / 125 : Nat)) cfg.bucket, frac := acc % 125 }

/-- A shaper whose registers a commit is about to change keeps what it holds until the next refill (R314). -/
def Ctl.shaperKeep (c : Ctl) (k : Nat) : Ctl := { c with net := { c.net with shapers := Tab.put c.net.shapers k (c.shaper k) } }

/-- SHAPER_REFILL (R313): every bucket at the next 64 ns of DT. -/
def execShaperRefill (s : State) : Host.Outcome State Fault Refusal :=
  onCtl (fun _ c =>
    let c1 := c.reach ((c.dt / 64 + 1) * 64)
    { c1 with net := { c1.net with shapers := Tab.mapV c1.net.shapers (fun k x => x.refill (c1.shaperCfg k)) } }) s

/-- A frame's counted length debited from an enabled shaper (R313). -/
def Ctl.shaperDebit (c : Ctl) (k n : Nat) : Ctl :=
  let x := c.shaper k
  if x.en then { c with net := { c.net with shapers := Tab.put c.net.shapers k { x with tok := x.tok - n } } } else c

/-- Whether a shaper lets a frame start. -/
def Shaper.open_ (x : Shaper) : Bool := !x.en || decide (0 < x.tok)

/-! ### Pour lists (R315 to R318) -/

/-- Gates and length in ns of entry `i` of a port's operational list. -/
def Ctl.gclEntry (c : Ctl) (np i : Nat) : Nat × Nat :=
  let w := c.rd (Reg.NET_GCL_OPER np i)
  (getBits w 31 24, 64 * getBits w 23 0)

/-- Entries of a cycle as gates and lengths that fill it exactly: cut at the cycle's end, or the last entry held to it (R315). -/
def gclCut : List (Nat × Nat) → Nat → List (Nat × Nat)
  | [], _ => []
  | [(g, _)], left => [(g, left)]
  | (g, n) :: es, left => if left ≤ n then [(g, left)] else (g, n) :: gclCut es (left - n)

/-- The operational cycle of a port as (gates, ns) parts. -/
def Ctl.gclParts (c : Ctl) (np : Nat) (l : PourList) : List (Nat × Nat) :=
  gclCut ((List.range l.len).map (c.gclEntry np)) l.cycle

/-- Where a cycle stands at a phase: the entry in force and the ns it has left. -/
def gclAt : List (Nat × Nat) → Nat → Nat → Nat × Nat
  | [], i, _ => (i, 0)
  | (_, n) :: es, i, ph => if ph < n then (i, n - ph) else match es with | [] => (i, 0) | _ => gclAt es (i + 1) (ph - n)

/-- Phase of DNT in a list's cycle. -/
def Ctl.gclPhase (c : Ctl) (l : PourList) : Nat := (c.dntNs - l.at_) % max 1 l.cycle

/-- Whether a port's gates follow its list now: not while NET_GCL_CTRL.en is 0 (R315), nor while DNT is unsynchronised under policy 0
(R318). -/
def Ctl.gclLive (c : Ctl) (np : Nat) : Option PourList :=
  if !c.flag (F.NET_GCL_CTRL_en np) || (c.unsync && !c.flag F.TIM_UNSYNC_GATE_policy) then none else (c.np np).oper

/-- Total length of the leading parts that keep gate `cls` open, and whether that is all of them. -/
def openRun (cls : Nat) : List (Nat × Nat) → Nat × Bool
  | [] => (0, true)
  | (g, n) :: es => if Nat.testBit g cls then let r := openRun cls es; (n + r.1, r.2) else (0, false)

/-- The ns for which gate `cls` stays open from a phase on, read across entries and into the next cycle; none when it never
closes (R316). -/
def gateLeft (parts : List (Nat × Nat)) (ph cls : Nat) : Option Nat :=
  let p := gclAt parts 0 ph
  let ahead := (parts.drop p.1) ++ parts ++ parts
  match ahead with
  | [] => none
  | (g, _) :: es =>
    if !Nat.testBit g cls then some 0
    else let r := openRun cls es; if r.2 then none else some (p.2 + r.1)

/-- The longest continuous open time of a class in a cycle (R316). -/
def longestOpen (cls : Nat) (parts : List (Nat × Nat)) : Nat :=
  (List.range parts.length).foldl (fun a i => max a (openRun cls ((parts.drop i) ++ parts)).1) 0

/-- Whether a frame of class `cls` may start on a port: it ends before the gate closes, or it is longer than every open time of its
class and the longest of them opens now; the second part says that it overruns (R316). -/
def Ctl.gateOk (c : Ctl) (np cls len : Nat) : Bool × Bool :=
  match c.gclLive np with
  | none => (true, false)
  | some l =>
    let parts := c.gclParts np l
    let bits := (len + 20) * 8
    match gateLeft parts (c.gclPhase l) cls with
    | none => (true, false)
    | some t =>
      if bits ≤ t * c.npRate ∧ 0 < t then (true, false)
      else
        let m := longestOpen cls parts
        if m * c.npRate < bits ∧ t = m ∧ 0 < t then (true, true) else (false, false)

/-- NET_GCL_STAT of a port: its state and the entry in force (R315, R318). -/
def Ctl.gclShow (c : Ctl) (np : Nat) : Ctl :=
  match (if c.flag (F.NET_GCL_CTRL_en np) then (c.np np).oper else none) with
  | none => (c.set (F.NET_GCL_STAT_state np) 0).set (F.NET_GCL_STAT_entry np) 0
  | some l =>
    let st := if c.unsync then (if c.flag F.TIM_UNSYNC_GATE_policy then 3 else 2) else 1
    (c.set (F.NET_GCL_STAT_state np) st).set (F.NET_GCL_STAT_entry np) (gclAt (c.gclParts np l) 0 (c.gclPhase l)).1

/-- Every port's list follows a change of DNT or of its sync state (R318). -/
def Ctl.gclShowAll (c : Ctl) : Ctl := (List.range 24).foldl Ctl.gclShow c

/-- Base time of a port's admin list in DNT ns. -/
def Ctl.gclBase (c : Ctl) (np : Nat) : Nat :=
  ((c.rd (Reg.NET_GCL_BASE_LO np)).toNat + 2 ^ 32 * getBits (c.rd (Reg.NET_GCL_BASE_HI np)) 15 0) * 1000000000
    + getBits (c.rd (Reg.NET_GCL_BASE_NS np)) 29 0

/-- The least instant `b` + n · `p` at or after `t`. -/
def atOrAfter (b p t : Nat) : Nat := if t ≤ b then b else b + (t - b + max 1 p - 1) / max 1 p * max 1 p

/-- A commit of a port's Pour list at DNT `t`: the admin list is pending until its adoption instant (R317). -/
def Ctl.gclStage (c : Ctl) (np t : Nat) : Ctl :=
  let x := c.np np
  let b := c.gclBase np
  let a := match x.oper with
    | some l => atOrAfter l.at_ l.cycle (max b t)
    | none => atOrAfter b (c.get (F.NET_GCL_CYCLE_cycle_ns np)) t
  ((c.setNp np { x with adopt := some a }).setFlag (F.NET_GCL_STAT_pending np) true).gclShow np

/-- The admin list becomes operational at entry 0, its cycles running from `a` (R317). -/
def Ctl.gclAdopt (c : Ctl) (np a : Nat) : Ctl :=
  let len := c.get (F.NET_GCL_CTRL_len np)
  let c1 := (List.range len).foldl (fun c i => c.wr (Reg.NET_GCL_OPER np i) (c.rd (Reg.NET_GCL_ADMIN np i))) c
  let l := if c.flag (F.NET_GCL_CTRL_en np) then some ⟨c.get (F.NET_GCL_CYCLE_cycle_ns np), len, a⟩ else none
  ((c1.setNp np { c1.np np with oper := l, adopt := none, cycAt := some a }).setFlag (F.NET_GCL_STAT_pending np) false).gclShow np

/-- The instant at which a port's pending list is adopted, seen from now: a passed one waits for the next boundary of the cycle in
force (R318); none while DNT is unsynchronised. -/
def Ctl.gclDue (c : Ctl) (np : Nat) : Option Nat :=
  match (c.np np).adopt with
  | none => none
  | some a =>
    if c.unsync then none
    else if c.dntNs ≤ a then some a
    else match (c.np np).oper with
      | some l => some (atOrAfter l.at_ l.cycle c.dntNs)
      | none => some (atOrAfter a (c.get (F.NET_GCL_CYCLE_cycle_ns np)) c.dntNs)

end Sys2Proof.Machine
end

