-- ==== Sys2Proof/Machine/Reset.lean ====
section
/-! DEFINITION. Reset: what survives it, and the state in RESET (02_package_and_power.md, R28 to R30; 19_address_map.md, R459). -/

namespace Sys2Proof.Machine

/-- The read-only bits of GAL_GRP_CFG that follow from the members' labels: state and tag-block mode. -/
def grpRoMask : Word := 0x70000000

/-- Registers whose words do not return to their reset values: persistent words, GLB_RST_STAT, fuses, the image slots, and, for each
group, what the labels, journal area and progress records on its members hold, and the namespaces (notes/assumptions/33.md). -/
def keptMask (off : Nat) : Word :=
  if (pcrWord off).isSome then pcrMask off
  else if off = Reg.GLB_RST_STAT ∨ off = Reg.FWU_KEYS ∨ (Reg.FWU_SLOT 0 ≤ off ∧ off < Reg.FWU_SLOT 4) then 0xFFFFFFFF
  else if (List.range 16).any (fun g => off == Reg.GAL_GRP_STRIPES g || off == Reg.GAL_GRP_JRN g || off == Reg.GAL_GRP_UMOFF g
    || off == Reg.RBD_SPARE_STAT g) then 0xFFFFFFFF
  else if (List.range 16).any (fun g => off == Reg.GAL_GRP_CFG g) then grpRoMask
  else if Reg.GAL_NS_MAP0 0 ≤ off ∧ off < Reg.GAL_NS_MAP0 16384 ∧ (off - Reg.GAL_NS_MAP0 0) % 16 < 12 then 0xFFFFFFFF
  else if Reg.TMP_NS_CFG 0 ≤ off ∧ off < Reg.TMP_NS_CFG 16384 then 0xFFFFFFFF
  else 0

/-- Register words after a reset. -/
def keptRegs (regs : Tab Word) : Tab Word :=
  regs.filterMap (fun p => if keptMask p.1 = 0 then none else
    some (p.1, (Reg.resetWord p.1 &&& ~~~ keptMask p.1) ||| (p.2 &&& keptMask p.1)))

/-- The Carafe ring after a reset: records whose writing had begun are complete, or torn where power was lost; records only reserved
never were (R30, R35, R231). -/
def Journal.afterReset (j : Journal) (lost : Bool) : Journal :=
  let rs := (j.recs.filter (·.landed)).map (fun r => { r with durable := true, torn := r.torn || (lost && !r.durable), owner := none })
  { Journal.reset with
    recs := rs
    head := match rs.getLast? with | some r => r.seq + 1 | none => j.head
    line := match rs.getLast? with | some r => r.line + r.size | none => j.line
    ns := j.ns, maps := j.maps, forms := j.forms, ckA := j.ckA, ckB := j.ckB, umap := j.umap, failed := j.failed
    invalid := j.invalid }

/-- The state in RESET. D00's records stay while VAON holds; what Carafe, the members and the image slots hold stays in any case. -/
def Ctl.resetFrom (c : Ctl) (vaon lost : Bool) : Ctl :=
  let r := Ctl.reset
  { r with
    regs := Tab.put (keptRegs c.regs) Reg.GLB_MODE_STAT (setBits (Reg.resetWord Reg.GLB_MODE_STAT) 3 0 1)
    out := c.out, fv := c.fv + 4, crm := Crema.reset c.fv
    power := { r.power with slotId := c.power.slotId, testen := c.power.testen, ctlA := c.power.ctlA, ctlB := c.power.ctlB }
    car := c.car.afterReset lost
    rbd := { r.rbd with
      drives := Tab.mapV c.rbd.drives (fun _ d => { d with ready := false }), cmin := c.rbd.cmin, targets := c.rbd.tgtRec
      prog := c.rbd.progRec, progRec := c.rbd.progRec, tgtRec := c.rbd.tgtRec, lost := c.rbd.lost }
    mgt := { r.mgt with
      nguid := c.mgt.nguid, hosts := c.mgt.hosts, nqn := c.mgt.nqn, cnum := c.mgt.cnum, half := c.mgt.half, used := c.mgt.used
      pcr := Tab.mapV c.mgt.pcr (fun _ x => { x with tokens := 16, at_ := 0 }) }
    keys := { r.keys with store := c.keys.store, storeCnt := c.keys.storeCnt }
    pair := { r.pair with
      faults := if vaon then c.pair.faults else [], faultNum := if vaon then c.pair.faultNum else 0
      presets := if vaon then c.pair.presets else [] }
    bay := { r.bay with events := if vaon then c.bay.events else [], evtNum := if vaon then c.bay.evtNum else 0 }
    trust := { r.trust with images := c.trust.images } }

/-- The memories in RESET: only Carafe keeps its content. -/
def Mem.afterReset (m : Mem) : Mem := { hbm := [], carafe := m.carafe, sram := [], bar2 := [], ue := [] }

/-- The device enters RESET for a cause of GLB_RST_STAT: writes in progress complete first (R30, R459). -/
def toReset (m : Mem) (c : Ctl) (cause : Nat) : Mem × Ctl :=
  let c1 := c.pcrFinish.resetFrom true false
  (m.afterReset, (c1.bump F.GLB_RST_STAT_count 1).set F.GLB_RST_STAT_cause cause)

end Sys2Proof.Machine
end

