-- ==== Sys2Proof/Machine/Lease.lean ====
section
/-! DEFINITION. The lease: its ends, witness requests, fencing and the release of the lease by a fault (13_pairing_and_failover.md,
R334 to R342, R355). -/

namespace Sys2Proof.Machine

/-! ### Lanes and windows -/

/-- The network ports are in electrical idle: every one is down, and no fault of a port is recorded for it. -/
def Ctl.netIdle (c : Ctl) : Ctl :=
  ((List.range 24).foldl (fun c np =>
    if c.flag (F.NET_PORT_STAT_up np) then
      let c1 := ((c.setFlag (F.NET_PORT_STAT_up np) false).set (F.NET_PORT_STAT_paused np) 0).npCnt np 11 1
      (c1.setNp np { c1.np np with pauseEnd := [], xoff := [] }).linkDown np
    else c) c).ptpSelect

/-- The drive ports are in electrical idle: no port is trained and no drive is ready. -/
def Ctl.drivesIdle (c : Ctl) : Ctl :=
  { c with rbd := { c.rbd with ports := [], drives := Tab.mapV c.rbd.drives (fun _ d => { d with ready := false }) } }

/-- Every inbound window is disabled (R334). -/
def Ctl.winsClose (c : Ctl) : Ctl := (List.range 16).foldl (fun c n => c.setFlag (F.PEER_WIN_OPR_en n) false) c

/-- Every PERST_DPnn is driven low. -/
def Ctl.perstAllLow (c : Ctl) : Ctl := (List.range 24).foldl Ctl.perstLow c

/-! ### Epochs, witness requests and lease ends (R335 to R340) -/

/-- A lease epoch is stored in the Carafe control area (R340). -/
def Ctl.storeEpoch (c : Ctl) (e : Nat) : Ctl :=
  (c.ctlPut (fun x => { x with epoch := e % 2 ^ 32 })).set F.PEER_EPOCH_epoch (e % 2 ^ 32)

/-- A request to the witness, with the stored epoch (R335, R340). -/
def Ctl.witSend (c : Ctl) (k : WitKind) (forced : Bool) : Ctl :=
  let n := c.pair.reqNum
  let rs := c.pair.reqs.filter (fun r => decide (c.dt ≤ r.sent + 5000000))
  ({ c with pair := { c.pair with reqs := rs ++ [(⟨k, n, c.dt, false⟩ : WitReq)], reqNum := (n + 1) % 2 ^ 32 } }).emit (.witness k forced c.epoch n)

/-- Whether the lease was taken by force and no witness has granted it since (R353). -/
def Ctl.forced (c : Ctl) : Bool := c.get F.PEER_LEASE_src == 3

/-- The later of the two lease ends (R338); none without a lease or with a forced one. -/
def Ctl.leaseEnd (c : Ctl) : Option Nat :=
  if !c.lease || c.forced then none
  else match c.pair.witEnd, c.pair.endEnd with
    | some a, some b => some (max a b)
    | some a, none => some a
    | none, some b => some b
    | none, none => none

/-- A message leaves on the Kweistash link while it is up. -/
def Ctl.peerSend (c : Ctl) (p : PeerMsg) : Ctl := if c.flag F.PEER_STAT_link_up then c.emit (.peer p) else c

/-! ### Fencing (R341) -/

/-- A pending mode request is refused with req_err 1 (R50 item 3). -/
def Ctl.dropRequest (c : Ctl) : Ctl :=
  if c.power.quiescing then
    (({ c with power := { c.power with quiescing := false } }).set F.GLB_MODE_STAT_req_err 1).setFlag F.GLB_MODE_STAT_busy false
  else c

/-- A long operation that ended for a reason the spec gives no status for: its status is a free value (notes/assumptions/34.md). -/
def Ctl.handleOpen (c : Ctl) (h : Option Nat) : Ctl :=
  match h with
  | some k => (c.handleEnd k (c.free % 65536) []).tookFree
  | none => c

/-- An activation, a takeover and a handover in progress are abandoned. -/
def Ctl.dropMoves (c : Ctl) : Ctl :=
  let c1 := match c.trust.act with
    | some a => (match a.who with | .handle h => c.handleOpen (some h) | _ => c)
    | none => c
  let c2 := if c1.pair.handOp.isSome then c1.handleOpen c1.pair.handOp else c1
  { c2 with
    trust := { c2.trust with act := none }
    pair := { c2.pair with take := none, hand := none, handOp := none, forceAt := none, retryAt := none } }

/-- The device is fenced (R341): fixed keepers at the present levels, PERST# low, idle lanes, closed windows, FENCED, its record, and
FENCING to the peer. -/
def Ctl.fence (c : Ctl) : Ctl :=
  let c1 := (((c.baysKeep false).perstAllLow.netIdle.drivesIdle.winsClose).dropRequest).dropMoves
  let c2 := (c1.setFlag F.GLB_MODE_STAT_lease false).set F.PEER_LEASE_src 0
  let c3 := ({ c2 with pair := { c2.pair with witEnd := none, endEnd := none } }).setMode .fenced
  (c3.faultRecord 0x87 5 0).peerSend .fencing

/-- A fault marked "release" in Table 13.8 (R342, R355): with the lease, the device fences, sends FENCING and then RELEASE; as the
standby of a pair it sends LEAVE and resets with cause 7; otherwise the fault is recorded. A halted device does nothing more. -/
def releaseFault (m : Mem) (c : Ctl) (code detail : Nat) : Mem × Ctl :=
  if c.halted then (m, c)
  else if c.lease then (m, ((c.faultRecord code 2 detail).fence).witSend .release false)
  else if c.mode = .standby ∧ c.flag F.PEER_CFG_en then
    toReset m ((c.faultRecord code 1 detail).peerSend .leave) 7
  else (m, c.faultRecord code 1 detail)

/-- LEASE_EXPIRE (R341): DT reaches the end of the lease. -/
def execLeaseExpire (s : State) : Host.Outcome State Fault Refusal :=
  onCtl (fun _ c => match c.leaseEnd with | some t => if c.halted then c else (c.reach t).fence | none => c) s

/-! ### Faults that release (Table 13.8) -/

/-- LOCKSTEP_MISMATCH (fault 0x02). -/
def execLockstepMismatch (core : Fin 2) (s : State) : Host.Outcome State Fault Refusal := onAll (fun m c => releaseFault m c 0x02 core) s

/-- WATCHDOG_EXPIRE (fault 0x03): no kick for 20 ms of DT. -/
def execWatchdogExpire (s : State) : Host.Outcome State Fault Refusal := onAll (fun m c => releaseFault m c 0x03 0) s

/-- HBM_STACK_FAILURE (fault 0x06). -/
def execHbmStackFailure (stackB : Bool) (s : State) : Host.Outcome State Fault Refusal :=
  onAll (fun m c => releaseFault m c 0x06 (if stackB then 7 else 6)) s

/-- CLOCK_LOSS (fault 0x0D). -/
def execClockLoss (s : State) : Host.Outcome State Fault Refusal := onAll (fun m c => releaseFault m c 0x0D 0) s

/-- RAIL_OUT_OF_TOLERANCE (fault 0x0B): the rail's rail_ok bit clears. -/
def execRailOutOfTolerance (rail : Fin 12) (s : State) : Host.Outcome State Fault Refusal :=
  onAll (fun m c => releaseFault m (c.setBitOf F.GLB_PWR_STAT_rail_ok rail false) 0x0B rail) s

end Sys2Proof.Machine
end

