-- ==== Sys2Proof/Machine/Bays.lean ====
section
/-! DEFINITION. The events, commands and opcodes of the bay-power die (14_bay_power.md, R361 to R380). -/

namespace Sys2Proof.Machine

/-- The bay-power die is powered (R375): in every mode but OFF and RESET. -/
def Ctl.bayDie (c : Ctl) : Bool := !(c.mode == .off || c.mode == .reset)

/-- The gate is driven: RAMP or ON. -/
def Ctl.gateDriven (c : Ctl) (b : Nat) : Bool := c.chSt b == Ch.ramp || c.chSt b == Ch.on

/-- A fixed keeper holds the gate, with fast trip and 150 °C limit armed (R40). -/
def Ctl.keeperArmed (c : Ctl) (b : Nat) : Bool :=
  c.chSt b == Ch.keeper && (match (c.ch b).gate with | .keeper _ => true | _ => false)

/-- An event of a bay's channel, while the die is powered. -/
def bayRow (b : Nat) (f : Mem → Ctl → Mem × Ctl) (s : State) : Host.Outcome State Fault Refusal :=
  onAll (fun m c => if c.bayDie && decide (b < 24) then f m c else (m, c)) s

/-! ### Seating (R361, R362, R375) -/

/-- SEAT_ASSERT: a drive is inserted; the debounce starts. -/
def execSeatAssert (bay : Fin 24) (s : State) : Host.Outcome State Fault Refusal :=
  bayRow bay (fun m c =>
    if c.seat bay then (m, c)
    else
      let c1 := (c.setFlag (F.BAY_CH_STAT_seat bay) true).onCh bay (fun x => { x with debAt := some c.dt, seated := false })
      (m, if c1.chSt bay = Ch.empty then c1.chTo bay Ch.seating else c1.usableNote bay)) s

/-- SEAT_DEBOUNCE_DONE (R362, R375): 100 ms of DT without a break. -/
def execSeatDebounceDone (bay : Fin 24) (v : BaySample) (s : State) : Host.Outcome State Fault Refusal :=
  bayRow bay (fun m c =>
    match (c.ch bay).debAt with
    | none => (m, c)
    | some t =>
      let c1 := (c.reach (t + 100000000)).onCh bay (fun x => { x with debAt := none, seated := true })
      let from_ := c1.chSt bay
      (m, ((if from_ = Ch.seating then c1.chIdle bay else c1).bayMeas bay v).bayEvent bay 1 0 from_ v)) s

/-- SEAT_DEASSERT (R362): a drive is removed. -/
def execSeatDeassert (bay : Fin 24) (v : BaySample) (s : State) : Host.Outcome State Fault Refusal :=
  bayRow bay (fun m c =>
    if !c.seat bay then (m, c)
    else
      let from_ := c.chSt bay
      let c1 := (c.setFlag (F.BAY_CH_STAT_seat bay) false).onCh bay (fun x =>
        { x with debAt := none, seated := false, cycle := false, checkAt := none, againAt := none, want := false })
      let c2 := { c1 with rbd := { c1.rbd with drives := Tab.del c1.rbd.drives bay, ports := Tab.del c1.rbd.ports bay } }
      if from_ = Ch.precheck ∨ from_ = Ch.ramp ∨ from_ = Ch.on then
        bayMember m (((((c2.bayMeas bay v).gateOff bay).chTo bay Ch.empty).bayEvent bay 2 0 from_ v).baysUpNote) bay
      else if from_ = Ch.keeper then (m, (c2.bayEvent bay 2 0 from_ v).usableNote bay)
      else if from_ = Ch.latched then
        (m, ((c2.setBitOf F.BAY_STAT_latched bay false).set (F.BAY_CH_STAT_cause bay) 0).chTo bay Ch.empty)
      else (m, (c2.chTo bay Ch.empty).baysUpNote)) s

/-! ### Ramp (R363 to R365) -/

/-- Channels in PRECHECK or RAMP. -/
def Ctl.ramping (c : Ctl) : Nat := ((List.range 24).filter (fun b => c.chSt b == Ch.precheck || c.chSt b == Ch.ramp)).length

/-- Whether a channel may enter PRECHECK: it waits in IDLE with en = 1 (R363). -/
def Ctl.slotFor (c : Ctl) (b : Nat) : Bool :=
  (c.ch b).want && c.chSt b == Ch.idle && c.flag (F.BAY_CH_CFG_en b)

/-- RAMP_SLOT_GRANT (R363): the lowest waiting bay enters PRECHECK while a slot is free. -/
def execRampSlotGrant (s : State) : Host.Outcome State Fault Refusal :=
  onCtl (fun _ c =>
    if c.lease && c.power.stop.isNone && decide (c.ramping < c.get F.BAY_CFG_max_ramp) then
      match (List.range 24).find? c.slotFor with
      | some b => (c.onCh b (fun x => { x with want := false })).chTo b Ch.precheck
      | none => c
    else c) s

/-- PRECHECK_END (R364), with the first and the last sample; the precheck waits for a calibration of the channel to end (R380). -/
def execPrecheckEnd (bay : Fin 24) (first last : BaySample) (s : State) : Host.Outcome State Fault Refusal :=
  bayRow bay (fun m c =>
    if c.chSt bay ≠ Ch.precheck ∨ Tab.has c.bay.cal bay then (m, c)
    else
      let c1 := (c.reach ((c.ch bay).since + 1000000)).bayMeas bay last
      if at90 first && at90 last then
        match bayLatch m c1 bay 5 last with
        | (m1, c2) => (m1, c2.baysUpNote)
      else if last.vin < 9000 then (m, c1.onCh bay (fun x => { x with since := c1.dt }))
      else (m, ((c1.onCh bay (fun x => { x with gate := .driven true })).chTo bay Ch.ramp).bayEvent bay 3 0 Ch.precheck last)) s

/-- RAMP_COMPLETE (R365, R370): VGATE at VSRC + 4 V, VSRC at 92 % of VIN; the channel is ON, and a CYCLE has ended. -/
def execRampComplete (bay : Fin 24) (v : BaySample) (s : State) : Host.Outcome State Fault Refusal :=
  bayRow bay (fun m c =>
    if c.chSt bay = Ch.ramp ∧ at92 v ∧ (c.ch bay).holdEnd.isNone then
      (m, ((((c.bayMeas bay v).chTo bay Ch.on).onCh bay (fun x => { x with cycle := false })).pgCheck bay v).baysUpNote)
    else (m, c)) s

/-- GATE_FAIL_TIMEOUT (R365): in RAMP, or in ON outside current limit. -/
def execGateFailTimeout (bay : Fin 24) (v : BaySample) (s : State) : Host.Outcome State Fault Refusal :=
  bayRow bay (fun m c =>
    if c.chSt bay = Ch.ramp ∨ (c.chSt bay = Ch.on ∧ !c.flag (F.BAY_CH_STAT_limit bay)) then
      match bayLatch m c bay 4 v with
      | (m1, c1) => (m1, c1.baysUpNote)
    else (m, c)) s

/-! ### Current limit, fast trip, temperature (R366 to R369) -/

/-- The channel enters current limit: the flag, its count, the timer and the event. -/
def Ctl.limitEnter (c : Ctl) (b : Nat) (v : BaySample) : Ctl :=
  if c.flag (F.BAY_CH_STAT_limit b) then c
  else (((c.setFlag (F.BAY_CH_STAT_limit b) true).bump (F.BAY_CH_CNT_limits b) 1).timerStart b).bayEvent b 5 0 (c.chSt b) v

/-- CURRENT_LIMIT_ENTER (R366). -/
def execCurrentLimitEnter (bay : Fin 24) (v : BaySample) (s : State) : Host.Outcome State Fault Refusal :=
  bayRow bay (fun m c =>
    if c.gateDriven bay && decide (c.get (F.BAY_CH_ILIM_ilim_ma bay) ≤ v.i) then (m, (c.bayMeas bay v).limitEnter bay v) else (m, c)) s

/-- CURRENT_LIMIT_RELEASE (R366, R367): ten samples at or below 0.9 × ilim, none of them in the hold of a fast trip. -/
def execCurrentLimitRelease (bay : Fin 24) (v : BaySample) (s : State) : Host.Outcome State Fault Refusal :=
  bayRow bay (fun m c =>
    if c.flag (F.BAY_CH_STAT_limit bay) && (c.ch bay).holdEnd.isNone && decide (10 * v.i ≤ 9 * c.get (F.BAY_CH_ILIM_ilim_ma bay)) then
      (m, ((((c.bayMeas bay v).timerStop bay).bayEvent bay 6 0 (c.chSt bay) v).pgCheck bay v).baysUpNote)
    else (m, c)) s

/-- BAY_FAULT_TIMER_EXPIRE (R366): the timer reaches ftimer × 0.1 ms. -/
def execBayFaultTimerExpire (bay : Fin 24) (v : BaySample) (s : State) : Host.Outcome State Fault Refusal :=
  bayRow bay (fun m c =>
    match (c.ch bay).timerAt with
    | none => (m, c)
    | some t =>
      match bayLatch m (c.reach (t + c.get (F.BAY_CH_CFG_ftimer bay) * 100000)) bay 1 v with
      | (m1, c1) => (m1, c1.baysUpNote)) s

/-- FAST_TRIP (R367): the gate is held low for 20 µs in limit; a second trip while the timer runs latches; so does one in a fixed
keeper (R40). -/
def execFastTrip (bay : Fin 24) (v : BaySample) (s : State) : Host.Outcome State Fault Refusal :=
  bayRow bay (fun m c =>
    if v.i < c.get (F.BAY_CH_ILIM_fast_ma bay) then (m, c)
    else if c.gateDriven bay || c.keeperArmed bay then
      let c1 := (c.bump (F.BAY_CH_CNT_fast_trips bay) 1).bayMeas bay v
      if c.keeperArmed bay || (c.ch bay).tripped then
        match bayLatch m (c1.bayEvent bay 7 0 (c.chSt bay) v) bay 3 v with
        | (m1, c2) => (m1, c2.baysUpNote)
      else
        let c2 := (c1.limitEnter bay v).timerStart bay
        (m, (c2.onCh bay (fun x => { x with tripped := true, holdEnd := some (c2.dt + 20000) })).bayEvent bay 7 0 (c.chSt bay) v)
    else (m, c)) s

/-- FAST_TRIP_HOLD_END (R367). -/
def execFastTripHoldEnd (bay : Fin 24) (s : State) : Host.Outcome State Fault Refusal :=
  bayRow bay (fun m c =>
    match (c.ch bay).holdEnd with
    | some t => (m, (c.reach t).onCh bay (fun x => { x with holdEnd := none }))
    | none => (m, c)) s

/-- FET_TEMP_LIMIT (R368): 150 °C or more. -/
def execFetTempLimit (bay : Fin 24) (v : BaySample) (s : State) : Host.Outcome State Fault Refusal :=
  bayRow bay (fun m c =>
    if 760 ≤ v.tfet ∧ (c.gateDriven bay || c.chSt bay == Ch.precheck || c.keeperArmed bay) then
      match bayLatch m c bay 2 v with
      | (m1, c1) => (m1, c1.baysUpNote)
    else (m, c)) s

/-! ### PERST#, turn-off, running power (R371, R373, R374) -/

/-- PERST_RELEASE_TIMER (R371): 100 ms after PG. -/
def execPerstReleaseTimer (bay : Fin 24) (s : State) : Host.Outcome State Fault Refusal :=
  bayRow bay (fun m c =>
    match (c.ch bay).pgAt with
    | some t => (m, (c.reach (t + 100000000)).onCh bay (fun x => { x with perst := .high, pgAt := none, perstAt := some (c.reach (t + 100000000)).dt }))
    | none => (m, c)) s

/-- PERST_DPnn goes low, and the gate is off 1 ms later. -/
def Ctl.offPerst (c : Ctl) (b : Nat) : Ctl := (c.perstLow b).onCh b (fun x => { x with off := some (.perst (c.dt + 1000000)) })

/-- BAY_SHUTDOWN_DONE (R371): CSTS.SHST reads 10b, or 5 s have passed. -/
def execBayShutdownDone (bay : Fin 24) (timeout : Bool) (s : State) : Host.Outcome State Fault Refusal :=
  bayRow bay (fun m c =>
    match (c.ch bay).off with
    | some (.shutdown t) => (m, (if timeout then c.reach t else c).offPerst bay)
    | _ => (m, c)) s

/-- BAY_GATE_OFF_DELAY (R371, Table 14.4): the gate goes off, and a CYCLE turns on again 1 s later. -/
def execBayGateOffDelay (bay : Fin 24) (v : BaySample) (s : State) : Host.Outcome State Fault Refusal :=
  bayRow bay (fun m c =>
    match (c.ch bay).off with
    | some (.perst t) =>
      let c1 := (c.reach t).bayMeas bay v
      let c2 := ((c1.gateOff bay).chTo bay Ch.idle).onCh bay (fun x =>
        { x with checkAt := some (c1.dt + 100000000), againAt := if x.cycle then some (c1.dt + 1000000000) else none })
      (m, (c2.bayEvent bay 0x0A 0 (c.chSt bay) v).baysUpNote)
    | _ => (m, c)) s

/-- BAY_OFF_SHORT_CHECK (R371): 100 ms after a commanded turn-off. -/
def execBayOffShortCheck (bay : Fin 24) (v : BaySample) (s : State) : Host.Outcome State Fault Refusal :=
  bayRow bay (fun m c =>
    match (c.ch bay).checkAt with
    | none => (m, c)
    | some t =>
      let c1 := ((c.reach t).onCh bay (fun x => { x with checkAt := none })).bayMeas bay v
      if c1.chSt bay = Ch.idle ∧ at90 v then bayLatch m c1 bay 5 v else (m, c1)) s

/-- BAY_CYCLE_RESTART (R373): the ON of a CYCLE; with en = 0 the channel stays off and the CYCLE is over. -/
def execBayCycleRestart (bay : Fin 24) (s : State) : Host.Outcome State Fault Refusal :=
  bayRow bay (fun m c =>
    match (c.ch bay).againAt with
    | none => (m, c)
    | some t =>
      let on := c.flag (F.BAY_CH_CFG_en bay)
      (m, (c.reach t).onCh bay (fun x => { x with againAt := none, want := on, cycle := on }))) s

/-- Whether a bay's PS2 override is set (R374). -/
def Ctl.ps2Over (c : Ctl) (b : Nat) : Bool := c.bitOf F.BAY_PS2_OVR_bays b

/-- PS2_SECOND_CHECK (R374): the average power of the last whole second of DT, in mW; three in a row above 100 W latch. -/
def execPs2SecondCheck (bay : Fin 24) (avg : Nat) (v : BaySample) (s : State) : Host.Outcome State Fault Refusal :=
  bayRow bay (fun m c =>
    let x := c.ch bay
    let now := c.dt / 1000000000 * 1000000000
    let at_ := if x.ps2At < now then now else now + 1000000000
    let c1 := c.reach at_
    let n := if c1.gateDriven bay ∧ !c1.ps2Over bay ∧ 100000 < avg then (if at_ = x.ps2At + 1000000000 then x.ps2 else 0) + 1 else 0
    let c2 := c1.onCh bay (fun y => { y with ps2 := if 3 ≤ n then 0 else n, ps2At := at_ })
    if 3 ≤ n then
      match bayLatch m c2 bay 6 v with
      | (m1, c3) => (m1, c3.baysUpNote)
    else (m, (c2.pgCheck bay v).baysUpNote)) s

/-! ### Commands (R373, Table 14.4) -/

/-- Whether a turn-off or a CYCLE is under way. -/
def Ctl.bayBusy (c : Ctl) (b : Nat) : Bool := (c.ch b).off.isSome || (c.ch b).cycle

/-- Whether a bay holds an ONLINE or REBUILDING member. -/
def Ctl.bayServes (c : Ctl) (b : Nat) : Bool := c.memState b == 1 || c.memState b == 3

/-- Why a command is refused: 0 where it is accepted (R373). -/
def Ctl.bayRefusal (c : Ctl) (b op : Nat) : Nat :=
  let st := c.chSt b
  if !c.lease then Cs.notActive
  else if op < 1 ∨ 4 < op then 0
  else if c.bayBusy b then Cs.bayState
  else if (op = 1 ∧ !(st = Ch.idle ∧ c.flag (F.BAY_CH_CFG_en b))) ∨ (op = 2 ∧ st ≠ Ch.precheck ∧ st ≠ Ch.ramp ∧ st ≠ Ch.on)
      ∨ (op = 3 ∧ st ≠ Ch.latched) ∨ (op = 4 ∧ st ≠ Ch.on) then Cs.bayState
  else if (op = 2 ∨ op = 4) ∧ c.bayServes b then Cs.bayMember
  else 0

/-- The turn-off sequence starts (R371): the member's shutdown while its controller is enabled, else PERST# at once. -/
def Ctl.offStart (c : Ctl) (b : Nat) : Ctl :=
  let ready := match Tab.at? c.rbd.drives b with | some d => d.ready | none => false
  if c.chSt b == Ch.on && ready then c.onCh b (fun x => { x with off := some (.shutdown (c.dt + 5000000000)) }) else c.offPerst b

/-- The present measurements of a channel, as its registers show them. -/
def Ctl.bayNow (c : Ctl) (b : Nat) : BaySample :=
  ⟨c.get (F.BAY_CH_MEAS0_vin_mv b), c.get (F.BAY_CH_MEAS0_vsrc_mv b), c.get (F.BAY_CH_MEAS1_i_ma b), c.get (F.BAY_CH_MEAS1_tfet b)⟩

/-- A channel command: its status, and its effect where it is 0 (Table 14.4). -/
def Ctl.bayCmd (c : Ctl) (b op : Nat) : Nat × Ctl :=
  let st := c.bayRefusal b op
  if st ≠ 0 then (st, c)
  else if op = 1 then (0, c.onCh b (fun x => { x with want := true }))
  else if op = 2 then (0, c.offStart b)
  else if op = 3 then
    let c1 := ((c.setBitOf F.BAY_STAT_latched b false).set (F.BAY_CH_STAT_cause b) 0).chIdle b
    (0, (c1.usableNote b).bayEvent b 9 0 Ch.latched (c.bayNow b))
  else if op = 4 then (0, (c.onCh b (fun x => { x with cycle := true })).offStart b)
  else (0, c)

/-- A write of BAY_CH_CMD_n: a refused command sets cmd_err. -/
def Ctl.bayCmdReg (c : Ctl) (b op : Nat) : Ctl :=
  match c.bayCmd b op with
  | (0, c1) => c1
  | (_, c1) => c1.setFlag (F.BAY_CH_STAT_cmd_err b) true

/-- BAY_CMD_ON. -/
def execBayCmdOn (bay : Fin 24) (s : State) : Host.Outcome State Fault Refusal :=
  onCtl (fun _ c => if c.bar0Open then c.bayCmdReg bay 1 else c) s

/-- BAY_CMD_OFF. -/
def execBayCmdOff (bay : Fin 24) (s : State) : Host.Outcome State Fault Refusal :=
  onCtl (fun _ c => if c.bar0Open then c.bayCmdReg bay 2 else c) s

/-- BAY_CMD_CLEAR. -/
def execBayCmdClear (bay : Fin 24) (s : State) : Host.Outcome State Fault Refusal :=
  onCtl (fun _ c => if c.bar0Open then c.bayCmdReg bay 3 else c) s

/-- BAY_CMD_CYCLE. -/
def execBayCmdCycle (bay : Fin 24) (s : State) : Host.Outcome State Fault Refusal :=
  onCtl (fun _ c => if c.bar0Open then c.bayCmdReg bay 4 else c) s

/-! ### Opcodes (R379) -/

/-- BAY_CH_STAT_n as it reads: with the elapsed fault timer. -/
def Ctl.bayStatWord (c : Ctl) (b : Nat) : Word :=
  match (c.ch b).timerAt with
  | some t => setBits (c.rd (Reg.BAY_CH_STAT b)) 15 0 (min 65535 ((c.dt - t) / 1000))
  | none => c.rd (Reg.BAY_CH_STAT b)

/-- BAY_STATUS. -/
def bayStatus (_ : Taken) (m : Mem) (c : Ctl) : CRes :=
  .ok m c (c.rd Reg.BAY_STAT :: (List.range 24).flatMap (fun b =>
    [c.bayStatWord b, c.rd (Reg.BAY_CH_MEAS0 b), c.rd (Reg.BAY_CH_MEAS1 b)]))

/-- BAY_POWER: each bay of the mask is acted on or refused alone; without the lease the opcode is refused (R373). -/
def bayPower (t : Taken) (m : Mem) (c : Ctl) : CRes :=
  if t.pkt.words.length < 2 ∨ t.w 1 % 8 = 0 ∨ 4 < t.w 1 % 8 then .err m c Cs.badParam
  else if !c.lease then .err m c Cs.notActive
  else
    let r := (List.range 24).foldl (fun (a : Nat × Ctl) b =>
      if Nat.testBit (t.w 0) b then
        match a.2.bayCmd b (t.w 1 % 8) with
        | (st, c1) => (if a.1 = 0 then st else a.1, c1)
      else a) (0, c)
    if r.1 = 0 then .ok m r.2 [] else .err m r.2 r.1

/-- Whether a new override mask clears the bit of a bay whose committed limit exceeds 100 W (R374). -/
def Ctl.ps2Clears (c : Ctl) (mask : Nat) : Bool :=
  (List.range 24).any (fun b => c.ps2Over b && !Nat.testBit mask b
    && decide (100000000 < c.get (F.BAY_CH_ILIM_ilim_ma b) * c.get F.BAY_CFG_vin_max_mv))

/-- The override mask is written as one persistent word: its status, 0 where the write starts. -/
def Ctl.ps2Write (c : Ctl) (mask : Nat) (bar0 : Bool) : Nat × Ctl :=
  if c.ps2Clears mask then (Cs.badState, c) else c.pcrRequest Reg.BAY_PS2_OVR 4 (wd (mask % 2 ^ 24)) bar0

/-- BAY_PS2_OVERRIDE. -/
def bayPs2Override (t : Taken) (m : Mem) (c : Ctl) : CRes :=
  if t.pkt.words.length < 2 then .err m c Cs.badParam
  else if t.w 1 % 2 = 0 then .err m c Cs.denied
  else match c.ps2Write (t.w 0) false with
    | (0, c1) => .ok m c1 []
    | (st, c1) => .err m c1 st

/-- BAY_STATUS (R379). -/
def execBayStatus (src : ChiebSrc) (s : State) : Host.Outcome State Fault Refusal := chiebRow 0x0900 src bayStatus s

/-- BAY_POWER (R379). -/
def execBayPower (src : ChiebSrc) (s : State) : Host.Outcome State Fault Refusal := chiebRow 0x0901 src bayPower s

/-- BAY_PS2_OVERRIDE (R374). -/
def execBayPs2Override (src : ChiebSrc) (s : State) : Host.Outcome State Fault Refusal := chiebRow 0x0902 src bayPs2Override s

/-- BAY_PS2_OVR_WRITE (R374): a BAR0 write with its confirm field. -/
def execBayPs2OvrWrite (confirm : BitVec 8) (bays : BitVec 24) (s : State) : Host.Outcome State Fault Refusal :=
  onCtl (fun _ c => if c.bar0Open ∧ confirm = 0xB7 then (c.ps2Write bays.toNat true).2 else c) s

/-! ### The die's own check, and follower keepers (R377, R40) -/

/-- BAY_DIE_SELF_CHECK (R377): the charge pump, references and watchdogs, and V12BAY. -/
def execBayDieSelfCheck (parts v12 : Bool) (s : State) : Host.Outcome State Fault Refusal :=
  onAll (fun m c =>
    if !c.bayDie then (m, c)
    else
      let c1 := c.setFlag F.BAY_STAT_v12_ok v12
      if parts && v12 || c1.flag F.BAY_STAT_die_fault then (m, c1)
      else releaseFault m (c1.setFlag F.BAY_STAT_die_fault true) 0x0E 0) s

/-- FOLLOWER_KEEPER_SAMPLE (R40): the keepers of a bay take the sampled levels. -/
def execFollowerKeeperSample (bay : Fin 24) (gateHigh pgHigh : Bool) (s : State) : Host.Outcome State Fault Refusal :=
  bayRow bay (fun m c =>
    (m, c.onCh bay (fun x =>
      { x with
        gate := (match x.gate with | .follower _ => .follower gateHigh | g => g)
        pg := (match x.pg with | .follower _ => .follower pgHigh | p => p) }))) s

end Sys2Proof.Machine
end

