-- ==== Sys2Proof/Machine/DmaCtl.lean ====
section
/-! DEFINITION. Control of the DMA channels: start, stop, errors, the shadow set, and the writeback of instructions
(06_barista_and_dma.md, R134, R138 to R141). -/

namespace Sys2Proof.Machine

/-! ### Addresses (R134) -/

/-- Space and offset of a 64-bit DMA address. -/
def dmaSpace (a : Nat) : Nat := a / 2 ^ 60 % 16
def dmaOff (a : Nat) : Nat := a % 2 ^ 60

/-- Bytes of spaces 0 to 2: HBM, the local Carafe, management SRAM, whose size the spec does not give (notes/assumptions/31.md). -/
def spaceSize : Nat → Nat
  | 0 => 51539607552
  | 1 => 4294967296
  | 2 => 4194304
  | _ => 0

/-- The memory behind spaces 0 to 2. -/
def spaceMem : Nat → MemSel
  | 0 => .hbm
  | 1 => .carafe
  | _ => .sram

/-- The eight words of the instruction at an address. -/
def dmaFetch (m : Mem) (a : Nat) : List Word := leWords8 (m.bytes (spaceMem (dmaSpace a)) (dmaOff a) 32)
where
  /-- Eight little-endian words. -/
  leWords8 (bs : List Byte) : List Word := (List.range 8).map (fun i => BitVec.ofNat 32 (leNat ((bs.drop (4 * i)).take 4)))

/-- Whether a program may be fetched at an address by channel `n`: space 0, or space 2 of a management channel. -/
def dmaFetchOk (n a : Nat) : Bool :=
  (dmaSpace a == 0 || (dmaSpace a == 2 && decide (256 ≤ n))) && decide (dmaOff a + 32 ≤ spaceSize (dmaSpace a))

/-- Fields of W0 (Table 6.10). -/
def insOwn (w : Word) : Bool := w.getLsbD 31
def insOp (w : Word) : Nat := getBits w 27 24
def insBar (w : Word) : Bool := w.getLsbD 23
def insWb (w : Word) : Bool := w.getLsbD 22

/-- Writeback of an instruction (R138): W7, then W0 with the status and own 0. -/
def dmaWriteback (m : Mem) (a : Nat) (w0 : Word) (w7 : Option Nat) (st : Nat) : Mem :=
  let s := spaceMem (dmaSpace a)
  let m1 := match w7 with | some v => m.put s (dmaOff a + 28) (leBytes 4 v) | none => m
  m1.put s (dmaOff a) (leBytes 4 (setBits (setBits w0 15 8 st) 31 31 0).toNat)

/-! ### States (R139, R140) -/

/-- A channel stops at the first failing status, which last_status holds; a step's token carries DMA_ERR (R139). -/
def Ctl.chStopped (c : Ctl) (n st : Nat) : Ctl :=
  let x := c.chan n
  (((c.setChan n { x with wait := none, flight := [], move := none, failed := none }).set (F.DMA_CH_STAT_last_status n) st).toState n 4).chToken n 0x0A

/-! ### Commands of DMA_CH_CTRL (R140, R142) -/

/-- start: from IDLE at DMA_CH_PROG; on channels 0 to 191 it only sets wr_err. -/
def Ctl.dmaStart (c : Ctl) (n : Nat) : Ctl :=
  if n < 192 then c.setFlag (F.DMA_CH_STAT_wr_err n) true
  else if c.chState n = 0 then
    c.chanStart n (c.get (F.DMA_CH_PROG_HI_addr n) * 2 ^ 32 + c.get (F.DMA_CH_PROG_LO_addr n)) none
  else c

/-- stop: RUN or WAIT becomes STOPPING. -/
def Ctl.dmaStop (c : Ctl) (n : Nat) : Ctl := if c.chState n = 1 ∨ c.chState n = 2 then c.toState n 3 else c

/-- clr_err: STOPPED becomes IDLE. -/
def Ctl.dmaClrErr (c : Ctl) (n : Nat) : Ctl := if c.chState n = 4 then c.toState n 0 else c

/-- shadow_arm; `edge` says that the write arrives in the clock of the next hand-over edge (R141). -/
def Ctl.dmaArm (c : Ctl) (n : Nat) (edge : Bool) : Ctl :=
  if edge then c.setChan n { c.chan n with edgeHit := true } else c.setFlag (F.DMA_CH_STAT_shadow_armed n) true

/-- A write of DMA_CH_NEXT_LO (0), DMA_CH_NEXT_HI (1) or DMA_CH_PACE (2) lands in the shadow set; a weight of 0 is refused. -/
def Ctl.dmaShadow (c : Ctl) (n reg : Nat) (v : Word) (edge : Bool) : Ctl :=
  let x := c.chan n
  let x1 : DmaChan := match reg with
    | 0 => { x with shNext := x.shNext / 2 ^ 32 * 2 ^ 32 + v.toNat }
    | 1 => { x with shNext := v.toNat * 2 ^ 32 + x.shNext % 2 ^ 32 }
    | _ => { x with shPace := v &&& 0xFFFF00FF }
  if reg = 2 ∧ getBits v 7 0 = 0 then c else c.setChan n { x1 with edgeHit := x1.edgeHit || edge }

/-- DMA_START (R140, R142). -/
def execDmaStart (ch : Fin 272) (s : State) : Host.Outcome State Fault Refusal := onCtl (fun _ c => if c.bar0Open then c.dmaStart ch else c) s

/-- DMA_STOP (R140). -/
def execDmaStop (ch : Fin 272) (s : State) : Host.Outcome State Fault Refusal := onCtl (fun _ c => if c.bar0Open then c.dmaStop ch else c) s

/-- DMA_CLR_ERR (R140). -/
def execDmaClrErr (ch : Fin 272) (s : State) : Host.Outcome State Fault Refusal := onCtl (fun _ c => if c.bar0Open then c.dmaClrErr ch else c) s

/-- DMA_SHADOW_ARM (R141). -/
def execDmaShadowArm (ch : Fin 272) (edge : Bool) (s : State) : Host.Outcome State Fault Refusal := onCtl (fun _ c => if c.bar0Open then c.dmaArm ch edge else c) s

/-- DMA_SHADOW_WRITE (R141). -/
def execDmaShadowWrite (ch : Fin 272) (reg : Fin 3) (value : Word) (edge : Bool) (s : State) : Host.Outcome State Fault Refusal :=
  onCtl (fun _ c => if c.bar0Open then c.dmaShadow ch reg value edge else c) s

/-! ### Instructions in flight (R137, R138) -/

/-- Whether an instruction in flight waits for reads of the service endpoint or a WACK of the peer. -/
def Ctl.chBusy (c : Ctl) (n : Nat) : Bool :=
  c.ept.reads.any (fun r => r.2.chan == n) || c.pair.writes.any (fun w => w.2.who == .dma n)

/-- W7 as written back: the bytes of a MOVE or the events of a WAIT (Table 6.11). -/
def DmaIns.w7 (i : DmaIns) : Option Nat := if [1, 2, 4].contains (insOp (wordAt i.words 0)) then some i.moved else none

/-- Writeback of the oldest instruction in flight with its status; the first failing one is kept, and bytes moved are counted. -/
def flightRetire (m : Mem) (c : Ctl) (n : Nat) (i : DmaIns) : Mem × Ctl :=
  let w0 := wordAt i.words 0
  let st := if i.status = 0 then 1 else i.status
  let x := c.chan n
  let c1 := c.setChan n { x with flight := x.flight.tail, failed := if st ≠ 1 ∧ x.failed.isNone then some st else x.failed }
  let c2 := if insOp w0 = 1 ∨ insOp w0 = 2 then c1.set (F.DMA_CH_BYTES_bytes n) ((c1.get (F.DMA_CH_BYTES_bytes n) + i.moved) % 2 ^ 32) else c1
  (if insWb w0 || st != 1 then dmaWriteback m i.addr w0 i.w7 st else m, c2)

/-- Writeback of every instruction in flight, in order. -/
def flightEnd (m : Mem) (c : Ctl) (n : Nat) : Mem × Ctl :=
  (c.chan n).flight.foldl (fun a i => flightRetire a.1 a.2 n i) (m, c)

/-- DMA_STOPPING_DONE (R140): the instructions in flight have ended and are written back; the WAIT in progress, or the instruction next
in turn, is written back ABORTED (a MOVE step has none); the channel is IDLE, and a step's token carries DMA_ERR. -/
def execDmaStoppingDone (ch : Fin 272) (s : State) : Host.Outcome State Fault Refusal :=
  onAll (fun m c =>
    if c.chState ch ≠ 3 || c.chBusy ch then (m, c)
    else
      let r := flightEnd m c ch
      let x := r.2.chan ch
      let w0 := wordAt (dmaFetch (r.2.memView r.1) x.pc) 0
      let m1 := if x.move.isNone && dmaFetchOk ch x.pc && insOwn w0 then
          dmaWriteback r.1 x.pc w0 (match x.wait with | some (_, _, k, _) => some k | none => some 0) 0x0A else r.1
      let c1 := (r.2.setChan ch { x with wait := none, flight := [], move := none, failed := none }).set (F.DMA_CH_STAT_last_status ch) 0x0A
      (m1, (c1.toState ch 0).chToken ch 0x0A)) s

end Sys2Proof.Machine
end

