-- ==== Sys2Proof/Machine/KeyUnit.lean ====
section
/-! DEFINITION. The key unit: key pages, LOAD and ZEROISE, the SKEK, the key store, and the key opcodes (11_tamp_and_cipher.md, R289
to R297). -/

namespace Sys2Proof.Machine

/-! ### Slots, banks and the store -/

/-- Number of a key slot: 16 · tenant + slot. -/
def keyKey (t slot : Nat) : Nat := 16 * t + slot

/-- A key slot in a new state: 0 EMPTY, 1 LOADED, 2 ZEROISING, 3 ZEROISED, 4 FAULTED. -/
def Ctl.setSlotState (c : Ctl) (t slot st : Nat) : Ctl :=
  c.wr (Reg.KP_SLOT_STAT t (slot / 8)) (setBits (c.rd (Reg.KP_SLOT_STAT t (slot / 8))) (4 * (slot % 8) + 3) (4 * (slot % 8)) st)

/-- State and skek_id of a bank (CIP_SKEK_n). -/
def Ctl.bankState (c : Ctl) (b : Nat) : Nat := getBits (c.rd (Reg.CIP_SKEK (12 * b + 11))) 1 0
def Ctl.bankId (c : Ctl) (b : Nat) : Nat := c.get (F.CIP_SKEK_word (12 * b + 10))

/-- The SKEK of the bank that wrapped a blob, by its skek_id (R290). -/
def Ctl.bankKey (c : Ctl) (id : Nat) : Option (List Byte) :=
  match [0, 1].find? (fun b => c.bankState b != 0 && c.bankId b == id) with
  | some b => Tab.at? c.keys.skek b
  | none => none

/-- Whether a SKEK is installed. -/
def Ctl.skekOn (c : Ctl) : Bool := c.bankState 0 != 0 || c.bankState 1 != 0

/-- A key-store entry written, or zeroed, with its block's count plus 1 (R293). -/
def Ctl.storeWrite (c : Ctl) (e : Nat) (blob : Option (List Byte)) : Ctl :=
  let lba := 16 + e / 50
  ({ c with keys := { c.keys with
      store := match blob with | some b => Tab.put c.keys.store e b | none => Tab.del c.keys.store e
      storeCnt := Tab.put c.keys.storeCnt lba (Tab.getD c.keys.storeCnt lba 0 + 1) } }).storeTo c.presentBays lba

/-- Namespaces of a tenant. -/
def Ctl.tenantNs (c : Ctl) (t : Nat) : List Nat := (c.car.ns.filter (fun p => p.2.tenant == t)).map (·.1)

/-- Crema forgets every namespace that uses a key page (Table 8.5). -/
def Ctl.pageInval (c : Ctl) (t : Nat) : Ctl := (c.tenantNs t).foldl Ctl.invalNs c

/-! ### Blobs (R292, Table 11.7) -/

/-- The plaintext of a blob and the status of steps 2 and 3 of R294. -/
def Ctl.blobOpen (c : Ctl) (blob : List Byte) : Nat × List Byte :=
  if !c.skekOn then (Cs.keyNoSkek, [])
  else match c.bankKey (pktField blob 0 4) with
    | none => (Cs.keyUnwrap, [])
    | some k =>
      if pktField blob 4 2 ≠ 72 then (Cs.keyUnwrap, [])
      else match Config.keyUnwrap k ((blob.drop 8).take 72) with
        | none => (Cs.keyUnwrap, [])
        | some p => if p.length = 64 then (0, p) else (Cs.keyUnwrap, [])

/-- Step 4 of R294: the plaintext matches the page, the slot and the slot's range, and the key is not all zero. -/
def blobFits (p : List Byte) (t slot : Nat) : Bool :=
  let key := (p.drop 16).take 48
  pktField p 0 4 == 0x4B500001 && pktField p 4 2 == t && pktField p 6 1 == slot && pktField p 7 1 == (if slot < 2 then 1 else 2)
    && !key.all (· == 0) && (decide (2 ≤ slot) || (!(key.take 32).all (· == 0) && (key.drop 32).all (· == 0)))

/-- The key of a plaintext: 32 bytes of a data key, 48 of a PSK. -/
def blobKey (p : List Byte) (slot : Nat) : List Byte := (p.drop 16).take (if slot < 2 then 32 else 48)

/-- Whether a namespace names a data slot. -/
def Ctl.slotNamed (c : Ctl) (t slot : Nat) : Bool := c.car.ns.any (fun p => p.2.tenant == t && p.2.kslot == slot)

/-- Steps 2 to 5 of R294: a status, and the plaintext where it is 0. -/
def Ctl.loadCheckKey (c : Ctl) (t slot : Nat) (blob : List Byte) : Nat × List Byte :=
  match c.blobOpen blob with
  | (0, p) =>
    if !blobFits p t slot then (Cs.keyBadBlob, [])
    else if slot < 2 ∧ c.slotState t slot ≠ 0 ∧ c.slotNamed t slot then (Cs.keyInUse, [])
    else if slot < 2 ∧ !(c.groups.any c.grpReady) then (Cs.keyNoStore, [])
    else (0, p)
  | (st, _) => (st, [])

/-- R297: what refuses a LOAD or ZEROISE of a data slot before its own steps. -/
def Ctl.dataRefusal (c : Ctl) (slots : List Nat) : Nat :=
  if slots.any (fun s => decide (s < 2)) then
    (if !c.keys.restored then Cs.keyBusy else if !c.lease then Cs.notActive else 0)
  else 0

/-! ### LOAD (R294) -/

/-- A key is installed in a slot, and Crema forgets the page's namespaces (step 8). -/
def Ctl.keyInstall (c : Ctl) (t slot keyId : Nat) (key : List Byte) : Ctl :=
  (({ c with keys := { c.keys with mat := Tab.put c.keys.mat (keyKey t slot) key } }.setSlotState t slot 1).set
    (F.KP_SLOT_ID_key_id t slot) keyId).pageInval t

/-- A key command of a page ends: KP_RESULT, KP_STAT.busy, and the handle of a Chieb opcode. -/
def Ctl.keyEnd (c : Ctl) (t st : Nat) (h : Option Nat) : Ctl :=
  let c1 := (c.set (F.KP_RESULT_status t) st).setFlag (F.KP_STAT_busy t) false
  match h with | some k => c1.handleEnd k st [] | none => c1

/-- The blob window of a page is cleared. -/
def Ctl.blobClear (c : Ctl) (t : Nat) : Ctl := (List.range 20).foldl (fun c i => c.wr (Reg.KP_BLOB t i) 0) c

/-- Step 8 ends a LOAD with OK. -/
def Ctl.loadOk (c : Ctl) (t : Nat) (o : LoadOp) : Ctl :=
  (({ c with keys := { c.keys with loads := Tab.del c.keys.loads t } }).blobClear t).keyEnd t 0 o.handle

/-- A LOAD is refused: the slot and the stores stay, and a peer that holds the key pending discards it. -/
def Ctl.loadRefuse (c : Ctl) (t st : Nat) (o : LoadOp) : Ctl :=
  let c1 := ({ c with keys := { c.keys with loads := Tab.del c.keys.loads t } }).keyEnd t st o.handle
  if c1.mirroring && o.phase != 0 then c1.emit (.peer (.key (.discard t o.slot))) else c1

/-- Steps 7 and 8 of a LOAD: the store, the key, and, when mirroring, the peer's installation. What has come to refuse it since step 5
refuses it here, and the peer discards its pending key. -/
def Ctl.loadStore (c : Ctl) (t : Nat) (o : LoadOp) : Ctl :=
  if (c.loadCheckKey t o.slot o.blob).1 ≠ 0 then c.loadRefuse t (c.loadCheckKey t o.slot o.blob).1 o
  else
  let c1 := if o.slot < 2 then c.storeWrite (2 * t + o.slot) (some o.blob) else c
  let c2 := c1.keyInstall t o.slot o.keyId o.key
  if c2.mirroring && o.phase != 0 then
    { c2 with keys := { c2.keys with loads := Tab.put c2.keys.loads t { o with phase := 2 } } }.emit (.peer (.key (.install t o.slot)))
  else c2.loadOk t o

/-- KP_CMD LOAD, or KEY_LOAD with its handle: the checks in R294's order; then the peer is asked to hold the key, or the key is
stored and installed. -/
def Ctl.kpLoad (c : Ctl) (t slot : Nat) (blob : List Byte) (h : Option Nat) : Ctl :=
  if c.flag (F.KP_STAT_busy t) then (match h with | some k => c.handleEnd k Cs.keyBusy [] | none => c)
  else
    let c1 := ((c.set (F.KP_STAT_last_slot t) slot).setFlag (F.KP_STAT_busy t) true).set (F.KP_RESULT_status t) Cs.pending
    let r := c1.dataRefusal [slot]
    if r ≠ 0 then c1.keyEnd t r h
    else match c1.loadCheckKey t slot blob with
      | (0, p) =>
        let o : LoadOp := ⟨slot, blob, blobKey p slot, pktField p 8 4, if c1.mirroring then 1 else 0, h⟩
        if c1.mirroring then
          { c1 with keys := { c1.keys with loads := Tab.put c1.keys.loads t o } }.emit (.peer (.key (.load t slot blob)))
        else c1.loadStore t o
      | (st, _) => c1.keyEnd t st h

/-- The blob in a page's window. -/
def Ctl.pageBlob (c : Ctl) (t : Nat) : List Byte := (List.range 20).flatMap (fun i => leBytes 4 (c.rd (Reg.KP_BLOB t i)).toNat)

/-- KP_LOAD (R294). -/
def execKpLoad (tenant : Fin 4096) (slot : Fin 16) (s : State) : Host.Outcome State Fault Refusal :=
  onCtl (fun _ c => if c.bar0Open then c.kpLoad tenant slot (c.pageBlob tenant) none else c) s

/-! ### ZEROISE (R295) -/

/-- Connections whose entries were derived from PSK slots of a page. -/
def Ctl.pskConns (c : Ctl) (t : Nat) (slots : List Nat) : List Nat :=
  (c.keys.ctab.filter (fun e => e.2.valid && e.2.tenant == t && slots.contains e.2.slot && decide (2 ≤ e.2.slot))).map (·.1)

/-- The entries derived from PSK slots are invalid, and their connections end with CONN_ERR. -/
def Ctl.pskEnd (c : Ctl) (t : Nat) (slots : List Nat) : Ctl :=
  (c.pskConns t slots).foldl (fun c k => (c.emit (.connClose k)).connLost k) c

/-- A ZEROISE of slots is accepted: they are ZEROISING from now on, connections under their PSKs end, and the peer is told. -/
def Ctl.kpZeroise (c : Ctl) (t : Nat) (slots : List Nat) (h : Option Nat) : Ctl :=
  if c.flag (F.KP_STAT_busy t) then (match h with | some k => c.handleEnd k Cs.keyBusy [] | none => c)
  else
    let c1 := (c.setFlag (F.KP_STAT_busy t) true).set (F.KP_RESULT_status t) Cs.pending
    let r := c1.dataRefusal slots
    if r ≠ 0 then c1.keyEnd t r h
    else
      let c2 := (slots.foldl (fun c s => c.setSlotState t s 2) c1).pskEnd t slots
      let c3 := { c2 with keys := { c2.keys with zeros := Tab.put c2.keys.zeros t ⟨slots, !c2.mirroring, h⟩ } }
      if c3.mirroring then c3.emit (.peer (.key (.zeroise t slots))) else c3

/-- KP_CMD ZEROISE of one slot, which KP_STAT then names. -/
def Ctl.kpZeroiseOne (c : Ctl) (t slot : Nat) : Ctl :=
  (if c.flag (F.KP_STAT_busy t) then c else c.set (F.KP_STAT_last_slot t) slot).kpZeroise t [slot] none

/-- KP_ZEROISE_SLOT (R295). -/
def execKpZeroiseSlot (tenant : Fin 4096) (slot : Fin 16) (s : State) : Host.Outcome State Fault Refusal :=
  onCtl (fun _ c => if c.bar0Open then c.kpZeroiseOne tenant slot else c) s

/-- KP_ZEROISE_PAGE (R295). -/
def execKpZeroisePage (tenant : Fin 4096) (s : State) : Host.Outcome State Fault Refusal :=
  onCtl (fun _ c => if c.bar0Open then c.kpZeroise tenant (List.range 16) none else c) s

/-- Steps 3 to 5 of R295: the material, the stores, Crema; the slots are ZEROISED. -/
def Ctl.zeroiseEnd (c : Ctl) (t : Nat) (z : ZeroOp) : Ctl :=
  let c1 := { c with keys := { c.keys with
    mat := z.slots.foldl (fun m s => Tab.del m (keyKey t s)) c.keys.mat
    zeros := Tab.del c.keys.zeros t } }
  let c2 := (z.slots.filter (fun s => decide (s < 2))).foldl (fun c s => c.storeWrite (2 * t + s) none) c1
  let c3 := if z.slots.any (fun s => decide (s < 2)) then
      c2.set (F.KP_UNREACHED_bays t) ((c2.absentBays.eraseDups.map (fun b => 2 ^ b)).sum) else c2
  (((z.slots.foldl (fun c s => c.setSlotState t s 3) c3)).pageInval t).keyEnd t 0 z.handle

/-- ZEROISE_COMPLETE (R295): the accepted steps have ended and the peer, when mirroring, has erased its copy. -/
def execZeroiseComplete (tenant : Fin 4096) (s : State) : Host.Outcome State Fault Refusal :=
  onCtl (fun _ c =>
    match Tab.at? c.keys.zeros tenant with
    | some z => if z.acked || !c.mirroring then c.zeroiseEnd tenant z else c
    | none => c) s

/-! ### Restoration (R297) and the SKEK (R290) -/

/-- The data slots are restored from the key store; one that fails unwrap is FAULTED. -/
def Ctl.keysRestore (c : Ctl) : Ctl :=
  let c1 := c.keys.store.foldl (fun c e =>
    let t := e.1 / 2
    let s := e.1 % 2
    match c.blobOpen e.2 with
    | (0, p) => if blobFits p t s then
        ({ c with keys := { c.keys with mat := Tab.put c.keys.mat (keyKey t s) (blobKey p s) } }.setSlotState t s 1).set
          (F.KP_SLOT_ID_key_id t s) (pktField p 8 4)
      else c.setSlotState t s 4
    | _ => c.setSlotState t s 4) c
  { c1 with keys := { c1.keys with restored := true } }

/-- The wrapped bytes of a bank. -/
def Ctl.bankBytes (c : Ctl) (b : Nat) : List Byte := (List.range 10).flatMap (fun i => leBytes 4 (c.rd (Reg.CIP_SKEK (12 * b + i))).toNat)

/-- CIP_SKEK_STAT follows the banks. -/
def Ctl.skekNote (c : Ctl) : Ctl :=
  ((c.setFlag F.CIP_SKEK_STAT_installed (c.bankState 0 == 2 || c.bankState 1 == 2)).setFlag F.CIP_SKEK_STAT_rewrap
    (c.bankState 0 == 1 || c.bankState 1 == 1)).set F.CIP_SKEK_STAT_bank (if c.bankState 1 = 2 then 1 else 0)

/-- At a start, D01 restores the SKEK of each bank in use (R297, R290). -/
def Ctl.skekRestore (c : Ctl) : Ctl :=
  ([0, 1].foldl (fun c b =>
    if c.bankState b = 0 then c
    else match Config.keyUnwrap Config.storageKey (c.bankBytes b) with
      | some k => { c with keys := { c.keys with skek := Tab.put c.keys.skek b k } }
      | none => c) c).skekNote

/-- A bank word written by the key unit. -/
def Ctl.bankWord (c : Ctl) (b i v : Nat) : Ctl := c.pcrOwn (F.CIP_SKEK_word (12 * b + i)) v

/-- SKEK_INSTALL: the new SKEK stands in the inactive bank in state PENDING. The key stands in w0 to w7 and the id in w8. -/
def skekInstall (t : Taken) (m : Mem) (c : Ctl) : CRes :=
  let key := wordBytes (t.pkt.words.take 8)
  let id := t.w 8
  let old := if c.bankState 1 = 2 then 1 else 0
  let new := if c.bankState old = 2 then 1 - old else 0
  if ! ([Mode.standby, .active, .degraded, .quiesced].contains c.mode) then .err m c Cs.badState
  else if t.pkt.words.length ≠ 9 ∨ id = 0 ∨ (c.bankState old = 2 ∧ c.bankId old = id) then .err m c Cs.badParam
  else if c.flag F.CIP_SKEK_STAT_rewrap then .err m c Cs.badState
  else
    let w := Config.keyWrap Config.storageKey key
    let c1 := (List.range 10).foldl (fun c i => c.bankWord new i (pktField w (4 * i) 4)) c
    let c2 := (c1.bankWord new 10 id).bankWord new 11 1
    .ok m ({ c2 with keys := { c2.keys with skek := Tab.put c2.keys.skek new key } }.skekNote) []

/-- SKEK_INSTALL (R290). -/
def execSkekInstall (src : ChiebSrc) (s : State) : Host.Outcome State Fault Refusal := chiebRow 0x0501 src skekInstall s

/-- A stored blob wrapped again under the SKEK of bank `b`. -/
def Ctl.rewrap (c : Ctl) (b : Nat) (blob : List Byte) : List Byte :=
  match c.blobOpen blob, Tab.at? c.keys.skek b with
  | (0, p), some k => leBytes 4 (c.bankId b) ++ leBytes 2 72 ++ leBytes 2 0 ++ Config.keyWrap k p
  | _, _ => blob

/-- Steps 2 and 3 of R290: the lease holder wraps each stored blob again and rewrites the stores; the new bank is ACTIVE, the old EMPTY. -/
def Ctl.skekDone (c : Ctl) : Ctl :=
  match [0, 1].find? (fun b => c.bankState b == 1) with
  | none => c
  | some new =>
    let c1 := if c.lease then c.keys.store.foldl (fun c e => c.storeWrite e.1 (some (c.rewrap new e.2))) c else c
    let c2 := (c1.bankWord new 11 2).bankWord (1 - new) 11 0
    ({ c2 with keys := { c2.keys with skek := Tab.del c2.keys.skek (1 - new) } }).skekNote

/-- SKEK_REWRAP_DONE (R290). -/
def execSkekRewrapDone (s : State) : Host.Outcome State Fault Refusal := onCtl (fun _ c => c.skekDone) s

/-! ### The peer's part (R294, R295, R297) -/

/-- A key page's command of the active, on the standby: its status is the KEY_ACK's. -/
def Ctl.peerKey (c : Ctl) : KeyMsg → Ctl
  | .load t slot blob =>
    match c.loadCheckKey t slot blob with
    | (0, p) => { c with keys := { c.keys with pend := Tab.put c.keys.pend (keyKey t slot) ⟨blob, blobKey p slot, pktField p 8 4⟩ } }.emit
        (.peer (.keyAck 0))
    | (st, _) => c.emit (.peer (.keyAck st))
  | .install t slot =>
    match Tab.at? c.keys.pend (keyKey t slot) with
    | some k =>
      let c1 := { c with keys := { c.keys with
        pend := Tab.del c.keys.pend (keyKey t slot)
        store := if slot < 2 then Tab.put c.keys.store (2 * t + slot) k.blob else c.keys.store } }
      (c1.keyInstall t slot k.keyId k.key).emit (.peer (.keyAck 0))
    | none => c.emit (.peer (.keyAck 0))
  | .discard t slot => { c with keys := { c.keys with pend := Tab.del c.keys.pend (keyKey t slot) } }
  | .zeroise t slots =>
    let c1 := (slots.foldl (fun c s => c.setSlotState t s 2) c).pskEnd t slots
    let c2 := { c1 with keys := { c1.keys with
      mat := slots.foldl (fun m s => Tab.del m (keyKey t s)) c1.keys.mat
      store := (slots.filter (fun s => decide (s < 2))).foldl (fun m s => Tab.del m (2 * t + s)) c1.keys.store } }
    ((slots.foldl (fun c s => c.setSlotState t s 3) c2).pageInval t).emit (.peer (.keyAck 0))

/-- KEY_ACK for the command of a page: a refusal refuses the LOAD; else the LOAD or ZEROISE goes on. -/
def Ctl.peerKeyAck (c : Ctl) (t st : Nat) : Ctl :=
  match Tab.at? c.keys.loads t, Tab.at? c.keys.zeros t with
  | some o, _ =>
    if o.phase = 2 then c.loadOk t o
    else if st ≠ 0 then ({ c with keys := { c.keys with loads := Tab.del c.keys.loads t } }).keyEnd t st o.handle
    else c.loadStore t o
  | none, some z => { c with keys := { c.keys with zeros := Tab.put c.keys.zeros t { z with acked := true } } }
  | none, none => c

/-- With the peer lost, key commands go on without it. -/
def Ctl.keysUnmirrored (c : Ctl) : Ctl :=
  let c1 := c.keys.loads.foldl (fun c e => if e.2.phase = 2 then c.loadOk e.1 e.2 else c.loadStore e.1 { e.2 with phase := 0 }) c
  { c1 with keys := { c1.keys with zeros := Tab.mapV c1.keys.zeros (fun _ z => { z with acked := true }) } }

/-- A standby that takes the lease: a pending data key whose key-store entry holds its blob is installed, another discarded (R294).
`stored` says which slots, by 16 · tenant + slot, the members' store holds. -/
def Ctl.pendSettle (c : Ctl) (stored : List Nat) : Ctl :=
  let c1 := c.keys.pend.foldl (fun c e =>
    if stored.contains e.1 then
      ({ c with keys := { c.keys with store := if e.1 % 16 < 2 then Tab.put c.keys.store (2 * (e.1 / 16) + e.1 % 16) e.2.blob else c.keys.store } }).keyInstall
        (e.1 / 16) (e.1 % 16) e.2.keyId e.2.key
    else c) c
  { c1 with keys := { c1.keys with pend := [] } }

/-! ### Key opcodes (Table 15.3) -/

/-- KEY_STATUS: the registers of tenant w0's page. -/
def keyStatus (t : Taken) (m : Mem) (c : Ctl) : CRes :=
  let p := t.w 0
  if t.pkt.words.length ≠ 1 ∨ 4096 ≤ p then .err m c Cs.badParam
  else .ok m c ([c.rd (Reg.KP_STAT p), c.rd (Reg.KP_RESULT p), c.rd (Reg.KP_SLOT_STAT p 0), c.rd (Reg.KP_SLOT_STAT p 1)]
    ++ (List.range 16).map (fun s => c.rd (Reg.KP_SLOT_ID p s)) ++ [c.rd (Reg.KP_UNREACHED p)])

/-- KEY_STATUS (R388). -/
def execKeyStatus (src : ChiebSrc) (s : State) : Host.Outcome State Fault Refusal := chiebRow 0x0500 src keyStatus s

/-- KEY_LOAD: w0 tenant, w1 [3:0] slot, w2 to w21 the blob (notes/assumptions/30.md). -/
def keyLoad (t : Taken) (m : Mem) (c : Ctl) : CRes :=
  if t.pkt.words.length ≠ 22 ∨ 4096 ≤ t.w 0 ∨ 16 ≤ t.w 1 then .err m c Cs.badParam
  else longOp 0x0502 m c (fun h m c => (m, c.kpLoad (t.w 0) (t.w 1) (wordBytes (t.pkt.words.drop 2)) (some h)))

/-- KEY_LOAD (R294). -/
def execKeyLoad (src : ChiebSrc) (s : State) : Host.Outcome State Fault Refusal := chiebRow 0x0502 src keyLoad s

/-- KEY_ZEROISE: w0 tenant, w1 as KP_CMD: [31:28] 2 a slot, 3 the page, [3:0] slot (notes/assumptions/30.md). -/
def keyZeroise (t : Taken) (m : Mem) (c : Ctl) : CRes :=
  let op := t.w 1 / 2 ^ 28
  if t.pkt.words.length ≠ 2 ∨ 4096 ≤ t.w 0 ∨ (op ≠ 2 ∧ op ≠ 3) then .err m c Cs.badParam
  else longOp 0x0503 m c (fun h m c => (m, c.kpZeroise (t.w 0) (if op = 2 then [t.w 1 % 16] else List.range 16) (some h)))

/-- KEY_ZEROISE (R295). -/
def execKeyZeroise (src : ChiebSrc) (s : State) : Host.Outcome State Fault Refusal := chiebRow 0x0503 src keyZeroise s

end Sys2Proof.Machine
end

