-- ==== Sys2Proof/Machine/Regions.lean ====
section
/-! DEFINITION. The regions of HBM and their overlap checks (R155, R166, R205, R287), and the conditions for enabling a group
(R195). -/

namespace Sys2Proof.Machine

/-- Bytes of a 4 MiB unit of HBM. -/
def hbmUnit : Nat := 4194304

/-- The regions other than unit maps, as first byte and bytes: the metadata region, the pools, and, once placed, the Crema directory, the
block index and the connection key table. A base of 0 is not placed. `skip` leaves one out: 1 to 5 pools, 6 directory, 7 index, 8 key
table. -/
def Ctl.regionsBut (c : Ctl) (skip : Nat) : List (Nat × Nat) :=
  let fixed (k base n : Nat) : List (Nat × Nat) := if base = 0 ∨ skip = k then [] else [(base * hbmUnit, n * hbmUnit)]
  (0, 16 * hbmUnit)
    :: ((List.range 5).filter (fun p => p + 1 != skip && c.poolCount p != 0)).map (fun p =>
        (c.get (F.BPM_POOL_BASE_base p) * hbmUnit, c.poolCount p * poolSize p))
    ++ fixed 6 (c.get F.CRM_DIR_BASE_base) 25 ++ fixed 7 (c.get F.CAR_IDX_BASE_base) 16 ++ fixed 8 (c.get F.CIP_CTAB_BASE_base) 9

/-- The unit maps of enabled groups other than `g` (R205). -/
def Ctl.umapRegions (c : Ctl) (g : Nat) : List (Nat × Nat) :=
  (c.car.umap.filter (fun p => p.1 != g)).map (fun p => ((c.get F.CAR_UMAP_BASE_base + p.2.1) * hbmUnit, p.2.2 * hbmUnit))

/-- Whether a region lies within 0x0_0400_0000 to 0xB_FFFF_FFFF and overlaps none of a list. -/
def regionOk (others : List (Nat × Nat)) (a n : Nat) : Bool :=
  decide (0x4000000 ≤ a) && decide (a + n ≤ 0xC00000000)
    && others.all (fun r => decide (a + n ≤ r.1) || decide (r.1 + r.2 ≤ a) || n == 0)

/-- Whether a group's configuration names a layout of Table 9.1 with its d, p and strip (R195). -/
def Ctl.grpShapeOk (c : Ctl) (g : Nat) : Bool :=
  let l := c.get (F.GAL_GRP_CFG_layout g)
  decide (c.get (F.GAL_GRP_CFG_strip g) ≤ 4) && decide (l ≤ 2) && decide (c.grpN g ≤ 24) && c.grpDS g % 16 == 0
    && (l != 2 || (decide (2 ≤ c.get (F.GAL_GRP_CFG_d g)) && decide (c.get (F.GAL_GRP_CFG_d g) ≤ 22)
        && decide (1 ≤ c.get (F.GAL_GRP_CFG_p g)) && decide (c.get (F.GAL_GRP_CFG_p g) ≤ 4)))

/-- Whether the members a group's configuration names can be its members (R195): n distinct bays and no more, none in another group, each trained at
x4 with a format of 4,096 data bytes and 16 or 0 metadata bytes. -/
def Ctl.grpBaysOk (c : Ctl) (g : Nat) : Bool :=
  let bays := c.listBays g
  let others := (c.groups.filter (· != g)).flatMap c.grpBays
  bays.all (fun b => decide (b < 24) && !others.contains b && Tab.at? c.rbd.ports b == some true
    && (match c.drive? b with | some d => d.ready && (d.meta16 || d.meta0) | none => false)) && bays.eraseDups.length == bays.length
    && ((List.range 24).filter (fun p => decide (c.grpN g ≤ p))).all (fun p => c.bayAt g p == 0x1F)

/-- Stripes and journal stripes that a group's configuration gives (R201, R202). -/
def Ctl.grpPlan (c : Ctl) (g : Nat) : Nat × Nat :=
  let bays := c.listBays g
  let tagblk := !bays.all (fun b => match c.drive? b with | some d => d.meta16 | none => false)
  let stot := usable tagblk (c.leastCap bays) / c.grpS g
  (stot, journalStripes (c.grpDS g) stot)

/-- Whether the unit map a group would be given fits (R195, R205). -/
def Ctl.grpMapOk (c : Ctl) (g : Nat) : Bool :=
  let pl := c.grpPlan g
  let n := umapUnits (c.grpDS g) pl.1 pl.2
  let off := umapPlace ((Tab.del c.car.umap g).map (·.2)) n
  regionOk (c.regionsBut 0) ((c.get F.CAR_UMAP_BASE_base + off) * hbmUnit) (n * hbmUnit)

/-- The conditions of R195 for a group whose configuration is written and whose en is to be 1. -/
def Ctl.grpEnableOk (c : Ctl) (g : Nat) : Bool :=
  decide ((c.groups.filter (· != g)).length + 1 ≤ 16) && c.grpShapeOk g && c.grpBaysOk g && c.grpMapOk g

end Sys2Proof.Machine
end

