-- ==== Sys2Proof/Machine/Rebuild.lean ====
section
/-! DEFINITION. Rebuild, repair, Cupping and seals (10_rebuild_cupping_regrind.md, R244 to R262). Each brew runs whole in its row. -/

namespace Sys2Proof.Machine

/-! ### Seals (R252) -/

/-- The tag of a sealed block (R252): the crc of zero data, the complement of the LBA tag, and a generation. -/
def sealTag (b gen : Nat) : List Byte :=
  leBytes 8 (crc64 (List.replicate 4096 0)) ++ leBytes 4 (2 ^ 32 - 1 - b % 2 ^ 32) ++ leBytes 4 gen

/-- A row of a stripe is sealed (R252): the 0x09 record, an INTENT with an entry for each unrecoverable data block, the writes to every
position present, and DONE; with the local Carafe failed no intent exists (R234). -/
def sealRow (m : Mem) (c : Ctl) (g s row cause : Nat) (erased : List Nat) : Mem × Ctl :=
  match lostRow m c g s row cause ((erased.map (fun p => 2 ^ p)).sum) with
  | (m1, c1) =>
    let strips := (List.range (c1.grpD g)).filter (fun i => erased.contains (c1.dataPos g s i)
      && c1.blockLive g (c1.rowBlock g s row i))
    let put (c : Ctl) (q : Nat) : Ctl :=
      (strips.foldl (fun c i => c.emit (.sealWrite g (c.rowBlock g s row i) (sealTag (c.rowBlock g s row i) (genOf q)))) c).emit
        (.stripeWrite g s ((c.positions g).filter (fun p => !(c.writeLocs g s p row).isEmpty)))
    if strips.isEmpty then (m1, c1)
    else if c1.car.failed then (m1, put c1 c1.car.head)
    else
      let q := (c1.recNew { JRec.blank Rt.intent with lines := (strips.length + 7) / 8 }).1
      let es := strips.map (fun i => (⟨q, i, row, 0, true, true⟩ : IntentE))
      match recWrite m1 c1 { JRec.blank Rt.intent with group := g, loc := s, count := es.length, lines := (es.length + 7) / 8, entries := es } with
      | (m2, q1, c2) =>
        match recWrite m2 c2 { JRec.blank Rt.done with group := g, loc := s, count := 1, names := [q1], lines := 1 } with
        | (m3, _, c3) => (m3, put c3 q1)

/-! ### Rebuild (R244 to R249) -/

/-- Whether any background work but Cupping must wait for the passes of R262. -/
def Ctl.markBlocked (c : Ctl) : Bool := !c.rbd.markDue.isEmpty

/-- Positions of a group with a rebuild. -/
def Ctl.grpTargets (c : Ctl) (g : Nat) : List Nat := (c.rbd.targets.filter (fun p => p.1 / 32 == g)).map (fun p => p.1 % 32)

/-- Rows of a stripe that rebuild and Cupping take: every row of the journal area, else those with a block in an allocated unit (R244). -/
def Ctl.scopeRows (c : Ctl) (g s : Nat) : List Nat :=
  (List.range (c.grpS g)).filter (fun r => decide (s < c.grpJ g) || !(c.rowBlocks g s r).isEmpty)

/-- Blocks of one member in those rows, with the tag blocks that cover them. -/
def Ctl.scopeBlocks (c : Ctl) (g s : Nat) : Nat :=
  let rows := c.scopeRows g s
  rows.length + (if c.flag (F.GAL_GRP_CFG_tagblk g) then ((rows.map (fun r => (s * c.grpS g + r) / 256)).eraseDups).length else 0)

/-- Positions whose strip is an erasure in a row. -/
def Ctl.erasures (c : Ctl) (g s row : Nat) : List Nat := (c.positions g).filter (fun p => (c.readLoc g s p row).isNone)

/-- Blocks rewritten in place are counted (R247, RBD_REP_CNT, Table 18.1). -/
def Ctl.rewrote (c : Ctl) (g n : Nat) : Ctl := (c.bump F.RBD_REP_CNT_count n).tev .rbd 3 g none none n

/-- One row of a rebuild: blocks of surviving members found bad are rewritten with the targets, or the row is sealed (R247, R248). -/
def rebuildRow (g s : Nat) (bad : List (Nat × Nat)) (acc : Mem × Ctl) (row : Nat) : Mem × Ctl :=
  let er := acc.2.erasures g s row
  let more := ((bad.filter (fun x => x.1 == row)).map (·.2)).filter (fun p => !er.contains p && decide (p < acc.2.grpN g))
  if er.length + more.length ≤ acc.2.grpP g then
    (acc.1, if more.isEmpty then acc.2 else (acc.2.rewrote g more.length).emit (.stripeWrite g s more))
  else sealRow acc.1 acc.2 g s row 1 (er ++ more)

/-- A position has covered every stripe (R249): ONLINE on its bay, with spare space free again, or SPARED. -/
def Ctl.rebuilt (c : Ctl) (g pos : Nat) (t : Target) : Ctl :=
  let c1 := { c with rbd := { c.rbd with targets := Tab.del c.rbd.targets (posKey g pos) } }
  if t.spare then c1.set (F.RBD_MEM_STAT_state (c1.bayAt g pos)) 4
  else
    let c2 := (c1.set (F.RBD_MEM_STAT_state (c1.bayAt g pos)) 1).set (F.RBD_MEM_STAT_cause (c1.bayAt g pos)) 0
    if c2.get (F.RBD_SPARE_STAT_pos g) = pos then c2.set (F.RBD_SPARE_STAT_pos g) 0x1F else c2

/-- The sweep passes a stripe: every target has covered one more, and the sweep goes on to the next, or ends. -/
def Ctl.sweepOn (c : Ctl) (g s : Nat) : Ctl :=
  let stot := c.grpStot g
  let c1 := { c with rbd := { c.rbd with targets := Tab.mapV c.rbd.targets (fun k t =>
    if k / 32 = g then { t with covered := t.covered + 1 } else t) } }
  let c2 := c1.rbd.targets.foldl (fun c p => if p.1 / 32 = g ∧ stot ≤ p.2.covered then c.rebuilt g (p.1 % 32) p.2 else c) c1
  let least := (c2.rbd.targets.filter (fun p => p.1 / 32 == g)).foldl (fun a p => max a (stot - p.2.covered)) 0
  let c3 := (c2.wr (Reg.RBD_RB_CUR g) (BitVec.ofNat 32 ((s + 1) % max stot 1))).wr (Reg.RBD_RB_LEFT g) (BitVec.ofNat 32 least)
  let c4 := if (c3.grpTargets g).isEmpty then c3.setFlag (F.RBD_GRP_STAT_rb_active g) false else c3
  c4.progSet g id

/-- REBUILD_BREW_START (R244): the brew of the sweep's stripe. `bad` names rows and positions of source blocks that are unreadable or fail
CHK. -/
def rebuildBrew (m : Mem) (c : Ctl) (g : Nat) (bad : List (Nat × Nat)) : Mem × Ctl :=
  let s := (c.rd (Reg.RBD_RB_CUR g)).toNat
  let ts := c.grpTargets g
  if !c.bgOk || !c.grpReady g || ts.isEmpty || c.rbRate == 0 || decide (c.rbd.bktRb ≤ 0) || !c.shareTurn 0 g || c.markBlocked then (m, c)
  else if !c.lockFree g s .rebuild then (m, c.lockWait g s .rebuild)
  else
    let n := 4096 * c.scopeBlocks g s * ts.length
    let c1 := ({ c.lockTake g s .rebuild with rbd := { c.rbd with bktRb := c.rbd.bktRb - n } }).shareAdd 0 g n
    match (c1.scopeRows g s).foldl (rebuildRow g s bad) (m, c1) with
    | (m1, c2) =>
      let c3 := if n = 0 then c2 else (c2.tev .rbd 0 g none none n).emit (.stripeWrite g s ts)
      (m1, ((c3.sweepOn g s).lockDrop g s).reassess)

/-- REBUILD_BREW_START (R244). -/
def execRebuildBrewStart (group : Fin 16) (bad : List (Nat × Nat)) (s : State) : Host.Outcome State Fault Refusal :=
  onAll (fun m c => rebuildBrew m c group bad) s

/-- The progress record of a position, Table 10.3. -/
def Ctl.progressBytes (c : Ctl) (g pos : Nat) (p : Progress) : List Byte :=
  let own := match c.target? g pos with | some t => if t.spare then none else some t | none => none
  let sp := c.get (F.RBD_SPARE_STAT_pos g)
  let spare := match c.target? g sp with | some t => if t.spare then some t else none | none => none
  let t : Target := (own.or spare).getD ⟨0, 0, false⟩
  let h := leBytes 4 0xC0FFEE10 ++ leBytes 1 g ++ leBytes 1 pos ++ leBytes 1 ((if own.isSome then 1 else 0) + (if spare.isSome then 2 else 0))
    ++ leBytes 1 (if spare.isSome then sp else 0xFF) ++ leBytes 8 t.start ++ leBytes 8 t.covered ++ leBytes 8 p.cupCur
    ++ leBytes 8 (p.cupStart.getD 0) ++ leBytes 8 p.count ++ leBytes 12 0
  h ++ leBytes 4 (crc32c h)

/-- The progress record is written with FUA to the member LBA 1 of every member of a group (R251). -/
def Ctl.progressSend (c : Ctl) (g : Nat) (p : Progress) : Ctl :=
  ((c.positions g).filter (fun pos => c.memUsable (c.bayAt g pos))).foldl (fun c pos =>
    c.emit (.progressWrite (c.bayAt g pos) (c.progressBytes g pos p))) c

/-- PROGRESS_RECORD_WRITE (R251): 1 s after the last write, changed progress is written to every member. -/
def execProgressRecordWrite (group : Fin 16) (s : State) : Host.Outcome State Fault Refusal :=
  onCtl (fun _ c =>
    let p := c.progOf group
    if !p.changed || !c.bgOk then c
    else
      let c1 := c.reach (p.at_ + 1000000000)
      let p1 : Progress := { p with count := p.count + 1, at_ := c1.dt, changed := false }
      ({ c1 with rbd := { c1.rbd with
          prog := Tab.put c1.rbd.prog group p1, progRec := Tab.put c1.rbd.progRec group p1
          tgtRec := c1.rbd.tgtRec.filter (fun (x : Nat × Target) => x.1 / 32 != group.val) ++ c1.rbd.targets.filter (fun (x : Nat × Target) => x.1 / 32 == group.val) } }).progressSend
        group p1) s

/-! ### Repair (R258) -/

/-- A repair brew: the block at place `i` of the queue is read again; one that still fails is rewritten from its row, or its row is sealed.
`more` names other positions of the row that cannot be read. -/
def repairBrew (m : Mem) (c : Ctl) (i : Nat) (still : Bool) (more : List Nat) : Mem × Ctl :=
  match c.rbd.repairs[i]? with
  | none => (m, c)
  | some e =>
    if !c.bgOk || !c.grpReady e.group then (m, c)
    else if !c.lockFree e.group e.strp .repair then (m, c.lockWait e.group e.strp .repair)
    else
      let qs := c.rbd.repairs.filter (· != e)
      let c1 := ({ c.lockTake e.group e.strp .repair with rbd := { c.rbd with repairs := qs } }).set F.RBD_REP_STAT_queued qs.length
      let er := c1.erasures e.group e.strp e.row
      let bad := (e.pos :: more).eraseDups.filter (fun p => !er.contains p && decide (p < c1.grpN e.group))
      let r := if !still || er.contains e.pos then (m, c1)
        else if er.length + bad.length ≤ c1.grpP e.group then
          (m, (c1.rewrote e.group bad.length).emit (.stripeWrite e.group e.strp bad))
        else sealRow m c1 e.group e.strp e.row 2 (er ++ bad)
      (r.1, r.2.lockDrop e.group e.strp)

/-- REPAIR_BREW_START (R258). -/
def execRepairBrewStart (entry : Fin 64) (still : Bool) (more : List Nat) (s : State) : Host.Outcome State Fault Refusal :=
  onAll (fun m c => repairBrew m c entry still more) s

/-! ### Cupping (R259 to R262) -/

/-- Rows of the scope from stripe `s` on. -/
def Ctl.rowsLeft (c : Ctl) (g s : Nat) : Nat :=
  let rows := (c.car.units.filter (fun p => p.1 / 2 ^ 40 == g)).flatMap (fun p =>
    (List.range 16).map (fun j => let b := 16 * (p.1 % 2 ^ 40) + j; (c.stripeOf g b, c.rowOf g b)))
  (rows.eraseDups.filter (fun (x : Nat × Nat) => decide (s ≤ x.1))).length + (c.grpJ g - s) * c.grpS g

/-- RBD_CUP_PASS_n.behind: at the rate of the set in use the rows left would end the pass after the period (R259). -/
def Ctl.cupBehind (c : Ctl) (g : Nat) : Bool :=
  match (c.progOf g).cupStart with
  | none => false
  | some t =>
    let due := (t + c.get F.RBD_CUP_CFG_period_d * 86400) * 1000000000
    let bytes := c.rowsLeft g (c.progOf g).cupCur * c.grpN g * 4096
    c.bgRates.2.1 == 0 || decide (due < c.dntNs + bytes * 1000000000 / c.bgRates.2.1)

/-- A pass of a group starts: its cursor at stripe 0. -/
def Ctl.cupStart (c : Ctl) (g : Nat) (mark : Bool) : Ctl :=
  let c1 := ((c.progSet g (fun p => { p with cupCur := 0, cupStart := some (c.dntNs / 1000000000) })).shareJoin 1 g).setFlag
    (F.RBD_GRP_STAT_cup_active g) true
  let c2 := (c1.wr (Reg.RBD_CUP_STAT g) 0).setFlag (F.RBD_CUP_PASS_mark_pass g) mark
  c2.setFlag (F.RBD_CUP_PASS_behind g) (c2.cupBehind g)

/-- CUPPING_PASS_START (R259, R262): the pass that the mark asks for, the first pass, or the next when its period has passed. -/
def execCuppingPassStart (group : Fin 16) (s : State) : Host.Outcome State Fault Refusal :=
  onCtl (fun _ c =>
    if !c.bgOk || !c.grpReady group || c.flag (F.RBD_GRP_STAT_cup_active group) then c
    else if c.rbd.markDue.contains group.val then c.cupStart group true
    else if !c.flag F.RBD_CUP_CFG_en then c
    else match (c.progOf group).cupStart with
      | none => c.cupStart group false
      | some t => (c.reachDnt ((t + c.get F.RBD_CUP_CFG_period_d * 86400) * 1000000000)).cupStart group false) s

/-- A counter of Table 10.5. -/
def Ctl.cupCnt (c : Ctl) (k : Nat) : Ctl := c.bump (F.RBD_CUP_CNT_count k) 1

/-- Blocks of a row rewritten by Cupping. -/
def Ctl.cupWrite (c : Ctl) (g s : Nat) (poss : List Nat) : Ctl := (c.emit (.stripeWrite g s poss)).tev .rbd 3 g none none poss.length

/-- The copy that is kept of a mirror row (R261), by its content: none when every copy fails, or when nothing is wrong. -/
def mirrorKeep (layout gNew : Nat) (cs : List CopyLook) : Option CopyLook :=
  let ok := cs.filter (·.pass)
  let age (x : CopyLook) : Nat := (gNew + (2 ^ 32 - 1) - x.gen % (2 ^ 32 - 1)) % (2 ^ 32 - 1)
  let many := ok.find? (fun x => layout == 1 && decide (2 ≤ (ok.filter (fun y => y.content == x.content)).length))
  match ok with
  | [] => none
  | x :: xs =>
    match many with
    | some y => some y
    | none => some (xs.foldl (fun a y => if age y < age a ∨ (age y = age a ∧ y.pos < a.pos) then y else a) x)

/-- The generation of the newest intent (R261). -/
def Ctl.newestGen (c : Ctl) : Nat :=
  match (c.car.recs.filter (fun r => r.typ == Rt.intent)).getLast? with
  | some r => genOf r.seq
  | none => genOf c.car.head

/-- Whether a row of a stripe is marked lost. -/
def Ctl.rowLost (c : Ctl) (g s row : Nat) : Bool := match c.lostOf g s with | some (_, e) => Nat.testBit e.rows row | none => false

/-- Blocks of a row that Cupping takes as unreadable or failing CHK: a block whose LBA tag is the complement of its own is no finding in a
row that a table entry marks lost (R260). -/
def Ctl.cupBad (c : Ctl) (g s : Nat) (l : RowLook) : List Nat := if c.rowLost g s l.row then l.bad else l.bad ++ l.sealed

/-- Cupping of a row of a mirror group (R261). -/
def cupMirror (m : Mem) (c : Ctl) (g s : Nat) (l : RowLook) : Mem × Ctl :=
  let ok := l.copies.filter (·.pass)
  let same := ok.all (fun x => ok.all (fun y => x.content == y.content))
  if l.copies.all (·.pass) && same then (m, c.cupCnt 0)
  else match mirrorKeep (c.get (F.GAL_GRP_CFG_layout g)) c.newestGen l.copies with
    | none => sealRow m (c.cupCnt 5) g s l.row 6 (c.erasures g s l.row ++ l.copies.map (·.pos))
    | some k =>
      let poss := (l.copies.filter (fun x => !x.pass || x.content != k.content)).map (·.pos)
      let tie := ok.length == l.copies.length && ok.all (fun x => x.gen == k.gen)
        && !(c.get (F.GAL_GRP_CFG_layout g) == 1 && decide (2 ≤ (ok.filter (fun y => y.content == k.content)).length))
      (m, (if tie then c.cupCnt 4 else c).cupWrite g s poss)

/-- Cupping of a row of an RS group: the first finding of Table 10.5 that applies (R260, R262). -/
def cupRow (m : Mem) (c : Ctl) (g s : Nat) (l : RowLook) : Mem × Ctl :=
  let er := c.erasures g s l.row
  let bad := (c.cupBad g s l).eraseDups.filter (fun p => !er.contains p && decide (p < c.grpN g))
  let p := c.grpP g
  let par := (List.range p).filter (fun j => !er.contains (c.parPos g s j))
  let mism := l.mism.eraseDups.filter par.contains
  let parAll := par.map (c.parPos g s)
  if bad.isEmpty && (mism.isEmpty || p ≤ er.length) then (m, c.cupCnt 0)
  else if !bad.isEmpty then
    if er.length + bad.length ≤ p then
      (m, ((c.cupCnt 1).rewrote g bad.length).emit (.stripeWrite g s (bad ++ mism.map (c.parPos g s))))
    else sealRow m (c.cupCnt 5) g s l.row 6 (er ++ bad)
  else if 2 ≤ p ∧ mism.length = p ∧ l.fits.isSome then
    (m, (c.cupCnt 2).cupWrite g s (l.fits.toList.map (c.dataPos g s)))
  else if 2 ≤ p ∧ mism.length < par.length then (m, (c.cupCnt 3).cupWrite g s (mism.map (c.parPos g s)))
  else (m, (c.cupCnt 4).cupWrite g s parAll)

/-- The pass has compared every stripe: it is counted, and a pass the mark asked for is paid; with every one paid, the mark is cleared. -/
def Ctl.cupEnd (c : Ctl) (g : Nat) : Ctl :=
  let c1 := ((c.setFlag (F.RBD_GRP_STAT_cup_active g) false).bump (F.RBD_CUP_PASS_passes g) 1).setFlag (F.RBD_CUP_PASS_behind g) false
  let c2 := { c1.setFlag (F.RBD_CUP_PASS_mark_pass g) false with rbd := { c1.rbd with markDue := c1.rbd.markDue.filter (· != g) } }
  c2.wtUnmark

/-- CUPPING_BREW_START (R260): the brew of the pass's next stripe. `looks` holds the rows in which something is wrong. -/
def cuppingBrew (m : Mem) (c : Ctl) (g : Nat) (looks : List RowLook) : Mem × Ctl :=
  let s := (c.progOf g).cupCur
  if !c.bgOk || !c.grpReady g || !c.flag (F.RBD_GRP_STAT_cup_active g) || c.bgRates.2.1 == 0 || decide (c.rbd.bktCup ≤ 0) || !c.shareTurn 1 g then (m, c)
  else if !c.lockFree g s .cupping then (m, c.lockWait g s .cupping)
  else
    let n := 4096 * c.scopeBlocks g s * ((c.positions g).filter (fun p => (c.readLoc g s p 0).isSome)).length
    let c1 := ({ c.lockTake g s .cupping with rbd := { c.rbd with bktCup := c.rbd.bktCup - n } }).shareAdd 1 g n
    let one (acc : Mem × Ctl) (row : Nat) : Mem × Ctl :=
      match looks.find? (fun l => l.row == row) with
      | none => (acc.1, acc.2.cupCnt 0)
      | some l => if acc.2.get (F.GAL_GRP_CFG_layout g) < 2 then cupMirror acc.1 acc.2 g s l else cupRow acc.1 acc.2 g s l
    match (c1.scopeRows g s).foldl one (m, c1) with
    | (m1, c2) =>
      let c3 := (if n = 0 then c2 else c2.tev .rbd 1 g none none n).lockDrop g s
      let c4 := (c3.progSet g (fun p => { p with cupCur := if s + 1 < c3.grpStot g then s + 1 else 0 })).wr (Reg.RBD_CUP_STAT g)
        (BitVec.ofNat 32 (if s + 1 < c3.grpStot g then s + 1 else 0))
      (m1, if s + 1 < c4.grpStot g then c4.setFlag (F.RBD_CUP_PASS_behind g) (c4.cupBehind g) else c4.cupEnd g)

/-- CUPPING_BREW_START (R260). -/
def execCuppingBrewStart (group : Fin 16) (looks : List RowLook) (s : State) : Host.Outcome State Fault Refusal :=
  onAll (fun m c => cuppingBrew m c group looks) s

end Sys2Proof.Machine
end

