-- ==== Sys2Proof/Machine/Regrind.lean ====
section
/-! DEFINITION. Regrind (10_rebuild_cupping_regrind.md, R263 to R268). -/

namespace Sys2Proof.Machine

/-! ### START (R263) -/

/-- The stage group's configuration as RBD_RG_CFG and RBD_RG_MEM_w give it. -/
def Ctl.rgStageCfg (c : Ctl) : Ctl :=
  let t := c.rgStage
  let c1 := (((c.set (F.GAL_GRP_CFG_layout t) (c.get F.RBD_RG_CFG_layout)).set (F.GAL_GRP_CFG_d t) (c.get F.RBD_RG_CFG_d)).set
    (F.GAL_GRP_CFG_p t) (c.get F.RBD_RG_CFG_p)).set (F.GAL_GRP_CFG_strip t) (c.get F.RBD_RG_CFG_strip)
  (List.range 4).foldl (fun c w => c.wr (Reg.GAL_GRP_MEM t w) (c.rd (Reg.RBD_RG_MEM w))) c1

/-- The namespaces of a group in source extent order: number, first stripe, stripes. -/
def Ctl.nsExtents (c : Ctl) (g : Nat) : List (Nat × Nat × Nat) :=
  let xs := (c.car.ns.filter (fun p => c.nsGroup p.1 == g)).map (fun p => (p.1, c.get (F.GAL_NS_MAP0_e p.1), c.get (F.GAL_NS_MAP1_c p.1)))
  xs.mergeSort (fun a b => decide (a.2.1 ≤ b.2.1))

/-- Target extents c′ = ceil(c·d·S / (d′·S′)), in source order from the first data stripe. -/
def rgExtents (ds ds1 : Nat) : Nat → List (Nat × Nat × Nat) → Tab (Nat × Nat)
  | _, [] => []
  | at_, (ns, _, n) :: xs =>
    let n1 := (n * ds + ds1 - 1) / max ds1 1
    Tab.put (rgExtents ds ds1 (at_ + n1) xs) ns (at_, n1)

/-- The first condition of R263 that START fails; 0 when it meets every one. -/
def Ctl.rgStartErr (c : Ctl) : Nat :=
  let g := c.rgSrc
  let t := c.rgStage
  let c1 := c.rgStageCfg
  let bays := c1.listBays t
  let pl := c1.grpPlan t
  let sum := ((rgExtents (c.grpDS g) (c1.grpDS t) 0 (c.nsExtents g)).map (fun p => p.2.2)).sum
  if !c.grpReady g || (c.grpBays g).any (fun b => c.memState b != 1) then 1
  else if bays.any (fun b => c.memState b != 0) then 2
  else if !c1.grpShapeOk t || !c1.grpBaysOk t || !c1.grpMapOk t then 3
  else if pl.1 - pl.2 < sum then 4
  else if c.grpEn t then 5
  else if 16 < c.groups.length + 1 then 6
  else 0

/-- START (R263, R264): refused outside IDLE or with a condition not met, whose code err then shows; else the stage group is enabled and
initialised. -/
def rgStart (m : Mem) (c : Ctl) : Mem × Ctl × Bool :=
  if c.get F.RBD_RG_STAT_state != 0 then (m, c, false)
  else if c.rgStartErr ≠ 0 then (m, c.set F.RBD_RG_STAT_err c.rgStartErr, false)
  else
    let c1 := (c.rgStageCfg).grpInit c.rgStage
    let map := rgExtents (c1.grpDS c.rgSrc) (c1.grpDS c.rgStage) 0 (c1.nsExtents c.rgSrc)
    let c2 := { c1 with rbd := { c1.rbd with rgMap := map, rgRecs := [] } }
    (m, (c2.set F.RBD_RG_STAT_state 1).set F.RBD_RG_STAT_err 0, true)

/-- REGRIND_START (R263). -/
def execRegrindStart (s : State) : Host.Outcome State Fault Refusal :=
  onAll (fun m c => match rgStart m c with | (m1, c1, _) => (m1, c1)) s

/-! ### Copying (R264, R265) -/

/-- REGRIND_INIT_DONE (R264): the stage group is READY; the cursor stands above the highest allocated unit. -/
def execRegrindInitDone (s : State) : Host.Outcome State Fault Refusal :=
  onAll (fun m c =>
    if c.get F.RBD_RG_STAT_state != 1 || !c.grpReady c.rgStage then (m, c)
    else
      let us := c.grpUnits c.rgSrc
      let cur := us.foldl (fun a u => max a (u + 1)) 0
      match rgRecord m (c.setRgCur cur) 0 (if cur = 0 then 3 else 2) with
      | (m1, c1) => (m1, c1.set F.RBD_RG_STAT_state (if cur = 0 then 3 else 2))) s

/-- Namespace and LBA of a block of a group, by the extents in force. -/
def Ctl.nsAt (c : Ctl) (g b : Nat) : Option (Nat × Nat) :=
  (c.car.ns.find? (fun p => c.nsGroup p.1 == g && decide (c.nsBlock p.1 0 ≤ b) && decide (b < c.nsBlock p.1 0 + c.nsze p.1))).map
    (fun p => (p.1, b - c.nsBlock p.1 0))

/-- The block of the stage group that a block of the source group goes to. -/
def Ctl.rgTo (c : Ctl) (b : Nat) : Option Nat := (c.nsAt c.rgSrc b).bind (fun x => c.rgFwd x.1 x.2)

/-- A copy brew takes the next allocated unit below the cursor; `bad` names its blocks that read as Unrecovered Read Error. -/
def rgCopy (m : Mem) (c : Ctl) (bad : List (Fin 16)) : Mem × Ctl :=
  let g := c.rgSrc
  let t := c.rgStage
  let below := (c.grpUnits g).filter (fun u => decide (u < c.rgCur))
  let r := c.bgRates.2.2.1
  if c.get F.RBD_RG_STAT_state != 2 || !c.bgOk || r == 0 || decide (c.rbd.bktRg ≤ 0) || c.markBlocked then (m, c)
  else
    match below.foldl (fun a u => match a with | none => some u | some v => some (max u v)) none with
    | none =>
      match rgRecord m (c.setRgCur 0) c.rgCur 3 with
      | (m1, c1) => (m1, c1.set F.RBD_RG_STAT_state 3)
    | some u =>
      let ss := ((List.range 16).map (fun j => c.stripeOf g (16 * u + j))).eraseDups
      match ss.find? (fun s => !c.lockFree g s .regrind) with
      | some s => (m, c.lockWait g s .regrind)
      | none =>
        let last := below.all (fun v => v == u)
        let cur := if last then 0 else u
        let e := (c.unit? g u).getD ⟨none, 16⟩
        let c1 := { (c.setRgCur cur).tev .rbd 2 g none none e.bytes with rbd := { c.rbd with bktRg := c.rbd.bktRg - e.bytes } }
        let c2 := match c1.rgTo (16 * u) with
          | some b => { c1 with car := { c1.car with
              units := Tab.put c1.car.units (grpKey t (b / 16)) e
              forms := if e.comp.isSome then Tab.put c1.car.forms (grpKey t (b / 16)) e else c1.car.forms } }
          | none => c1
        match rgRecord m c2 (c.rgCur - cur) (if last then 3 else 2) with
        | (m1, c3) =>
          let r := bad.foldl (fun (a : Mem × Ctl) j => match a.2.rgTo (16 * u + j.val) with
            | some b => sealRow a.1 a.2 t (a.2.stripeOf t b) (a.2.rowOf t b) 7 [a.2.dataPos t (a.2.stripeOf t b) (a.2.stripOf t b)]
            | none => a) (m1, c3)
          let c4 := ss.foldl (fun c s => (c.lockTake g s .regrind).lockDrop g s) r.2
          let c5 := match c4.rgTo (16 * u) with
            | some b => c4.emit (.stripeWrite t (c4.stripeOf t b) [c4.dataPos t (c4.stripeOf t b) (c4.stripOf t b)])
            | none => c4
          (r.1, if last then c5.set F.RBD_RG_STAT_state 3 else c5)

/-- REGRIND_COPY_BREW_START (R265). -/
def execRegrindCopyBrewStart (bad : List (Fin 16)) (s : State) : Host.Outcome State Fault Refusal :=
  onAll (fun m c => rgCopy m c bad) s

/-! ### COMMIT (R267) -/

/-- The words of two registers change places. -/
def Ctl.swapReg (c : Ctl) (a b : Nat) : Ctl := (c.wr a (c.rd b)).wr b (c.rd a)

/-- Group `g` stands for `t` and `t` for `g`. -/
def swapGrp (g t x : Nat) : Nat := if x = g then t else if x = t then g else x

/-- A table keyed by group · k + number with two groups exchanged. -/
def swapKeys {α : Type} (g t k : Nat) (tab : Tab α) : Tab α :=
  tab.foldl (fun a p => Tab.put a (swapGrp g t (p.1 / k) * k + p.1 % k) p.2) []

/-- A checkpoint with two groups exchanged in its lost-stripe entries. -/
def Ckpt.swap (k : Ckpt) (g t : Nat) : Ckpt := { k with lost := k.lost.map (fun e => { e with group := swapGrp g t e.group }) }

/-- The two groups' configuration registers change places. -/
def Ctl.swapGroups (c : Ctl) (g t : Nat) : Ctl :=
  let c1 := [Reg.GAL_GRP_CFG, Reg.GAL_GRP_STRIPES, Reg.GAL_GRP_JRN, Reg.GAL_GRP_UMOFF, Reg.RBD_GRP_STAT, Reg.RBD_SPARE, Reg.RBD_SPARE_STAT,
    Reg.RBD_CUP_STAT, Reg.RBD_CUP_PASS].foldl (fun c r => c.swapReg (r g) (r t)) c
  let c2 := (List.range 4).foldl (fun c w => c.swapReg (Reg.GAL_GRP_MEM g w) (Reg.GAL_GRP_MEM t w)) c1
  let c3 := [g, t].foldl (fun c x => (c2.grpBays x).foldl (fun c b => c.set (F.RBD_MEM_STAT_group b) x) c) c2
  { c3 with
    car := { c3.car with
      units := swapKeys g t (2 ^ 40) c3.car.units, umap := swapKeys g t 1 c3.car.umap
      maps := swapKeys g t 1 c3.car.maps, forms := swapKeys g t (2 ^ 40) c3.car.forms
      ckA := Tab.mapV (swapKeys g t 1 c3.car.ckA) (fun _ k => k.swap g t), ckB := Tab.mapV (swapKeys g t 1 c3.car.ckB) (fun _ k => k.swap g t), ckAt := swapKeys g t 1 c3.car.ckAt
      locks := swapKeys g t (2 ^ 40) c3.car.locks }
    rbd := { c3.rbd with
      cmin := swapKeys g t 1 c3.rbd.cmin, prog := swapKeys g t 1 c3.rbd.prog, progRec := swapKeys g t 1 c3.rbd.progRec
      lost := Tab.mapV c3.rbd.lost (fun _ e => { e with group := swapGrp g t e.group }) } }

/-- Blocks of the source group that a settled record still owes the stage group: a stage slot lists it, and no newer settled record
supplies them (R265). -/
def Ctl.rgOwed (c : Ctl) (r : JRec) : List Nat :=
  if r.group = c.rgSrc && r.settled && !r.void && c.rbd.rgRecs.contains r.seq then
    (c.recBlocks r ++ r.allocs.flatMap (fun u => (List.range 16).map (fun j => 16 * u + j))).eraseDups.filter (fun b =>
      !c.newerSettled r.group r.seq b && (match c.rgTo b with
        | some x => (match c.slotOf c.rgStage (c.stripeOf c.rgStage x) with | some (_, y) => y.recs.contains r.seq | none => false)
        | none => false))
  else []

/-- Records, index and slots of the source group follow its blocks to the target: of a settled record only what a stage slot is still to
write is left, the rest is held by the target already; the source gather slots are discarded. -/
def Ctl.rgMoveRecs (c : Ctl) : Ctl :=
  let g := c.rgSrc
  let t := c.rgStage
  let mv (b : Nat) : Nat := (c.rgTo b).getD b
  let unit (u : Nat) : Nat := mv (16 * u) / 16
  let idx0 := c.car.idx.foldl (fun (a : Tab IdxE) p => if p.1 / 2 ^ 40 = g then
    (match c.recBy p.2.seq with
     | some r => if r.settled then a else Tab.put a (grpKey g (mv (p.1 % 2 ^ 40))) p.2
     | none => a) else Tab.put a p.1 p.2) []
  let move (r : JRec) : JRec := if r.group = g then { r with left := (c.rgOwed r).map mv, allocs := r.allocs.map unit } else r
  let idx1 := c.known.foldl (fun (a : Tab IdxE) r => (c.rgOwed r).foldl (fun a b =>
    match Tab.at? a (grpKey g (mv b)) with
    | some e => if r.seq < e.seq then a else Tab.put a (grpKey g (mv b)) (c.entryOf r b)
    | none => Tab.put a (grpKey g (mv b)) (c.entryOf r b)) a) idx0
  { c with car := { c.car with
      recs := c.car.recs.map move, owed := c.car.owed.map move
      idx := idx1
      pendU := c.car.pendU.foldl (fun a p => if p.1 / 2 ^ 40 = g then Tab.put a (grpKey g (unit (p.1 % 2 ^ 40))) p.2 else Tab.put a p.1 p.2) []
      ranges := c.car.ranges.map (fun x => if x.group = g then { x with b := mv x.b } else x)
      slots := (c.car.slots.filter (fun p => p.2.group != g)).map (fun p => if p.2.group = t then (p.1, { p.2 with group := g }) else p)
      works := Tab.mapV c.car.works (fun _ w =>
        if w.group = g then { w with group := t, slot := none } else if w.group = t then { w with group := g, stage := false } else w) } }

/-- The namespaces of the source group stand on their target extents. -/
def Ctl.rgMoveNs (c : Ctl) : Ctl :=
  c.rbd.rgMap.foldl (fun c p => (c.set (F.GAL_NS_MAP0_e p.1) p.2.1).set (F.GAL_NS_MAP1_c p.1) p.2.2) c

/-- Bytes that the units of a namespace take (R206). -/
def Ctl.unitsUse (c : Ctl) (ns : Nat) : Nat :=
  let g := c.nsGroup ns
  let u0 := c.nsBlock ns 0 / 16
  ((c.car.units.filter (fun p => p.1 / 2 ^ 40 == g && decide (u0 ≤ p.1 % 2 ^ 40) && decide (p.1 % 2 ^ 40 < u0 + c.nsze ns / 16))).map
    (fun p => p.2.bytes)).sum

/-- The usage of a namespace follows the units of its new extent. -/
def Ctl.useMoved (c : Ctl) (ns : Nat) : Ctl :=
  let u := (Tab.getD c.car.ns ns ⟨0, 0, 0⟩).usage
  if c.unitsUse ns = u then c else c.useAdd (c.nsTenant ns) ns ((c.unitsUse ns : Int) - (u : Int))

/-- Brews that run keep the mapping they started with: the old layout, in the stage slot (R130, R267). -/
def Ctl.rgKeepMaps (c : Ctl) : Ctl :=
  { c with crm := { c.crm with recs := Tab.mapV c.crm.recs (fun _ r =>
      if Tab.has c.rbd.rgMap r.nsid && r.old.isNone then { r with old := some (c.rgStage, c.nsBlock r.nsid 0) } else r) } }

/-- COMMIT (R264, R267): refused with err 9 outside COPIED; else records, maps and groups change over, and the state is RETIRING. -/
def rgCommit (m : Mem) (c : Ctl) : Mem × Ctl × Bool :=
  if c.get F.RBD_RG_STAT_state != 3 then (m, c.set F.RBD_RG_STAT_err 9, false)
  else
    match rgRecord m c 0 4 with
    | (m1, c1) =>
      let moved := c1.rbd.rgMap.map (·.1)
      let c2 := (c1.rgKeepMaps.rgMoveRecs.rgMoveNs).swapGroups c1.rgSrc c1.rgStage
      let c3 := moved.foldl Ctl.useMoved { c2 with rbd := { c2.rbd with rgRecs := [], rgMap := [] } }
      (m1, moved.foldl Ctl.nsChanged (c3.set F.RBD_RG_STAT_state 5), true)

/-- REGRIND_COMMIT (R267). -/
def execRegrindCommit (s : State) : Host.Outcome State Fault Refusal :=
  onAll (fun m c => match rgCommit m c with | (m1, c1, _) => (m1, c1)) s

/-- ABORT (R268): in INIT, COPY and COPIED; refused otherwise. -/
def rgAbortCmd (m : Mem) (c : Ctl) : Mem × Ctl × Bool :=
  let st := c.get F.RBD_RG_STAT_state
  if st = 1 ∨ st = 2 ∨ st = 3 then (match rgAbort m c 8 with | (m1, c1) => (m1, c1, true)) else (m, c, false)

/-- REGRIND_ABORT (R268): with a member of either group not ONLINE the code is 7. -/
def execRegrindAbort (s : State) : Host.Outcome State Fault Refusal :=
  onAll (fun m c =>
    if c.rgUses c.rgSrc && (c.grpBays c.rgSrc ++ c.grpBays c.rgStage).any (fun b => c.memState b != 1) then rgAbort m c 7
    else match rgAbortCmd m c with | (m1, c1, _) => (m1, c1)) s

/-- The lost rows of a group that is going away leave the table with it (R253). -/
def lostDrop (m : Mem) (c : Ctl) (g : Nat) : Mem × Ctl :=
  (c.rbd.lost.filter (fun p => p.2.group == g)).foldl (fun (a : Mem × Ctl) p => lostPut a.1 a.2 p.1 { p.2 with rows := 0 }) (m, c)

/-- REGRIND_RETIRE_DONE (R264): every brew that mapped through the old layout has ended; the old group is disabled. -/
def execRegrindRetireDone (s : State) : Host.Outcome State Fault Refusal :=
  onAll (fun m c =>
    if c.get F.RBD_RG_STAT_state != 5 || c.car.works.any (fun p => p.2.group == c.rgStage)
        || c.crm.recs.any (fun p => p.2.old.isSome) then (m, c)
    else
      let r := lostDrop m c c.rgStage
      match rgRecord r.1 r.2 0 0 with
      | (m1, c1) => (m1, ((c1.grpDisable c1.rgStage).set F.RBD_RG_STAT_state 0).reassess)) s

end Sys2Proof.Machine
end

