-- ==== Sys2Proof/Machine/Replay.lean ====
section
/-! DEFINITION. Replay of the Carafe ring (09_layouts_and_write_path.md, R231, R232; 10_rebuild_cupping_regrind.md, R251, R268): what a
device that takes the lease rebuilds from its own ring and the members. -/

namespace Sys2Proof.Machine

/-! ### What replay starts from -/

/-- A lost-stripe entry as its 64 bytes carry it (Table 10.4). -/
def lostOfBytes (bs : List Byte) : LostE :=
  { seq := pktField bs 0 8, strp := pktField bs 8 8, rows := pktField bs 16 8, posMask := pktField bs 24 4, group := pktField bs 28 1 % 16
    cause := pktField bs 29 1, ns := pktField bs 30 2 % 2 ^ 14, journal := Nat.testBit (pktField bs 30 2) 15, dntS := pktField bs 32 6
    dt := pktField bs 40 8 }

/-- A lost-stripe entry takes effect in the table of 65,536 (R253): its stripe's entry is set, or is gone with no row left. -/
def lostSet (acc : Mem × Ctl) (e : LostE) : Mem × Ctl :=
  let c := acc.2
  let k := match c.lostOf e.group e.strp with | some (k, _) => some k | none => Tab.freeKey c.rbd.lost 0 65536
  match k with
  | none => acc
  | some k =>
    let t := if e.rows = 0 then Tab.del c.rbd.lost k else Tab.put c.rbd.lost k e
    (acc.1.put .carafe (lostAddr k) (if e.rows = 0 then List.replicate 64 0 else e.bytes),
     ({ c with rbd := { c.rbd with lost := t } }).set F.RBD_LST_STAT_entries t.length)

/-- A record of type 0x09 takes effect (R253). -/
def applyLost (acc : Mem × Ctl) (r : JRec) : Mem × Ctl := lostSet acc { lostOfBytes r.data with seq := r.seq }

/-- The entries of a group make room for those of a newer checkpoint. -/
def lostFrom (acc : Mem × Ctl) (g : Nat) (es : List (List Byte)) : Mem × Ctl :=
  let old := acc.2.rbd.lost.filter (fun p => p.2.group == g)
  (es.map lostOfBytes).foldl lostSet (old.foldl (fun a p => lostSet a { p.2 with rows := 0 }) acc)

/-- The members hold a newer checkpoint than the device knows of: it takes its place, its unit map and stored forms those of the group, and
its lost-stripe entries those of the table. -/
def ckLook (acc : Mem × Ctl) (l : CkLook) : Mem × Ctl :=
  let c := acc.2
  let newer := match c.ckptOf l.group with | some k => decide (k.seq < l.seq) | none => true
  let forms := l.units.foldl (fun (t : Tab UnitE) (u : Nat × Option Nat × Nat) =>
      if u.2.1.isSome then Tab.put t (grpKey l.group u.1) ⟨u.2.1, u.2.2⟩ else t)
    (c.car.forms.filter (fun p => p.1 / 2 ^ 40 != l.group))
  if newer then
    let c1 := { c with car := { c.car with maps := Tab.put c.car.maps l.group (l.units.map (fun (u : Nat × Option Nat × Nat) => u.1)), forms := forms } }
    lostFrom (acc.1, c1.ckptPut l.group ⟨l.seq, c.dt, true, l.usage, l.lost.map lostOfBytes⟩) l.group l.lost
  else acc

/-- What the members hold of a group the peer has served takes its place: state, metadata mode, Stot, J and unit map as INIT set them, the
position in spare space, rebuilds and Cupping (R196, R201, R202, R205, R250, R251). -/
def Ctl.grpLook (c : Ctl) (l : GroupLook) : Ctl :=
  let g := l.group
  let stot := usable l.tagblk l.cmin / c.grpS g
  let j := journalStripes (c.grpDS g) stot
  let n := umapUnits (c.grpDS g) stot j
  let off := umapPlace ((Tab.del c.car.umap g).map (·.2)) n
  let c1 := (c.set (F.GAL_GRP_CFG_state g) l.state).setFlag (F.GAL_GRP_CFG_tagblk g) l.tagblk
  let c2 := ((c1.wr (Reg.GAL_GRP_STRIPES g) (wd stot)).wr (Reg.GAL_GRP_JRN g) (wd j)).wr (Reg.GAL_GRP_UMOFF g) (wd (4194304 * off))
  let c3 := c2.set (F.RBD_SPARE_STAT_pos g) (l.spare.getD 0x1F)
  let t0 := c3.rbd.targets.filter (fun p => p.1 / 32 != g)
  let ts := l.targets.foldl (fun (t : Tab Target) (x : Nat × Nat × Nat × Bool) => Tab.put t (posKey g x.1) ⟨x.2.1, x.2.2.1, x.2.2.2⟩) t0
  let p := { c3.progOf g with cupCur := l.cupCur, cupStart := l.cupStart }
  { c3 with
    car := { c3.car with umap := Tab.put c3.car.umap g (off, n) }
    rbd := { c3.rbd with cmin := Tab.put c3.rbd.cmin g l.cmin, targets := ts, prog := Tab.put c3.rbd.prog g p } }

/-- Sum of a tenant's namespaces' usage. -/
def nsTotal (ns : Tab NsInfo) (t : Nat) : Nat := ((ns.filter (fun p => p.2.tenant == t)).map (fun p => p.2.usage)).sum

/-- The usage registers of every tenant that holds a namespace follow the namespaces. -/
def Ctl.useNote (c : Ctl) : Ctl :=
  ((c.car.ns.map (fun p => p.2.tenant)).eraseDups).foldl (fun c t =>
    let u := nsTotal c.car.ns t
    ((c.wr (Reg.CAR_TEN_USE_LO t) (wd u)).wr (Reg.CAR_TEN_USE_HI t) (wd (u / 2 ^ 32))).overQuota t) c

/-- The unit maps of the enabled groups as their journal areas hold them, with the stored forms that the members hold (R205, R272). -/
def Ctl.mapsLoad (c : Ctl) : Tab UnitE :=
  c.groups.foldl (fun (t : Tab UnitE) g => (Tab.getD c.car.maps g []).foldl (fun t u =>
    Tab.put t (grpKey g u) (Tab.getD c.car.forms (grpKey g u) ⟨none, 16⟩)) t) []

/-- Index, ranges and slots are empty; unit maps and usage are those of the newest checkpoints; no record is settled. -/
def Ctl.replayBase (c : Ctl) : Ctl :=
  let use (ns u : Nat) : Nat := match c.ckptOf (c.nsGroup ns) with
    | some k => if c.grpEn (c.nsGroup ns) then Tab.getD k.usage ns 0 else u
    | none => u
  ({ c with car := { c.car with
    idx := [], ranges := [], slots := [], pendU := [], pendUse := [], owed := [], units := c.mapsLoad
    ns := Tab.mapV c.car.ns (fun n (i : NsInfo) => { i with usage := use n i.usage })
    recs := c.car.recs.map (fun (r : JRec) => { r with settled := !(r.typ == Rt.data || r.typ == Rt.zero), owner := none, left := [] }) } }).useNote

/-- Units that no compressed form was given yet have the one that their descriptors on the members show (R272, R273). -/
def Ctl.formsLoad (c : Ctl) : Ctl :=
  { c with car := { c.car with units := Tab.mapV c.car.units (fun k u => Tab.getD c.car.forms k u) } }

/-- Whether a record is valid: its crc holds. -/
def JRec.valid (r : JRec) : Bool := !r.torn && !r.bad

/-! ### Records (R231) -/

/-- Whether the newest checkpoint of a record's group leaves its udelta and map bits out. -/
def Ctl.beyondCk (c : Ctl) (r : JRec) : Bool := match c.ckptOf r.group with | some k => decide (k.seq ≤ r.seq) | none => true

/-- One record of the ring is applied, in sequence order. -/
def replayRec (acc : Mem × Ctl) (seq : Nat) : Mem × Ctl :=
  match acc.2.recBy seq with
  | none => acc
  | some r =>
    if !r.valid then acc
    else if (r.typ == Rt.data || r.typ == Rt.zero) && !r.void then
      settle acc.1 (Ctl.indexRec 0 acc.2 r) seq (acc.2.beyondCk r)
    else if r.typ = Rt.done then
      let c1 := acc.2.applyDone r.names
      (acc.1, if acc.2.beyondCk r && r.udelta != 0 then c1.useAdd r.tenant r.nsid r.udelta else c1)
    else if r.typ = Rt.lost then applyLost acc r
    else acc

/-- Slots list the records that still supply a block of their stripe; an empty slot is free (R221, R226). Records of a namespace whose
data slot is ZEROISED supply nothing (R296). -/
def Ctl.slotsPrune (c : Ctl) : Ctl :=
  let c1 := c.mapRecs (fun r => if c.nsDead r.nsid then { r with left := [] } else r)
  let keep (x : GSlot) (q : Nat) : Bool := match c1.recBy q with
    | some r => c1.rbd.rgRecs.contains q || (if r.settled then r.left.any (fun b => c1.stripeOf x.group b == x.strp) else !r.void)
    | none => false
  { c1 with car := { c1.car with slots :=
    (Tab.mapV c1.car.slots (fun _ x => { x with recs := x.recs.filter (keep x) })).filter (fun p => !p.2.recs.isEmpty) } }

/-! ### Regrind and progress (R251, R268) -/

/-- The newest 0x0A record of the ring restores a Regrind: COPY at its cursor, COPIED, or RETIRING after a COMMIT; one whose stage group
was still in INIT stands there. -/
def Ctl.rgRestore (c : Ctl) : Ctl :=
  match (c.car.recs.filter (fun r => r.typ == Rt.reshape && r.valid)).getLast? with
  | none => c
  | some r =>
    let st := pktField r.data 5 1
    if st = 0 ∨ st = 6 then c
    else
      let c1 := ((c.wr Reg.RBD_RG_CFG (wd (pktField r.data 0 4))).set F.RBD_RG_STAT_state (if st = 4 then 5 else st)).setRgCur r.loc
      if st = 4 ∨ st = 5 then c1
      else { c1 with rbd := { c1.rbd with
        rgMap := rgExtents (c1.grpDS c1.rgSrc) (c1.grpDS c1.rgStage) 0 (c1.nsExtents c1.rgSrc), rgRecs := [] } }

/-- Registers of rebuild and Cupping follow the progress that the members hold; after a start with CAR_WT_MARK.mark set every group owes
a Cupping pass (R234, R262); groups still in INIT go on with it. -/
def Ctl.progRestore (c : Ctl) : Ctl :=
  let c1 := c.groups.foldl (fun c g =>
    let p := c.progOf g
    let c1 := if p.cupStart.isSome then (c.setFlag (F.RBD_GRP_STAT_cup_active g) true).wr (Reg.RBD_CUP_STAT g) (wd p.cupCur) else c
    match c1.rbd.targets.filter (fun x => x.1 / 32 == g) with
    | [] => c1
    | x :: xs =>
      let stot := c1.grpStot g
      ((c1.setFlag (F.RBD_GRP_STAT_rb_active g) true).wr (Reg.RBD_RB_CUR g) (wd ((x.2.start + x.2.covered) % max stot 1))).wr
        (Reg.RBD_RB_LEFT g) (wd ((x :: xs).foldl (fun a y => max a (stot - y.2.covered)) 0))) c
  { c1 with rbd := { c1.rbd with
    markDue := if c1.flag F.CAR_WT_MARK_mark then c1.groups else []
    inits := c1.groups.filter (fun g => c1.get (F.GAL_GRP_CFG_state g) == 1) } }

/-! ### The whole replay -/

/-- State rebuilt from the ring (R231, first part): `groups` and `looks` are what the members hold that is newer than what the device
knows. -/
def replayBuild (m : Mem) (c : Ctl) (groups : List GroupLook) (looks : List CkLook) : Mem × Ctl :=
  let a := looks.foldl ckLook (m, groups.foldl Ctl.grpLook c)
  let c1 := a.2.rgRestore.replayBase
  let r := (c1.car.recs.map (·.seq)).foldl replayRec (a.1, c1)
  let torn := (c1.car.recs.filter (fun r => !r.valid)).length
  (r.1, (((r.2.slotsPrune).formsLoad.progRestore).set F.CAR_REPLAY_STAT_torn (min 255 torn)).noteRing)

/-- Blocks of a DATA record that it alone supplies and that its uncorrectable lines take away (R232). -/
def Ctl.lostBlocks (c : Ctl) (r : JRec) : List Nat :=
  let b := c.nsBlock r.nsid r.loc
  if r.typ = Rt.data then
    ((List.range r.count).filter (fun k => !(r.badLines k).isEmpty && !c.newerSettled r.group r.seq (b + k)
      && (if r.settled then r.left.contains (b + k) else r.owner.isNone))).map (b + ·)
  else []

/-- Lost blocks of one record are sealed row by row, so that a read finds them unreadable and never their stale content (R232, R252, R254). -/
def sealLost (acc : Mem × Ctl) (r : JRec) : Mem × Ctl :=
  let bs := acc.2.lostBlocks r
  let c0 := acc.2
  let c1 := { c0.mapRecs (fun x => if x.seq = r.seq then { x with left := x.left.filter (fun b => !bs.contains b) } else x) with
    car := { (c0.mapRecs (fun x => if x.seq = r.seq then { x with left := x.left.filter (fun b => !bs.contains b) } else x)).car with
      idx := bs.foldl (fun t b => match Tab.at? t (grpKey r.group b) with
        | some e => if e.seq = r.seq then Tab.del t (grpKey r.group b) else t
        | none => t) c0.car.idx } }
  let at_ (b : Nat) : Nat × Nat := (c0.stripeOf r.group b, c0.rowOf r.group b)
  ((bs.map at_).eraseDups).foldl (fun a x => sealRow a.1 a.2 r.group x.1 x.2 5
    ((bs.filter (fun b => at_ b == x)).map (fun b => c0.dataPos r.group x.1 (c0.stripOf r.group b)))) (acc.1, c1)

/-- The stripe of an unreadable INTENT without a DONE, or of a RECON record before one, is lost in every row that has a block in an allocated
unit (R232). -/
def loseStripe (acc : Mem × Ctl) (r : JRec) : Mem × Ctl :=
  if (r.typ = Rt.intent ∧ !acc.2.intentDone r.seq) ∨ (r.typ = Rt.recon ∧ !acc.2.retired { r with torn := false }) then
    ((List.range (acc.2.grpS r.group)).filter (fun k => !(acc.2.rowBlocks r.group r.loc k).isEmpty)).foldl
      (fun a k => lostRow a.1 a.2 r.group r.loc k 5 0) acc
  else acc

/-- What the records with uncorrectable lines held is lost (R232): blocks of DATA records are sealed, the stripes of INTENT and RECON records
entered. -/
def carafeLose (m : Mem) (c : Ctl) (seqs : List Nat) : Mem × Ctl :=
  (c.known.filter (fun r => seqs.contains r.seq && r.bad && !r.torn && !r.void)).foldl (fun a r => loseStripe (sealLost a r) r) (m, c)

/-- A bad record allocates the units it names, so that its lost blocks do not read as zeros (R220, R232). -/
def Ctl.badUnits (c : Ctl) (r : JRec) : Ctl :=
  if r.typ = Rt.data && c.beyondCk r then
    { c with car := { c.car with units := r.allocs.foldl (fun t u => if Tab.has t (grpKey r.group u) then t else Tab.put t (grpKey r.group u) ⟨none, 16⟩) c.car.units } }
  else c

/-- Records with an uncorrectable line in the ring that is replayed: what they held is lost, and they stand for nothing more (R232). -/
def replayBad (m : Mem) (c : Ctl) : Mem × Ctl :=
  let bad := c.car.recs.filter (fun r => r.bad && !r.torn && !r.void)
  match carafeLose m (bad.foldl Ctl.badUnits c) (bad.map (·.seq)) with
  | (m1, c1) => (m1, c1.mapRecs (fun x => if x.bad then { x with void := true } else x))

/-- One intent without a DONE is redone (R227, R231): its rows are rewritten; a row with an unreadable block that the intent does not
carry in a RECON record is lost; a DONE names it. -/
def redoIntent (bad : List BadLook) (acc : Mem × Ctl) (i : JRec) : Mem × Ctl :=
  let g := i.group
  let s := i.loc
  let rows := (i.entries.map (·.row)).eraseDups
  let gone := rows.filter (fun k => bad.any (fun x => x.group == g && x.strp == s && x.row == k
    && !i.entries.any (fun e => e.row == k && e.strip == x.strip && e.recon)))
  let r := gone.foldl (fun (a : Mem × Ctl) k => lostRow a.1 a.2 g s k 4 0) (acc.1, acc.2.redoWrite i)
  let c2 := if gone.isEmpty then r.2 else r.2.bump F.CAR_REPLAY_STAT_lost 1
  match recWrite r.1 c2 { JRec.blank Rt.done with nsid := i.nsid, group := g, loc := s, count := 1, names := [i.seq], tenant := i.tenant, lines := 1 } with
  | (m1, _, c3) => (m1, (c3.applyIntent i).bump F.CAR_REPLAY_STAT_redo 1)

/-- Every valid intent without a DONE is redone, in sequence order. -/
def replayRedo (m : Mem) (c : Ctl) (bad : List BadLook) : Mem × Ctl :=
  let is_ := c.car.recs.filter (fun r => r.typ == Rt.intent && r.valid && r.landed && !c.intentDone r.seq)
  let r := is_.foldl (redoIntent bad) (m, (c.set F.CAR_REPLAY_STAT_redo 0).set F.CAR_REPLAY_STAT_lost 0)
  (r.1, r.2.slotsPrune.noteRing)

/-- Every unit-map stripe of each group is rewritten in full, and a checkpoint of each ends replay (R231). -/
def replayEnd (m : Mem) (c : Ctl) : Mem × Ctl :=
  c.groups.foldl (fun (a : Mem × Ctl) g =>
    let first := a.2.jrnStripe g jrnMap
    checkpoint a.1 (a.2.emit (.mapWrite g first (a.2.grpJ g - first))) g) (m, c)

/-- Checkpoint slots whose CRC-32C does not hold are not used: pairs of a group and whether it is slot B (R229, R231). -/
def Ctl.ckSpoil (c : Ctl) (bad : List (Nat × Bool)) : Ctl :=
  let hit (b : Bool) (t : Tab Ckpt) : Tab Ckpt := Tab.mapV t (fun g k => if bad.contains (g, b) then { k with crcOk := false } else k)
  { c with car := { c.car with ckA := hit false c.car.ckA, ckB := hit true c.car.ckB } }

/-- JOURNAL_REPLAY (R231, step 13 of Table 3.3): once the members of a start are ready, the lease holder restores its data keys (R297),
ends an installation of a SKEK that a PENDING bank shows (R290), and replays its ring. `ckBad` names the checkpoint slots whose CRC-32C does
not hold. -/
def execJournalReplay (groups : List GroupLook) (looks : List CkLook) (bad : List BadLook) (ckBad : List (Nat × Bool)) (s : State) : Host.Outcome State Fault Refusal :=
  onAll (fun m c =>
    if !c.lease || c.mode != .standby || !c.flag F.GLB_START_STAT_members_ready || c.flag F.GLB_START_STAT_replay_done then (m, c)
    else
      match replayBuild m (c.keysRestore.skekDone.ckSpoil ckBad) groups looks with
      | (m1, c1) =>
        match replayBad m1 c1 with
        | (m2, c2) =>
          match replayRedo m2 c2 bad with
          | (m3, c3) =>
            match replayEnd m3 c3 with
            | (m4, c4) => (m4, (c4.setFlag F.GLB_START_STAT_replay_done true).reassess)) s

/-! ### Loss of the local Carafe (R232) -/

/-- Lines of a landed record, counted from its header, that lie on a die: A holds the even 4 KiB pages of Carafe, B the odd (R209). -/
def JRec.linesOn (r : JRec) (dieB : Bool) : List Nat :=
  (List.range r.size).filter (fun k => ((ringBase + 64 * ((r.line + k) % ringLines)) / 4096) % 2 == (if dieB then 1 else 0))

/-- A record with more lines uncorrectable: those of a failed die, and those named by sequence number and line. -/
def JRec.spoil (r : JRec) (die : Option Bool) (lines : List (Nat × Nat)) : JRec :=
  let more := (match die with | some b => r.linesOn b | none => []) ++ (lines.filter (fun x => x.1 == r.seq && decide (x.2 < r.size))).map (·.2)
  if r.landed then { r with badAt := (r.badAt ++ more).eraseDups } else r

/-- CARAFE_FAULT (R232, fault 0x0A): a die fails, A or B, or lines of unretired records are uncorrectable. With a synced peer the lease is
released; without one the device enters write-through mode and the stripes of the unreadable records are lost. -/
def execCarafeFault (die : Option Bool) (lines : List (Nat × Nat)) (s : State) : Host.Outcome State Fault Refusal :=
  onAll (fun m c =>
    let hit := (lines.filter (fun x => c.car.recs.any (fun r => r.seq == x.1 && r.landed && decide (x.2 < r.size)))).length
    if c.halted || (die.isNone && hit == 0) then (m, c)
    else
      let seqs := (c.car.recs.filter (fun r => r.spoil die lines != r)).map (·.seq)
      let c1 := (c.mapRecs (fun r => r.spoil die lines)).bump F.CAR_ERR_STAT_ue hit
      if c1.flag F.GLB_MODE_STAT_peer_synced then releaseFault m c1 0x0A (if die.isSome then 1 else 0)
      else
        let c2 := ({ c1 with car := { c1.car with failed := true } }).faultRecord 0x0A 1 (if die.isSome then 1 else 0)
        match carafeLose m c2 seqs with
        | (m1, c3) => (m1, c3.wtUpdate)) s

end Sys2Proof.Machine
end

