-- ==== Sys2Proof/Machine/PairCore.lean ====
section
/-! DEFINITION. What both devices of a pair do when they meet and when they lose each other: hellos, windows, WRITEs in flight, loss of the
peer, and the join of a standby (13_pairing_and_failover.md, R328 to R334, R350, R351; R56 to R60 of 03_modes_and_startup.md). -/

namespace Sys2Proof.Machine

/-! ### Hellos and windows (R328, R331, R334) -/

/-- Whether the pair is mis-strapped and its link is up (R58). -/
def Ctl.conflictUp (c : Ctl) : Bool := c.flag F.GLB_MODE_STAT_slot_conflict && c.flag F.PEER_STAT_link_up

/-- A HELLO: mode, SLOT_ID, stored lease epoch and the version of the running image. -/
def Ctl.helloMsg (c : Ctl) (answer : Bool) : HelloMsg :=
  ⟨c.get F.GLB_MODE_STAT_mode, if c.power.slotId then 1 else 0, c.epoch,
   (c.rd (Reg.FWU_SLOT_VER_LO (c.get F.FWU_STAT_cur_slot))).toNat + 2 ^ 32 * (c.rd (Reg.FWU_SLOT_VER_HI (c.get F.FWU_STAT_cur_slot))).toNat, answer⟩

/-- A HELLO leaves for the peer. -/
def Ctl.sayHello (c : Ctl) (answer : Bool) : Ctl := c.peerSend (.hello (c.helloMsg answer))

/-- EPOCH_INFO: the window epoch and each window's size. -/
def Ctl.sayEpoch (c : Ctl) : Ctl :=
  c.peerSend (.epochInfo (c.get F.PEER_WIN_EPOCH_rx)
    ((List.range 16).map (fun n => if c.flag (F.PEER_WIN_OPR_en n) then c.get (F.PEER_WIN_OSZ_size n) else 0)))

/-- The window epoch moves on, skipping 0. -/
def Ctl.winEpoch (c : Ctl) : Ctl :=
  let e := (c.get F.PEER_WIN_EPOCH_rx + 1) % 65536
  c.set F.PEER_WIN_EPOCH_rx (if e = 0 then 1 else e)

/-- Window 0 of a joining standby over its ring (R334); the operational set changes outside a commit, so the window epoch stays. -/
def Ctl.winRing (c : Ctl) : Ctl :=
  ((c.set (F.PEER_WIN_OPR_base 0) 96).set (F.PEER_WIN_OSZ_size 0) 65440).setFlag (F.PEER_WIN_OPR_en 0) true

/-! ### WRITEs in flight (R329, R333, R357) -/

/-- The DMA instruction that waits for the peer ends with a status, `left` of its bytes not acknowledged (R138). -/
def Ctl.dmaPeerEnd (c : Ctl) (n st left : Nat) : Ctl :=
  let x := c.chan n
  c.setChan n { x with flight := x.flight.map (fun i =>
    if i.done || !i.remote then i else { i with done := true, status := st, moved := i.moved - left }) }

/-- Bytes of the WRITEs that `w` still waits for. -/
def Ctl.whoLeft (c : Ctl) (w : PeerWho) : Nat := ((c.pair.writes.filter (fun x => x.2.who == w)).map (fun x => x.2.data.length)).sum

/-- What waits for WRITEs ends, `left` bytes of them not acknowledged: a PEER step with its token's status, a DMA instruction with its
own. -/
def Ctl.whoEnd (c : Ctl) (w : PeerWho) (st dma left : Nat) : Ctl :=
  match w with
  | .step tag tok => c.tokenPost tag tok st
  | .dma n => c.dmaPeerEnd n dma left

/-- A WRITE leaves with the next tag, under the peer's window epoch as last learned. -/
def Ctl.writeSend (c : Ctl) (who : PeerWho) (win off : Nat) (data : List Byte) : Ctl :=
  let k := c.pair.wrNum
  ({ c with pair := { c.pair with writes := Tab.put c.pair.writes k ⟨win, off, data, 0, who⟩, wrNum := k + 1 } }).peerSend
    (.write (.own k) win (c.get F.PEER_WIN_EPOCH_tx) off data)

/-- A WRITE is done with; what waits for it ends with OK once none of its WRITEs is left. -/
def Ctl.writeDone (c : Ctl) (k : Nat) : Ctl :=
  match Tab.at? c.pair.writes k with
  | none => c
  | some w =>
    let ws := Tab.del c.pair.writes k
    let c1 := { c with pair := { c.pair with writes := ws } }
    if ws.any (fun x => x.2.who == w.who) then c1 else c1.whoEnd w.who 0 1 0

/-- What waits for WRITE `k` ends, and every WRITE of it is dropped: PEER_REFUSED on a step, PEER_ERR on a DMA channel (R333). -/
def Ctl.writeRefused (c : Ctl) (k : Nat) : Ctl :=
  match Tab.at? c.pair.writes k with
  | none => c
  | some w =>
    ({ c with pair := { c.pair with writes := c.pair.writes.filter (fun x => x.2.who != w.who) } }).whoEnd w.who 0x41 0x0D (c.whoLeft w.who)

/-- With the peer lost, PEER steps end PEER_LOST and DMA instructions PEER_ERR (R350, R357). -/
def Ctl.writesLost (c : Ctl) : Ctl :=
  c.pair.writes.foldl (fun a w => a.whoEnd w.2.who 0x40 0x0D (c.whoLeft w.2.who)) { c with pair := { c.pair with writes := [] } }

/-! ### Loss of the peer (R350, R351) -/

/-- A handover that has not fenced is abandoned: the shared outputs are driven again, fetching resumes, and its operation ends
PEER_NOT_SYNCED (R350). -/
def Ctl.handAbandon (c : Ctl) : Ctl :=
  match c.pair.hand with
  | some .drain =>
    let c1 := match c.pair.handOp with | some h => c.handleEnd h Cs.peerNotSynced [] | none => c
    { c1 with pair := { c1.pair with hand := none, handOp := none }, trust := { c1.trust with leaving := false } }
  | _ => c

/-- R350: the active treats the peer as lost. Tokens that wait for the peer end on local persistence, peer_synced clears, write-through
mode follows PEER_CFG.peer_loss_wt, and the record is written; once, until the next sync. -/
def Ctl.peerLost (c : Ctl) : Ctl :=
  if !c.lease || c.flag F.PEER_STAT_lost || c.halted then c
  else
    let c1 := ((c.setFlag F.GLB_MODE_STAT_peer_synced false).setFlag F.PEER_STAT_lost true).setFlag F.CAR_STAT_mirror false
    let c2 := { c1 with
      car := { c1.car with peerWt := c1.flag F.PEER_CFG_peer_loss_wt }
      pair := { c1.pair with syncing := false, mirNaks := [], resend := [] } }
    let c3 := c2.writesLost.landCheckAll.wtUpdate.keysUnmirrored.handAbandon
    (c3.faultRecord 0x83 4 0).reassess

/-- R351: the standby treats the peer as lost: it stops endorsing, closes its windows and clears peer_synced. -/
def Ctl.standbyLost (c : Ctl) : Ctl :=
  if c.lease || c.halted then c
  else
    let was := c.flag F.GLB_MODE_STAT_peer_synced
    let c1 := ((c.setFlag F.GLB_MODE_STAT_peer_synced false).setFlag F.PEER_STAT_endorsing false).winsClose
    let c2 := { c1 with pair := { c1.pair with syncing := false, retryAt := none, refEnd := none } }
    (if was then c2.faultRecord 0x83 4 0 else c2).reassess

/-- Faults of the link and of the standby that the active masks (Table 13.8, 0x13 and 0x14), then R350. -/
def Ctl.peerFault (c : Ctl) (code : Nat) : Ctl :=
  if !c.lease || c.flag F.PEER_STAT_lost || c.halted then c else (c.faultRecord code 0 0).peerLost

/-! ### Endorsement (R339) -/

/-- Whether this device endorses the active: STANDBY, paired, the active's heartbeats valid and not suspect, and no ACQUIRE since the last
one. -/
def Ctl.endorseOk (c : Ctl) : Bool :=
  c.mode == .standby && !c.lease && c.flag F.PEER_CFG_en && !c.flag F.PEER_STAT_suspect && !c.pair.asked && !c.flag F.GLB_MODE_STAT_slot_conflict
    && (match c.pair.last with | some h => h.lease | none => false)

/-! ### Joining a serving peer (R56, R60, R334) -/

/-- Modes of a peer that serves, or will again (first case of R56). -/
def peerServes (mode : Nat) : Bool := [5, 6, 7, 8, 10].contains mode

/-- A standby that joins discards its ring, its numbers with it (R213), opens window 0 over it, and takes the active's records (R60, R351); its
PERST_DPnn are high (Table 2.8). -/
def Ctl.joinSync (c : Ctl) : Ctl :=
  if c.mode != .standby || c.lease || c.pair.syncing || c.flag F.GLB_MODE_STAT_peer_synced || !c.flag F.PEER_CFG_en
      || c.flag F.GLB_MODE_STAT_slot_conflict || !c.flag F.PEER_STAT_link_up then c
  else
    let c1 := { c with
      car := { c.car with recs := [], owed := [], head := 1, idx := [], ranges := [], slots := [], works := [], units := [], pendU := [], pendUse := [] }
      pair := { c.pair with syncing := true, waits := false } }
    (List.range 24).foldl (fun (c : Ctl) b => c.onCh b (fun x => { x with perst := .high, perstAt := some c.dt })) c1.noteRing.winRing

/-! ### Requesting the lease at step 7 (R56 to R58) -/

/-- What R56 has a device do at step 7: request the lease, wait for the peer to do so, or join a serving peer. -/
inductive StartCase where
  | request | wait | join
  deriving DecidableEq, Repr

/-- The case of R56 by the peer's hello: a peer that serves is joined, or waited for while its link is down; with the link down a peer that
does not serve is absent (R57). -/
def Ctl.startCase (c : Ctl) : StartCase :=
  match c.pair.hello with
  | none => .request
  | some h =>
    if peerServes h.mode then .join
    else if !c.flag F.PEER_STAT_link_up then .request
    else if h.mode = 2 ∨ h.mode = 4 then
      (if h.epoch < c.epoch ∨ (h.epoch = c.epoch ∧ !c.power.slotId) then .request else .wait)
    else .request

/-- ACQUIRE leaves for the witness; the device endorses no longer (R339). -/
def Ctl.acquire (c : Ctl) : Ctl :=
  ({ c with pair := { c.pair with asked := true, retryAt := none, waits := false } }.setFlag F.PEER_STAT_endorsing false).witSend .acquire false

/-- The lease is requested in step 7, unless the pair is mis-strapped. -/
def Ctl.startRequest (c : Ctl) : Ctl :=
  if c.conflictUp then c else (c.setFlag F.GLB_START_STAT_lease_req true).acquire

end Sys2Proof.Machine
end

