-- ==== Sys2Proof/Machine/ModeReq.lean ====
section
/-! DEFINITION. Domain switching (02_package_and_power.md, R31 to R34; 05_host_command_path.md, R113) and mode requests (03_modes_and_startup.md, R49 to R53). -/

namespace Sys2Proof.Machine

/-! ### GLB_PD_CTRL (R34) -/

/-- The bits of domains that GLB_PD_CTRL cannot switch. -/
def pdFixed : Word := (List.range 20).foldl (fun w d => if pdSwitchable d then w else w ||| BitVec.ofNat 32 (2 ^ d)) 0

/-- Modes in which GLB_PD_CTRL is acted on. -/
def Mode.pdOk : Mode → Bool
  | .standby | .active | .degraded | .quiesced | .test => true
  | _ => false

/-- The lowest domain of a mask. -/
def lowestBit (w : Word) : Nat := ((List.range 20).find? (fun d => getBit w d)).getD 0

/-- A value of GLB_PD_CTRL is acted on: a 0 for a domain that is not switchable is ignored with last_err 1, a change in a mode that
does not permit one is refused with last_err 4, and the domains move. Where several domains are concerned, last_dom holds the lowest numbered
(DESIGN CHOICE, notes/assumptions/76.md). -/
def Ctl.pdAct (c : Ctl) (v : Word) : Ctl :=
  let miss := pdFixed &&& ~~~ v
  let c1 := if miss = 0 then c else (c.set F.GLB_PD_STAT_last_err 1).set F.GLB_PD_STAT_last_dom (lowestBit miss)
  let w := (v ||| pdFixed) &&& 0xFFFFF
  let diff := (w ^^^ c.rd Reg.GLB_PD_CTRL) &&& 0xFFFFF
  if diff = 0 then c1
  else if !c.mode.pdOk then (c1.set F.GLB_PD_STAT_last_err 4).set F.GLB_PD_STAT_last_dom (lowestBit diff)
  else (c1.wr Reg.GLB_PD_CTRL w).pdReconcile

/-- A write of GLB_PD_CTRL: held while a domain moves, else acted on; in a mode that permits no change it is refused at once even while a domain
moves (DESIGN CHOICE, notes/assumptions/76.md). -/
def Ctl.pdWrite (c : Ctl) (v : Word) : Ctl :=
  if c.flag F.GLB_PD_STAT_busy ∧ c.mode.pdOk then { c with power := { c.power with pdHeld := some v } } else c.pdAct v

/-- GLB_PD_CTRL_WRITE (R34). -/
def execGlbPdCtrlWrite (value : Word) (s : State) : Host.Outcome State Fault Refusal :=
  onCtl (fun _ c => if c.power.stop.isSome || !c.bar0Open then c else c.pdWrite value) s

/-- With a move ended, the held value is acted on, and the domains move on to what is wanted (R34); an exit from a power state ends with
the last move, and the commands it held start (R113). -/
def Ctl.pdNext (c : Ctl) : Ctl :=
  let c1 := ({ c with power := { c.power with pdQueue := [] } }).setFlag F.GLB_PD_STAT_busy false
  let c2 := match c1.power.pdHeld with
    | some v => ({ c1 with power := { c1.power with pdHeld := none } }).pdAct v
    | none => c1
  let c3 := c2.pdReconcile
  if c3.flag F.GLB_PD_STAT_busy || !c3.power.psExit then c3 else ({ c3 with power := { c3.power with psExit := false } }).startReady

/-- Every buffer of stack B is free. -/
def Ctl.stackBFree (c : Ctl) : Bool := c.swc.bufs.all (fun b => decide (b.1 < stackBAddr) || b.2.state == .free)

/-- DOMAIN_TRANSITION_DONE (R33): the domain in transition is up, or, its engines acknowledged and its stack drained, off. -/
def execDomainTransitionDone (s : State) : Host.Outcome State Fault Refusal :=
  onCtl (fun _ c =>
    if c.power.stop.isSome || c.mode == .off || c.mode == .reset || c.mode == .boot then c
    else match c.power.pdQueue with
      | [] => c
      | (d, true) :: _ => (c.pdUp d).pdNext
      | (d, false) :: _ =>
        if (pdEngines d).any (fun p => c.bst.drain.contains (256 * p.1 + p.2)) || (d == 7 && c.power.drainEnd.isSome) then c
        else (c.pdDown d).pdNext) s

/-- D07_DRAIN_DONE (R33): every stack-B buffer is free. -/
def execD07DrainDone (s : State) : Host.Outcome State Fault Refusal :=
  onCtl (fun _ c => if c.power.drainEnd.isSome && c.stackBFree then { c with power := { c.power with drainEnd := none } } else c) s

/-- D07_DRAIN_TIMEOUT (R34, R113): the drain has not ended in time. A switch-off asked by GLB_PD_CTRL is refused with last_err 3; one that
PS3 asked leaves the device in PS2 with ps3_refused, unless PS3 has been left since. -/
def execD07DrainTimeout (s : State) : Host.Outcome State Fault Refusal :=
  onCtl (fun _ c =>
    match c.power.drainEnd with
    | none => c
    | some t =>
      if c.stackBFree then c
      else
        let c1 := { c.reach t with power := { (c.reach t).power with drainEnd := none } }
        if c1.bitOf F.GLB_PD_CTRL_pd_on 7 then
          (if c1.mode = .idleLow ∧ c1.get F.HCP_PS_STAT_eff_ps = 3 then
            ((c1.setFlag F.HCP_PS_STAT_ps3_refused true).set F.HCP_PS_STAT_eff_ps 2).memberPower
          else c1).pdNext
        else (c1.pdRefuse 7 3).pdNext) s

/-! ### GLB_MODE_REQ (R49 to R53) -/

/-- A refused request (R49). -/
def Ctl.reqRefuse (c : Ctl) (err : Nat) : Ctl := c.set F.GLB_MODE_STAT_req_err err

/-- QUIESCE (R52): I/O submission queues are no longer served, and ANA Inaccessible is reported; IDLE_LOW is left first. -/
def Ctl.quiesce (c : Ctl) : Ctl :=
  let c1 := if c.mode = .idleLow then (c.setMode c.serveMode).pdReconcile else c
  (({ c1 with power := { c1.power with quiescing := true } }).setFlag F.GLB_MODE_STAT_busy true).anaUpdate

/-- A device that is taking over gives the lease up as it goes to TEST, which holds none (Table 3.1): RELEASE leaves for the witness, and the
bay channels are followers again (notes/assumptions/65.md). -/
def Ctl.leaseDrop (c : Ctl) : Ctl :=
  if !c.lease then c
  else
    let c1 := (c.dropMoves.setFlag F.GLB_MODE_STAT_lease false).set F.PEER_LEASE_src 0
    (({ c1 with pair := { c1.pair with witEnd := none, endEnd := none } }).witSend .release false).baysKeep true

/-- TEST (R53): the device leaves the pair, its windows close, and the mirror is no longer accepted. -/
def Ctl.toTest (c : Ctl) : Ctl := ((c.leaseDrop.peerSend .leave).standbyLost.winsClose).setMode .test

/-- Whether the end of the lease has come in this clock. -/
def Ctl.leaseOver (c : Ctl) : Bool := !c.halted && (match c.leaseEnd with | some t => decide (t ≤ c.dt) | none => false)

/-- A write of GLB_MODE_REQ, refused in this order: unknown code, transition in progress, confirmation, mode. A request in the clock in which
the lease ends is refused with req_err 1, and the device is fenced (R50 item 3). -/
def modeReq (m : Mem) (c : Ctl) (w : Word) : Mem × Ctl :=
  let req := getBits w 3 0
  let conf := getBits w 31 16 == 0x5A17
  if c.power.stop.isSome || c.mode == .off || c.mode == .reset || req == 0 then (m, c)
  else if c.leaseOver then (m, c.fence.reqRefuse 1)
  else if 6 ≤ req then (m, c.reqRefuse 4)
  else if c.flag F.GLB_MODE_STAT_busy then (m, c.reqRefuse 2)
  else if 3 ≤ req && !conf then (m, c.reqRefuse 3)
  else match req with
    | 1 => (m, match c.mode with | .active | .degraded | .idleLow => c.quiesce | _ => c.reqRefuse 1)
    | 2 => (m, if c.mode = .quiesced then (c.setMode c.serveMode).psApply else c.reqRefuse 1)
    | 3 => toReset m c 4
    | 4 => toReset m (c.pcrOwn F.FWU_STAT_rec_flag 1) 4
    | _ => (m, if c.mode = .standby then c.toTest else c.reqRefuse 1)

/-- The word of a request. -/
def reqWord (conf : BitVec 16) (req : Nat) : Word := BitVec.ofNat 32 (conf.toNat * 65536 + req)

/-- MODE_REQ_QUIESCE (R52). -/
def execModeReqQuiesce (confirm : BitVec 16) (s : State) : Host.Outcome State Fault Refusal :=
  onAll (fun m c => modeReq m c (reqWord confirm 1)) s

/-- MODE_REQ_RESUME (R49). -/
def execModeReqResume (confirm : BitVec 16) (s : State) : Host.Outcome State Fault Refusal :=
  onAll (fun m c => modeReq m c (reqWord confirm 2)) s

/-- MODE_REQ_RESET (R53). -/
def execModeReqReset (confirm : BitVec 16) (s : State) : Host.Outcome State Fault Refusal :=
  onAll (fun m c => modeReq m c (reqWord confirm 3)) s

/-- MODE_REQ_RECOVERY (R49). -/
def execModeReqRecovery (confirm : BitVec 16) (s : State) : Host.Outcome State Fault Refusal :=
  onAll (fun m c => modeReq m c (reqWord confirm 4)) s

/-- MODE_REQ_TEST (R53). -/
def execModeReqTest (confirm : BitVec 16) (s : State) : Host.Outcome State Fault Refusal :=
  onAll (fun m c => modeReq m c (reqWord confirm 5)) s

/-- MODE_REQ_UNKNOWN (R49): codes 6 to 15. -/
def execModeReqUnknown (code : Fin 10) (confirm : BitVec 16) (s : State) : Host.Outcome State Fault Refusal :=
  onAll (fun m c => modeReq m c (reqWord confirm (6 + code))) s

/-- Whether a brew of an I/O command remains (R52). -/
def Ctl.ioBrews (c : Ctl) : Bool :=
  c.bst.brews.any (fun b => match Tab.at? c.host.tags b.1 with
    | some t => [TagKind.read, .write, .writeZeroes, .dsm, .flush].contains t.kind
    | none => false)

/-- QUIESCE_DONE (R52): no brew of an I/O command remains. -/
def execQuiesceDone (s : State) : Host.Outcome State Fault Refusal :=
  onCtl (fun _ c =>
    if !c.power.quiescing || c.ioBrews || c.halted then c
    else (({ c with power := { c.power with quiescing := false } }).setMode .quiesced).setFlag F.GLB_MODE_STAT_busy false) s

end Sys2Proof.Machine
end

