-- ==== Sys2Proof/Machine/Recipes.lean ====
section
/-! DEFINITION. Loading, installing and retiring recipes (06_barista_and_dma.md, R121, R122, Table 6.5). -/

namespace Sys2Proof.Machine

/-! ### Step memory and versions -/

/-- The version's step addresses. -/
def RcpVer.covers (v : RcpVer) (a : Nat) : Bool := decide (v.base ≤ a) && decide (a ≤ v.base + v.last)

/-- The installed versions of a recipe: the current one unless it is retired and no brew runs it, and earlier ones with brews
(R122). -/
def RcpDir.installed (d : RcpDir) : List RcpVer := (if d.valid || d.cur.users != 0 then [d.cur] else []) ++ d.old

/-- Whether a step address lies in an installed version of a recipe. -/
def Ctl.stepInstalled (c : Ctl) (a : Nat) : Bool := c.bst.dir.any (fun p => p.2.installed.any (·.covers a))

/-- A write of BST_LOAD_DATA: the next word of the step at BST_LOAD_ADDR; in an installed range it is discarded and the next INSTALL
fails with err 8; the address steps after every eighth write (R121). -/
def Ctl.loadData (c : Ctl) (w : Word) (fromCore : Bool) : Ctl :=
  let a := c.get F.BST_LOAD_ADDR_addr
  let i := c.bst.loadIdx
  let b := c.bst
  let b1 : Barista :=
    if c.stepInstalled a then { b with loadBad := true }
    else { b with steps := Tab.put b.steps a (((Tab.getD b.steps a []) ++ List.replicate 8 0).take 8 |>.set i w) }
  let c1 := { c with bst := { b1 with loadIdx := (i + 1) % 8, loadExt := b.loadExt || !fromCore } }
  if i = 7 then c1.set F.BST_LOAD_ADDR_addr (a + 1) else c1

/-- BST_LOAD_DATA_WRITE (R121): by a management core, or from outside. -/
def execBstLoadDataWrite (data : Word) (fromCore : Bool) (s : State) : Host.Outcome State Fault Refusal :=
  onCtl (fun _ c => if fromCore || c.bar0Open then c.loadData data fromCore else c) s

/-! ### Load checks (Table 6.5) -/

/-- Opcodes of each class (R119, R142, R150, R163, R192, R235, R236, R279, R283, R319, R357, R461). -/
def clsOps (e : Nat) : List Nat :=
  match e with
  | 0 => [0x01, 0x02] | 1 => [0x01, 0x02, 0x03, 0x0F] | 2 => [0x01, 0x02, 0x10] | 3 => [0x01, 0x02] | 4 => [0x01, 0x02]
  | 5 => [0x01] | 6 => [0x01] | 7 => [0x01, 0x02, 0x03] | 8 => [0x01, 0x02] | 9 => [0x01, 0x02, 0x03, 0x04, 0x05]
  | 10 => [0x01, 0x02] | 11 => [0x01, 0x02] | 12 => [0x01, 0x02, 0x03, 0x04, 0x05, 0x06, 0x07, 0x08] | 13 => [0x01, 0x02]
  | 14 => [0x01] | _ => []

/-- Whether a step's static arguments are those its class's opcode table permits; where a table states tok = 1, a step with tok 0 is
refused (DEDUCED, notes/assumptions/22.md). -/
def Step.argsOk (s : Step) : Bool :=
  match s.eng, s.op with
  | 0, 0x01 => decide (1 ≤ s.arg0) && decide (s.arg0 ≤ 4000000)
  | 1, 0x01 => decide (1 ≤ s.arg0 % 2 ^ 23) && decide (s.arg0 % 2 ^ 23 ≤ 4194304) && s.dst != 15
  | 1, 0x02 => s.src != 15 && s.dst != 15
  | 1, 0x03 => s.src != 15
  | 3, _ => s.tok && (s.arg2 != 0xFFFF || s.isel == 0)
  | 9, 0x01 => decide (s.arg0 < 4)
  | 9, 0x02 => s.src != 15 && decide (s.arg0 < 4)
  | 9, 0x03 => decide (s.arg0 < 4)
  | 9, 0x04 => s.src != 15
  | 9, 0x05 => s.arg1 % 2 ^ 31 == 0 && (s.arg1 == 0 || (s.src != 15 && decide (s.arg0 < 256)))
  | 12, 0x03 => s.tok
  | 12, 0x07 => s.tok
  | 13, 0x01 => s.tok && s.len % 64 == 0
  | 13, 0x02 => s.tok
  | 14, 0x01 => s.arg0 % 256 == 0 && decide (1 ≤ s.arg1 % 2 ^ 24) && decide (1 ≤ s.arg2 % 64) && decide (s.arg2 % 64 ≤ 32)
  | _, _ => true

/-- A slot field names a slot 0 to 7 or none. -/
def slotOk (n : Nat) : Bool := decide (n < 8) || n == 15

/-- Check 6 of Table 6.5. -/
def Step.static (s : Step) : Bool :=
  decide (s.eng < 15) && s.isel != 3 && (s.isel != 1 || decide (s.inst < clsCount s.eng)) && slotOk s.src && slotOk s.dst
    && slotOk s.aux && slotOk s.out && (match clsLimit s.eng with | some l => decide (s.len ≤ l) | none => true)
    && (clsOps s.eng).contains s.op && s.argsOk

/-- The checks of Table 6.5 that step `i` of the recipe fails, in ascending err code. -/
def stepErrs (ws : List (List Word)) (i : Nat) : List Nat :=
  let n := ws.length
  let at_ (k : Nat) : Step := stepOf (ws.getD k [])
  let s := at_ i
  let b0 := s.b0s != 0
  let b1 := s.b1s != 0
  (if decide (n ≤ s.next) || decide (n ≤ s.failt) || decide (n ≤ s.b0t) || decide (n ≤ s.b1t) then [2] else [])
    ++ (if s.fstep && !s.last && !(decide (i < s.next) && (at_ s.next).fstep) then [3] else [])
    ++ (if s.last && !(s.eng == Cls.bpm && s.op == 0x0F) then [4] else [])
    ++ (if (b0 && decide (s.b0t ≤ i) && s.b0m == 0) || (b1 && decide (s.b1t ≤ i) && s.b1m == 0) then [5] else [])
    ++ (if s.static then [] else [6])
    ++ (if s.chk == stepCrc (ws.getD i []) then [] else [7])
    ++ (if !s.fstep && !(at_ s.failt).fstep then [11] else [])

/-- The first failed per-step check, and its step, from step `i` on, `k` steps. -/
def stepsErr (ws : List (List Word)) : Nat → Nat → Option (Nat × Nat)
  | _, 0 => none
  | i, k + 1 => match (stepErrs ws i).head? with | some e => some (e, i) | none => stepsErr ws (i + 1) k

/-- The steps of a range of step memory. -/
def Ctl.stepRange (c : Ctl) (base last : Nat) : List (List Word) := (List.range (last + 1)).map (fun i => Tab.getD c.bst.steps (base + i) [])

/-- The first failed check of an INSTALL in the order of R121, with its step: 10, 8, 9, 1 on the whole recipe, then step by step. -/
def Ctl.loadCheck (c : Ctl) (rcp base last : Nat) (fromCore : Bool) : Option (Nat × Nat) :=
  let ws := c.stepRange base last
  let over_ (v : RcpVer) : Bool := decide (base ≤ v.base + v.last) && decide (v.base ≤ base + last)
  if (!fromCore || c.bst.loadExt) && c.mode != .test then some (10, 0)
  else if c.bst.loadBad || decide (65536 < base + last + 1) || c.bst.dir.any (fun p => p.2.installed.any over_) then some (8, 0)
  else if (match Tab.at? c.bst.dir rcp with | some d => !d.old.isEmpty | none => false) then some (9, 0)
  else if !ws.any (fun w => (stepOf w).fstep) then some (1, 0)
  else stepsErr ws 0 (last + 1)

/-- The lowest failure step of a recipe (BST_RCP_INFO1.dflt_fail). -/
def dfltFail (ws : List (List Word)) : Nat := (ws.findIdx? (fun w => (stepOf w).fstep)).getD 0

/-- The directory with a recipe's new version: its number is one above the last, modulo 128; the version before stays while brews run
it (R122). -/
def dirInstall (dir : Tab RcpDir) (rcp prio base last dflt : Nat) : Tab RcpDir :=
  match Tab.at? dir rcp with
  | none => Tab.put dir rcp ⟨true, ⟨1, prio, base, last, dflt, 0⟩, []⟩
  | some d => Tab.put dir rcp ⟨true, ⟨(d.cur.ver + 1) % 128, prio, base, last, dflt, 0⟩,
      if d.cur.users = 0 then d.old else d.cur :: d.old⟩

/-- INSTALL (R121, R122): the checks, then the new version; BST_LOAD_STAT shows the first failed check. -/
def Ctl.install (c : Ctl) (rcp last prio : Nat) (fromCore : Bool) : Ctl :=
  let base := c.get F.BST_LOAD_BASE_base
  let e := c.loadCheck rcp base last fromCore
  let c1 := { c with bst := { c.bst with loadBad := false, loadExt := false } }
  let c2 := (c1.set F.BST_LOAD_STAT_err ((e.map (·.1)).getD 0)).set F.BST_LOAD_STAT_step ((e.map (·.2)).getD 0)
  match e with
  | some _ => c2
  | none => { c2 with bst := { c2.bst with dir := dirInstall c2.bst.dir rcp prio base last (dfltFail (c.stepRange base last)) } }

/-- BST_INSTALL (R121): recipe `rcp` of `last` + 1 steps at BST_LOAD_BASE, at priority `prio`. -/
def execBstInstall (rcp last prio : Nat) (fromCore : Bool) (s : State) : Host.Outcome State Fault Refusal :=
  onCtl (fun _ c => if fromCore || c.bar0Open then c.install rcp last prio fromCore else c) s

/-- RETIRE: no new brew of the recipe starts (R122). -/
def Ctl.rcpRetire (c : Ctl) (rcp : Nat) : Ctl :=
  { c with bst := { c.bst with dir := Tab.upd c.bst.dir rcp (fun d => { d with valid := false }) } }

/-- BST_RETIRE (R122). -/
def execBstRetire (rcp : Nat) (s : State) : Host.Outcome State Fault Refusal :=
  onCtl (fun _ c => if c.bar0Open then c.rcpRetire rcp else c) s

end Sys2Proof.Machine
end

