-- ==== Sys2Proof/Machine/TimeSync.lean ====
section
/-! DEFINITION. Network time without its steps: the sync-lost timer, the reference inputs, Announce and delay messages, and the
time-of-day boundary (04_network_time.md, R63 to R70, R75). -/

namespace Sys2Proof.Machine

/-! ### The sync-lost timer (R68, R70) -/

/-- Whether the phase of PPS_IN holds DNT, so that the sync-lost timer does not advance (R68). -/
def Ctl.ppsHolds (c : Ctl) : Bool := c.flag F.TIM_REF_CFG_pps_hold && c.flag F.TIM_REF_CFG_pps_en && c.time.ppsGood

/-- The sync-lost timer as it stands, in ns of DT. -/
def Ctl.lostNow (c : Ctl) : Nat := c.time.lostNs + (if c.ppsHolds then 0 else c.dt - c.time.lostAt)

/-- The timer is counted up to now. -/
def Ctl.lostCount (c : Ctl) : Ctl := { c with time := { c.time with lostNs := c.lostNow, lostAt := c.dt } }

/-- The limit of TIM_SYNC_LOST in ns. -/
def Ctl.lostLimit (c : Ctl) : Nat := c.get F.TIM_SYNC_LOST_limit_s * 1000000000

/-- UNSYNC (R69): what depends on it follows (R74, R75, R318). -/
def Ctl.enterUnsync (c : Ctl) : Ctl := ((c.setSync Sync.unsync).todEval).gclShowAll

/-- In HOLDOVER, a timer beyond the limit enters UNSYNC (R70). -/
def Ctl.lostCheck (c : Ctl) : Ctl :=
  if c.sync = Sync.holdover ∧ c.lostLimit < c.lostNow then c.lostCount.enterUnsync else c

/-- SYNC_LOST_EXPIRE (R70): HOLDOVER has lasted the limit, unless PPS_IN holds the timer. -/
def execSyncLostExpire (s : State) : Host.Outcome State Fault Refusal :=
  onCtl (fun _ c =>
    if c.sync = Sync.holdover ∧ (!c.ppsHolds ∨ c.lostLimit ≤ c.lostNow) then
      ((c.reach (c.dt + (c.lostLimit - c.lostNow))).lostCount).enterUnsync
    else c) s

/-- Whether a limit is in range. -/
def lostRange (limit : Nat) : Bool := decide (1 ≤ limit) && decide (limit ≤ 3600)

/-- TIM_SYNC_LOST_WRITE (R70): a limit outside 1 to 3,600 s is refused; a new one takes effect at once. -/
def execTimSyncLostWrite (limit : Fin 4096) (s : State) : Host.Outcome State Fault Refusal :=
  onCtl (fun _ c => if c.bar0Open && lostRange limit then (c.set F.TIM_SYNC_LOST_limit_s limit).lostCheck else c) s

/-- SYNC_TIMEOUT (R69): no valid Sync for 4 Sync intervals. -/
def execSyncTimeout (s : State) : Host.Outcome State Fault Refusal :=
  onCtl (fun _ c => { c with time := { c.time with brkWait := false } }.enterHoldover) s

/-! ### Reference inputs (R67) -/

/-- ref_ok and pps_ok follow the enables and the inputs. -/
def Ctl.refNote (c : Ctl) : Ctl :=
  (c.setFlag F.TIM_SYNC_STAT_ref_ok (c.flag F.TIM_REF_CFG_ref10m_en && c.time.refGood)).setFlag F.TIM_SYNC_STAT_pps_ok
    (c.flag F.TIM_REF_CFG_pps_en && c.time.ppsGood)

/-- TIM_REF_CFG written: the sync-lost timer is counted under the word before, and the status follows. -/
def Ctl.refWrite (c : Ctl) (w : Word) : Ctl := ((c.lostCount.wr Reg.TIM_REF_CFG w).refNote).lostCheck

/-- REF10M_OUT_OF_TOLERANCE (R67). -/
def execRef10mOutOfTolerance (s : State) : Host.Outcome State Fault Refusal :=
  onCtl (fun _ c => ({ c with time := { c.time with refGood := false } }).refNote) s

/-- REF10M_IN_WITHIN_TOLERANCE (R67). -/
def execRef10mInWithinTolerance (s : State) : Host.Outcome State Fault Refusal :=
  onCtl (fun _ c => ({ c with time := { c.time with refGood := true } }).refNote) s

/-- The whole second of DNT, in ns, nearest to now. -/
def Ctl.nearSecond (c : Ctl) : Nat := (c.dntNs + 500000000) / 1000000000 * 1000000000

/-- Distance of DNT from the nearest whole second, in units of 2^-16 ns. -/
def Ctl.ppsPhase (c : Ctl) : Nat := ((c.time.dnt : Int) - (c.nearSecond * 65536 : Nat)).natAbs

/-- PPS_EDGE (R67) at DT instant `dtNs`: while PPS_IN is enabled, an edge within 1 µs of a whole DNT second marks that second's start; any
other is ignored and counted. -/
def execPpsEdge (dtNs : Nat) (s : State) : Host.Outcome State Fault Refusal :=
  onCtl (fun _ c =>
    let c1 := ((c.reach dtNs).dmaEvents 67 1).lostCount
    if !c1.flag F.TIM_REF_CFG_pps_en then c1
    else if 65536000 < c1.ppsPhase then
      (({ c1 with time := { c1.time with ppsGood := false } }).bump F.TIM_SYNC_STAT_pps_bad 1).refNote
    else ({ c1 with time := { c1.time with ppsGood := true } }.dntTo (c1.nearSecond * 65536)).refNote) s

/-! ### Announce and delay messages (R63, R65) -/

/-- The PTP domain accepted: TIM_PTP_CFG.domain, 0 in the 802.1AS profile. -/
def Ctl.ptpDomain (c : Ctl) : Nat := if c.get F.TIM_PTP_CFG_profile = 2 then 0 else c.get F.TIM_PTP_CFG_domain

/-- Whether a PTP message of a domain on a port is looked at: reception is enabled, the port is up and the primary or backup, and the message
came over the transport of the profile, Ethernet or UDP (Table 4.1). -/
def Ctl.ptpHears (c : Ctl) (np domain : Nat) (ether : Bool) : Bool :=
  c.flag F.TIM_PTP_CFG_en && c.netUp np && domain == c.ptpDomain && ether == (c.get F.TIM_PTP_CFG_profile != 0)
    && (np == c.get F.TIM_PTP_CFG_port_pri || np == c.get F.TIM_PTP_CFG_port_bak)

/-- The order of the best time transmitter: the data set compared field by field. -/
def AnnounceInfo.rank (a : AnnounceInfo) : List Nat := [a.prio1, a.cls, a.accuracy, a.variance, a.prio2, a.identity, a.steps]

/-- Whether a list of numbers comes before another, field by field. -/
def lexLe : List Nat → List Nat → Bool
  | x :: xs, y :: ys => decide (x < y) || (x == y && lexLe xs ys)
  | _, _ => true

/-- PTP_ANNOUNCE (R65): what the better time transmitter of the port announces is kept, and the selection follows; its currentUtcOffset
takes effect at the next half-hour boundary (R75). -/
def execPtpAnnounce (np : Fin 24) (domain : Nat) (ether : Bool) (prio1 cls accuracy variance prio2 identity hops : Nat) (utc : Int)
    (s : State) : Host.Outcome State Fault Refusal :=
  onCtl (fun _ c =>
    if !c.ptpHears np domain ether then c
    else
      let a : AnnounceInfo := ⟨prio1, cls, accuracy, variance, prio2, identity, hops, utc, c.dt⟩
      let keep := match Tab.at? c.time.announces np with
        | some o => o.identity == identity || lexLe a.rank o.rank
        | none => true
      if keep then ({ c with time := { c.time with announces := Tab.put c.time.announces np a, utc := utc } }).ptpSelect else c) s

/-- ANNOUNCE_TIMEOUT (R65): the port has carried no Announce for 3 intervals. -/
def execAnnounceTimeout (np : Fin 24) (s : State) : Host.Outcome State Fault Refusal :=
  onCtl (fun _ c => ({ c with time := { c.time with announces := Tab.del c.time.announces np } }).ptpSelect) s

/-- PTP_DELAY_RESP (R63): the end-to-end path delay, from the last Sync, the Delay_Req and its receive time and correction. -/
def execPtpDelayResp (np : Fin 24) (domain : Nat) (ether : Bool) (received corr : Int) (s : State) : Host.Outcome State Fault Refusal :=
  onCtl (fun _ c =>
    if !c.ptpHears np domain ether || c.get F.TIM_PTP_CFG_profile == 2 || c.ptpPort != some np.val then c
    else match c.time.lastSync, c.time.delayReq with
      | some (t1, t2), some t3 =>
        { c with time := { c.time with pathDelay := ((t2 - t1) + (received - t3 - corr)) / 2, delayReq := none } }
      | _, _ => c) s

/-- PTP_PDELAY_REQ (R63): in the 802.1AS profile a Pdelay_Req is answered. -/
def execPtpPdelayReq (np : Fin 24) (domain : Nat) (ether : Bool) (s : State) : Host.Outcome State Fault Refusal :=
  onCtl (fun _ c => if c.get F.TIM_PTP_CFG_profile == 2 && c.ptpHears np domain ether then c.emit (.pdelayResp np) else c) s

/-! ### Half-hour boundaries (R75) -/

/-- Where in a half hour of DNT the time of day passes a multiple of 1,800 s, in ns (R75). -/
def Ctl.todPhase (c : Ctl) : Nat :=
  let off := c.get F.TIM_TOD_CFG_offset_s
  let soff : Int := if 2 ^ 16 ≤ off then (off : Int) - 2 ^ 17 else off
  (((if c.flag F.TIM_TOD_CFG_use_utc then c.time.utcInUse else 0) - soff) % 1800).toNat * 1000000000

/-- The next half-hour boundary of the time of day, as an instant of DNT, when DNT is `dnt` ns (R73, R75). -/
def Ctl.todNext (c : Ctl) (dnt : Nat) : Nat :=
  let back := 1800000000000 - c.todPhase
  nextInstant (dnt + back) (c.time.lastTod.map (· + back)) 1800000000000 - back

/-- At a half-hour boundary the offset of the latest Announce comes into use and the entry is evaluated again. -/
def Ctl.todFire (c : Ctl) (t : Nat) : Ctl := ({ c with time := { c.time with utcInUse := c.time.utc, lastTod := some t } }).todEval

end Sys2Proof.Machine
end

