-- ==== Sys2Proof/Machine/RegAccess.lean ====
section
/-! DEFINITION. One 32-bit access of a register: what a read returns and changes, and what a write changes or why it is refused
(00_scope.md, R6; 19_address_map.md, R457; the register sections of every chapter). -/

namespace Sys2Proof.Machine

/-! ### Fields by access code (R6, Table 0.5) -/

/-- The mask of a row's fields whose access code satisfies `p`. -/
def RRow.mask (r : RRow) (p : Acc → Bool) : Word :=
  r.flds.foldl (fun w f => if p f.acc then w ||| fieldMask f.hi f.lo else w) 0

/-- Whether a row has a field whose access code satisfies `p`. -/
def RRow.hasAcc (r : RRow) (p : Acc → Bool) : Bool := r.flds.any (fun f => p f.acc)

/-- Whether a written word carries a value outside a field's range, in a field that a write of the register changes. -/
def RRow.outOfRange (r : RRow) (v : Word) (p : Acc → Bool) : Bool :=
  r.flds.any (fun f => p f.acc && (match f.rng with
    | some (lo, hi) => decide (getBits v f.hi f.lo < lo) || decide (hi < getBits v f.hi f.lo)
    | none => false))

/-- Access codes that a direct write changes with the written bits. -/
def Acc.direct : Acc → Bool
  | .rw | .rws | .rwp => true
  | _ => false

/-- A word after a direct write: RW and RWS fields take the written bits, W1C bits clear and W1S bits set where 1 is written. -/
def RRow.merged (r : RRow) (old v : Word) : Word :=
  let rw := r.mask (fun a => a == .rw || a == .rws)
  let c1 := r.mask (· == .w1c)
  let s1 := r.mask (· == .w1s)
  (((old &&& ~~~ rw) ||| (v &&& rw)) &&& ~~~ (v &&& c1)) ||| (v &&& s1)

/-! ### Views of the state that a read returns -/

/-- BST_RCP_INFO0 of the recipe that BST_RCP_SEL names. -/
def Ctl.rcpInfo0 (c : Ctl) : Word :=
  match Tab.at? c.bst.dir (c.get F.BST_RCP_SEL_rcp) with
  | none => 0
  | some d => wd ((if d.valid then 2 ^ 31 else 0) + (if d.old.any (fun v => v.users != 0) then 2 ^ 30 else 0) + d.cur.prio % 4 * 2 ^ 28
      + d.cur.ver % 128 * 2 ^ 21 + d.cur.users)

/-- BST_RCP_INFO1 of it. -/
def Ctl.rcpInfo1 (c : Ctl) : Word :=
  match Tab.at? c.bst.dir (c.get F.BST_RCP_SEL_rcp) with
  | none => 0
  | some d => wd (d.cur.dflt * 2 ^ 24 + d.cur.last * 2 ^ 16 + d.cur.base)

/-- Whether an acknowledged record that is not yet retired lacks a peer copy (PEER_STAT.exposed, R350). -/
def Ctl.exposed (c : Ctl) : Bool :=
  c.lease && c.car.recs.any (fun r => r.settled && !r.void && !r.peer && (r.typ == Rt.data || r.typ == Rt.zero))

/-- PEER_STAT as it reads. -/
def Ctl.peerStatWord (c : Ctl) : Word :=
  let age := match c.pair.hbAt with | some t => min 65535 ((c.dt - t) / 1000) | none => 65535
  let w := setBits (c.rd Reg.PEER_STAT) 15 0 age
  setBits w 26 26 (if c.exposed then 1 else 0)

/-- PEER_LEASE as it reads: by which source the lease holds, and the time to its end. -/
def Ctl.peerLeaseWord (c : Ctl) : Word :=
  if !c.lease then 0
  else if c.forced then wd (3 * 2 ^ 30 + 0xFFFF)
  else
    let wit := match c.pair.witEnd with | some t => decide (c.dt < t) | none => false
    let rem := match c.leaseEnd with | some t => min 65535 ((t - c.dt) / 1000) | none => 0
    wd ((if wit then 1 else 2) * 2 ^ 30 + rem)

/-- The channel code of a transaction's owner. -/
def chanCode (k : Nat) : Nat := if k = 0 then 0 else if k < 8192 then 1 else 2

/-- MGT_TXN_INFO_k. -/
def Ctl.txnInfo (c : Ctl) (k : Nat) : Word :=
  match Tab.at? c.mgt.txns k with
  | some x => wd (x.state * 2 ^ 29 + chanCode x.owner * 2 ^ 27 + x.entries.length * 2 ^ 16 + x.id)
  | none => 0

/-- MGT_TXN_STAT as it reads. -/
def Ctl.txnStatWord (c : Ctl) : Word :=
  let n := (c.mgt.txns.filter (fun p => p.2.state == 1 || p.2.state == 2 || p.2.state == 3)).length
  let h := (c.mgt.txns.filter (fun p => p.2.state == 3)).length
  setBits (setBits (c.rd Reg.MGT_TXN_STAT) 27 24 n) 23 20 h

/-- PCR_INFO of the word that PCR_SEL names. -/
def Ctl.pcrInfo (c : Ctl) : Word :=
  let x := c.pcrGain (c.get F.PCR_SEL_word)
  wd (x.row * 2 ^ 29 + x.tokens * 2 ^ 24 + x.count)

/-- DT in ns at which the trial window of the running image ends (R435). -/
def Ctl.trialEnd (c : Ctl) : Nat := c.trust.imageAt + c.get F.FWU_TRIAL_CFG_window_s * 1000000000

/-- FWU_STAT as it reads, with the trial time left. -/
def Ctl.fwuStatWord (c : Ctl) : Word :=
  setBits (c.rd Reg.FWU_STAT) 31 16 (if c.flag F.FWU_STAT_trial then min 65535 ((c.trialEnd - c.dt) / 1000000000) else 0)

/-- FWU_DL_STAT as it reads. -/
def Ctl.fwuDlWord (c : Ctl) : Word := wd ((if c.trust.commit.isSome then 2 ^ 31 else 0) + 4 * c.trust.staged.length)

/-- The word of a counter, low or high. -/
def Ctl.telWord (c : Ctl) (n : Nat) (high : Bool) : Word :=
  let v := (Tab.getD c.tel.cnt n 0).toNat
  wd (if high then v / 2 ^ 32 else v % 2 ^ 32)

/-- HCP_ASSOC_STAT. -/
def Ctl.assocStat (c : Ctl) : Word :=
  wd ((c.host.queues.filter (fun q => !q.2.ending)).length * 2 ^ 13 + (c.host.assocs.filter (fun a => !a.2.ending)).length)

/-- Signed bytes of a tenant shaper in 25 bits. -/
def Ctl.tenTok (c : Ctl) (t : Nat) : Word := wd (((c.shaper (tenShaper t)).tok % (2 ^ 25 : Nat)).toNat)

/-- TIM_DNT_HI: fraction and high seconds. -/
def Ctl.dntHi (c : Ctl) : Word := wd (c.time.dnt % 65536 * 65536 + c.dntNs / 1000000000 / 2 ^ 32 % 65536)

/-- The key in `Ctl.regs` of the value that a read of a _LO word has latched for the register at `off`. -/
def latchOff (off : Nat) : Nat := off + 2 ^ 32

/-- Whether a register shows what the read of its _LO word latched. -/
def latched (b : Nat) : Bool :=
  [Reg.TIM_DNT_HI, Reg.TIM_DNT_NS, Reg.TIM_DT_HI, Reg.CRM_SKETCH_W_HI, Reg.CAR_HEAD_HI, Reg.CAR_TAIL_HI, Reg.CAR_TEN_USE_HI 0,
   Reg.RBD_RG_CUR_HI, Reg.PEER_APPLIED_HI, Reg.TEL_CNT_HI 0].contains b

/-- The words latched by a read of the register at `off` of a row based at `b`, with their offsets. -/
def Ctl.latches (c : Ctl) (b off : Nat) : List (Nat × Word) :=
  if b = Reg.TIM_DNT_LO then [(Reg.TIM_DNT_HI, c.dntHi), (Reg.TIM_DNT_NS, wd (c.dntNs % 1000000000))]
  else if b = Reg.TIM_DT_LO then [(Reg.TIM_DT_HI, wd (c.dt / 2 ^ 32))]
  else if b = Reg.TEL_CNT_LO 0 then [(off + 4, c.telWord ((off - b) / 8) true)]
  else if [Reg.CRM_SKETCH_W_LO, Reg.CAR_HEAD_LO, Reg.CAR_TAIL_LO, Reg.CAR_TEN_USE_LO 0, Reg.RBD_RG_CUR_LO, Reg.PEER_APPLIED_LO].contains b then
    [(off + 4, c.rd (off + 4))]
  else []

/-- The word that the register at `off`, of a row based at `b`, shows now. -/
def Ctl.view (c : Ctl) (b off : Nat) : Word :=
  if latched b then c.rd (latchOff off)
  else if b = Reg.GLB_ID then setBits (c.rd off) 0 0 (if c.power.slotId then 1 else 0)
  else if b = Reg.GLB_SERIAL_LO then wd (Config.serial.toNat % 2 ^ 32)
  else if b = Reg.GLB_SERIAL_HI then wd (Config.serial.toNat / 2 ^ 32)
  else if b = Reg.TIM_DNT_LO then wd (c.dntNs / 1000000000 % 2 ^ 32)
  else if b = Reg.TIM_DT_LO then wd (c.dt % 2 ^ 32)
  else if b = Reg.HCP_CTX_STAT then wd c.host.tags.length
  else if b = Reg.HCP_ASSOC_STAT then c.assocStat
  else if b = Reg.BST_RCP_INFO0 then c.rcpInfo0
  else if b = Reg.BST_RCP_INFO1 then c.rcpInfo1
  else if b = Reg.BST_ENGINE_EN 0 then wd (c.engineWord ((off - b) / 4))
  else if b = Reg.SWC_QE_STAT then wd c.qeUsed
  else if b = Reg.SWC_LINK_STAT 0 then
    setBits (c.rd off) 18 0 ((c.swc.entries.filter (fun e => e.2.link == some ((off - b) / 4))).length)
  else if b = Reg.BPM_POOL_FREE 0 then wd (c.poolFree ((off - b) / 32))
  else if b = Reg.BPM_POOL_QUAR 0 then wd (c.poolQuar ((off - b) / 32))
  else if b = Reg.NET_TSHP_TOK 0 then c.tenTok ((off - b) / 16)
  else if b = Reg.RBD_MEM_STAT 0 then
    (if Tab.at? c.rbd.hourAt ((off - b) / 4) = some c.dtHour then c.rd off else setBits (c.rd off) 7 0 0)
  else if b = Reg.PEER_STAT then c.peerStatWord
  else if b = Reg.PEER_LEASE then c.peerLeaseWord
  else if b = Reg.BAY_CH_STAT 0 then c.bayStatWord ((off - b) / 64)
  else if b = Reg.MGT_TXN_STAT then c.txnStatWord
  else if b = Reg.MGT_TXN_INFO 0 then c.txnInfo ((off - b) / 4)
  else if b = Reg.PCR_INFO then c.pcrInfo
  else if b = Reg.FWU_STAT then c.fwuStatWord
  else if b = Reg.FWU_DL_STAT then c.fwuDlWord
  else if b = Reg.TEL_CNT_LO 0 then c.telWord ((off - b) / 8) false
  else if b = Reg.TEL_RATE 0 then telRate c.tel ((off - b) / 4)
  else c.rd off

/-- The exception ring of 256 records of eight words at 0x0040_2000 (R131). -/
def Ctl.excWord (c : Ctl) (off : Nat) : Option Word :=
  if 0x402000 ≤ off ∧ off < 0x404000 then
    some ((Tab.getD c.bst.exc ((off - 0x402000) / 32) []).getD ((off - 0x402000) % 32 / 4) 0)
  else none

/-- The word of a register as a read returns it: write-only fields read 0. -/
def Ctl.peek (c : Ctl) (off : Nat) : Word :=
  match c.excWord off with
  | some w => w
  | none =>
    match Reg.find? off with
    | some r => c.view r.base off &&& ~~~ r.mask (· == .wo)
    | none => 0

/-- One read of the word at `off`: what it returns, and the state after it, with what it latches and with each RC field cleared; a read of
BPM_POOL_LOW_n sets it to the buffers free now. -/
def Ctl.rdReg (c : Ctl) (off : Nat) : Word × Ctl :=
  match Reg.find? off with
  | none => (c.peek off, c)
  | some r =>
    let c1 := (c.latches r.base off).foldl (fun c p => c.wr (latchOff p.1) p.2) c
    let rc := r.mask (· == .rc)
    let c2 := if r.base = Reg.BPM_POOL_LOW 0 then c1.wr off (wd (c1.poolFree ((off - r.base) / 32)))
      else if rc = 0 then c1 else c1.wr off (c1.rd off &&& ~~~ rc)
    (c.peek off, c2)

/-! ### Values that a write refuses (R6) -/

/-- The signed value of a field of `n` bits. -/
def signedBits (v n : Nat) : Int := if v < 2 ^ (n - 1) then v else (v : Int) - (2 ^ n : Nat)

/-- Refusals that a field's own range does not express. -/
def Ctl.oddRefusal (c : Ctl) (b off : Nat) (v : Word) : Bool :=
  if b = Reg.TIM_PTP_CFG then !c.npExists (getBits v 19 15) || !c.npExists (getBits v 14 10)
  else if b = Reg.TIM_TOD_CFG then
    decide (signedBits (getBits v 16 0) 17 < -50400) || decide (50400 < signedBits (getBits v 16 0) 17)
  else if b = Reg.NET_PORT_CFG 0 then decide (64 ≤ getBits v 26 20) && decide (getBits v 26 20 < 96)
  else if b = Reg.NET_PORT_WRR 0 then (List.range 8).any (fun i => getBits v (4 * i + 3) (4 * i) == 0)
  else if b = Reg.BPM_POOL_CFG 0 then decide (getBits v 30 28 < (off - b) / 32) || decide (4 < getBits v 30 28)
  else if b = Reg.FWU_TRIAL_CFG then decide (getBits v 15 0 < 10) || decide (getBits v 31 16 / 2 < getBits v 15 0)
  else if b = Reg.TEL_SEL 0 then decide (1 ≤ getBits v 31 27) && decide (getBits v 31 27 ≤ 7)
  else if b = Reg.BAY_PS2_OVR then getBits v 31 24 != 0xB7
  else false

/-- Whether a write of a word is refused for its values, in the fields whose access codes satisfy `p`. -/
def Ctl.refuses (c : Ctl) (r : RRow) (off : Nat) (v : Word) (p : Acc → Bool) : Bool :=
  r.outOfRange v p || c.oddRefusal r.base off v

/-! ### Writes that act -/

/-- The error flag that a refused field's description names (R6): GLB_THERM_CFG has one. -/
def Ctl.refusedNote (c : Ctl) (b : Nat) : Ctl := if b = Reg.GLB_THERM_CFG then c.setFlag F.GLB_THERM_STAT_cfg_err true else c

/-- A write of an engine-enable word: each changed bit of a controlled instance disables or enables it. -/
def Ctl.engineWrite (c : Ctl) (n : Nat) (v : Word) : Ctl :=
  (List.range 32).foldl (fun c b =>
    let cls := n / 8
    let i := 32 * (n % 8) + b
    if !engineControlled cls i then c
    else if getBit v b && !Nat.testBit (c.engineWord n) b then c.engineOnReq cls i
    else if !getBit v b && Nat.testBit (c.engineWord n) b then c.engineOff cls i
    else c) c

/-- A write of DMA_CH_CTRL_n: its bits act in ascending order. -/
def Ctl.dmaCtrl (c : Ctl) (n : Nat) (v : Word) : Ctl :=
  let c1 := if getBit v 1 then c.dmaStart n else c
  let c2 := if getBit v 2 then c1.dmaStop n else c1
  let c3 := if getBit v 3 then c2.dmaArm n false else c2
  if getBit v 4 then c3.dmaClrErr n else c3

/-- Tag state codes, Table 5.2. -/
def TagState.code : TagState → Nat
  | .free => 0 | .waiting => 1 | .running => 2 | .completing => 3 | .aborted => 4 | .discard => 5

/-- A write of HCP_TAG_SEL latches the tag's words. -/
def Ctl.tagSel (c : Ctl) : Ctl :=
  match c.tag? (c.get F.HCP_TAG_SEL_tag) with
  | some t => (c.wr Reg.HCP_TAG_INFO0 (wd (t.cid % 65536 * 65536 + t.qid % 2048))).wr Reg.HCP_TAG_INFO1
      (wd (t.assoc % 4096 * 256 + t.state.code))
  | none => (c.wr Reg.HCP_TAG_INFO0 0).wr Reg.HCP_TAG_INFO1 0

/-- A write of BST_LOAD_CMD from outside a management core: 1 INSTALL, 2 RETIRE. -/
def Ctl.bstCmd (c : Ctl) (v : Word) : Ctl :=
  match getBits v 31 30 with
  | 1 => c.install (getBits v 10 0) (getBits v 27 20) (getBits v 29 28) false
  | 2 => c.rcpRetire (getBits v 10 0)
  | _ => c

/-- A write of KP_CMD: 1 LOAD, 2 ZEROISE slot, 3 ZEROISE page. -/
def Ctl.kpCmd (c : Ctl) (t : Nat) (v : Word) : Ctl :=
  match getBits v 31 28 with
  | 1 => c.kpLoad t (getBits v 3 0) (c.pageBlob t) none
  | 2 => c.kpZeroiseOne t (getBits v 3 0)
  | 3 => c.kpZeroise t (List.range 16) none
  | _ => c

/-- What follows a plain write of the register at `off`, of a row based at `b`. A write of BST_LOAD_ADDR in the middle of a step takes the word
counter back to W0 (DESIGN CHOICE, notes/assumptions/78.md). -/
def Ctl.afterWrite (c : Ctl) (b : Nat) : Ctl :=
  if b = Reg.TIM_PTP_CFG then c.ptpSelect
  else if b = Reg.TIM_SYNC_LOST then c.lostCheck
  else if b = Reg.HCP_TAG_SEL then c.tagSel
  else if b = Reg.BST_LOAD_ADDR then { c with bst := { c.bst with loadIdx := 0 } }
  else if b = Reg.BPM_BUF_SEL then c.wr Reg.BPM_BUF_INFO (c.bufInfo (c.rd Reg.BPM_BUF_SEL))
  else if b = Reg.CRM_PROBE_GI_HI then c.crmProbe
  else if b = Reg.EPT_INT_STAT then c.intLevels.intxUpdate
  else if b = Reg.EPT_INT_EN then c.intxUpdate
  else if b = Reg.EPT_MSIX 0 0 then c.retryMessages
  else if b = Reg.MGT_CFG then c.intLevels
  else c

/-- One write of a word by a BAR0 access or a register-access opcode: 0 where it stands, else the status that refuses it. `bar0` tells the
two apart where a refusal shows in a register. A word with RWT fields is refused outside a transaction (R392). -/
def wrReg (m : Mem) (c : Ctl) (off : Nat) (v : Word) (bar0 : Bool) : Nat × Mem × Ctl :=
  match Reg.find? off with
  | none => (0, m, c)
  | some r =>
    let b := r.base
    let n (stride : Nat) : Nat := (off - b) / stride
    if r.hasAcc (· == .rwt) then (Cs.txnNotOpen, m, if bar0 then c.setFlag F.MGT_TXN_STAT_no_txn true else c)
    else if c.refuses r off v Acc.direct then
      (Cs.badParam, m, c.refusedNote b)
    else if b = Reg.GLB_MODE_REQ then (0, modeReq m c v)
    else if b = Reg.GLB_PD_CTRL then (0, m, c.pdWrite v)
    else if b = Reg.TIM_REF_CFG then (0, m, c.refWrite (r.merged (c.rd off) v))
    else if b = Reg.BST_ENGINE_EN 0 then (0, m, c.engineWrite (n 4) v)
    else if b = Reg.BST_LOAD_DATA then (0, m, c.loadData v false)
    else if b = Reg.BST_LOAD_CMD then (0, m, c.bstCmd v)
    else if b = Reg.DMA_CH_CTRL 0 then (0, m, c.dmaCtrl (n 64) v)
    else if b = Reg.DMA_CH_PROG_LO 0 ∨ b = Reg.DMA_CH_PROG_HI 0 then
      (0, m, if c.chState (n 64) = 0 then c.wr off v else c.setFlag (F.DMA_CH_STAT_wr_err (n 64)) true)
    else if b = Reg.DMA_CH_NEXT_LO 0 then (0, m, c.dmaShadow (n 64) 0 v false)
    else if b = Reg.DMA_CH_NEXT_HI 0 then (0, m, c.dmaShadow (n 64) 1 v false)
    else if b = Reg.DMA_CH_PACE 0 then (0, m, c.dmaShadow (n 64) 2 v false)
    else if b = Reg.BPM_MGT_OP then (0, m, c)
    else if b = Reg.CRM_CMD then (0, m, c.crmCmd (getBits v 31 30) (getBits v 13 0))
    else if b = Reg.RBD_MEM_CMD then (0, memCmd m c (getBits v 4 0) (getBits v 31 29))
    else if b = Reg.KP_CMD 0 then (0, m, c.kpCmd (n 0x1000) v)
    else if b = Reg.KP_BLOB 0 0 then (0, m, c.wr off v)
    else if b = Reg.BAY_CH_CMD 0 then (0, m, c.bayCmdReg (n 64) (getBits v 31 29))
    else if b = Reg.BAY_PS2_OVR then
      let q := c.ps2Write (getBits v 23 0) bar0
      (q.1, m, q.2)
    else if b = Reg.MGT_MB_DB then (0, doorbell m c (getBits v 3 0))
    else match pcrWord off with
      | some w =>
        if r.hasAcc (· == .rwp) then
          let k := r.mask (· == .rwp)
          let q := c.pcrRequest off w ((c.pcrLast off &&& ~~~ k) ||| (v &&& k)) bar0
          (q.1, m, q.2)
        else (0, m, (c.wr off (r.merged (c.rd off) v)).afterWrite b)
      | none => (0, m, (c.wr off (r.merged (c.rd off) v)).afterWrite b)

/-! ### BAR0 (R410, R411, R414, R457, Table 3.4) -/

/-- Whether a BAR0 request is an Unsupported Request: in D3hot, or when it is not one aligned DW with all byte enables set. -/
def Ctl.bar0Bad (c : Ctl) (off : Nat) (dw : Bool) : Bool := c.get F.EPT_STAT_dstate == 3 || off % 4 != 0 || !dw

/-- BAR0_READ (R410, R411): `dw` says that the request is one DW with all byte enables set. -/
def execBar0Read (off : Fin 0x4000000) (dw : Bool) (s : State) : Host.Outcome State Fault Refusal :=
  onCtl (fun _ c =>
    if !c.eptLive then c
    else if c.bar0Bad off dw then (c.aerUr true).emit .unsupported
    else (c.rdReg off).2.emit (.bar0Cpl (c.rdReg off).1)) s

/-- Whether a BAR0 write takes effect at once: it does not while MGT_TXN_SEL names a transaction, but for MGT_TXN_SEL itself and the
doorbell. -/
def Ctl.bar0Direct (c : Ctl) (off : Nat) : Bool :=
  c.get F.MGT_TXN_SEL_id == 0 || off == Reg.MGT_TXN_SEL || off == Reg.MGT_MB_DB

/-- Whether the mode accepts a BAR0 write of an offset (Table 3.4): in RECOVERY those of GLB_MODE_REQ and the doorbell. -/
def Ctl.bar0Writes (c : Ctl) (off : Nat) : Bool :=
  c.mode != .recovery || off == Reg.GLB_MODE_REQ || off == Reg.MGT_MB_DB

/-- REGISTER_WRITE (R6, R457): one 32-bit BAR0 write of an aligned offset. -/
def execRegisterWrite (off : Fin 0x4000000) (value : Word) (dw : Bool) (s : State) : Host.Outcome State Fault Refusal :=
  onAll (fun m c =>
    if !c.eptLive then (m, c)
    else if c.bar0Bad off dw then (m, c.aerUr false)
    else if !c.bar0Writes off || !c.bar0Direct off then (m, c)
    else (wrReg m c off value true).2) s

end Sys2Proof.Machine
end

