-- ==== Sys2Proof/Machine/CommitLog.lean ====
section
/-! DEFINITION. The commit log in the Carafe (15_management_and_transactions.md, R399, R400, Table 15.7): its records, and reading them back. -/

namespace Sys2Proof.Machine

/-- Access codes of the words that may be staged (R392). -/
def Acc.staged : Acc → Bool
  | .rw | .rwt | .rws | .rwp => true
  | _ => false

/-- First byte of line `line` of half `half` of the commit log. -/
def logAddr (half line : Nat) : Nat := 0x500000 + half * 524288 + line * 64

/-- Lines of a half. -/
def logLines : Nat := 8192

/-- Lines of a record of `n` entries without its DONE line. -/
def recLines (n : Nat) : Nat := 1 + (8 * n + 63) / 64

/-- The 8-byte entries of words. -/
def logEntries (ws : List (Nat × Word)) : List Byte := ws.flatMap (fun p => leBytes 4 p.1 ++ leBytes 4 p.2.toNat)

/-- A header line, Table 15.7. -/
def Ctl.logHeader (c : Ctl) (magic cnum txn rwp : Nat) (ws : List (Nat × Word)) : List Byte :=
  let h := leBytes 4 magic ++ leBytes 4 cnum ++ leBytes 4 ws.length ++ leBytes 2 txn ++ leBytes 2 rwp ++ leBytes 8 c.dt
    ++ leBytes 6 (if c.unsync then 2 ^ 48 - 1 else c.dntNs / 1000000000) ++ leBytes 30 0
  h ++ leBytes 4 (crc32c (h ++ logEntries ws))

/-- A record's bytes: header line and entries padded to whole lines. -/
def Ctl.logRecord (c : Ctl) (magic cnum txn rwp : Nat) (ws : List (Nat × Word)) : List Byte :=
  let e := logEntries ws
  c.logHeader magic cnum txn rwp ws ++ e ++ List.replicate ((64 - e.length % 64) % 64) 0

/-- Offsets of an indexed register. -/
def dimOffs (base : Nat) : List Dim → List Nat
  | [] => [base]
  | d :: ds => (List.range d.count).flatMap (fun i => dimOffs (base + d.stride * (d.first + i)) ds)

/-- Every RWT word with its active value, in ascending offset. -/
def Ctl.rwtWords (c : Ctl) : List (Nat × Word) :=
  (Reg.table.filter (fun r => r.hasAcc (· == .rwt))).foldl (fun t r => (dimOffs r.base r.dims).foldl (fun t o => Tab.put t o (c.rd o)) t) []

/-- The commit record of a transaction is persistent, after a base record at the start of a half where the log holds none or the record
would not fit; its DONE line follows. -/
def logCommit (m : Mem) (c : Ctl) (txn rwp : Nat) (ws : List (Nat × Word)) : Mem × Ctl :=
  let need := recLines ws.length + 1
  let turn := c.mgt.used == 0 || decide (logLines < c.mgt.used + need)
  let half := if c.mgt.used = 0 then c.mgt.half else if turn then 1 - c.mgt.half else c.mgt.half
  let base := c.rwtWords
  let m1 := if turn then m.put .carafe (logAddr half 0) (c.logRecord 0xC1EB0002 (c.mgt.cnum + 1) 0 0 base) else m
  let used := if turn then recLines base.length else c.mgt.used
  let cnum := if turn then c.mgt.cnum + 2 else c.mgt.cnum + 1
  let m2 := m1.put .carafe (logAddr half used) (c.logRecord 0xC1EB0001 cnum txn rwp ws)
  let m3 := m2.put .carafe (logAddr half (used + need - 1)) (c.logRecord 0xC1EB0003 cnum txn 0 [])
  (m3, ({ c with mgt := { c.mgt with cnum := cnum, half := half, used := used + need } }).wr Reg.MGT_LAST_CMT
    (wd (cnum % 65536 * 65536 + txn % 65536)))

/-- A valid record of the log as read back: its number, transaction, entries, and lines. -/
structure LogRec where
  magic : Nat
  cnum  : Nat
  txn   : Nat
  ws    : List (Nat × Word)
  lines : Nat
  deriving DecidableEq, Repr

/-- Entries from bytes. -/
def logWords : Nat → List Byte → List (Nat × Word)
  | 0, _ => []
  | n + 1, bs => (leNat (bs.take 4), wd (leNat ((bs.drop 4).take 4))) :: logWords n (bs.drop 8)

/-- The record that starts at a line, if its magic and crc are valid and it fits in the half. -/
def logRead (m : Mem) (half line : Nat) : Option LogRec :=
  let h := m.bytes .carafe (logAddr half line) 64
  let n := pktField h 8 4
  let magic := pktField h 0 4
  if logLines < line + recLines n ∨ (magic ≠ 0xC1EB0001 ∧ magic ≠ 0xC1EB0002 ∧ magic ≠ 0xC1EB0003) then none
  else
    let e := m.bytes .carafe (logAddr half line + 64) (8 * n)
    if pktField h 60 4 = crc32c (h.take 60 ++ e) then some ⟨magic, pktField h 4 4, pktField h 12 2, logWords n e, recLines n⟩ else none

/-- The commit records of a half from a line on, each with its line and whether a DONE line follows, up to the first that is torn. -/
def logRecs (m : Mem) (half : Nat) : Nat → Nat → Nat → List (LogRec × Nat × Bool)
  | 0, _, _ => []
  | k + 1, line, prev =>
    match logRead m half line with
    | none => []
    | some r =>
      if r.magic ≠ 0xC1EB0001 ∨ r.cnum ≠ prev + 1 then []
      else
        let dn := match logRead m half (line + r.lines) with
          | some d => d.magic == 0xC1EB0003 && d.cnum == r.cnum
          | none => false
        (r, line, dn) :: logRecs m half k (line + r.lines + 1) r.cnum

/-- The half whose base record is valid with the higher number, and that record (R400). -/
def logHalf (m : Mem) : Option (Nat × LogRec) :=
  let b (h : Nat) : Option LogRec := match logRead m h 0 with | some r => if r.magic = 0xC1EB0002 then some r else none | none => none
  match b 0, b 1 with
  | some x, some y => some (if x.cnum < y.cnum then (1, y) else (0, x))
  | some x, none => some (0, x)
  | none, some y => some (1, y)
  | none, none => none

end Sys2Proof.Machine
end

