-- ==== Sys2Proof/Machine/CommitCheck.lean ====
section
/-! DEFINITION. Staging of writes, and the checks a commit makes at its first step (15_management_and_transactions.md, R391 to R394, and
the cross-register checks of every chapter). -/

namespace Sys2Proof.Machine

/-! ### Staging (R392) -/

/-- The bits of a word that a transaction may stage. -/
def RRow.stageable (r : RRow) : Word := r.mask Acc.staged

/-- The word of a register that staged bits are merged into: what a persistent word will read, else the active word. -/
def Ctl.curWord (c : Ctl) (off : Nat) : Word := if (pcrWord off).isSome then c.pcrLast off else c.rd off

/-- A transaction with one entry put in its place in the order of offsets. -/
def entryPut : List TxnE → TxnE → List TxnE
  | [], e => [e]
  | x :: xs, e => if e.off < x.off then e :: x :: xs else if e.off = x.off then e :: xs else x :: entryPut xs e

/-- The state with a transaction in a slot. -/
def Ctl.setTxn (c : Ctl) (k : Nat) (x : Txn) : Ctl := { c with mgt := { c.mgt with txns := Tab.put c.mgt.txns k x } }

/-- The state without it. -/
def Ctl.delTxn (c : Ctl) (k : Nat) : Ctl := { c with mgt := { c.mgt with txns := Tab.del c.mgt.txns k } }

/-- A write of a word under a mask is staged in the transaction of slot `k`: 0, or the status that refuses it. A word that no block
defines, or whose fields are all read-only, is discarded. -/
def Ctl.stage (c : Ctl) (k off : Nat) (v mask : Word) : Nat × Ctl :=
  match Tab.at? c.mgt.txns k, Reg.find? off with
  | none, _ => (Cs.txnNotOpen, c)
  | some x, r? =>
    if x.state ≠ 1 then (Cs.txnSealed, c)
    else match r? with
      | none => (0, c)
      | some r =>
        if r.stageable = 0 then
          (if r.hasAcc (fun a => a == .wo || a == .w1c || a == .w1s || a == .rc) then Cs.badParam else 0, c)
        else
          let old := x.entries.find? (fun e => e.off == off)
          let e : TxnE := match old with
            | some o => ⟨off, (o.val &&& ~~~ mask) ||| (v &&& mask), o.mask ||| mask, Tab.getD c.mgt.commits off 0⟩
            | none => ⟨off, v &&& mask, mask, Tab.getD c.mgt.commits off 0⟩
          if c.refuses r off ((c.curWord off &&& ~~~ e.mask) ||| (e.val &&& e.mask)) Acc.staged then (Cs.badParam, c.refusedNote r.base)
          else if old.isNone ∧ 1024 ≤ x.entries.length then (Cs.txnFull, c)
          else (0, c.setTxn k { x with entries := entryPut x.entries e, last := c.dt })

/-- The words that a transaction's entries make active now: staged bits over the active word. -/
def Ctl.txnWords (c : Ctl) (x : Txn) : List (Nat × Word) :=
  x.entries.map (fun e =>
    let sm := match Reg.find? e.off with | some r => r.stageable | none => 0
    (e.off, (c.curWord e.off &&& ~~~ (e.mask &&& sm)) ||| (e.val &&& e.mask &&& sm)))

/-! ### Which words are mirrored (R324) -/

/-- Whether a word is mirrored: its block is, and it is no persistent word. -/
def mirrored (off : Nat) : Bool :=
  let r := off / 0x100000
  !(r == 0 || r == 1 || (decide (0x10 ≤ r) && decide (r ≤ 0x14)) || (decide (0x16 ≤ r) && decide (r ≤ 0x1F)))
    && (match Reg.find? off with | some x => !x.hasAcc (· == .rwp) | none => false)

/-! ### Cross-register checks -/

/-- The registers with words in place, for a check of what a commit would make of them. -/
def Ctl.withWords (c : Ctl) (ws : List (Nat × Word)) : Ctl := ws.foldl (fun c p => c.wr p.1 p.2) c

/-- Whether a group's shape or members differ between two states. -/
def shapeDiffers (c c1 : Ctl) (g : Nat) : Bool :=
  getBits (c.rd (Reg.GAL_GRP_CFG g)) 27 15 != getBits (c1.rd (Reg.GAL_GRP_CFG g)) 27 15
    || (List.range 4).any (fun w => c.rd (Reg.GAL_GRP_MEM g w) != c1.rd (Reg.GAL_GRP_MEM g w))

/-- The unit maps that the groups enabled before `g` in the same commit will be given (R205). -/
def Ctl.mapsBefore (c : Ctl) (g : Nat) : Ctl :=
  (c.groups.filter (fun k => decide (k < g) && !Tab.has c.car.umap k)).foldl (fun c k =>
    let n := umapUnits (c.grpDS k) (c.grpPlan k).1 (c.grpPlan k).2
    { c with car := { c.car with umap := Tab.put c.car.umap k (umapPlace (c.car.umap.map (·.2)) n, n) } }) c

/-- A group's enable or shape (R195). -/
def grpFail (c c1 : Ctl) (g : Nat) : Nat :=
  if c.grpEn g && shapeDiffers c c1 g then Cs.badState
  else if c.grpEn g && !c1.grpEn g && c.car.ns.any (fun p => c.nsGroup p.1 == g) then Cs.badState
  else if !c.grpEn g && c1.grpEn g then
    (if !(c1.mapsBefore g).grpEnableOk g then Cs.badParam else if (c1.listBays g).any (c.testOn 0x0A21) then Cs.busyExclusive else 0)
  else 0

/-- Every region that exists but those `skip` leaves out, with the unit maps. -/
def Ctl.regionsAll (c : Ctl) (skip : Nat) : List (Nat × Nat) := c.regionsBut skip ++ c.umapRegions 16

/-- A pool's place or size (R155, R156). -/
def poolFail (c c1 : Ctl) (p : Nat) : Nat :=
  let moved := c.get (F.BPM_POOL_BASE_base p) != c1.get (F.BPM_POOL_BASE_base p) || c.poolCount p != c1.poolCount p
  if moved && (c.flag (F.BPM_POOL_CFG_en p) || decide (c.poolFree p < c.poolCount p)) then Cs.badState
  else if c1.poolCount p ≠ 0 ∧ !regionOk (c1.regionsAll (p + 1)) (c1.get (F.BPM_POOL_BASE_base p) * hbmUnit) (c1.poolCount p * poolSize p) then
    Cs.badParam
  else if 8388608 < ((List.range 5).map c1.poolCount).foldl (· + ·) 0 ∨ c1.poolCount p < c1.get (F.BPM_POOL_RSV_rsv p) then Cs.badParam
  else 0

/-- Crema's region and enable (R166). -/
def crmFail (c c1 : Ctl) : Nat :=
  if c.get F.CRM_DIR_BASE_base ≠ c1.get F.CRM_DIR_BASE_base ∧ c.flag F.CRM_CFG_en then Cs.badState
  else if (c1.get F.CRM_DIR_BASE_base ≠ 0 ∨ c1.flag F.CRM_CFG_en)
      ∧ !regionOk (c1.regionsAll 6) (c1.get F.CRM_DIR_BASE_base * hbmUnit) (25 * hbmUnit) then Cs.badParam
  else 0

/-- A Pour list (R315): an entry in force with an interval of 0. -/
def gclFail (c1 : Ctl) (np : Nat) : Nat :=
  if (List.range (c1.get (F.NET_GCL_CTRL_len np))).any (fun i => getBits (c1.rd (Reg.NET_GCL_ADMIN np i)) 23 0 == 0) then Cs.badParam else 0

/-- Inbound windows (R331): an enabled one that leaves the Carafe or overlaps the control area. -/
def winFail (c1 : Ctl) : Nat :=
  if (List.range 16).any (fun n => c1.flag (F.PEER_WIN_ADM_en n)
      && (decide (65536 < c1.get (F.PEER_WIN_ADM_base n) + c1.get (F.PEER_WIN_ASZ_size n)) || decide (c1.get (F.PEER_WIN_ADM_base n) < 16))) then
    Cs.badParam
  else 0

/-- The time of step 9 of Table 3.3 that the ramps of every bay take (R363), within 1,200 ms. -/
def Ctl.rampsOk (c : Ctl) : Bool :=
  let slew := (List.range 24).foldl (fun a b => min a (c.get (F.BAY_CH_CFG_slew b))) 50
  let turns := (24 + c.get F.BAY_CFG_max_ramp - 1) / max 1 (c.get F.BAY_CFG_max_ramp)
  decide (turns * (c.get F.BAY_CFG_vin_max_mv + 300 * slew) ≤ 1200 * 100 * slew)

/-- Current limits of a bay (R366, R374): 100 W without the override, a fast trip of at least 1.2 times the limit, and 60 mV. -/
def Ctl.ilimOk (c : Ctl) (b : Nat) : Bool :=
  let i := c.get (F.BAY_CH_ILIM_ilim_ma b)
  let f := c.get (F.BAY_CH_ILIM_fast_ma b)
  (c.ps2Over b || decide (i * c.get F.BAY_CFG_vin_max_mv ≤ 100000000)) && decide (12 * i ≤ 10 * f)
    && decide (f * c.get (F.BAY_CH_RSNS_rsense_uohm b) ≤ 60000000)

/-- The largest data stripe that an extent of a group reaches. -/
def Ctl.extentTop (c : Ctl) (g : Nat) : Nat :=
  (c.car.ns.filter (fun p => c.nsGroup p.1 == g)).foldl (fun a p =>
    max a (c.grpJ g + c.get (F.GAL_NS_MAP0_e p.1) + c.get (F.GAL_NS_MAP1_c p.1))) 0

/-- Spare space of a group (R250). -/
def spareFail (c c1 : Ctl) (g : Nat) : Nat :=
  let r := (c1.rd (Reg.RBD_SPARE g)).toNat
  if c.rd (Reg.RBD_SPARE g) = c1.rd (Reg.RBD_SPARE g) then 0
  else if (c.grpEn g ∧ c.grpStot g < c.extentTop g + r) ∨ (c.grpBays g).any (fun b => c.memState b == 4) then Cs.badState
  else 0

/-- A Regrind command (R263, R264, R267, R268). -/
def rgFail (c c1 : Ctl) : Nat :=
  match c1.get F.RBD_RG_CTRL_cmd with
  | 1 =>
    if !(c.get F.RBD_RG_STAT_state == 0 && c1.rgStartErr == 0) then Cs.badState
    else if (c1.rgStageCfg.listBays c1.rgStage).any (c.testOn 0x0A21) then Cs.busyExclusive else 0
  | 2 => if c.get F.RBD_RG_STAT_state = 3 then 0 else Cs.badState
  | 3 => if [1, 2, 3].contains (c.get F.RBD_RG_STAT_state) then 0 else Cs.badState
  | _ => 0

/-- A counter's selection (R445). -/
def telFail (c1 : Ctl) (n : Nat) : Nat :=
  let w := c1.rd (Reg.TEL_SEL n)
  let b := telBlkOf n
  let inst := getBits w 13 8
  if b.events ≤ getBits w 7 0 ∨ (inst ≠ 0x3F ∧ b.insts ≤ inst) ∨ (getBits w 26 26 = 1 ∧ !b.tenanted (getBits w 7 0)) then Cs.badParam
  else 0

/-- The first check that the word at `off` fails when the registers go from those of `c` to those of `c1`; 0 when it fails none. -/
def crossFail (c c1 : Ctl) (off : Nat) : Nat :=
  let inR (lo hi : Nat) : Bool := decide (lo ≤ off) && decide (off < hi)
  if inR (Reg.GAL_GRP_CFG 0) (Reg.GAL_GRP_CFG 16) then grpFail c c1 ((off - Reg.GAL_GRP_CFG 0) / 32)
  else if inR (Reg.BPM_POOL_CFG 0) (Reg.BPM_POOL_CFG 5) then poolFail c c1 ((off - Reg.BPM_POOL_CFG 0) / 32)
  else if off = Reg.CRM_CFG ∨ off = Reg.CRM_DIR_BASE then crmFail c c1
  else if inR (Reg.CRM_LIMIT 1) (Reg.CRM_LIMIT 4) then
    (let p := (off - Reg.CRM_LIMIT 1) / 8 + 1
     if c1.poolCount p < c1.get (F.CRM_LIMIT_limit p) then Cs.badParam else 0)
  else if off = Reg.CAR_IDX_BASE then
    (if !c.groups.isEmpty then Cs.badState
     else if regionOk (c1.regionsAll 7) (c1.get F.CAR_IDX_BASE_base * hbmUnit) (16 * hbmUnit) then 0 else Cs.badParam)
  else if off = Reg.CAR_UMAP_BASE then
    (if !c.groups.isEmpty then Cs.badState
     else if regionOk (c1.regionsAll 0) (c1.get F.CAR_UMAP_BASE_base * hbmUnit) hbmUnit then 0 else Cs.badParam)
  else if off = Reg.CIP_CTAB_BASE then
    (if c.keys.ctab.any (·.2.valid) then Cs.badState
     else if regionOk (c1.regionsAll 8) (c1.get F.CIP_CTAB_BASE_base * hbmUnit) (9 * hbmUnit) then 0 else Cs.badParam)
  else if off = Reg.CAR_PRESS then
    (if c1.get F.CAR_PRESS_lo_pct < c1.get F.CAR_PRESS_hi_pct ∧ c1.get F.CAR_PRESS_hi_pct ≤ 95 then 0 else Cs.badParam)
  else if off = Reg.NET_BRK then
    (if c.get F.NET_BRK_mode = c1.get F.NET_BRK_mode ∨ [Mode.standby, Mode.quiesced, Mode.test, Mode.boot].contains c.mode then 0 else Cs.badState)
  else if inR (Reg.NET_PORT_CFG 0) (Reg.NET_PORT_CFG 24) then
    (let np := (off - Reg.NET_PORT_CFG 0) / 128
     if c1.flag (F.NET_PORT_CFG_en np) && c.testOn 0x0A20 np then Cs.busyExclusive
     else if c1.get (F.NET_PORT_PFC_xon_kib np) < c1.get (F.NET_PORT_PFC_xoff_kib np)
         ∧ c1.get (F.NET_PORT_PFC_xoff_kib np) ≤ 256 * brkLanes (c1.get F.NET_BRK_mode) ∨ off ≠ Reg.NET_PORT_PFC np then 0
     else Cs.badParam)
  else if inR (Reg.NET_GCL_CTRL 0) (Reg.NET_GCL_CTRL 24) then gclFail c1 ((off - Reg.NET_GCL_CTRL 0) / 4096)
  else if inR (Reg.PEER_WIN_ADM 0) (Reg.PEER_WIN_ADM 16) then winFail c1
  else if off = Reg.PEER_CFG then (if c1.flag F.PEER_CFG_en && c.testOn 0x0A22 0 then Cs.busyExclusive else 0)
  else if off = Reg.BAY_CFG then
    (if c1.rampsOk && (List.range 24).all c1.ilimOk then 0 else Cs.badParam)
  else if inR (Reg.BAY_CH_CFG 0) (Reg.BAY_CH_CFG 24) then
    (let b := (off - Reg.BAY_CH_CFG 0) / 64
     if c1.rampsOk && c1.ilimOk b then 0 else Cs.badParam)
  else if inR (Reg.RBD_SPARE 0) (Reg.RBD_SPARE 16) then spareFail c c1 ((off - Reg.RBD_SPARE 0) / 8)
  else if off = Reg.RBD_RG_CTRL then rgFail c c1
  else if inR (Reg.TEL_SEL 0) (Reg.TEL_SEL 320) then telFail c1 ((off - Reg.TEL_SEL 0) / 4)
  else 0

/-- What keeps a persistent word from being committed: a failed Carafe (R398), an override bit still needed (R374), wear or rate. -/
def Ctl.rwpFail (c : Ctl) (off : Nat) (v : Word) : Nat :=
  match pcrWord off with
  | some w =>
    if c.car.failed then Cs.badState
    else if off = Reg.BAY_PS2_OVR ∧ c.ps2Clears (getBits v 23 0) then Cs.badState
    else c.pcrRefusal w
  | none => 0

/-- The first failure of step 1: its status and the offset of the register that failed. -/
def Ctl.commitFail (c : Ctl) (x : Txn) : Option (Nat × Nat) :=
  let ws := c.txnWords x
  let c1 := c.withWords ws
  if c.mode = .standby ∧ !c.lease ∧ c.flag F.PEER_CFG_en ∧ ws.any (fun p => mirrored p.1) then
    (ws.find? (fun p => mirrored p.1)).map (fun p => (Cs.notActive, p.1))
  else match x.entries.find? (fun e => e.count != Tab.getD c.mgt.commits e.off 0) with
    | some e => some (Cs.txnConflict, e.off)
    | none => ws.findSome? (fun p =>
        let st := if c.rwpFail p.1 p.2 ≠ 0 then c.rwpFail p.1 p.2 else crossFail c c1 p.1
        if st = 0 then none else some (st, p.1))

end Sys2Proof.Machine
end

