-- ==== Sys2Proof/Machine/Commit.lean ====
section
/-! DEFINITION. The commit window and the sequence of a commit (15_management_and_transactions.md, R393 to R400; R324 of
13_pairing_and_failover.md). -/

namespace Sys2Proof.Machine

/-! ### The commit window (Table 15.5 step 5): what each block does with its new words -/

/-- Whether a list of words has one at an offset from `lo` to below `hi`. -/
def touches (ws : List (Nat × Word)) (lo hi : Nat) : Bool := ws.any (fun p => decide (lo ≤ p.1) && decide (p.1 < hi))

/-- The shaper whose registers include an offset. -/
def shaperAt (off : Nat) : Option Nat :=
  if Reg.NET_CSHP_RATE 0 0 ≤ off ∧ off < Reg.NET_CSHP_RATE 24 0 then some ((off - Reg.NET_CSHP_RATE 0 0) / 8)
  else if Reg.NET_TSHP_RATE 0 ≤ off ∧ off < Reg.NET_TSHP_RATE 4096 ∧ (off - Reg.NET_TSHP_RATE 0) % 16 < 8 then
    some (192 + (off - Reg.NET_TSHP_RATE 0) / 16)
  else none

/-- One word becomes active: a persistent word is written (step 4), an RWS word lands in its shadow set, any other takes its place, with
what a direct write of it does. -/
def windowWord (acc : Mem × Ctl) (p : Nat × Word) : Mem × Ctl :=
  let c := acc.2
  match Reg.find? p.1 with
  | none => acc
  | some r =>
    if r.hasAcc (· == .rwp) then
      match pcrWord p.1 with
      | some w =>
        let x := c.pcrGain w
        let c1 := (c.setPcr w { x with tokens := x.tokens - 1 }).pcrWear w
        (acc.1, c1.pcrLand ⟨p.1, p.2, c.dt⟩)
      | none => acc
    else if r.hasAcc (fun a => a == .rw || a == .rws) && !r.hasAcc (· == .rwt) then (wrReg acc.1 c p.1 p.2 false).2
    else (acc.1, (match shaperAt p.1 with | some k => c.shaperKeep k | none => c).wr p.1 p.2)

/-- The breakout changes (R298, R299, R66): every port goes down; a port that ceases to exist loses its queues and connections; the PTP
ports follow the lanes with what was announced on them, and the sync stays while a Sync may still come on them. -/
def Ctl.brkChange (c c0 : Ctl) : Ctl :=
  if c0.get F.NET_BRK_mode = c.get F.NET_BRK_mode then c
  else
    let l := brkLanes (c.get F.NET_BRK_mode)
    let c1 := (List.range 24).foldl Ctl.netDrop { c with time := { c.time with brkWait := c.flag F.TIM_PTP_CFG_en } }
    let gone := (List.range 24).filter (fun n => c0.npExists n && !c.npExists n)
    let c2 := gone.foldl (fun c n => ((c.net.conns.filter (fun k => k.2.port == n)).foldl (fun c k => c.connLost k.1) c).linkGone n) c1
    let pri := c2.get F.TIM_PTP_CFG_port_pri / l * l
    let bak := c2.get F.TIM_PTP_CFG_port_bak / l * l
    let heard := [(c2.get F.TIM_PTP_CFG_port_bak, bak), (c2.get F.TIM_PTP_CFG_port_pri, pri)].foldl (fun (t : Tab AnnounceInfo) (p : Nat × Nat) =>
      match Tab.at? c2.time.announces p.1 with | some a => Tab.put t p.2 a | none => t) []
    ((({ c2 with time := { c2.time with announces := heard } }.set F.TIM_PTP_CFG_port_pri pri).set F.TIM_PTP_CFG_port_bak bak).npShape).ptpSelect

/-- Port configurations: a disabled port goes down, and a change of strict returns every deficit to 0 (R311). -/
def Ctl.portChange (c c0 : Ctl) (np : Nat) : Ctl :=
  let c1 := if c0.flag (F.NET_PORT_CFG_en np) && !c.flag (F.NET_PORT_CFG_en np) then (c.netDrop np).ptpSelect else c
  if c0.get (F.NET_PORT_CFG_strict np) = c.get (F.NET_PORT_CFG_strict np) then c1
  else c1.setNp np { c1.np np with deficit := [] }

/-- A window commit (R331): the admin set becomes operational, the window epoch moves on, and the peer is told. While the pair is mis-strapped
and its link up no window is enabled (R58). -/
def Ctl.winCommit (c : Ctl) : Ctl :=
  ((fun (c : Ctl) => if c.conflictUp then c.winsClose else c) ((List.range 16).foldl (fun c n => (c.wr (Reg.PEER_WIN_OPR n) (c.rd (Reg.PEER_WIN_ADM n))).wr (Reg.PEER_WIN_OSZ n) (c.rd (Reg.PEER_WIN_ASZ n)))
    c)).winEpoch.sayEpoch

/-- PEER_CFG: the policy of a peer that is lost already, and the end of the pair. -/
def Ctl.pairChange (c c0 : Ctl) : Ctl :=
  let c1 := if c.flag F.PEER_STAT_lost ∧ c.flag F.PEER_CFG_peer_loss_wt ≠ c.car.peerWt then
      ({ c with car := { c.car with peerWt := c.flag F.PEER_CFG_peer_loss_wt } }).wtUpdate
    else c
  if c0.flag F.PEER_CFG_en && !c.flag F.PEER_CFG_en then
    (if c1.lease then c1.peerLost else (c1.peerSend .leave).standbyLost)
  else c1

/-- Counters whose selection changed return to 0 and stand in the changed map (R445). -/
def Ctl.telChange (c c0 : Ctl) (ws : List (Nat × Word)) : Ctl :=
  ws.foldl (fun c p =>
    if Reg.TEL_SEL 0 ≤ p.1 ∧ p.1 < Reg.TEL_SEL 320 ∧ c0.rd p.1 ≠ c.rd p.1 then
      let n := (p.1 - Reg.TEL_SEL 0) / 4
      { c with tel := { c.tel with cnt := Tab.put c.tel.cnt n 0, changed := if c.tel.changed.contains n then c.tel.changed else c.tel.changed ++ [n] } }
    else c) c

/-- Namespaces whose grain changed lose their entries (Table 8.5); quotas are looked at again. -/
def Ctl.nsWords (c c0 : Ctl) (ws : List (Nat × Word)) : Ctl :=
  ws.foldl (fun c p =>
    if Reg.CRM_NS_CFG 0 ≤ p.1 ∧ p.1 < Reg.CRM_NS_CFG 16384 then
      (let n := (p.1 - Reg.CRM_NS_CFG 0) / 4
       if c0.get (F.CRM_NS_CFG_grain n) = c.get (F.CRM_NS_CFG_grain n) then c else c.invalNs n)
    else if Reg.CAR_TEN_QUOTA_LO 0 ≤ p.1 ∧ p.1 < Reg.CAR_TEN_QUOTA_LO 4096 ∧ (p.1 - Reg.CAR_TEN_QUOTA_LO 0) % 16 < 8 then
      c.overQuota ((p.1 - Reg.CAR_TEN_QUOTA_LO 0) / 16)
    else c) c

/-- Groups enabled enter INIT, and groups disabled free what they hold (R195, R196, R205). At a start the labels decide instead, and a
device without the lease writes no member (R321). -/
def Ctl.grpChange (c c0 : Ctl) (boot : Bool) : Ctl :=
  if boot || !c.lease then c
  else ((List.range 16).foldl (fun c g =>
    if !c0.grpEn g && c.grpEn g then c.grpInit g
    else if c0.grpEn g && !c.grpEn g then c.grpDisable g
    else c) c).reassess

/-- Whether a group's spare space can be used (RBD_SPARE_STAT_n.ok). -/
def Ctl.spareOk (c : Ctl) (g : Nat) : Bool :=
  let r := (c.rd (Reg.RBD_SPARE g)).toNat
  c.get (F.GAL_GRP_CFG_layout g) == 2 && decide ((c.grpStot g - r + c.grpN g - 2) / max 1 (c.grpN g - 1) ≤ r)

/-- What every block but the Regrind does with its new words: `c0` is the state before the window. -/
def Ctl.windowHooks (c c0 : Ctl) (boot : Bool) (ws : List (Nat × Word)) : Ctl :=
  let on (b : Bool) (f : Ctl → Ctl) (c : Ctl) : Ctl := if b then f c else c
  let has (o : Nat) : Bool := touches ws o (o + 4)
  let c1 := on (has Reg.NET_BRK) (fun c => c.brkChange c0) c
  let c2 := on (touches ws (Reg.NET_PORT_CFG 0) (Reg.NET_PORT_CFG 24))
    (fun c => (List.range 24).foldl (fun c np => if has (Reg.NET_PORT_CFG np) then c.portChange c0 np else c) c) c1
  let c3 := (List.range 24).foldl (fun c np =>
    if touches ws (Reg.NET_GCL_CTRL np) (Reg.NET_GCL_OPER np 0) then c.gclStage np c.dntNs else c) c2
  let c4 := on (touches ws Reg.TIM_TOD_CFG (Reg.TIM_TOD 6)) Ctl.todEval c3
  let c5 := on (has Reg.TIM_UNSYNC_GATE) Ctl.gclShowAll c4
  let c6 := on (has Reg.SWC_PORT_HOLD) Ctl.holdsRecheck c5
  let c7 := on (touches ws (Reg.PEER_WIN_ADM 0) (Reg.PEER_WIN_ADM 16)) Ctl.winCommit c6
  let c8 := on (has Reg.PEER_CFG) (fun c => c.pairChange c0) c7
  let c9 := on (has Reg.CAR_CFG) Ctl.wtUpdate (on (has Reg.CAR_PRESS) Ctl.pressNote c8)
  let c10 := on (has Reg.CRM_CFG && c0.flag F.CRM_CFG_en != c9.flag F.CRM_CFG_en) (fun c => c.crmEnable (c.flag F.CRM_CFG_en)) c9
  let c10 := [1, 2, 3].foldl (fun (c : Ctl) p => if has (Reg.CRM_LIMIT p) then c.crmCap p else c) c10
  let c11 := on (touches ws (Reg.GAL_GRP_CFG 0) (Reg.GAL_GRP_CFG 16)) (fun c => c.grpChange c0 boot) c10
  let c12 := (List.range 16).foldl (fun c g => if has (Reg.RBD_SPARE g) then c.setFlag (F.RBD_SPARE_STAT_ok g) (c.spareOk g) else c) c11
  let c13 := on (has Reg.MGT_INBAND_PERM) (fun c => c.wr Reg.MGT_INBAND_PERM (c.rd Reg.MGT_INBAND_PERM &&& 0xFEDF)) c12
  (c13.nsWords c0 ws).telChange c0 ws

/-- A Regrind command is acted on by the lease holder, and reads 0 afterwards; a start and a standby find the Regrind in the ring's 0x0A
records (R268). -/
def windowRg (boot : Bool) (m : Mem) (c : Ctl) (ws : List (Nat × Word)) : Mem × Ctl :=
  if touches ws Reg.RBD_RG_CTRL (Reg.RBD_RG_CTRL + 4) then
    let r := match (if boot || !c.lease then 0 else c.get F.RBD_RG_CTRL_cmd) with
      | 1 => rgStart m c
      | 2 => rgCommit m c
      | 3 => rgAbortCmd m c
      | _ => (m, c, true)
    (r.1, r.2.1.set F.RBD_RG_CTRL_cmd 0)
  else (m, c)

/-- The commit window: every word becomes active at once, and the blocks act on what changed. `boot` says that the stored configuration is
applied in BOOT. -/
def window (boot : Bool) (m : Mem) (c : Ctl) (ws : List (Nat × Word)) : Mem × Ctl :=
  let r := ws.foldl windowWord (m, c)
  windowRg boot r.1 (r.2.windowHooks c boot ws) ws

/-! ### What reaches the standby (R324, R389) -/

/-- A namespace or host opcode's change beside register words; what the Discovery page shows changes with the hosts and the NQN (R82). -/
def Ctl.cfgOp (c : Ctl) : CfgOp → Ctl
  | .hostPut nqn t tls ib psk =>
    let e : HostEntry := ⟨nqn, t, tls, ib, psk⟩
    let hs := if c.mgt.hosts.any (fun h => h.nqn == nqn) then c.mgt.hosts.map (fun h => if h.nqn = nqn then e else h) else c.mgt.hosts ++ [e]
    { c with mgt := { c.mgt with hosts := hs } }.discoveryChanged
  | .hostDel nqn => { c with mgt := { c.mgt with hosts := c.mgt.hosts.filter (fun h => h.nqn != nqn) } }.discoveryChanged
  | .subNqn nqn => { c with mgt := { c.mgt with nqn := nqn } }.discoveryChanged
  | .nsPut n g t k =>
    { c with mgt := { c.mgt with nguid := Tab.put c.mgt.nguid n g }, car := { c.car with ns := Tab.put c.car.ns n ⟨t, k, 0⟩ } }
  | .nsDel n => { c with mgt := { c.mgt with nguid := Tab.del c.mgt.nguid n }, car := { c.car with ns := Tab.del c.car.ns n } }
  | .nsMove n t => { c with car := { c.car with ns := Tab.upd c.car.ns n (fun x => { x with tenant := t }) } }

/-- A set of the active is applied: its changes, then its words; a word that software cannot write is the device's own and stands as
sent. -/
def applySet (m : Mem) (c : Ctl) (h : HeldSet) : Mem × Ctl :=
  let c1 := h.ops.foldl Ctl.cfgOp c
  let soft (p : Nat × Word) : Bool := match Reg.find? p.1 with | some r => r.stageable != 0 | none => false
  let c2 := (h.writes.filter (fun p => !soft p)).foldl (fun c p => c.wr p.1 p.2) c1
  window false m c2 (h.writes.filter soft)

/-! ### The sequence (Table 15.5) -/

/-- How a commit has ended, or that it waits: its status (PENDING while it waits), the offset of the register that failed, and what
stands after it. -/
structure CommitRes where
  st  : Nat
  off : Nat
  m   : Mem
  c   : Ctl

/-- A transaction's words that are mirrored. -/
def mirrorWords (ws : List (Nat × Word)) : List (Nat × Word) := ws.filter (fun p => mirrored p.1)

/-- Steps 3 to 6: the record, the persistent words and the window, and the transaction is gone; with the local Carafe failed nothing is
stored (R398). -/
def commitFinish (m : Mem) (c : Ctl) (k : Nat) (x : Txn) : CommitRes :=
  let ws := c.txnWords x
  let rwp := (ws.filter (fun p => (pcrWord p.1).isSome)).length
  let a := if c.car.failed then (m, c.setFlag F.MGT_TXN_STAT_unsaved true) else logCommit m c x.id rwp ws
  let b := window false a.1 a.2 ws
  let c1 := b.2.delTxn k
  let sent := c1.mirroring && c1.lease && !(mirrorWords ws).isEmpty
  ⟨Cs.ok, 0, b.1, { c1 with
    mgt := { c1.mgt with commits := ws.foldl (fun t p => Tab.put t p.1 (Tab.getD t p.1 0 + 1)) c1.mgt.commits }
    pair := { c1.pair with commit := if sent then c1.pair.commit ++ [x.id] else c1.pair.commit } }⟩

/-- Steps 1 and 2: a failure leaves the transaction open with its timeout restarted; a transaction that writes mirrored words of a
mirroring pair waits for CONFIG_ACK. -/
def commitStart (m : Mem) (c : Ctl) (k : Nat) (x : Txn) : CommitRes :=
  match c.commitFail x with
  | some (st, off) =>
    let c1 := c.setTxn k { x with state := 1, last := c.dt, handle := 64 }
    let c2 := c.withWords (c.txnWords x)
    let err := match c2.get F.RBD_RG_CTRL_cmd with
      | 1 => if c.get F.RBD_RG_STAT_state = 0 then c2.rgStartErr else 0
      | 2 => if c.get F.RBD_RG_STAT_state = 3 then 0 else 9
      | _ => 0
    ⟨st, off, m, if off = Reg.RBD_RG_CTRL ∧ err ≠ 0 then c1.set F.RBD_RG_STAT_err err else c1⟩
  | none =>
    let ws := mirrorWords (c.txnWords x)
    if ws.isEmpty || !c.mirroring || !c.lease then commitFinish m c k x
    else ⟨Cs.pending, 0, m, (c.setTxn k { x with state := 4 }).peerSend (.config x.id ws [] none)⟩

/-- Whether a commit is between steps 1 and 6. -/
def Ctl.committing (c : Ctl) : Bool := c.mgt.txns.any (fun p => p.2.state == 4)

/-- The end of a commit reaches who waits: the handle of a scheduled one, or the COMMIT or COMMIT_AT request that is still executing. -/
def commitTell (x : Txn) (r : CommitRes) : Mem × Ctl :=
  if r.st = Cs.pending then (r.m, r.c)
  else if x.handle < 64 then (r.m, r.c.handleEnd x.handle r.st (if r.st = Cs.ok then [] else [wd r.off]))
  else match r.c.mgt.taken.find? (fun t => (t.pkt.op == 0x0201 || t.pkt.op == 0x0202) && t.pkt.txn == x.id && t.chan == x.owner) with
    | some t => chiebReply r.m (r.c.bump (F.MGT_CNT_count 0) 1) t r.st (if r.st = Cs.ok then [] else [wd r.off])
    | none => (r.m, r.c)

/-- The commit that waits for the standby goes on: its CONFIG_ACK has come, or R350 applies. -/
def commitResume (m : Mem) (c : Ctl) (id : Option Nat) : Mem × Ctl :=
  match c.mgt.txns.find? (fun p => p.2.state == 4 && (match id with | some i => p.2.id == i | none => true)) with
  | some (k, x) => commitTell x (commitFinish m c k x)
  | none => (m, c)

/-- R350 with what waits for the peer: a commit goes on without CONFIG_ACK. -/
def peerLostAll (m : Mem) (c : Ctl) : Mem × Ctl :=
  let c1 := c.peerLost
  if c1.flag F.PEER_STAT_lost then commitResume m c1 none else (m, c1)

/-! ### The stored configuration (R400) -/

/-- RWT words of a record in force over the active words; RW entries are not applied. -/
def Ctl.rwtApply (c : Ctl) (ws : List (Nat × Word)) : List (Nat × Word) :=
  ws.filterMap (fun p => match Reg.find? p.1 with
    | some r =>
      let k := r.mask (· == .rwt)
      if k = 0 then none else some (p.1, (c.rd p.1 &&& ~~~ k) ||| (p.2 &&& k))
    | none => none)

/-- A record after the base: its RWT entries, and, where it has no DONE line, its persistent words, exempt from the rate limit, and its
DONE line. -/
def logApply (half : Nat) (acc : Mem × Ctl) (e : LogRec × Nat × Bool) : Mem × Ctl :=
  let r := window true acc.1 acc.2 (acc.2.rwtApply e.1.ws)
  let c1 := r.2.wr Reg.MGT_LAST_CMT (wd (e.1.cnum % 65536 * 65536 + e.1.txn % 65536))
  if e.2.2 then (r.1, c1)
  else
    let c2 := e.1.ws.foldl (fun c p => match pcrWord p.1 with | some w => (c.pcrWear w).pcrLand ⟨p.1, p.2, c.dt⟩ | none => c) c1
    (r.1.put .carafe (logAddr half (e.2.1 + e.1.lines)) (c2.logRecord 0xC1EB0003 e.1.cnum e.1.txn 0 []), c2)

/-- In BOOT the stored configuration is rebuilt from the commit log (R400). -/
def configReplay (m : Mem) (c : Ctl) : Mem × Ctl :=
  match logHalf m with
  | none => (m, c)
  | some (h, b) =>
    let r := window true m c (c.rwtApply b.ws)
    (logRecs r.1 h logLines b.lines b.cnum).foldl (logApply h) r

end Sys2Proof.Machine
end

