-- ==== Sys2Proof/Machine/TxnOps.lean ====
section
/-! DEFINITION. The opcodes and events of transactions, the register-access opcodes and the status opcodes of the management chapter
(15_management_and_transactions.md, R388 to R396; R457 of 19_address_map.md). -/

namespace Sys2Proof.Machine

/-! ### BEGIN, COMMIT, COMMIT_AT, ROLLBACK, TXN_STATUS -/

/-- The id that BEGIN assigns: the next in ascending order that is neither 0 nor in use (R391). -/
def Ctl.txnFreeId (c : Ctl) : Nat :=
  match ((List.range 10).map (fun i => (c.mgt.nextId + i) % 65536)).find? (fun i => i != 0 && (c.txnBy i).isNone) with
  | some i => i
  | none => 0

/-- BEGIN: a transaction of the channel is open, or TXN_FULL with eight open, scheduled or held. -/
def txnBegin (t : Taken) (m : Mem) (c : Ctl) : CRes :=
  match Tab.freeKey c.mgt.txns 0 8 with
  | none => .err m c Cs.txnFull
  | some k =>
    let id := c.txnFreeId
    let c1 := c.setTxn k ⟨id, t.chan, 1, [], c.dt, 0, 0, 64⟩
    .ok m { c1 with mgt := { c1.mgt with nextId := (id + 1) % 65536 } } [wd id]

/-- BEGIN (R391). -/
def execBegin (src : ChiebSrc) (s : State) : Host.Outcome State Fault Refusal := chiebRow 0x0200 src txnBegin s

/-- A commit's reply: none while it waits, w0 with the register that failed. -/
def CommitRes.reply (r : CommitRes) : CRes :=
  if r.st = Cs.pending then .wait r.m r.c
  else ⟨some (r.st, if r.st = Cs.ok then [] else [wd r.off]), r.m, r.c⟩

/-- COMMIT of the transaction a request names: one commit at a time, and a sealed transaction gives TXN_SEALED. -/
def txnCommit (t : Taken) (m : Mem) (c : Ctl) : CRes :=
  match c.txnBy t.pkt.txn with
  | none => .err m c Cs.txnNotOpen
  | some (k, x) =>
    if x.state = 2 ∨ x.state = 3 then .err m c Cs.txnSealed
    else if c.committing then .wait m c
    else (commitStart m c k x).reply

/-- COMMIT (R393). -/
def execCommit (src : ChiebSrc) (s : State) : Host.Outcome State Fault Refusal := chiebRow 0x0201 src txnCommit s

/-- The DNT instant in ns of three words: seconds, high seconds, ns. -/
def dntOf (lo hi ns : Nat) : Nat := (lo + 2 ^ 32 * (hi % 65536)) * 1000000000 + ns

/-- The three words of a DNT instant. -/
def dntWords (t : Nat) : List Word :=
  [wd (t / 1000000000 % 2 ^ 32), wd (t / 1000000000 / 2 ^ 32 % 65536), wd (t % 1000000000)]

/-- The mirrored words of a transaction reach the standby of a mirroring pair with its instant (R324). -/
def Ctl.sendSched (c : Ctl) (x : Txn) : Ctl :=
  let ws := mirrorWords (c.txnWords x)
  if ws.isEmpty || !c.mirroring || !c.lease then c else c.peerSend (.config x.id ws [] (some x.at_))

/-- COMMIT_AT: an instant that has come commits at once; one more than 7 days ahead gives BAD_PARAM; else the transaction is sealed and
scheduled under a handle. -/
def txnCommitAt (t : Taken) (m : Mem) (c : Ctl) : CRes :=
  match c.txnBy t.pkt.txn with
  | none => .err m c Cs.txnNotOpen
  | some (k, x) =>
    let a := dntOf (t.w 0) (t.w 1) (t.w 2)
    if x.state = 2 ∨ x.state = 3 then .err m c Cs.txnSealed
    else if t.pkt.words.length < 3 ∨ 1000000000 ≤ t.w 2 ∨ c.dntNs + 604800000000000 < a then .err m c Cs.badParam
    else if a ≤ c.dntNs then (if c.committing then .wait m c else (commitStart m c k x).reply)
    else longOp 0x0202 m c (fun h m c =>
      let y : Txn := { x with state := 2, at_ := a, order := c.mgt.schedNum, handle := h }
      let c1 := (c.setTxn k y).sendSched y
      (m, { c1 with mgt := { c1.mgt with schedNum := c1.mgt.schedNum + 1 } }))

/-- COMMIT_AT (R395). -/
def execCommitAt (src : ChiebSrc) (s : State) : Host.Outcome State Fault Refusal := chiebRow 0x0202 src txnCommitAt s

/-- ROLLBACK discards an open transaction and cancels a scheduled or held one; a commit that has begun proceeds. -/
def txnRollback (t : Taken) (m : Mem) (c : Ctl) : CRes :=
  match c.txnBy t.pkt.txn with
  | none => .err m c Cs.txnNotOpen
  | some (k, x) =>
    if x.state = 4 then .err m c Cs.txnNotOpen
    else if x.state = 1 then .ok m (c.delTxn k) []
    else
      let c1 := (c.delTxn k).handleOpen (if x.handle < 64 then some x.handle else none)
      .ok m (if (mirrorWords (c.txnWords x)).isEmpty || !c.mirroring || !c.lease then c1
        else c1.peerSend (.config x.id [] [] none)) []

/-- ROLLBACK (R396). -/
def execRollback (src : ChiebSrc) (s : State) : Host.Outcome State Fault Refusal := chiebRow 0x0203 src txnRollback s

/-- TXN_STATUS: the information word, TIME_UNSYNC while held, then offset, value and mask of each staged word. -/
def txnQuery (t : Taken) (m : Mem) (c : Ctl) : CRes :=
  if t.pkt.words.isEmpty then .err m c Cs.badParam
  else if c.txnStatus t.chan (t.w 0) ≠ 0 then .err m c (c.txnStatus t.chan (t.w 0))
  else match c.txnBy (t.w 0) with
    | none => .err m c Cs.txnNotOpen
    | some (k, x) =>
      .ok m c ([c.txnInfo k, wd (if x.state = 3 then Cs.timeUnsync else 0)]
        ++ x.entries.flatMap (fun e => [wd e.off, e.val, e.mask]))

/-- TXN_STATUS (R388). -/
def execTxnStatus (src : ChiebSrc) (s : State) : Host.Outcome State Fault Refusal := chiebRow 0x0204 src txnQuery s

/-- TXN_EXPIRE (R396): timeout_s after its last BEGIN, staging write or failed commit, an open transaction is discarded. -/
def execTxnExpire (slot : Fin 8) (s : State) : Host.Outcome State Fault Refusal :=
  onCtl (fun _ c =>
    match Tab.at? c.mgt.txns slot with
    | some x =>
      if x.state = 1 then
        let c1 := (c.reach (x.last + c.get F.MGT_TXN_CFG_timeout_s * 1000000000)).delTxn slot
        ({ c1 with mgt := { c1.mgt with expired := (x.id :: c1.mgt.expired).take 8 } }).bump (F.MGT_CNT_count 5) 1
      else c
    | none => c) s

/-- SCHED_LIST: id and instant of each scheduled or held commit, in slot order. -/
def schedList (_ : Taken) (m : Mem) (c : Ctl) : CRes :=
  .ok m c ((c.mgt.txns.filter (fun p => p.2.state == 2 || p.2.state == 3)).flatMap (fun p => wd p.2.id :: dntWords p.2.at_))

/-- SCHED_LIST (R395). -/
def execSchedList (src : ChiebSrc) (s : State) : Host.Outcome State Fault Refusal := chiebRow 0x0B01 src schedList s

/-! ### Scheduled commits (R72, R324, R395) -/

/-- What fires at a DNT instant: a transaction of this device by its slot, or a set held for the active that this device has replaced. -/
inductive Sched where
  | own (k : Nat) (x : Txn)
  | held (h : HeldSet)

/-- The instant of a scheduled commit. -/
def Sched.time : Sched → Nat
  | .own _ x => x.at_
  | .held h => h.atNs.getD 0

/-- Its place among commits of one instant: those of this device in the order they were scheduled, before held sets. -/
def Sched.rank : Sched → Nat
  | .own _ x => x.order
  | .held h => 2 ^ 64 + h.txn

/-- Which of two fires first. -/
def Sched.first (a b : Sched) : Bool := decide (a.time < b.time) || (a.time == b.time && decide (a.rank ≤ b.rank))

/-- The commits scheduled whose transactions are in one of the states; a lease holder fires the sets it held too, but those whose instant
has come already while DNT is unsynchronised. -/
def Ctl.scheds (c : Ctl) (states : List Nat) : List Sched :=
  (c.mgt.txns.filter (fun p => states.contains p.2.state)).map (fun p => Sched.own p.1 p.2)
    ++ (if c.lease then (c.pair.held.filter (fun h => match h.atNs with | some a => !c.unsync || decide (c.dntNs < a) | none => false)).map Sched.held else [])

/-- The first of them. -/
def schedFirst (l : List Sched) : Option Sched := l.foldl (fun o x => match o with | none => some x | some y => some (if y.first x then y else x)) none

/-- One of them fires. A commit that fails at its instant leaves its transaction open, and its handle ends with the status. -/
def schedFire (m : Mem) (c : Ctl) : Sched → Mem × Ctl
  | .own k x => commitTell x (commitStart m c k x)
  | .held h => applySet m { c with pair := { c.pair with held := c.pair.held.filter (fun y => y != h) } } h

/-- SCHEDULED_COMMIT_FIRE (R395, R72, Table 4.3): the earliest scheduled commit reaches its instant; while DNT is unsynchronised it is
held. -/
def execScheduledCommitFire (s : State) : Host.Outcome State Fault Refusal :=
  onAll (fun m c =>
    match schedFirst (c.scheds [2]) with
    | none => (m, c)
    | some e =>
      if c.committing then (m, c)
      else
        let c1 := c.reachDnt e.time
        if c1.unsync then
          (m, match e with | .own k x => c1.setTxn k { x with state := 3 } | .held _ => c1)
        else schedFire m c1 e) s

/-! ### Register access (R457, R392) -/

/-- Whether a run of words touches the key pages, and the channel of a request may not (R386). -/
def kpDenied (t : Taken) (off n : Nat) : Bool :=
  decide (off < 0x3000000) && decide (0x2000000 < off + 4 * n) && !(t.chan == 0 || (decide (8192 ≤ t.chan) && t.secured))

/-- Words read one after another, in ascending order. -/
def Ctl.rdRegs (c : Ctl) (off n : Nat) : List Word × Ctl :=
  let x : List Word × Ctl := (List.range n).foldl (fun a i => (a.1 ++ [(a.2.rdReg (off + 4 * i)).1], (a.2.rdReg (off + 4 * i)).2)) ([], c)
  x

/-- REG_READ: words from an aligned offset. -/
def regRead (t : Taken) (m : Mem) (c : Ctl) : CRes :=
  let off := t.w 0
  let n := t.w 1
  if t.pkt.words.length < 2 ∨ off % 4 ≠ 0 ∨ n = 0 ∨ 16384 < n ∨ 0x4000000 < off + 4 * n then .err m c Cs.badParam
  else if kpDenied t off n then .err m c Cs.denied
  else .ok m (c.rdRegs off n).2 (c.rdRegs off n).1

/-- REG_READ (R457). -/
def execRegRead (src : ChiebSrc) (s : State) : Host.Outcome State Fault Refusal := chiebRow 0x0100 src regRead s

/-- One word of a register-access opcode under a mask: staged in the request's transaction, or written at once. -/
def regPut (t : Taken) (m : Mem) (c : Ctl) (off : Nat) (v mask : Word) : Nat × Mem × Ctl :=
  if t.pkt.txn = 0 then
    let keep := match Reg.find? off with
      | some r => c.curWord off &&& r.mask (fun a => a == .rw || a == .rws || a == .rwp)
      | none => 0
    wrReg m c off ((keep &&& ~~~ mask) ||| (v &&& mask)) false
  else match c.txnBy t.pkt.txn with
    | some (k, _) => ((c.stage k off v mask).1, m, (c.stage k off v mask).2)
    | none => (Cs.txnNotOpen, m, c)

/-- Words written in order until one is refused: that word's status and offset. -/
def regPuts (t : Taken) (m : Mem) (c : Ctl) : Nat → List Word → CRes
  | _, [] => .ok m c []
  | off, v :: vs =>
    let r := regPut t m c off v 0xFFFFFFFF
    if r.1 = 0 then regPuts t r.2.1 r.2.2 (off + 4) vs else ⟨some (r.1, [wd off]), r.2.1, r.2.2⟩

/-- REG_WRITE: an aligned offset, a count, and as many values. -/
def regWrite (t : Taken) (m : Mem) (c : Ctl) : CRes :=
  let off := t.w 0
  let n := t.w 1
  if t.pkt.words.length < 3 ∨ off % 4 ≠ 0 ∨ n + 2 ≠ t.pkt.words.length ∨ 0x4000000 < off + 4 * n then .err m c Cs.badParam
  else if kpDenied t off n then .err m c Cs.denied
  else regPuts t m c off (t.pkt.words.drop 2)

/-- REG_WRITE (R457). -/
def execRegWrite (src : ChiebSrc) (s : State) : Host.Outcome State Fault Refusal := chiebRow 0x0101 src regWrite s

/-- REG_WRITE_MASKED: one word under a mask. -/
def regWriteMasked (t : Taken) (m : Mem) (c : Ctl) : CRes :=
  let off := t.w 0
  if t.pkt.words.length < 3 ∨ off % 4 ≠ 0 ∨ 0x4000000 ≤ off then .err m c Cs.badParam
  else if kpDenied t off 1 then .err m c Cs.denied
  else
    let r := regPut t m c off (wd (t.w 2)) (wd (t.w 1))
    ⟨some (r.1, if r.1 = 0 then [] else [wd off]), r.2.1, r.2.2⟩

/-- REG_WRITE_MASKED (R392). -/
def execRegWriteMasked (src : ChiebSrc) (s : State) : Host.Outcome State Fault Refusal := chiebRow 0x0102 src regWriteMasked s

/-- Whether a BAR0 write of an offset reaches the register interface. -/
def Ctl.bar0Takes (c : Ctl) (off : Nat) (dw : Bool) : Bool := c.eptLive && !c.bar0Bad off dw && c.bar0Writes off

/-- BAR0_STAGING_WRITE (R392): while MGT_TXN_SEL names a transaction of the mailbox channel a BAR0 write is staged in it; a refusal shows
in MGT_TXN_STAT.last_status. -/
def execBar0StagingWrite (off : Fin 0x4000000) (value : Word) (dw : Bool) (s : State) : Host.Outcome State Fault Refusal :=
  onCtl (fun _ c =>
    if !c.bar0Takes off dw || c.bar0Direct off then c
    else
      let id := c.get F.MGT_TXN_SEL_id
      let r : Nat × Ctl := match c.txnBy id with
        | some (k, x) => if x.owner = 0 then c.stage k off value 0xFFFFFFFF else (Cs.txnNotOpen, c)
        | none => (c.txnStatus 0 id, c)
      if r.1 = 0 then r.2 else r.2.set F.MGT_TXN_STAT_last_status r.1) s

/-- PERSISTENT_REGISTER_WRITE (R403, R404): a BAR0 write of a persistent word outside a transaction takes a token and starts its write. -/
def execPersistentRegisterWrite (off : Fin 0x4000000) (value : Word) (s : State) : Host.Outcome State Fault Refusal :=
  onAll (fun m c =>
    match Reg.find? off, pcrWord off with
    | some r, some _ =>
      if r.hasAcc (· == .rwp) && c.bar0Takes off true && c.bar0Direct off then (wrReg m c off value true).2 else (m, c)
    | _, _ => (m, c)) s

/-! ### Status opcodes (R388, Table 15.3) -/

/-- IDENTIFY: part, silicon revision, SLOT_ID, version of the running image, low and high, and mode. -/
def chiebIdentify (_ : Taken) (m : Mem) (c : Ctl) : CRes :=
  let cur := c.get F.FWU_STAT_cur_slot
  .ok m c [wd (c.get F.GLB_ID_part), wd (c.get F.GLB_ID_rev), wd (if c.power.slotId then 1 else 0),
    c.rd (Reg.FWU_SLOT_VER_LO cur), c.rd (Reg.FWU_SLOT_VER_HI cur), wd c.mode.code]

/-- IDENTIFY (R388). -/
def execIdentify (src : ChiebSrc) (s : State) : Host.Outcome State Fault Refusal := chiebRow 0x0000 src chiebIdentify s

/-- STATUS: GLB_MODE_STAT, GLB_START_STAT, GLB_PWR_STAT, MGT_TXN_STAT. -/
def chiebStatus (_ : Taken) (m : Mem) (c : Ctl) : CRes :=
  .ok m c ([Reg.GLB_MODE_STAT, Reg.GLB_START_STAT, Reg.GLB_PWR_STAT, Reg.MGT_TXN_STAT].map c.peek)

/-- STATUS (R388). -/
def execStatus (src : ChiebSrc) (s : State) : Host.Outcome State Fault Refusal := chiebRow 0x0001 src chiebStatus s

/-- GROUP_STATUS: the GAL_GRP and RBD_GRP registers of a group. -/
def groupStatus (t : Taken) (m : Mem) (c : Ctl) : CRes :=
  let g := t.w 0
  if t.pkt.words.isEmpty ∨ 16 ≤ g then .err m c Cs.badParam
  else .ok m c (([Reg.GAL_GRP_CFG g] ++ (List.range 4).map (Reg.GAL_GRP_MEM g)
    ++ [Reg.GAL_GRP_STRIPES g, Reg.GAL_GRP_JRN g, Reg.GAL_GRP_UMOFF g, Reg.RBD_GRP_STAT g]).map c.peek)

/-- GROUP_STATUS (R388). -/
def execGroupStatus (src : ChiebSrc) (s : State) : Host.Outcome State Fault Refusal := chiebRow 0x0300 src groupStatus s

/-- NS_INFO: group, e, c, tenant, and usage in bytes, low and high; only on the lease holder (R388). -/
def nsInfoOp (t : Taken) (m : Mem) (c : Ctl) : CRes :=
  let n := t.w 0
  if !c.lease then .err m c Cs.notActive
  else if t.pkt.words.isEmpty then .err m c Cs.badParam
  else if !c.nsValid n then .err m c Cs.nsUnknown
  else
    let x := Tab.getD c.car.ns n ⟨0, 0, 0⟩
    .ok m c [wd (c.nsGroup n), wd (c.get (F.GAL_NS_MAP0_e n)), wd (c.get (F.GAL_NS_MAP1_c n)), wd x.tenant, wd (x.usage % 2 ^ 32),
      wd (x.usage / 2 ^ 32)]

/-- NS_INFO (R388). -/
def execNsInfo (src : ChiebSrc) (s : State) : Host.Outcome State Fault Refusal := chiebRow 0x0403 src nsInfoOp s

/-- The words of an allowed-host entry, laid out as HOST_ADD's parameters. -/
def HostEntry.words (h : HostEntry) : List Word :=
  wd (h.tenant + (if h.tls then 2 ^ 16 else 0) + (if h.inband then 2 ^ 17 else 0) + h.psk * 2 ^ 20)
    :: leWords 56 (h.nqn ++ List.replicate (224 - h.nqn.length) 0)

/-- HOST_LIST: up to 256 entries from the one named; only on the lease holder (R388). -/
def hostList (t : Taken) (m : Mem) (c : Ctl) : CRes :=
  if !c.lease then .err m c Cs.notActive
  else if t.pkt.words.isEmpty ∨ 8192 ≤ t.w 0 then .err m c Cs.badParam
  else .ok m c (((c.mgt.hosts.drop (t.w 0)).take 256).flatMap HostEntry.words)

/-- HOST_LIST (R388). -/
def execHostList (src : ChiebSrc) (s : State) : Host.Outcome State Fault Refusal := chiebRow 0x0412 src hostList s

/-- TIME_STATUS: TIM_SYNC_STAT, TIM_OFFSET, and DNT (seconds low, fraction and high seconds, ns) and DT (low, high) of one instant. -/
def timeStatus (_ : Taken) (m : Mem) (c : Ctl) : CRes :=
  .ok m c [c.peek Reg.TIM_SYNC_STAT, c.peek Reg.TIM_OFFSET, c.peek Reg.TIM_DNT_LO, c.dntHi, wd (c.dntNs % 1000000000), wd (c.dt % 2 ^ 32),
    wd (c.dt / 2 ^ 32)]

/-- TIME_STATUS (R388). -/
def execTimeStatus (src : ChiebSrc) (s : State) : Host.Outcome State Fault Refusal := chiebRow 0x0B00 src timeStatus s

end Sys2Proof.Machine
end

