-- ==== Sys2Proof/Machine/Namespaces.lean ====
section
/-! DEFINITION. The namespace and host opcodes (15_management_and_transactions.md, R388, R389; R77, R84, R93, R206, R250, R270). -/

namespace Sys2Proof.Machine

/-! ### What every such opcode needs (R388) -/

/-- A namespace or host opcode: only on the lease holder, and with its parameter words. -/
def leaseOp (n : Nat) (f : Taken → Mem → Ctl → CRes) (t : Taken) (m : Mem) (c : Ctl) : CRes :=
  if !c.lease then .err m c Cs.notActive
  else if t.pkt.words.length < n then .err m c Cs.badParam
  else f t m c

/-- What an opcode changed reaches the standby of a mirroring pair as a CONFIG message without a transaction, and counts as committed with the
next heartbeat (R324, R388). -/
def Ctl.tellStandby (c : Ctl) (offs : List Nat) (ops : List CfgOp) : Ctl :=
  if c.mirroring then
    let c1 := c.peerSend (.config 0 (offs.map (fun o => (o, c.rd o))) ops none)
    { c1 with pair := { c1.pair with commit := c1.pair.commit ++ [0] } }
  else c

/-- Parameter words as bytes. -/
def Taken.bytesFrom (t : Taken) (i n : Nat) : List Byte := wordBytes ((t.pkt.words.drop i).take n)

/-- An NQN of 224 bytes, NUL-padded. -/
def Taken.nqnFrom (t : Taken) (i : Nat) : Nqn := (t.bytesFrom i 56).takeWhile (fun b => b != 0)

/-! ### NS_CREATE -/

/-- Data stripes of a group that no extent may reach beyond: those below its journal area's end and its spare space (R250). -/
def Ctl.extentLimit (c : Ctl) (g : Nat) : Nat :=
  c.grpStot g - c.grpJ g - (if c.get (F.GAL_GRP_CFG_layout g) = 2 then (c.rd (Reg.RBD_SPARE g)).toNat else 0)

/-- Extents taken in a group, as first stripe and end: its namespaces, and the targets of a Regrind onto it. -/
def Ctl.extentsUsed (c : Ctl) (g : Nat) : List (Nat × Nat) :=
  (c.nsExtents g).map (fun x => (x.2.1, x.2.1 + x.2.2))
    ++ (if c.get F.RBD_RG_STAT_state ≠ 0 ∧ c.rgStage = g then c.rbd.rgMap.map (fun p => (p.2.1, p.2.1 + p.2.2)) else [])

/-- The lowest data stripe at which `n` data stripes are free. -/
def Ctl.extentPlace (c : Ctl) (g n : Nat) : Option Nat :=
  let used := c.extentsUsed g
  let ok (e : Nat) : Bool := decide (e + n ≤ c.extentLimit g) && used.all (fun p => decide (e + n ≤ p.1) || decide (p.2 ≤ e))
  ((0 :: used.map (·.2)).filter ok).min?

/-- While a Regrind copies the group, a new namespace takes a target extent after the others (notes/assumptions/45.md). -/
def Ctl.rgExtend (c : Ctl) (g ns n : Nat) : Option Ctl :=
  if c.rgSrc = g ∧ [1, 2, 3].contains (c.get F.RBD_RG_STAT_state) then
    let t := c.rgStage
    let at_ := c.rbd.rgMap.foldl (fun a p => max a (p.2.1 + p.2.2)) 0
    let n1 := (n * c.grpDS g + c.grpDS t - 1) / max (c.grpDS t) 1
    if c.extentLimit t < at_ + n1 then none
    else some { c with rbd := { c.rbd with rgMap := Tab.put c.rbd.rgMap ns (at_, n1) } }
  else some c

/-- NS_CREATE on the lease holder. -/
def nsCreate (t : Taken) (m : Mem) (c : Ctl) : CRes :=
  let ns := t.w 0 % 16384
  let g := t.w 1 % 16
  let tamp := Nat.testBit (t.w 1) 8
  let slot := if Nat.testBit (t.w 1) 12 then 1 else 0
  let ten := t.w 2 % 4096
  let n := t.w 3
  let guid := t.bytesFrom 4 4
  if ns = 0 ∨ n = 0 then .err m c Cs.badParam
  else if guid.all (· == 0) || c.mgt.nguid.any (fun p => p.1 != ns && p.2 == guid) then .err m c Cs.badParam
  else if c.nsValid ns then .err m c Cs.nsExists
  else if !c.grpReady g then .err m c Cs.badState
  else match c.extentPlace g n, c.rgExtend g ns n with
    | some e, some c0 =>
      let c1 := ((c0.set (F.GAL_NS_MAP0_e ns) e).set (F.GAL_NS_MAP1_c ns) n).set (F.GAL_NS_MAP2_group ns) g
      let c2 := (c1.setFlag (F.GAL_NS_MAP2_valid ns) true).setFlag (F.TMP_NS_CFG_en ns) tamp
      let c3 := c2.wr (Reg.CRM_NS_CFG ns) (Reg.resetWord (Reg.CRM_NS_CFG ns))
      let op := CfgOp.nsPut ns guid ten slot
      let c4 := (c3.cfgOp op).tellStandby
        [Reg.GAL_NS_MAP0 ns, Reg.GAL_NS_MAP1 ns, Reg.GAL_NS_MAP2 ns, Reg.TMP_NS_CFG ns, Reg.CRM_NS_CFG ns] [op]
      .ok m (c4.nsChanged ns) [wd e]
    | _, _ => .err m c Cs.nsNoSpace

/-- NS_CREATE (R389). -/
def execNsCreate (src : ChiebSrc) (s : State) : Host.Outcome State Fault Refusal := chiebRow 0x0400 src (leaseOp 8 nsCreate) s

/-! ### NS_DELETE -/

/-- Whether a brew runs on a namespace for a host. -/
def Ctl.nsBrews (c : Ctl) (ns : Nat) : Bool :=
  c.host.tags.any (fun p => (match p.2.cmd with | some x => x.nsid == ns | none => false) && (c.brew? p.1).isSome)

/-- A deletion ends: one ZERO record over the extent, which settles; Crema is invalidated; the namespace is no longer valid; the handle ends
with OK. -/
def nsDelFinish (m : Mem) (c : Ctl) (ns h : Nat) : Mem × Ctl :=
  let g := c.nsGroup ns
  let n := c.nsze ns
  let gain := c.zeroGain g (c.nsBlock ns 0) n
  match recWrite m c { JRec.blank Rt.zero with
      nsid := ns, group := g, loc := 0, count := n, udelta := -((gain : Nat) : Int), tenant := c.nsTenant ns } with
  | (m1, seq, c1) =>
    match settle m1 c1 seq true with
    | (m2, c2) =>
      let c3 := (((c2.invalNs ns).setFlag (F.GAL_NS_MAP2_valid ns) false).setFlag (F.TMP_NS_CFG_en ns) false).nsChanged ns
      let c4 := (c3.cfgOp (.nsDel ns)).tellStandby [Reg.GAL_NS_MAP2 ns, Reg.TMP_NS_CFG ns] [.nsDel ns]
      (m2, { c4 with
        mgt := { c4.mgt with nsDel := Tab.del c4.mgt.nsDel ns, nsBusy := c4.mgt.nsBusy.filter (fun x => x != ns) }
        rbd := { c4.rbd with rgMap := Tab.del c4.rbd.rgMap ns } }.handleEnd h Cs.ok [])

/-- Deletions whose brews have ended are finished. -/
def nsDelCheck (m : Mem) (c : Ctl) : Mem × Ctl :=
  c.mgt.nsDel.foldl (fun a p => if a.2.nsBrews p.1 || !a.2.lease then a else nsDelFinish a.1 a.2 p.1 p.2) (m, c)

/-- NS_DELETE on the lease holder: intake refuses the namespace from now on. -/
def nsDelete (t : Taken) (m : Mem) (c : Ctl) : CRes :=
  let ns := t.w 0
  if !c.nsValid ns then .err m c Cs.nsUnknown
  else if Tab.has c.mgt.nsDel ns then .err m c Cs.badState
  else longOp 0x0401 m c (fun h m c =>
    nsDelCheck m { c with mgt := { c.mgt with nsDel := Tab.put c.mgt.nsDel ns h, nsBusy := c.mgt.nsBusy ++ [ns] } })

/-- NS_DELETE (R389). -/
def execNsDelete (src : ChiebSrc) (s : State) : Host.Outcome State Fault Refusal := chiebRow 0x0401 src (leaseOp 1 nsDelete) s

/-! ### NS_MOVE -/

/-- NS_MOVE on the lease holder: usage moves to the new tenant, both tenants' controllers hear of it, and Crema is invalidated. -/
def nsMove (t : Taken) (m : Mem) (c : Ctl) : CRes :=
  let ns := t.w 0
  let new := t.w 1 % 4096
  if !c.nsValid ns then .err m c Cs.nsUnknown
  else if Tab.has c.mgt.nsDel ns then .err m c Cs.badState
  else
    let use := (Tab.getD c.car.ns ns ⟨0, 0, 0⟩).usage
    let old := c.nsTenant ns
    let c1 := (c.nsChanged ns).useAdd old ns (-((use : Nat) : Int))
    let op := CfgOp.nsMove ns new
    let c2 := ((c1.cfgOp op).useAdd new ns ((use : Nat) : Int)).invalNs ns
    .ok m ((c2.tellStandby [] [op]).nsChanged ns) []

/-- NS_MOVE (R389). -/
def execNsMove (src : ChiebSrc) (s : State) : Host.Outcome State Fault Refusal := chiebRow 0x0402 src (leaseOp 2 nsMove) s

/-! ### Hosts and the subsystem NQN -/

/-- Every association of a host ends (R84). -/
def Ctl.hostEnd (c : Ctl) (nqn : Nqn) : Ctl :=
  (c.host.assocs.filter (fun p => p.2.hostNqn == nqn)).foldl (fun (c : Ctl) p => c.assocEnd p.1) c

/-- HOST_ADD on the lease holder. -/
def hostAdd (t : Taken) (m : Mem) (c : Ctl) : CRes :=
  let nqn := t.nqnFrom 1
  let ten := t.w 0 % 4096
  let psk := t.w 0 / 2 ^ 20 % 16
  let old := c.mgt.hosts.find? (fun h => h.nqn == nqn)
  if nqn.isEmpty ∨ psk = 1 then .err m c Cs.badParam
  else if old.isNone ∧ 8192 ≤ c.mgt.hosts.length then .err m c Cs.hostFull
  else
    let op := CfgOp.hostPut nqn ten (Nat.testBit (t.w 0) 16) (Nat.testBit (t.w 0) 17) psk
    let c1 := (c.cfgOp op).tellStandby [] [op]
    let c2 := match old with | some h => (if h.tenant = ten then c1 else c1.hostEnd nqn) | none => c1
    .ok m c2 []

/-- HOST_ADD (R389). -/
def execHostAdd (src : ChiebSrc) (s : State) : Host.Outcome State Fault Refusal := chiebRow 0x0410 src (leaseOp 57 hostAdd) s

/-- HOST_REMOVE on the lease holder. -/
def hostRemove (t : Taken) (m : Mem) (c : Ctl) : CRes :=
  let nqn := t.nqnFrom 0
  if c.mgt.hosts.any (fun h => h.nqn == nqn) then
    .ok m (((c.cfgOp (.hostDel nqn)).tellStandby [] [.hostDel nqn]).hostEnd nqn) []
  else .err m c Cs.hostUnknown

/-- HOST_REMOVE (R389). -/
def execHostRemove (src : ChiebSrc) (s : State) : Host.Outcome State Fault Refusal := chiebRow 0x0411 src (leaseOp 56 hostRemove) s

/-- SUBSYS_NQN on the lease holder: the NQN that both devices report. -/
def subsysNqn (t : Taken) (m : Mem) (c : Ctl) : CRes :=
  if (t.nqnFrom 0).isEmpty then .err m c Cs.badParam
  else .ok m ((c.cfgOp (.subNqn (t.nqnFrom 0))).tellStandby [] [.subNqn (t.nqnFrom 0)]) []

/-- SUBSYS_NQN (R77). -/
def execSubsysNqn (src : ChiebSrc) (s : State) : Host.Outcome State Fault Refusal := chiebRow 0x0420 src (leaseOp 56 subsysNqn) s

end Sys2Proof.Machine
end

