-- ==== Sys2Proof/Machine/BrewEnd.lean ====
section
/-! DEFINITION. The completion steps (R216, R461), the step boundary (R124 to R130), and the end of a brew (R87, R220, R249). -/

namespace Sys2Proof.Machine

/-! ### HCP steps (R461) -/

/-- COMPLETE: posts at once with arg2 0xFFFF, or when the token it names has arrived; else the step waits for that token (R216). -/
def execHcpComplete (tag : Nat) (s : State) : Host.Outcome State Fault Refusal :=
  onAll (fun m c =>
    match c.issuable tag Cls.hcp 0x01 with
    | none => (m, c)
    | some i =>
      if i.step.arg2 = 0xFFFF || c.abortedFresh tag i.brew || !c.stepIntact i.brew
          || (i.fault (c.pickInst tag i.brew i.step) false).isSome then
        match issue m c tag Cls.hcp 0x01 false (fun _ m c => .ok m (c.hcpComplete tag)) with
        | (m1, c1) => (m1, c1.startReady)
      else
        let c1 := (c.laneIssue tag i.brew.prio).tev .bst 0 (laneOf tag) none (c.ctxOf tag) 1
        (m, ((c1.onBrew tag (fun b => { b with hcp := some i.step.arg2, state := .issued, fresh := false })).tokenWake tag).startReady)) s

/-- Whether a final status is one that an error of the members or of the decode leaves (row 6 of Table 5.12). -/
def mediaFinal (st cls : Nat) : Bool :=
  ((st == 0x06 || st == 0x08 || st == 0x07) && [Cls.dqe, Cls.crc, Cls.gal, Cls.tmpd].contains cls)
    || (st == 0x40 && (cls == Cls.gal || cls == Cls.tmpd))

/-- Table 5.12: the status of a command whose brew failed with a final status of a class. -/
def failStatus (t : TagE) (wt acre : Bool) (st cls : Nat) : NvStatus :=
  if t.state = .aborted then St.aborted
  else if st = 0x01 ∨ st = 0x05 then St.interrupted acre
  else if st = 0x0C then (if t.forced then St.interrupted acre else St.aborted)
  else if st = 0x04 then St.keyDenied
  else if st = 0x40 ∧ cls = Cls.car then St.capacity
  else if cls = Cls.xpt ∧ (st = 0x09 ∨ st = 0x40 ∨ st = 0x07) then St.xferErr
  else if mediaFinal st cls then
    (if t.kind = .read then St.readError else if wt && t.kind.writes then St.writeFault else St.internal)
  else St.internal

/-- The completion of a command whose brew failed, where none has left yet: a RUNNING tag enters COMPLETING, an ABORTED one stays
ABORTED; nothing for a DISCARD tag or a background brew (R87, R461). -/
def Ctl.failPost (c : Ctl) (tag st cls : Nat) : Ctl :=
  match c.tag? tag with
  | none => c
  | some t =>
    let acre := match c.assoc? t.assoc with | some a => a.acre | none => false
    if !t.kind.host ∨ t.sent ∨ (t.state ≠ .running ∧ t.state ≠ .aborted) then c
    else ((if t.state = .running then c.tagTo tag .completing else c).tagSent tag).completeTag t
      (failStatus t (c.flag F.CAR_STAT_wt) acre st cls)

/-- FAIL posts the completion of a command that has none yet. -/
def hcpFailAct (tag : Nat) (i : Issued) (m : Mem) (c : Ctl) : Act := .ok m (c.failPost tag i.brew.final i.brew.finalCls)

/-- HCP_FAIL (R461). -/
def execHcpFail (tag : Nat) (s : State) : Host.Outcome State Fault Refusal :=
  onAll (fun m c => match issue m c tag Cls.hcp 0x02 false (hcpFailAct tag) with | (m1, c1) => (m1, c1.startReady)) s

/-! ### The end of a brew (R87, R220, R258) -/

/-- Records of a brew that settle when it ends durable. -/
def Ctl.ownSettles (c : Ctl) (tag : Nat) : List Nat :=
  ((c.ownRecs tag).filter (fun r => (r.typ == Rt.data || r.typ == Rt.zero) && !r.settled)).map (·.seq)

/-- Units whose slots join the repair queue: those of a Tamp namespace in which the decode or the CHK failed again, which ended the brew
(R276). -/
def Ctl.unitsLost (c : Ctl) (tag : Nat) (b : Brew) (final : Nat) : List (Nat × Nat) :=
  if !(match c.rec? tag with | some r => c.tamp r.nsid | none => false) then []
  else if (final = 0x40 ∧ b.finalCls = Cls.tmpd) ∨ (final = 0x08 ∧ b.finalCls = Cls.crc) then
    (b.unitBad ++ b.chkBad.map (fun (p : Nat × Nat) => (p.1, p.2 / 16))).eraseDups
  else []

/-- BREW_END (R87): durable records settle (R220); blocks that failed CHK in a brew that then succeeded join the repair queue (R258), and units that failed again (R276);
unfinished flush work is dropped (R227); FILLING entries of the tag are freed (R174); the error record of fault 0x05 is written; a
command that has had no completion gets it (an unreadable step may have taken the failure steps away); the tag is FREE, and the next command
of an ordered queue starts (R102); a deletion that waited for the brew ends (R389). -/
def brewEnd (m : Mem) (c : Ctl) (tag : Nat) (b : Brew) (final : Nat) : Mem × Ctl :=
  let kind := (c.tag? tag).map TagE.kind
  let r := if b.durable then (c.ownSettles tag).foldl (fun (a : Mem × Ctl) q => settle a.1 a.2 q true) (m, c) else (m, c)
  let c1 := if final = 0 then b.chkBad.foldl (fun c p => c.repairBlock p.1 p.2) r.2
    else (r.2.unitsLost tag b final).foldl (fun c p => (List.range 16).foldl (fun c j => c.repairBlock p.1 (16 * p.2 + j)) c) r.2
  let c2 := (c1.workDrop tag).crmBrewEnd tag (kind == some .fill)
  let c3 := if b.ueSeen then c2.faultRecord 0x05 (if final = 0 then 0 else 1) tag else c2
  let c4 := if final = 0 then c3 else c3.tev .bst 2 (laneOf tag) none (some (tag, b.rcp, b.cur)) 1
  let c5 := (c4.failPost tag final b.finalCls).laneLeave tag
  let c6 := { c5 with bst := { c5.bst with brews := Tab.del c5.bst.brews tag, dir := Tab.upd c5.bst.dir b.rcp (fun d => d.leave b.ver) } }
  nsDelCheck r.1 (((c6.freeTagE tag).reap).wtUnmark).startReady

/-! ### The step boundary (R124, R127 to R129) -/

/-- The brew goes on in its lane: current when no other has taken the lane's slot since, else at the tail of its queue (R116). -/
def Ctl.rejoin (c : Ctl) (tag : Nat) (b : Brew) : Ctl :=
  if (c.lane (laneOf tag)).cur = some tag then c.setBrew tag { b with state := .current, result := none }
  else (c.setBrew tag { b with state := .ready, result := none }).laneTail tag b.prio

/-- A brew that enters its failure steps runs at priority 0 (R115). -/
def Ctl.failAt (c : Ctl) (tag : Nat) (b : Brew) (tgt st cls : Nat) : Ctl :=
  (((c.setBrew tag { b.enterFailure tgt st cls with state := .ready, result := none }).laneLeave tag).laneTail tag 0).revoke tag

/-- take of R124: a branch, bounded when it goes back; its target's step comes before any pre-emption (R20). -/
def Ctl.branch (c : Ctl) (tag : Nat) (b : Brew) (s : Step) (tgt mx st cls inst : Nat) : Ctl :=
  if tgt ≤ b.cur then
    if b.retry = mx then (c.exception tag b 5 st s.eng inst).failAt tag b s.failt st cls
    else c.rejoin tag { b with retry := b.retry + 1, cur := tgt, held := true }
  else c.rejoin tag { b with cur := tgt, held := true }

/-- Slots that an HBM_UE poisons: src and aux (R128). -/
def Brew.poison (b : Brew) (s : Step) : Brew :=
  let mark (b : Brew) (i : Nat) : Brew := { b with slots := Tab.upd b.slots i (fun x => { x with poison := true }) }
  mark (mark b s.src) s.aux

/-- Crema entries that hold a buffer of the slots an HBM_UE names are removed (R187). -/
def Ctl.crmPoison (c : Ctl) (b : Brew) (s : Step) : Ctl :=
  [s.src, s.aux].foldl (fun c i => match b.slot? i with | some x => c.crmBufferBad (ptrAddr x.ptr) | none => c) c

/-- A step that ended OK and wrote the whole buffer of its dst slot clears the slot's poison (R128); the destination offset is arg1 of a
MOVE, arg0 of a PULL and the segment of a DECODE. -/
def Brew.unpoison (b : Brew) (s : Step) : Brew :=
  let off := if s.eng = Cls.dma ∧ (s.op = 0x01 ∨ s.op = 0x02) then s.arg1
    else if s.eng = Cls.xpt ∧ s.op = 0x02 then s.arg0 else if s.eng = Cls.tmpd then s.arg0 % 4 else 0
  { b with slots := Tab.upd b.slots s.dst (fun x => if s.len = ptrSize x.ptr ∧ off = 0 then { x with poison := false } else x) }

/-- STEP_END (R124): what Barista does when a step's status has arrived. The exception record of kind 4 shows the slots and tokens as they are before
the hardware release (DESIGN CHOICE, notes/assumptions/78.md). -/
def stepEnd (m : Mem) (c : Ctl) (tag : Nat) : Mem × Ctl :=
  match c.brew? tag with
  | none => (m, c)
  | some b =>
    match b.result with
    | none => (m, c)
    | some (st, cls, inst) =>
      let s := c.brewStep b b.cur
      if !c.stepIntact b then
        let d := match c.brewVer b with | some v => v.dflt | none => 0
        if b.failing then
          let c1 := (((c.exception tag b 4 st cls inst).setBrew tag { b with tokens := [] }).revoke tag).releaseSlots tag 0
          brewEnd m c1.2 tag b (if b.final = 0 then st else b.final)
        else (m, (c.exception tag b 3 st cls inst).failAt tag b d 0x0B cls)
      else
        let c := if st = 0x03 then c.crmPoison b s else c
        let b0 := if st = 0x03 then b.poison s else if st = 0 then b.unpoison s else b
        if b.failing then
          let c1 := if st = 0 then c else c.exception tag b 2 st s.eng inst
          if s.last then brewEnd m (c1.setBrew tag b0) tag b0 b.final else (m, c1.rejoin tag { b0 with cur := s.next })
        else if c.forcedOut tag b then (m, c.failAt tag b0 s.failt 0x0C cls)
        else if st = 0 then
          if s.last then brewEnd m (c.setBrew tag b0) tag b0 0 else (m, c.rejoin tag { b0 with retry := 0, cur := s.next })
        else if s.b0s ≠ 0 ∧ st = s.b0s then (m, c.branch tag b0 s s.b0t s.b0m st cls inst)
        else if s.b1s ≠ 0 ∧ st = s.b1s then (m, c.branch tag b0 s s.b1t s.b1m st cls inst)
        else (m, (c.exception tag b0 1 st s.eng inst).failAt tag b0 s.failt st cls)

/-- STEP_END (R124). -/
def execStepEnd (tag : Nat) (s : State) : Host.Outcome State Fault Refusal := onAll (fun m c => stepEnd m c tag) s

/-! ### The step timer (Table 13.8, fault 0x04; R133) -/

/-- Whether another enabled instance of a class can take a step whose instance was disabled (R133, R462). -/
def Ctl.movable (c : Ctl) (s : Step) : Bool :=
  s.isel == 0 && s.eng != Cls.dqe && (List.range (clsCount s.eng)).any (c.engineOn s.eng)

/-- STEP_TIMER_EXPIRE (R355): the step that the tag issues is accepted and does not end within 100 µs. Its instance is disabled, its
outputs are discarded, and it is issued again or ends ENGINE_OFF; the record says masked or detected. EVT steps have no timer. -/
def execStepTimerExpire (tag : Nat) (s : State) : Host.Outcome State Fault Refusal :=
  onCtl (fun _ c =>
    match c.brew? tag with
    | none => c
    | some b =>
      let st := c.brewStep b b.cur
      if st.eng = Cls.evt ∨ (c.issuable tag st.eng st.op).isNone ∨ c.abortedFresh tag b ∨ !c.stepIntact b then c
      else match c.pickInst tag b st with
        | none => c
        | some n =>
          let c1 := ((c.laneIssue tag b.prio).tev .bst 0 (laneOf tag) none (c.ctxOf tag) 1).pass 100000
          let c2 := (c1.engineOff st.eng n).engineDrained st.eng n
          if c2.movable st then (c2.faultRecord 0x04 0 n).rejoin tag { b with fresh := false }
          else (c2.faultRecord 0x04 1 n).stepResult tag 0x05 st.eng n) s

end Sys2Proof.Machine
end

