-- ==== Sys2Proof/Machine/TampSteps.lean ====
section
/-! DEFINITION. Tamp: the segment format, the unit descriptor, and the steps of classes TMPC and TMPD (11_tamp_and_cipher.md, R270 to
R279). -/

namespace Sys2Proof.Machine

/-! ### Segments (R274, Table 11.2) -/

/-- Bytes of a segment's logical data, and of the four of a unit. -/
def segBytes : Nat := 16384
def unitBytes : Nat := 65536

/-- `n` bytes copied one at a time from `o` bytes back in the output `r`, which stands newest byte first. -/
def copyBack (o : Nat) : Nat → List Byte → List Byte
  | 0, r => r
  | n + 1, r => copyBack o n (r.getD (o - 1) 0 :: r)

/-- Tokens decoded from `inp` until 16,384 bytes are produced: the output and what follows the tokens; none where the stream is
invalid. `r` is the output so far, newest byte first, and `k` its length. -/
def tampTokens : Nat → List Byte → List Byte → Nat → Option (List Byte × List Byte)
  | 0, _, _, _ => none
  | fuel + 1, inp, r, k =>
    if k = segBytes then some (r.reverse, inp)
    else match inp with
      | [] => none
      | t :: rest =>
        if t.toNat < 128 then
          let n := t.toNat + 1
          if segBytes < k + n ∨ rest.length < n then none else tampTokens fuel (rest.drop n) ((rest.take n).reverse ++ r) (k + n)
        else
          let n := t.toNat - 128 + 3
          match rest with
          | lo :: hi :: rest2 =>
            let o := lo.toNat + 256 * hi.toNat
            if 16384 ≤ o ∨ k < o + 1 ∨ segBytes < k + n then none else tampTokens fuel rest2 (copyBack (o + 1) n r) (k + n)
          | _ => none

/-- A segment decoded: its 16,384 logical bytes, and the four CRC-64 values of its trailer, 32 bytes (R274). -/
def tampDecode (bs : List Byte) : Option (List Byte × List Byte) :=
  match tampTokens (segBytes + 1) bs [] 0 with
  | some (out, rest) => if rest.length = 32 then some (out, rest) else none
  | none => none

/-- The trailer of 16,384 logical bytes. -/
def tampTrailer (bs : List Byte) : List Byte := (List.range 4).flatMap (fun j => leBytes 8 (crc64 ((bs.drop (4096 * j)).take 4096)))

/-- Bytes of a segment's tokens up to the one that reaches logical byte 4,096 (R275). -/
def tampHead : Nat → List Byte → Nat → Nat
  | 0, _, _ => 0
  | fuel + 1, inp, k =>
    if 4096 ≤ k then 0
    else match inp with
      | [] => 0
      | t :: rest =>
        if t.toNat < 128 then t.toNat + 2 + tampHead fuel (rest.drop (t.toNat + 1)) (k + t.toNat + 1)
        else 3 + tampHead fuel (rest.drop 2) (k + (t.toNat - 125))

/-- Whether four segments are a valid coding of a unit's 65,536 bytes, with the right trailers. -/
def segsValid (unit : List Byte) (segs : List (List Byte)) : Bool :=
  segs.length == 4 && (List.range 4).all (fun i =>
    let u := (unit.drop (segBytes * i)).take segBytes
    match tampDecode (segs.getD i []) with
    | some (out, tr) => out == u && tr == tampTrailer u
    | none => false)

/-- Stored blocks of a stream of `n` bytes (R272). -/
def storedBlocks (n : Nat) : Nat := (n + 4095) / 4096

/-! ### The descriptor (R272, Table 11.1) -/

/-- Lengths of the four segments in a descriptor. -/
def descLens (d : List Byte) : List Nat := (List.range 4).map (fun i => leNat ((d.drop (2 * i)).take 2))

/-- Whether a descriptor is valid for the unit whose slot 15 is block `b15`. -/
def descValid (d : List Byte) (b15 : Nat) : Bool :=
  leNat ((d.drop 8).take 4) == (b15 % 2 ^ 32) ^^^ 0x5A5A5A5A && (descLens d).all (fun n => decide (1 ≤ n) && decide (n ≤ 16544))
    && decide (1 ≤ storedBlocks (descLens d).sum) && decide (storedBlocks (descLens d).sum ≤ 15)

/-- The forms of slot 15 (R273). -/
inductive UnitClass where
  | raw | compressed (stored : Nat) | erasure
  deriving DecidableEq, Repr

/-- The class of a unit by the 16 bytes at slot 15's tag (R273). -/
def classify (t : List Byte) (b15 : Nat) : UnitClass :=
  if leNat ((t.drop 8).take 4) = b15 % 2 ^ 32 ∧ leNat ((t.drop 12).take 4) ≠ 0 then .raw
  else if descValid t b15 then .compressed (storedBlocks (descLens t).sum)
  else .erasure

/-! ### ENCODE (R275, R279) -/

/-- The unit that an ENCODE of a flush works on: the next of those it changes. -/
def Ctl.encodeUnit (c : Ctl) (w : FlushWork) : Option Nat := (((c.workBlocks w).map (· / 16)).eraseDups)[w.tried]?

/-- The state after a flush has given a unit to the compressor and got a form back. -/
def Ctl.tampForm (c : Ctl) (tag : Nat) (f : UnitE) : Ctl :=
  match Tab.at? c.car.works tag with
  | none => c
  | some w =>
    match c.encodeUnit w with
    | none => c
    | some u => { c with car := { c.car with works := Tab.put c.car.works tag { w with tried := w.tried + 1, forms := w.forms ++ [(u, f)] } } }

/-- Where a unit stands in the src of an ENCODE: the flush's own buffer holds the stripe, another buffer the unit alone. -/
def Ctl.encodeAt (c : Ctl) (tag : Nat) (x : BrewSlot) : Nat :=
  match Tab.at? c.car.works tag with
  | none => ptrByte x.ptr
  | some w =>
    match c.encodeUnit w with
    | some u => if ptrByte x.ptr = w.buf then w.buf + 4096 * (16 * u - c.stripeBase w.group w.strp) else ptrByte x.ptr
    | none => ptrByte x.ptr

/-- A unit left raw: RAW, with its count (R275). -/
def encodeRaw (tag cnt : Nat) (m : Mem) (c : Ctl) : Act :=
  .refuse m (((c.bump (F.TMP_CNT_count cnt) 1).tev .gal 3 0 none (c.ctxOf tag) 1).tampForm tag ⟨none, 16⟩) 0x40

/-- ENCODE of the unit at src. The compressor's choice among valid streams is the operand: its segments, or none where it has
produced more than 3,840 bytes of its first 4,096. -/
def tmpcEncodeAct (tag : Nat) (segs : Option (List (List Byte))) (i : Issued) (m : Mem) (c : Ctl) : Act :=
  match i.srcSlot, i.dstSlot, i.auxSlot with
  | some x, some d, some y =>
    if ptrSize x.ptr < unitBytes ∨ ptrSize d.ptr < 61440 then .refuse m c 0x0B
    else if m.hbmBad (c.encodeAt tag x) unitBytes then .refuse m c 0x03
    else
      match segs with
      | none => encodeRaw tag 1 m (c.tev .gal 1 0 none (c.ctxOf tag) 4096)
      | some ss =>
        let n := (ss.map List.length).sum
        let k := storedBlocks n
        if 3840 < tampHead 4096 (ss.headD []) 0 then encodeRaw tag 1 m (c.tev .gal 1 0 none (c.ctxOf tag) 4096)
        else
          let c1 := c.tev .gal 1 0 none (c.ctxOf tag) unitBytes
          if 16 ≤ k then encodeRaw tag 2 m c1
          else
            let m1 := m.put .hbm (ptrByte d.ptr) (ss.flatten ++ List.replicate (4096 * k - n) 0)
            .ok (m1.put .hbm (ptrByte y.ptr) (ss.flatMap (fun s => leBytes 2 s.length)))
              (((c1.bump (F.TMP_CNT_count 0) 1).bump (F.TMP_CNT_count 3) (16 - k)).tampForm tag ⟨some n, k⟩)
  | _, _, _ => .refuse m c 0x02

/-- Whether the segments of an ENCODE are a coding of the unit it is given. -/
def encodeFits (tag : Nat) (segs : Option (List (List Byte))) (m : Mem) (c : Ctl) (i : Issued) : Bool :=
  match segs, i.srcSlot with
  | some ss, some x => segsValid (m.bytes .hbm (c.encodeAt tag x) unitBytes) ss
  | _, _ => true

/-- TMPC_ENCODE (R275, R279). Segments that are no valid coding of the unit come from no compressor: nothing changes. -/
def execTmpcEncode (tag : Nat) (segs : Option (List (List Byte))) (s : State) : Host.Outcome State Fault Refusal :=
  onAll (fun m c => issueUnless (fun i => !encodeFits tag segs m c i) m c tag Cls.tmpc 0x01 false (tmpcEncodeAct tag segs)) s

/-! ### DECODE (R276, R279) -/

/-- The block from which a step's block arguments count: the first of the flush's stripe or of the command's runs, else 0
(notes/assumptions/17.md). -/
def Ctl.stepBase (c : Ctl) (tag : Nat) : Nat :=
  match Tab.at? c.car.works tag, c.rec? tag with
  | some w, _ => c.stripeBase w.group w.strp
  | none, some r => c.recBase r
  | none, none => 0

/-- A decode of unit `u` that fails: TAMP_ERR, with its count; no output (R15, R279). The brew keeps the unit (R276). -/
def decodeFail (tag u : Nat) (m : Mem) (c : Ctl) : Act :=
  let c1 := c.bump (F.TMP_CNT_count 4) 1
  .refuse m (match c.rec? tag with
    | some r => c1.onBrew tag (fun y => { y with unitBad := (c.recGrp r, u) :: y.unitBad })
    | none => c1) 0x40

/-- DECODE of one segment: 16 KiB at dst, and its four tags in aux after the descriptor, 64 bytes for each segment. -/
def tmpdDecodeAct (tag : Nat) (i : Issued) (m : Mem) (c : Ctl) : Act :=
  match i.srcSlot, i.dstSlot, i.auxSlot with
  | some x, some d, some y =>
    let b := c.stepBase tag + i.step.arg1
    let seg := i.step.arg0 % 4
    let desc := m.bytes .hbm (ptrByte y.ptr) 16
    let lens := descLens desc
    let off := (lens.take seg).sum
    let n := lens.getD seg 0
    if ptrSize d.ptr < unitBytes then .refuse m c 0x0B
    else if !descValid desc (b + 15) then decodeFail tag (b / 16) m c
    else if m.hbmBad (ptrByte x.ptr + off) n then .refuse m c 0x03
    else match tampDecode (m.bytes .hbm (ptrByte x.ptr + off) n) with
      | none => decodeFail tag (b / 16) m c
      | some (out, tr) =>
        let tags := (List.range 4).flatMap (fun j =>
          (tr.drop (8 * j)).take 8 ++ leBytes 4 ((b + 4 * seg + j) % 2 ^ 32) ++ (desc.drop 12).take 4)
        .ok ((m.put .hbm (ptrByte d.ptr + segBytes * seg) out).put .hbm (ptrByte y.ptr + 16 + 64 * seg) tags)
          (c.tev .gal 2 0 none (c.ctxOf tag) segBytes)
  | _, _, _ => .refuse m c 0x02

/-- TMPD_DECODE (R276, R279). -/
def execTmpdDecode (tag : Nat) (s : State) : Host.Outcome State Fault Refusal :=
  onAll (fun m c => issue m c tag Cls.tmpd 0x01 false (tmpdDecodeAct tag)) s

end Sys2Proof.Machine
end

