-- ==== Sys2Proof/Machine/CipSteps.lean ====
section
/-! DEFINITION. The cipher engine's steps and key checks (11_tamp_and_cipher.md, R282 to R285). -/

namespace Sys2Proof.Machine

/-! ### KEY_FAULT (R284) -/

/-- A key check fails: its counter, the latch and M1's interrupt, and the page's fault_cnt. -/
def Ctl.keyFault (c : Ctl) (cause ten : Nat) (conn : Bool) (id tag cluster : Nat) : Ctl :=
  let c1 := ((c.bump (F.CIP_FAULT_CNT_count cause) 1).bump (F.KP_STAT_fault_cnt ten) 1).tev .cip 2 cluster (some ten) none 1
  if c1.flag F.CIP_FAULT_STAT_pend then c1
  else
    let c2 := ((c1.set F.CIP_FAULT_STAT_cause cause).set F.CIP_FAULT_STAT_tenant ten).setFlag F.CIP_FAULT_ID_conn conn
    ((((c2.set F.CIP_FAULT_ID_id id).set F.CIP_FAULT_TAG_tag tag).setFlag F.CIP_FAULT_STAT_pend true)).emit (.coreIrq 1)

/-- The check of Table 11.6 that an XTS step for namespace `ns` fails, 0 where none does; `w7` is the brew's context word 7. -/
def Ctl.xtsCause (c : Ctl) (ns : Nat) (w7 : Word) : Nat :=
  if !c.nsValid ns then 1
  else if !w7.getLsbD 31 && getBits w7 13 0 != ns then 2
  else match c.nsKey ns with
    | 1 => 0
    | 2 => 4
    | 3 => 4
    | _ => 3

/-! ### XTS steps (R282, R283) -/

/-- The blocks an XTS step works on: its namespace, the group block and namespace LBA of its first block, their number, and which
it skips. -/
structure XtsRange where
  ns   : Nat
  lba  : Nat
  n    : Nat
  skip : List Bool
  deriving DecidableEq, Repr

/-- Whether a member holds ciphertext of a block: the zero data of a compressed unit's slot 15 is not encrypted (R271, R282). -/
def Ctl.blockSealed (c : Ctl) (g b : Nat) : Bool :=
  c.blockLive g b && !(b % 16 == 15 && (match c.unit? g (b / 16) with | some u => u.comp.isSome | none => false))

/-- The range of a step. arg0 [13:0] names the namespace and arg2:arg1 its first LBA; 0, which names no namespace, stands for the
brew's own, and the LBA then counts on from the first block of its flush or command (notes/assumptions/17.md). In such a range the step passes over
what is no stored block: a block that no member holds, one that Carafe supplies, and one that a flush does not write. -/
def Ctl.xtsRange (c : Ctl) (tag : Nat) (enc : Bool) (i : Issued) : XtsRange :=
  let a := i.step.arg2 * 2 ^ 32 + i.step.arg1
  let named := i.step.arg0 % 2 ^ 14
  if named ≠ 0 then ⟨named, a, i.step.len / 4096, []⟩
  else
    let ns := getBits (i.brew.ctxW 7) 13 0
    match Tab.at? c.car.works tag, c.rec? tag with
    | some w, _ =>
      let b := c.stripeBase w.group w.strp + a
      let n := if i.step.len = 0 then c.grpDS w.group else i.step.len / 4096
      let bs := c.workBlocks w
      let form (u : Nat) : Option UnitE := (w.forms.find? (fun p => p.1 == u)).map (·.2)
      ⟨ns, b - c.nsBlock ns 0, n, (List.range n).map (fun j =>
        if enc then !bs.contains (b + j) || (match form ((b + j) / 16) with
          | some f => f.comp.isSome && decide (f.stored ≤ (b + j) % 16) | none => false)
        else !c.blockSealed w.group (b + j))⟩
    | none, some r =>
      let g := c.recGrp r
      let b := c.recBase r + a
      let n := if i.step.len = 0 then c.recEnd r - b else i.step.len / 4096
      ⟨ns, b - (if ns = r.nsid then c.recB r 0 else c.nsBlock ns 0), n,
        (List.range n).map (fun j => !c.blockSealed g (b + j) || (c.supplyTo tag g (b + j)).isSome)⟩
    | none, none => ⟨ns, a, i.step.len / 4096, []⟩

/-- An XTS step: the checks of Table 11.6, then each stored block under its namespace's key, its LBA and its tag's generation. With
tags inline the output has the input's layout. -/
def xtsAct (enc : Bool) (tag : Nat) (i : Issued) (m : Mem) (c : Ctl) : Act :=
  match i.srcSlot, i.dstSlot with
  | some x, some d =>
    let inl := Nat.testBit i.step.arg0 31
    let r := c.xtsRange tag enc i
    let w := if inl then 4112 else 4096
    let cause := c.xtsCause r.ns (i.brew.ctxW 7)
    let ten := c.nsTenant r.ns
    if i.step.len % 4096 ≠ 0 ∨ ptrSize x.ptr < w * r.n ∨ ptrSize d.ptr < w * r.n then .refuse m c 0x0B
    else if !inl && i.auxSlot.isNone then .refuse m c 0x02
    else if m.hbmBad (ptrByte x.ptr) (w * r.n) then .refuse m c 0x03
    else if cause ≠ 0 then .refuse m (c.keyFault cause ten false r.ns tag i.inst) 0x04
    else
      let key := Tab.getD c.keys.mat (16 * ten + (match Tab.at? c.car.ns r.ns with | some n => n.kslot | none => 0)) []
      let m1 := (List.range r.n).foldl (fun m1 j =>
        let at_ := ptrByte x.ptr + w * j
        let t := if inl then m.bytes .hbm (at_ + 4096) 16 else m.bytes .hbm (slotAddr i.auxSlot + 16 * j) 16
        let blk := m.bytes .hbm at_ 4096
        let gen := leNat ((t.drop 12).take 4)
        let out := if r.skip.getD j false then blk else Config.xtsBlock enc key r.ns (r.lba + j) gen blk
        m1.put .hbm (ptrByte d.ptr + w * j) (out ++ (if inl then t else []))) m
      .ok m1 (c.tev .cip 0 i.inst none (c.ctxOf tag) (4096 * r.n))
  | _, _ => .refuse m c 0x02

/-- CIP_XTS_ENC (R282, R283). -/
def execCipXtsEnc (tag : Nat) (s : State) : Host.Outcome State Fault Refusal :=
  onAll (fun m c => issue m c tag Cls.cip 0x01 false (xtsAct true tag)) s

/-- CIP_XTS_DEC (R282, R283). -/
def execCipXtsDec (tag : Nat) (s : State) : Host.Outcome State Fault Refusal :=
  onAll (fun m c => issue m c tag Cls.cip 0x02 false (xtsAct false tag)) s

end Sys2Proof.Machine
end

