-- ==== Sys2Proof/Machine/DmaRun.lean ====
section
/-! DEFINITION. The DMA instructions (06_barista_and_dma.md, R134 to R141): fetch, moves, loops, waits, signals, links and ends, and the
completion of instructions in order. -/

namespace Sys2Proof.Machine

/-! ### Host memory, space 3 (R411, R418) -/

/-- Requests for host memory can be sent: bus-master enable, D0, no function reset, and the link powered. -/
def Ctl.hostOpen (c : Ctl) : Bool := c.ept.bme && c.get F.EPT_STAT_dstate == 0 && c.eptLive

/-- Max_Read_Request_Size in bytes: 128 shifted by Device Control [14:12]. -/
def Ctl.mrrs (c : Ctl) : Nat := 128 * 2 ^ min 5 (c.ept.devCtl.toNat / 4096 % 8)

/-- The state with the outstanding reads. -/
def Ctl.setReads (c : Ctl) (rs : Tab EpRead) : Ctl := { c with ept := { c.ept with reads := rs } }

/-- A read request leaves under a tag: at most Max_Read_Request_Size of the bytes left. -/
def Ctl.readSend (c : Ctl) (tag : Nat) (r : EpRead) : Ctl :=
  let n := min r.left c.mrrs
  (c.setReads (Tab.put c.ept.reads tag { r with need := n, src := r.src + n, left := r.left - n, sent := c.dt })).emit (.hostRead tag r.src n)

/-- Reads of a move leave, at most 64 of them outstanding (R411): the last tag free carries what is left. -/
def Ctl.readFan : Nat → Ctl → EpRead → Ctl
  | 0, c, _ => c
  | k + 1, c, r =>
    match Tab.freeKey c.ept.reads 0 64 with
    | none => c
    | some tag =>
      let n := min r.left c.mrrs
      let c1 := c.readSend tag { r with left := n }
      if r.left ≤ n then c1
      else if k = 0 ∨ (Tab.freeKey c1.ept.reads 0 64).isNone then c.readSend tag r
      else Ctl.readFan k c1 { r with dst := r.dst + n, src := r.src + n, left := r.left - n }

/-! ### Data of a move (R134, R136, R137) -/

/-- Words read from registers, in rising order, with what their reads change. -/
def regsRead : Nat → Ctl → Nat → List Byte × Ctl
  | 0, c, _ => ([], c)
  | n + 1, c, off =>
    let r := c.rdReg off
    let q := regsRead n r.2 (off + 4)
    (leBytes 4 r.1.toNat ++ q.1, q.2)

/-- Words written to registers, in rising order. -/
def regsWrite : Nat → Mem → Ctl → Nat → List Byte → Mem × Ctl
  | 0, m, c, _, _ => (m, c)
  | n + 1, m, c, off, bs =>
    let r := wrReg m c off (BitVec.ofNat 32 (leNat (bs.take 4))) true
    regsWrite n r.2.1 r.2.2 (off + 4) (bs.drop 4)

/-- Bytes reach a DMA address of space 0, 1, 2, 3 or 5. -/
def dmaLand (m : Mem) (c : Ctl) (a : Nat) (bs : List Byte) : Mem × Ctl :=
  match dmaSpace a with
  | 3 => (m, c.emit (.hostWrite (dmaOff a) bs))
  | 5 => regsWrite (bs.length / 4) m c (dmaOff a) bs
  | 2 => ((c.memView m).put .sram (dmaOff a) bs, c.samplesDrop)
  | s => (m.put (spaceMem s) (dmaOff a) bs, c)

/-- Source and destination of a move: its addresses and the channel's offsets. -/
def moveSrc (x : DmaChan) (ws : List Word) : Nat := ((wordAt ws 2).toNat * 2 ^ 32 + (wordAt ws 1).toNat + x.srcOff) % 2 ^ 64
def moveDst (x : DmaChan) (ws : List Word) : Nat := ((wordAt ws 4).toNat * 2 ^ 32 + (wordAt ws 3).toNat + x.dstOff) % 2 ^ 64

/-- Whether channel `n` may read, or write, `len` bytes at a DMA address (Table 6.9): its space, the end of the space, and the units of
space 5. -/
def dmaAddrOk (n : Nat) (wr : Bool) (a len : Nat) : Bool :=
  let mgmt := decide (256 ≤ n)
  match dmaSpace a with
  | 0 => decide (dmaOff a + len ≤ spaceSize 0)
  | 1 => decide (dmaOff a + len ≤ spaceSize 1)
  | 2 => mgmt && decide (dmaOff a + len ≤ spaceSize 2)
  | 3 => mgmt && decide (dmaOff a + len ≤ 2 ^ 60)
  | 4 => !mgmt && wr
  | 5 => mgmt && dmaOff a % 4 == 0 && len % 4 == 0 && decide (dmaOff a + len ≤ 0x4000000)
  | _ => false

/-- Bytes at positions of a range that lies at `a`, where a MOVE in flight has its destination: their values are open (R137). -/
def Ctl.moveHit (c : Ctl) (n a : Nat) (k : Nat) : Bool :=
  (c.chan n).flight.any (fun i => !i.done && (insOp (wordAt i.words 0) == 1 || insOp (wordAt i.words 0) == 2)
    && (let d := i.dst; dmaSpace d == dmaSpace a && decide (d ≤ a + k) && decide (a + k < d + getBits (wordAt i.words 5) 23 0)))

/-- Data with free values in place of the bytes whose order against a MOVE in flight is open, at the source or at the destination. -/
def Ctl.moveBlur (c : Ctl) (n src dst : Nat) (bs : List Byte) : List Byte × Ctl :=
  let hit := (List.range bs.length).filter (fun k => c.moveHit n src k || c.moveHit n dst k)
  (hit.foldl (fun (l : List Byte) k => l.set k (BitVec.ofNat 8 (Config.freeNat (c.fv + k)))) bs, if hit.isEmpty then c else c.tookN bs.length)

/-! ### Fetch and completion (R137 to R139) -/

/-- Whether the channel fetches no further: an instruction has ended with a status other than DONE. -/
def DmaChan.blocked (x : DmaChan) : Bool := x.failed.isSome || x.flight.any (fun i => i.done && 2 ≤ i.status)

/-- A program that has failed and has no instruction left in flight is STOPPED. -/
def Ctl.chSettle (c : Ctl) (n : Nat) : Ctl :=
  match (c.chan n).failed with
  | some st => if (c.chan n).flight.isEmpty && c.chState n = 1 then c.chStopped n st else c
  | none => c

/-- Instructions at the head of the flight that have ended are written back in order. -/
def flightDrain : Nat → Mem → Ctl → Nat → Mem × Ctl
  | 0, m, c, _ => (m, c)
  | k + 1, m, c, n =>
    match (c.chan n).flight with
    | i :: _ =>
      if i.done then
        match flightRetire m c n i with
        | (m1, c1) => flightDrain k m1 c1 n
      else (m, c)
    | [] => (m, c)

/-- Writeback of what has ended, and STOPPED when a failed program has drained. -/
def flightSettle (m : Mem) (c : Ctl) (n : Nat) : Mem × Ctl :=
  match flightDrain 8 m c n with
  | (m1, c1) => (m1, c1.chSettle n)

/-- An instruction at the channel's pc joins the flight, the next one standing at `pc`. -/
def Ctl.insJoin (c : Ctl) (n : Nat) (ws : List Word) (st moved dst pc : Nat) (done : Bool) : Ctl :=
  let x := c.chan n
  c.setChan n { x with flight := x.flight ++ [(⟨x.pc, ws, st, moved, dst, done⟩ : DmaIns)], pc := pc }

/-- An instruction that ends as it starts, with a status. -/
def insEnd (m : Mem) (c : Ctl) (n : Nat) (ws : List Word) (st moved pc : Nat) : Mem × Ctl :=
  flightSettle m (c.insJoin n ws st moved 0 pc true) n

/-- A program that cannot fetch its next instruction stops with nothing written back. -/
def chNoFetch (m : Mem) (c : Ctl) (n st : Nat) : Mem × Ctl :=
  let x := c.chan n
  flightSettle m (c.setChan n { x with failed := some (x.failed.getD st) }) n

/-- The next instruction of a channel that runs, if its opcode is one of `ops`: fetched when it may start (R137), refused when it is not
owned, not fetchable, uncorrectable (Table 6.13) or not an opcode of Table 6.10. -/
def insNext (n : Nat) (ops : List Nat) (f : List Word → Nat → Mem → Ctl → Mem × Ctl) (s : State) : Host.Outcome State Fault Refusal :=
  onAll (fun m c =>
    let x := c.chan n
    if c.chState n ≠ 1 || x.move.isSome || x.blocked || c.halted || 4 ≤ x.flight.length then (m, c)
    else if !dmaFetchOk n x.pc then chNoFetch m c n 0x04
    else if dmaSpace x.pc == 0 && m.hbmBad (dmaOff x.pc) 32 then chNoFetch m ((c.faultRecord 0x05 1 0).tev .hbm 3 (hbmStack (dmaOff x.pc)) none none 1) n 0x05
    else
      let ws := dmaFetch (c.memView m) x.pc
      let w0 := wordAt ws 0
      let op := insOp w0
      if !insOwn w0 then chNoFetch m c n 0x0C
      else if op = 0 ∨ 7 < op then insEnd m c n ws 0x02 0 (x.pc + 32)
      else if !ops.contains op || ((insBar w0 || 5 ≤ op) && !x.flight.isEmpty) then (m, c)
      else f ws (x.pc + 32) m c) s

/-! ### MOVE and MOVE_SWAP -/

/-- Pacing of a management channel: DT reaches the least instant for its next MOVE (DMA_CH_PACE_n.interval_us). -/
def Ctl.movePace (c : Ctl) (n : Nat) : Ctl :=
  let c1 := match (c.chan n).moveAt with
    | some t => if 256 ≤ n then c.reach (t + 1000 * c.get (F.DMA_CH_PACE_interval_us n)) else c
    | none => c
  if 256 ≤ n then c1.setChan n { c1.chan n with moveAt := some c1.dt } else c1

/-- Offsets after a move (R136). -/
def Ctl.moveInc (c : Ctl) (n : Nat) (ws : List Word) (len : Nat) : Ctl :=
  let x := c.chan n
  let w6 := wordAt ws 6
  c.setChan n { x with
    srcOff := if getBit w6 1 then (x.srcOff + len) % 2 ^ 64 else x.srcOff
    dstOff := if getBit w6 0 then (x.dstOff + len) % 2 ^ 64 else x.dstOff }

/-- Bytes of a move's source that is no host memory, and what reading it changes. -/
def srcRead (m : Mem) (c : Ctl) (a len : Nat) : List Byte × Ctl :=
  if dmaSpace a = 5 then regsRead (len / 4) c (dmaOff a) else ((c.dirView (c.memView m)).bytes (spaceMem (dmaSpace a)) (dmaOff a) len, c)

/-- Data leaves for the peer in WRITEs of at most 1 MiB (Table 13.3). -/
def Ctl.peerSpill : Nat → Ctl → Nat → Nat → Nat → List Byte → Ctl
  | 0, c, _, _, _, _ => c
  | k + 1, c, n, win, off, bs =>
    if bs.isEmpty then c else Ctl.peerSpill k (c.writeSend (.dma n) win off (bs.take 1048576)) n win (off + 1048576) (bs.drop 1048576)

/-- A move starts: refused with a status and nothing moved; or its data is read and reaches its destination, or leaves for it, and the
instruction is in flight until it completes. -/
def moveStart (n : Nat) (unit : Nat) (swap : Option Nat) (hbmUe : Bool) (ws : List Word) (pc : Nat) (m : Mem) (c0 : Ctl) : Mem × Ctl :=
  let x := c0.chan n
  let src := moveSrc x ws
  let dst := moveDst x ws
  let len := getBits (wordAt ws 5) 23 0
  let ss := dmaSpace src
  let ds := dmaSpace dst
  let far := ss == 3 || ds == 3 || ds == 4
  let tag := c0.ept.reads.freeKey 0 64
  let bad := len == 0 || len % unit != 0 || (swap.isSome && (src % unit != 0 || dst % unit != 0)) || (ds == 4 && len % 64 != 0)
  if far && (x.flight.any (fun i => i.remote && !i.done) || tag.isNone) then (m, c0)
  else if bad then insEnd m c0 n ws 0x03 0 pc
  else if !dmaAddrOk n false src len || !dmaAddrOk n true dst len then insEnd m c0 n ws 0x04 0 pc
  else
    let c := c0.movePace n
    if (ss == 3 || ds == 3) && !c.hostOpen then insEnd m c n ws 0x09 0 pc
    else if ds == 4 && (!c.flag F.PEER_STAT_link_up || c.flag F.PEER_STAT_lost) then insEnd m c n ws 0x0D 0 pc
    else if ds == 1 && c.car.failed then insEnd m c n ws 0x06 0 pc
    else if ss == 0 && (hbmUe || m.hbmBad (dmaOff src) len) then
      let c1 := (c.faultRecord 0x05 1 0).tev .hbm 3 (hbmStack (dmaOff src)) none none 1
      if ds == 4 then insEnd m c1 n ws 0x05 0 pc else
      match dmaLand m (c1.tookN (len + 1)) dst (freeBytes c1.fv len) with
      | (m1, c2) => insEnd m1 c2 n ws 0x05 (Config.freeNat (c1.fv + len) % (len + 1)) pc
    else if ss == 3 then
      let c1 := (c.moveInc n ws len).insJoin n ws 0 0 dst pc false
      (m, Ctl.readFan 64 c1 ⟨n, dst, 0, dmaOff src, len, swap, 0⟩)
    else
      let r := srcRead m c src len
      let bs := match swap with | some k => swapBytes k (len / unit) r.1 | none => r.1
      let q := r.2.moveBlur n src dst bs
      let c1 := (q.2.moveInc n ws len).insJoin n ws 0 len dst pc false
      if ds == 4 then (m, Ctl.peerSpill 16 c1 n (dmaOff dst / 2 ^ 56 % 16) (dmaOff dst % 2 ^ 56) q.1)
      else
        match dmaLand m c1 dst q.1 with
        | (m1, c2) => (m1, if ds == 3 then c2.readSend (tag.getD 0) ⟨n, dst, 0, dmaOff dst, 0, none, 0⟩ else c2)

/-- DMA_MOVE (R136). `hbmUe`: the source meets an uncorrectable HBM word. -/
def execDmaMove (ch : Fin 272) (hbmUe : Bool) (s : State) : Host.Outcome State Fault Refusal :=
  insNext ch [1] (moveStart ch 1 none hbmUe) s

/-- DMA_MOVE_SWAP (R136, Table 6.12). -/
def execDmaMoveSwap (ch : Fin 272) (hbmUe : Bool) (s : State) : Host.Outcome State Fault Refusal :=
  insNext ch [2] (fun ws pc m c =>
    let k := getBits (wordAt ws 0) 21 20
    moveStart ch (swapUnit k) (some k) hbmUe ws pc m c) s

/-! ### Control (R136) -/

/-- DMA_LOOP (R136). -/
def execDmaLoop (ch : Fin 272) (s : State) : Host.Outcome State Fault Refusal :=
  insNext ch [3] (fun ws pc m c =>
    let x := c.chan ch
    let one := getBit (wordAt ws 1) 16
    let count := getBits (wordAt ws 1) 15 0
    let back := getBits (wordAt ws 2) 7 0
    if count = 0 ∨ back = 0 then insEnd m c ch ws 0x02 0 pc
    else
      let left := (if one then x.ctr1 else x.ctr0).getD count - 1
      let k := if left = 0 then none else some left
      let c1 := c.setChan ch (if one then { x with ctr1 := k } else { x with ctr0 := k })
      insEnd m c1 ch ws 0 0 (if left = 0 then pc else (x.pc + 2 ^ 64 - 32 * back) % 2 ^ 64)) s

/-- Semaphore `i`. -/
def Ctl.sem (c : Ctl) (i : Nat) : Nat := Tab.getD c.bst.sems i 0

/-- The state with semaphore `i` at `v`. -/
def Ctl.setSem (c : Ctl) (i v : Nat) : Ctl := { c with bst := { c.bst with sems := Tab.put c.bst.sems i v } }

/-- A WAIT that is satisfied: a semaphore gives its count. -/
def Ctl.waitTake (c : Ctl) (ev count : Nat) : Ctl := if ev < 64 then c.setSem ev (c.sem ev - count) else c

/-- Whether a WAIT is satisfied: the semaphore holds the count, or as many events have occurred since it started. -/
def Ctl.waitMet (c : Ctl) (ev count k : Nat) : Bool := if ev < 64 then decide (count ≤ c.sem ev) else decide (count ≤ k)

/-- DMA_WAIT (R136): satisfied at once, or the channel is in WAIT; an event forbidden to the channel or reserved is BAD_OP. So is an event from 128
to 255, and a count of 0 is satisfied at once (DESIGN CHOICE, notes/assumptions/78.md). -/
def execDmaWait (ch : Fin 272) (s : State) : Host.Outcome State Fault Refusal :=
  insNext ch [4] (fun ws pc m c =>
    let ev := getBits (wordAt ws 1) 7 0
    let count := getBits (wordAt ws 1) 23 8
    let us := (wordAt ws 2).toNat
    if 69 ≤ ev ∨ (64 ≤ ev ∧ ch.val < 256) then insEnd m c ch ws 0x02 0 pc
    else if c.waitMet ev count 0 then insEnd m (c.waitTake ev count) ch ws 0 count pc
    else (m, (c.setChan ch { c.chan ch with wait := some (ev, count, 0, if us = 0 then none else some (c.dt + 1000 * us)) }).toState ch 2)) s

/-- DMA_WAIT_SATISFIED (R136): the count is reached, and the channel runs on. -/
def execDmaWaitSatisfied (ch : Fin 272) (s : State) : Host.Outcome State Fault Refusal :=
  onAll (fun m c =>
    let x := c.chan ch
    match (if c.chState ch = 2 && !c.halted then x.wait else none) with
    | some (ev, count, k, _) =>
      if c.waitMet ev count k then
        insEnd m (((c.waitTake ev count).setChan ch { x with wait := none }).toState ch 1) ch (dmaFetch (c.memView m) x.pc) 0 count (x.pc + 32)
      else (m, c)
    | none => (m, c)) s

/-- DMA_WAIT_TIMEOUT (R136): the timeout comes first, and the program stops with WAIT_TIMEOUT. -/
def execDmaWaitTimeout (ch : Fin 272) (s : State) : Host.Outcome State Fault Refusal :=
  onAll (fun m c =>
    let x := c.chan ch
    match (if c.chState ch = 2 && !c.halted then x.wait else none) with
    | some (ev, count, k, some t) =>
      if c.waitMet ev count k then (m, c)
      else insEnd m (((c.reach t).setChan ch { x with wait := none }).toState ch 1) ch (dmaFetch (c.memView m) x.pc) 0x0B (if ev < 64 then c.sem ev else k) (x.pc + 32)
    | _ => (m, c)) s

/-- DMA_SIGNAL (R136): a semaphore saturates at 65,535; 0xFE posts the starting brew's token; 0xFF interrupts a core; the spec gives no
other target an effect. -/
def execDmaSignal (ch : Fin 272) (s : State) : Host.Outcome State Fault Refusal :=
  insNext ch [5] (fun ws pc m c =>
    let tgt := getBits (wordAt ws 1) 7 0
    let amount := getBits (wordAt ws 1) 23 8
    let c1 := if tgt < 64 then c.setSem tgt (min 65535 (c.sem tgt + amount))
      else if tgt = 0xFE then c.chToken ch 0
      else if tgt = 0xFF then c.emit (.coreIrq (getBits (wordAt ws 2) 0 0))
      else c
    insEnd m c1 ch ws 0 0 pc) s

/-- DMA_LINK (R136, R141): a hand-over edge; the offsets return to 0. -/
def execDmaLink (ch : Fin 272) (s : State) : Host.Outcome State Fault Refusal :=
  insNext ch [6] (fun ws _ m c =>
    let a := (wordAt ws 2).toNat * 2 ^ 32 + (wordAt ws 1).toNat
    match insEnd m c ch ws 0 0 a with
    | (m1, c1) => (m1, (c1.setChan ch { c1.chan ch with srcOff := 0, dstOff := 0 }).handOver ch)) s

/-- DMA_END (R136, R138, R141): written back unless it restarts; the channel is IDLE and the step's token is OK, or starts again at the
DMA_CH_NEXT that the hand-over gives. -/
def execDmaEnd (ch : Fin 272) (s : State) : Host.Outcome State Fault Refusal :=
  insNext ch [7] (fun ws _ m c =>
    let x := c.chan ch
    let w0 := wordAt ws 0
    let again := getBit (wordAt ws 1) 0
    let m1 := if !again || insWb w0 then dmaWriteback m x.pc w0 none 1 else m
    let c1 := c.set (F.DMA_CH_STAT_last_status ch) 1
    if again then
      let c2 := c1.chanStart ch 0 x.brew
      (m1, c2.setChan ch { c2.chan ch with pc := c2.get (F.DMA_CH_NEXT_HI_addr ch) * 2 ^ 32 + c2.get (F.DMA_CH_NEXT_LO_addr ch) })
    else (m1, (((c1.handOver ch).toState ch 0).chToken ch 0))) s

/-- DMA_INSTRUCTION_COMPLETE (R138, R139): the oldest move in flight that waits for nobody outside has ended; what has ended is written back
in order, and a failing status stops the channel. -/
def execDmaInstructionComplete (ch : Fin 272) (s : State) : Host.Outcome State Fault Refusal :=
  onAll (fun m c =>
    if (c.chState ch ≠ 1 ∧ c.chState ch ≠ 2) ∨ c.halted then (m, c)
    else
      let x := c.chan ch
      let fl := match x.flight.findIdx? (fun i => !i.done && !i.remote) with
        | some i => x.flight.modify i (fun d => { d with done := true })
        | none => x.flight
      flightSettle m (c.setChan ch { x with flight := fl }) ch) s

end Sys2Proof.Machine
end

