-- ==== Sys2Proof/Machine/Endpoint.lean ====
section
/-! DEFINITION. The service endpoint (16_service_endpoint.md, R408 to R422): configuration space, device power states, bus-master enable,
function reset, PERST_SL, the completions of space-3 reads, and AER. -/

namespace Sys2Proof.Machine

/-! ### Reads of space 3 (R411, R412, R418) -/

/-- The instruction of channel `n` that waits for host memory, changed. -/
def Ctl.farUpd (c : Ctl) (n : Nat) (f : DmaIns → DmaIns) : Ctl :=
  let x := c.chan n
  match x.flight.findIdx? (fun i => i.remote && !i.done) with
  | some i => c.setChan n { x with flight := x.flight.modify i f }
  | none => c

/-- The status so far of the instruction of channel `n` that waits for host memory. -/
def Ctl.farStatus (c : Ctl) (n : Nat) : Nat :=
  match (c.chan n).flight.find? (fun i => i.remote && !i.done) with
  | some i => i.status
  | none => 0

/-- A read has closed; the instruction whose last read it was ends. -/
def readClose (m : Mem) (c : Ctl) (tag : Nat) (n : Nat) : Mem × Ctl :=
  let c1 := c.setReads (Tab.del c.ept.reads tag)
  if c1.ept.reads.any (fun r => r.2.chan == n) then (m, c1)
  else flightSettle m (c1.farUpd n (fun i => { i with done := true })) n

/-- The instruction of channel `n` fails with a status, unless it already has one; the bytes it has not asked for stay unasked. -/
def Ctl.farFail (c : Ctl) (n st : Nat) : Ctl :=
  let c1 := c.farUpd n (fun i => { i with status := if i.status = 0 then st else i.status })
  c1.setReads (Tab.mapV c1.ept.reads (fun _ r => if r.chan = n then { r with left := 0 } else r))

/-- No request leaves from now on: every instruction with reads outstanding is to end with BME_OFF once they are closed (R418). -/
def Ctl.readsDrop (c : Ctl) : Ctl :=
  (c.ept.reads.map (·.2.chan)).eraseDups.foldl (fun (c : Ctl) n => (c.farFail n 9).farUpd n (fun i => { i with status := 9 })) c

/-- Part of a read's data arrives: it reaches its destination; then more is awaited, the next request leaves, or the read has closed. -/
def readData (m : Mem) (c : Ctl) (tag : Nat) (r : EpRead) (bs : List Byte) : Mem × Ctl :=
  let data := match r.swap with
    | some k => swapBytes k (bs.length / swapUnit k) bs
    | none => bs
  match dmaLand m c r.dst data with
  | (m1, c1) =>
    let c2 := c1.farUpd r.chan (fun i => { i with moved := i.moved + bs.length })
    let r1 := { r with dst := r.dst + bs.length, need := r.need - bs.length }
    if 0 < r1.need then (m1, c2.setReads (Tab.put c2.ept.reads tag r1))
    else if 0 < r1.left then (m1, c2.readSend tag r1)
    else readClose m1 c2 tag r.chan

/-- A completion whose data is dropped: the read closes once all of it has come. -/
def readDrop (m : Mem) (c : Ctl) (tag : Nat) (r : EpRead) (n : Nat) (whole : Bool) : Mem × Ctl :=
  if whole || decide (r.need ≤ n) then readClose m c tag r.chan
  else (m, c.setReads (Tab.put c.ept.reads tag { r with need := r.need - n }))

/-- Whether data cannot be part of what a read asked for. -/
def EpRead.misfit (r : EpRead) (n : Nat) : Bool :=
  0 < r.need && (n == 0 || decide (r.need < n) || (match r.swap with | some k => n % swapUnit k != 0 | none => false))

/-- COMPLETION_RECEIVE (R411 to R413, R418). -/
def execCompletionReceive (tag : Fin 1024) (st : CplStat) (data : List Byte) (s : State) : Host.Outcome State Fault Refusal :=
  onAll (fun m c =>
    if c.ept.d3cold ∨ c.mode = .off ∨ c.mode = .reset then (m, c)
    else match Tab.at? c.ept.reads tag.val with
    | none => (m, if c.ept.bme && !c.flag F.EPT_STAT_flr then c.aerFree .unexpectedCpl true else c)
    | some r =>
      if c.farStatus r.chan = 9 then
        readDrop m (c.bump F.EPT_DISC_CNT_cpl_disc 1) tag r data.length (st == .unsupported || st == .abort)
      else match st with
      | .ok =>
        if r.misfit data.length then (m, c.aerFree .malformed false)
        else if c.farStatus r.chan ≠ 0 then readDrop m c tag r data.length false
        else readData m c tag r (data.take r.need)
      | .poisoned => readDrop m ((c.aerFree .poisoned false).farFail r.chan 7) tag { r with left := 0 } data.length false
      | _ => readDrop m (c.farFail r.chan 7) tag { r with left := 0 } 0 true) s

/-- COMPLETION_TIMEOUT (R412, R418): no earlier than 0.9 ms after the request. -/
def execCompletionTimeout (tag : Fin 1024) (s : State) : Host.Outcome State Fault Refusal :=
  onAll (fun m c0 =>
    match Tab.at? c0.ept.reads tag.val with
    | none => (m, c0)
    | some r =>
      let c := c0.reach (r.sent + 900000)
      if c.farStatus r.chan = 9 then readClose m (c.bump F.EPT_DISC_CNT_cpl_tmo 1) tag r.chan
      else readClose m ((c.aerFree .cplTimeout false).farFail r.chan 8) tag r.chan) s

/-! ### Bus-master enable and power states (R414, R417, R418) -/

/-- Bus Master Enable goes from 1 to 0. -/
def Ctl.bmeClear (c : Ctl) : Ctl :=
  (({ c with ept := { c.ept with bme := false } }).setFlag F.EPT_STAT_bme false).bump F.EPT_RST_CNT_bme_clr 1 |>.readsDrop

/-- Bus Master Enable returns to 1: what waits and still stands is sent. -/
def Ctl.bmeSet (c : Ctl) : Ctl := (({ c with ept := { c.ept with bme := true } }).setFlag F.EPT_STAT_bme true).retryMessages

/-- The function enters D3hot. -/
def Ctl.d3hot (c : Ctl) : Ctl := (c.set F.EPT_STAT_dstate 3).readsDrop.intxUpdate

/-- The function returns to D0 with everything kept. -/
def Ctl.d0 (c : Ctl) : Ctl := (c.set F.EPT_STAT_dstate 0).intxUpdate.retryMessages

/-- Whether configuration requests reach the function and complete normally: link up, BOOT or later, no function reset, and past the
retry instants of R408. -/
def Ctl.cfgReach (c : Ctl) : Bool := !c.ept.d3cold && c.mode != .off && c.mode != .reset
def Ctl.cfgOpen (c : Ctl) : Bool := c.cfgReach && !c.flag F.EPT_STAT_flr && decide (c.ept.crsUntil ≤ c.dt)

/-- PMCSR_D3HOT_ENTER (R414). -/
def execPmcsrD3hotEnter (s : State) : Host.Outcome State Fault Refusal :=
  onCtl (fun _ c => if c.cfgOpen && c.get F.EPT_STAT_dstate == 0 then c.d3hot else c) s

/-- PMCSR_D0_RETURN (R414). -/
def execPmcsrD0Return (s : State) : Host.Outcome State Fault Refusal :=
  onCtl (fun _ c => if c.cfgOpen && c.get F.EPT_STAT_dstate == 3 then c.d0 else c) s

/-- BME_CLEAR (R418). -/
def execBmeClear (s : State) : Host.Outcome State Fault Refusal := onCtl (fun _ c => if c.cfgOpen && c.ept.bme then c.bmeClear else c) s

/-- BME_SET (R417). -/
def execBmeSet (s : State) : Host.Outcome State Fault Refusal := onCtl (fun _ c => if c.cfgOpen && !c.ept.bme then c.bmeSet else c) s

/-- MSIX_UNMASK (R417): a BAR0 write that clears the Mask bit of a table entry. -/
def execMsixUnmask (entry : Fin 6) (s : State) : Host.Outcome State Fault Refusal :=
  onCtl (fun _ c =>
    if !c.eptLive || !c.bar0Open || c.get F.EPT_STAT_dstate == 3 then c
    else (c.wr (Reg.EPT_MSIX entry 3) (setBits (c.rd (Reg.EPT_MSIX entry 3)) 0 0 0)).retryMessages) s

/-! ### Function reset (R419 to R421) -/

/-- Transactions of the mailbox channel that are open are discarded as ROLLBACK discards them. -/
def Ctl.mailboxRollback (c : Ctl) : Ctl :=
  { c with mgt := { c.mgt with txns := c.mgt.txns.filter (fun p => !(p.2.owner == 0 && p.2.state == 1)) } }

/-- Words of registers return to their reset values. -/
def Ctl.wordsReset (c : Ctl) (offs : List Nat) : Ctl := offs.foldl (fun (c : Ctl) o => c.wr o (Reg.resetWord o)) c

/-- Step 5 of Table 16.5: configuration space, EPT registers and mailbox state at reset values, except the sticky bits and the counters
(R420); sessions over Data Object Exchange end (R443). -/
def eptReset (m : Mem) (c : Ctl) : Mem × Ctl :=
  let e := Ept.reset
  let c1 := { c with ept := { e with
    pmeEn := c.ept.pmeEn, pmeStat := c.ept.pmeStat, d3cold := c.ept.d3cold, crsUntil := c.ept.crsUntil, reads := c.ept.reads } }
  let c2 := c1.wordsReset ([Reg.EPT_INT_STAT, Reg.EPT_INT_EN, Reg.EPT_MSIX_PBA, Reg.MGT_MB_DB, Reg.MGT_MB_STAT, Reg.MGT_TXN_SEL]
    ++ (List.range 24).map (fun i => Reg.EPT_MSIX (i / 4) (i % 4)))
  let c3 := ((c2.set F.EPT_STAT_dstate 0).setFlag F.EPT_STAT_bme false).setFlag F.EPT_STAT_flr false
  let c4 := (c3.chanReset 0).mailboxRollback
  let c5 := { c4 with
    mgt := { c4.mgt with taken := c4.mgt.taken.filter (fun t => t.chan != 0) }
    trust := { c4.trust with sessions := c4.trust.sessions.filter (fun p => p.2.peer != 0), peers := Tab.del c4.trust.peers 0 } }
  ({ m with bar2 := [] }, c5.intLevels.intxUpdate)

/-- FUNCTION_LEVEL_RESET (R419), steps 1 and 2. -/
def Ctl.flrStart (c : Ctl) : Ctl := ((c.setFlag F.EPT_STAT_flr true).bump F.EPT_RST_CNT_flr 1).readsDrop.intxUpdate

/-- FUNCTION_LEVEL_RESET (R419). -/
def execFunctionLevelReset (s : State) : Host.Outcome State Fault Refusal := onCtl (fun _ c => if c.cfgOpen then c.flrStart else c) s

/-- FLR_DONE (R419, R420): every outstanding read has closed and every affected channel has stopped. -/
def execFlrDone (s : State) : Host.Outcome State Fault Refusal :=
  onAll (fun m c => if c.flag F.EPT_STAT_flr && c.ept.reads.isEmpty then eptReset m c else (m, c)) s

/-- The link is up at a speed code and a width. -/
def Ctl.eptLinkUp (c : Ctl) (speed width : Nat) : Ctl :=
  (((c.setFlag F.EPT_STAT_link_up true).set F.EPT_STAT_speed speed).set F.EPT_STAT_width width).setFlag F.EPT_STAT_wake false

/-- The link is down. -/
def Ctl.eptLinkDown (c : Ctl) : Ctl := ((c.setFlag F.EPT_STAT_link_up false).set F.EPT_STAT_speed 0).set F.EPT_STAT_width 0

/-- PERST_SL_ASSERT (R414, R421): reset as by an FLR, and D3cold. Reads outstanding still close by their timeouts. -/
def execPerstSlAssert (s : State) : Host.Outcome State Fault Refusal :=
  onAll (fun m c =>
    if c.ept.d3cold ∨ c.mode = .off ∨ c.mode = .reset then (m, c)
    else
      let c1 := ((c.eptLinkDown.setFlag F.EPT_STAT_perst true).bump F.EPT_RST_CNT_perst 1).readsDrop
      eptReset m { c1 with ept := { c1.ept with d3cold := true } }) s

/-- Lanes of a trained link. -/
def laneWidth (w : Fin 3) : Nat := 2 ^ w.val

/-- PERST_SL_DEASSERT (R408, R421): the link trains at a speed code and 1, 2 or 4 lanes, and WAKE_N is released. -/
def execPerstSlDeassert (speed : Fin 5) (width : Fin 3) (s : State) : Host.Outcome State Fault Refusal :=
  onCtl (fun _ c =>
    if !c.ept.d3cold || c.mode == .off || c.mode == .reset then c
    else
      let c1 := (c.setFlag F.EPT_STAT_perst false).eptLinkUp (speed.val + 1) (laneWidth width)
      ({ c1 with ept := { c1.ept with d3cold := false, crsUntil := max c1.ept.crsUntil (c1.dt + 100000000) } }).intxUpdate) s

/-- A hot reset or a link-down: reset as by an FLR, and the link trains again. -/
def linkReset (speed : Fin 5) (width : Fin 3) (m : Mem) (c : Ctl) : Mem × Ctl :=
  if c.ept.d3cold ∨ c.mode = .off ∨ c.mode = .reset then (m, c)
  else eptReset m (((c.bump F.EPT_RST_CNT_link 1).eptLinkUp (speed.val + 1) (laneWidth width)).readsDrop)

/-- HOT_RESET (R421). -/
def execHotReset (speed : Fin 5) (width : Fin 3) (s : State) : Host.Outcome State Fault Refusal := onAll (linkReset speed width) s

/-- ENDPOINT_LINK_DOWN (R421). -/
def execEndpointLinkDown (speed : Fin 5) (width : Fin 3) (s : State) : Host.Outcome State Fault Refusal :=
  onAll (fun m c => linkReset speed width m c) s

/-! ### AER (R413) -/

/-- AER_ERROR (R413): an error of Table 16.3, whether it is handled as advisory, and the header of its TLP. -/
def execAerError (e : AerErr) (advisory : Bool) (hdr : List Word) (s : State) : Host.Outcome State Fault Refusal :=
  onCtl (fun _ c => if c.ept.d3cold ∨ c.mode = .off ∨ c.mode = .reset then c else c.aerLog e advisory hdr) s

/-! ### Configuration space (R408, R409, Tables 16.1 and 16.2) -/

/-- A word of the capability structures as last written. -/
def Ctl.capWord (c : Ctl) (r : Nat) : Word := Tab.getD c.ept.capWords r 0

/-- The state with a word of the capability structures. -/
def Ctl.setCap (c : Ctl) (r : Nat) (v : Word) : Ctl := { c with ept := { c.ept with capWords := Tab.put c.ept.capWords r v } }

/-- One bit as a number. -/
def b2n (b : Bool) : Nat := if b then 1 else 0

/-- A power of two's exponent, up to 3. -/
def log2of (n : Nat) : Nat := if n = 8 then 3 else if n = 4 then 2 else if n = 2 then 1 else 0

/-- The configuration word at a DW offset, at the bit places of PCI Express (notes/assumptions/32.md). Words to which Table 16.1, Table 16.2
and the PCI Express layout give no value are open. -/
def Ctl.cfgRead (c : Ctl) (r : Nat) : Word :=
  let e := c.ept
  let w (n : Nat) : Word := BitVec.ofNat 32 n
  let vid := Config.vendorId.toNat
  if r = 0x00 then w (vid + 0x7240 * 2 ^ 16)
  else if r = 0x04 then
    w ((e.command.toNat &&& 0x0142) + 4 * b2n e.bme + 1024 * b2n e.intxDis + 2 ^ 20
      + 2 ^ 19 * b2n ((c.get F.EPT_INT_STAT_src &&& c.get F.EPT_INT_EN_src) != 0))
  else if r = 0x08 then w (c.get F.GLB_ID_rev % 256 + 0x088000 * 256)
  else if r = 0x10 ∨ r = 0x18 then w ((Tab.getD e.bars (r / 4 - 4) 0).toNat + 4)
  else if r = 0x14 ∨ r = 0x1C then Tab.getD e.bars (r / 4 - 4) 0
  else if r = 0x2C then w (vid + 2 ^ 16 * b2n c.power.slotId)
  else if r = 0x34 then w 0x40
  else if r = 0x3C then w ((c.capWord r).toNat % 256 + 0x0100)
  else if r < 0x40 then 0
  else if r = 0x40 then w (0x0001 + 0x50 * 256 + (3 + 2 ^ 11 + 2 ^ 14 + 2 ^ 15) * 2 ^ 16)
  else if r = 0x44 then w (c.get F.EPT_STAT_dstate + 8 + 256 * b2n e.pmeEn + 2 ^ 15 * b2n e.pmeStat)
  else if r = 0x50 then w (0x0005 + 0x70 * 256 + (b2n e.msiEn + 6 + 16 * log2of e.msiN + 128 + 256) * 2 ^ 16)
  else if r = 0x54 then w (e.msiAddr.toNat % 2 ^ 32)
  else if r = 0x58 then w (e.msiAddr.toNat / 2 ^ 32)
  else if r = 0x5C then w e.msiData.toNat
  else if r = 0x60 then w e.msiMask.toNat
  else if r = 0x64 then w e.msiPend.toNat
  else if r = 0x70 then w (0x0011 + 0x80 * 256 + (5 + 2 ^ 14 * b2n e.msixMask + 2 ^ 15 * b2n e.msixEn) * 2 ^ 16)
  else if r = 0x74 then w 0x01801000
  else if r = 0x78 then w 0x01801800
  else if r = 0x80 then w (0x0010 + 2 * 2 ^ 16)
  else if r = 0x84 then w (2 + 2 ^ 5 + 2 ^ 15 + 2 ^ 28)
  else if r = 0x88 then w (e.devCtl.toNat % 2 ^ 15 + e.devStat.toNat * 2 ^ 16 + 2 ^ 21 * b2n (!e.reads.isEmpty))
  else if r = 0x8C then w (5 + 4 * 16 + 2 * 2 ^ 10)
  else if r = 0x90 then w ((c.capWord r).toNat % 2 ^ 16 + (c.get F.EPT_STAT_speed + 16 * c.get F.EPT_STAT_width) * 2 ^ 16)
  else if r = 0xA4 then w (2 ^ 16 + 2 ^ 17)
  else if r = 0x100 then w (0x0001 + 2 * 2 ^ 16 + 0x150 * 2 ^ 20)
  else if r = 0x104 then e.aerUStat
  else if r = 0x108 then e.aerUMask
  else if r = 0x10C then e.aerUSev
  else if r = 0x110 then e.aerCStat
  else if r = 0x114 then e.aerCMask
  else if r = 0x118 then w (e.aerFirst.getD 0 + ((c.capWord r).toNat &&& 0x140) + 2 ^ 5 + 2 ^ 7)
  else if 0x11C ≤ r ∧ r < 0x12C then wordAt e.hdrLog ((r - 0x11C) / 4)
  else if r = 0x150 then w (0x0003 + 2 ^ 16 + 0x160 * 2 ^ 20)
  else if r = 0x154 then w (Config.serial.toNat % 2 ^ 32)
  else if r = 0x158 then w (Config.serial.toNat / 2 ^ 32)
  else if r = 0x160 then w (0x0019 + 2 ^ 16 + 0x180 * 2 ^ 20)
  else if r = 0x180 then w (0x0026 + 2 ^ 16 + 0x1C0 * 2 ^ 20)
  else if r = 0x1C0 then w (0x002A + 2 ^ 16 + 0x200 * 2 ^ 20)
  else if r = 0x200 then w (0x0027 + 2 ^ 16 + 0x240 * 2 ^ 20)
  else if r = 0x240 then w (0x002E + 2 ^ 16)
  else Config.cfgWord r (c.capWord r)

/-- The bytes of a word that a request enables. -/
def cfgMerge (old new : Word) (be : BitVec 4) : Word :=
  let k := (List.range 4).foldl (fun (k : Word) i => if be.getLsbD i then k ||| BitVec.ofNat 32 (255 * 2 ^ (8 * i)) else k) 0
  (old &&& ~~~ k) ||| (new &&& k)

/-- Bits of a word that software clears by writing 1, in the bytes enabled. -/
def cfgOnes (new : Word) (be : BitVec 4) : Word := cfgMerge 0 new be

/-- The Command register is written: bus-master enable and Interrupt Disable take effect. -/
def Ctl.cfgCommand (c : Ctl) (v : Word) : Ctl :=
  let bme := v.getLsbD 2
  let c1 := { c with ept := { c.ept with command := BitVec.ofNat 16 (v.toNat % 2 ^ 16 &&& 0x0142), intxDis := v.getLsbD 10 } }
  let c2 := if c.ept.bme && !bme then c1.bmeClear else if !c.ept.bme && bme then c1.bmeSet else c1
  c2.intxUpdate

/-- Power Management Control and Status is written: power state, PME_En, and PME_Status where a 1 clears it, which releases WAKE_N. -/
def Ctl.cfgPmcsr (c : Ctl) (v one : Word) : Ctl :=
  let clr := one.getLsbD 15
  let c1 := { c with ept := { c.ept with pmeEn := v.getLsbD 8, pmeStat := c.ept.pmeStat && !clr } }
  let c2 := if clr then c1.setFlag F.EPT_STAT_wake false else c1
  match getBits v 1 0 with
  | 3 => if c.get F.EPT_STAT_dstate = 0 then c2.d3hot else c2
  | 0 => if c.get F.EPT_STAT_dstate = 3 then c2.d0 else c2
  | _ => c2

/-- Device Control and Status is written; Initiate Function Level Reset starts the reset. -/
def Ctl.cfgDevCtl (c : Ctl) (v one : Word) : Ctl :=
  let c1 := { c with ept := { c.ept with
    devCtl := BitVec.ofNat 16 (v.toNat % 2 ^ 15), devStat := c.ept.devStat &&& ~~~ BitVec.ofNat 4 (getBits one 19 16) } }
  if one.getLsbD 15 then c1.flrStart else c1

/-- A configuration word is written. -/
def Ctl.cfgWrite (c : Ctl) (r : Nat) (be : BitVec 4) (new : Word) : Ctl :=
  let v := cfgMerge (c.cfgRead r) new be
  let one := cfgOnes new be
  let e := c.ept
  if r = 0x04 then c.cfgCommand v
  else if r = 0x10 then { c with ept := { e with bars := Tab.put e.bars 0 (v &&& 0xFC000000) } }
  else if r = 0x18 then { c with ept := { e with bars := Tab.put e.bars 2 (v &&& 0xFFF00000) } }
  else if r = 0x14 ∨ r = 0x1C then { c with ept := { e with bars := Tab.put e.bars (r / 4 - 4) v } }
  else if r = 0x3C then c.setCap r (v &&& 0xFF)
  else if r = 0x44 then c.cfgPmcsr v one
  else if r = 0x50 then
    ({ c with ept := { e with msiEn := v.getLsbD 16, msiN := 2 ^ min 3 (getBits v 22 20) } }).intxUpdate.retryMessages
  else if r = 0x54 then { c with ept := { e with msiAddr := BitVec.ofNat 64 (e.msiAddr.toNat / 2 ^ 32 * 2 ^ 32 + v.toNat / 4 * 4) } }
  else if r = 0x58 then { c with ept := { e with msiAddr := BitVec.ofNat 64 (v.toNat * 2 ^ 32 + e.msiAddr.toNat % 2 ^ 32) } }
  else if r = 0x5C then { c with ept := { e with msiData := BitVec.ofNat 16 v.toNat } }
  else if r = 0x60 then ({ c with ept := { e with msiMask := BitVec.ofNat 8 v.toNat } }).retryMessages
  else if r = 0x70 then ({ c with ept := { e with msixEn := v.getLsbD 31, msixMask := v.getLsbD 30 } }).intxUpdate.retryMessages
  else if r = 0x88 then c.cfgDevCtl v one
  else if r = 0x104 then
    let st := e.aerUStat &&& ~~~ one
    { c with ept := { e with aerUStat := st, aerFirst := e.aerFirst.bind (fun b => if st.getLsbD b then some b else none) } }
  else if r = 0x108 then { c with ept := { e with aerUMask := v } }
  else if r = 0x10C then { c with ept := { e with aerUSev := v } }
  else if r = 0x110 then { c with ept := { e with aerCStat := e.aerCStat &&& ~~~ one } }
  else if r = 0x114 then { c with ept := { e with aerCMask := v } }
  else if r < 0x80 ∨ r = 0x80 ∨ r = 0x84 ∨ r = 0x8C ∨ r = 0xA4 ∨ (0x100 ≤ r ∧ r < 0x118) ∨ (0x11C ≤ r ∧ r < 0x160) then c
  else c.setCap r v

/-- PCIE_CONFIG_REQUEST (R408): a read or a write of a configuration word, answered with Configuration Request Retry Status until the
function completes requests. -/
def execPcieConfigRequest (write : Bool) (reg : Fin 1024) (be : BitVec 4) (value : Word) (s : State) : Host.Outcome State Fault Refusal :=
  onCtl (fun _ c =>
    let r := 4 * reg.val
    if !c.cfgReach then c
    else if !c.cfgOpen then c.emit .cfgCrs
    else if write then (c.cfgWrite r be value).emit (.cfgCpl 0)
    else c.emit (.cfgCpl (c.cfgRead r))) s

end Sys2Proof.Machine
end

