-- ==== Sys2Proof/Machine/PairLink.lean ====
section
/-! DEFINITION. The Kweistash link: its flits, lanes and messages, heartbeats, inbound WRITEs, mirrored configuration and keys, shadow
replay, and mirror sync (13_pairing_and_failover.md, R322 to R334, R350, R351; R56 to R60 of 03_modes_and_startup.md). -/

namespace Sys2Proof.Machine

/-- The device has left RESET and holds in no safe stop, so that it runs the links to the peer and the witness. -/
def Ctl.awake (c : Ctl) : Bool := c.mode != .off && c.mode != .reset && c.power.stop.isNone

/-- A message of the peer can arrive. -/
def Ctl.peerHears (c : Ctl) : Bool := c.awake && c.flag F.PEER_STAT_link_up

/-- A row of a message of the peer. -/
def peerRow (f : Mem → Ctl → Mem × Ctl) (s : State) : Host.Outcome State Fault Refusal :=
  onAll (fun m c => if c.peerHears then f m c else (m, c)) s

/-! ### Links up and down (R151, R152, R325, R350) -/

/-- The flit layer starts anew with a link that trains (R327). -/
def Ctl.flitReset (c : Ctl) : Ctl :=
  { c with pair := { c.pair with txSeq := 0, txAck := 0, credit := 1024, rxSeq := 0, rxHeld := 0 } }

/-- Whether a pair of lanes has none that failed. -/
def lanePair (bad : BitVec 4) (k : Nat) : Bool := !bad.getLsbD (2 * k) && !bad.getLsbD (2 * k + 1)

/-- PEER_STAT.lanes for the lanes that have failed: 2 all four, 1 a pair, 0 none. -/
def laneCode (bad : BitVec 4) : Nat := if bad = 0 then 2 else if lanePair bad 0 || lanePair bad 1 then 1 else 0

/-- The peer link is down: the active treats the peer as lost (fault 0x13), and a device that waits for the peer to take the lease treats
it as absent (R57). -/
def peerDown (m : Mem) (c : Ctl) : Mem × Ctl :=
  if !c.flag F.PEER_STAT_link_up then (m, c)
  else
    let waited := c.mode == .standby && !c.lease && c.pair.waits
    let c1 := (((c.setFlag F.PEER_STAT_link_up false).set F.PEER_STAT_lanes 0).flitReset).linkDown peerLink
    let c2 := if c1.lease && !c1.flag F.PEER_STAT_lost && !c1.halted && c1.flag F.PEER_CFG_en then c1.faultRecord 0x13 0 0 else c1
    match (if c2.flag F.PEER_CFG_en then peerLostAll m c2 else (m, c2)) with
    | (m1, c3) => (m1, if waited then c3.startRequest else c3)

/-- LINK_DOWN (R151), after `cells` cell times: links 24 to 47 are the drive ports, 48 is the Kweistash link. -/
def execLinkDown (link : Fin 49) (cells : Nat) (s : State) : Host.Outcome State Fault Refusal :=
  onAll (fun m c0 =>
    if link.val < 24 || !c0.awake then (m, c0) else
    let c := (c0.cellsTill link cells).2
    if link.val = 48 then peerDown m { c with pair := { c.pair with laneBad := 0 } }
    else
      let b := link.val - 24
      if Tab.at? c.rbd.ports b == some true then
        (m, ({ c with rbd := { c.rbd with ports := Tab.put c.rbd.ports b false, downAt := Tab.put c.rbd.downAt b c.dt } }).linkDown link)
      else (m, c.linkDown link)) s

/-- LINK_UP (R152): the Kweistash link comes up on the lanes that have not failed since it began to train, and a HELLO leaves
(Table 13.3). -/
def execLinkUp (link : Fin 49) (s : State) : Host.Outcome State Fault Refusal :=
  onCtl (fun _ c =>
    if link.val < 24 || !c.awake then c
    else if link.val = 48 then
      (if c.flag F.PEER_STAT_link_up then c
       else
        let bad := if laneCode c.pair.laneBad = 0 then 0 else c.pair.laneBad
        let c1 := { c with pair := { c.pair with laneBad := bad } }
        ((((c1.setFlag F.PEER_STAT_link_up true).set F.PEER_STAT_lanes (laneCode bad)).flitReset).linkUp peerLink).sayHello false)
    else
      let b := link.val - 24
      let c1 := if Tab.has c.rbd.downAt b then
          { c with rbd := { c.rbd with ports := Tab.put c.rbd.ports b true, downAt := Tab.del c.rbd.downAt b } } else c
      c1.linkUp link) s

/-- PEER_LANE_FAIL (R325): the link retrains on a pair with no failed lane, or goes down. -/
def execPeerLaneFail (lane : Fin 4) (s : State) : Host.Outcome State Fault Refusal :=
  onAll (fun m c =>
    if !c.awake then (m, c)
    else
      let bad := c.pair.laneBad ||| BitVec.ofNat 4 (2 ^ lane.val)
      let c1 := { c with pair := { c.pair with laneBad := bad } }
      if !c1.flag F.PEER_STAT_link_up then (m, c1)
      else if laneCode bad = 0 then peerDown m c1
      else (m, (((c1.bump (F.PEER_CNT_count 9) 1).set F.PEER_STAT_lanes 1).flitReset).emit (.peer (.retrain (if lanePair bad 0 then 3 else 12))))) s

/-! ### Flits and NAKs (R327, R333) -/

/-- PEER_FLIT_RECEIVE (R327): class 0 idle, 1 and 2 message, 3 control, 4 acknowledgement only. A flit whose crc fails (fault 0x16) or whose
fseq is not the next expected gets NAK cause 1 with the expected fseq; else acknowledgement and credit count. -/
def execPeerFlitReceive (crcOk : Bool) (cls : Fin 5) (fseq ack credit : Fin 65536) (s : State) : Host.Outcome State Fault Refusal :=
  onCtl (fun _ c =>
    let numbered := decide (1 ≤ cls.val) && decide (cls.val ≤ 3)
    if !c.peerHears then c
    else if !crcOk then (c.faultRecord 0x16 0 0).peerSend (.nak 1 c.pair.rxSeq)
    else if numbered && fseq.val != c.pair.rxSeq then c.peerSend (.nak 1 c.pair.rxSeq)
    else
      { c with pair := { c.pair with
          txAck := (ack.val + 1) % 65536
          credit := min 1024 (c.pair.credit + credit.val)
          rxSeq := if numbered then (fseq.val + 1) % 65536 else c.pair.rxSeq
          rxHeld := if numbered then c.pair.rxHeld + 1 else c.pair.rxHeld } }) s

/-- NAK cause 2 of a WRITE: after nak_retries of them its sender stops; else the epoch is asked for and the message waits (R333). -/
def nakEpoch (m : Mem) (c : Ctl) (tag : PeerTag) : Mem × Ctl :=
  let wait (c : Ctl) : Ctl := ({ c with pair := { c.pair with resend := if c.pair.resend.contains tag then c.pair.resend else c.pair.resend ++ [tag] } }).peerSend .epochQuery
  match tag with
  | .mirror q =>
    let n := Tab.getD c.pair.mirNaks q 0 + 1
    if c.get F.PEER_CFG_nak_retries ≤ n then peerLostAll m c
    else (m, wait { c with pair := { c.pair with mirNaks := Tab.put c.pair.mirNaks q n } })
  | .own k =>
    match Tab.at? c.pair.writes k with
    | none => (m, c)
    | some w =>
      if c.get F.PEER_CFG_nak_retries ≤ w.naks + 1 then (m, c.writeRefused k)
      else (m, wait { c with pair := { c.pair with writes := Tab.put c.pair.writes k { w with naks := w.naks + 1 } } })

/-- PEER_NAK_RECEIVE (R327, R333): cause 1 resends `resent` flits from `fseq`; causes 2 EPOCH, 3 RANGE and 4 CLOSED refuse the WRITE
`tag`. -/
def execPeerNakReceive (cause : Fin 5) (fseq : Fin 65536) (tag : PeerTag) (resent : Nat) (s : State) : Host.Outcome State Fault Refusal :=
  peerRow (fun m c =>
    let c1 := c.bump (F.PEER_CNT_count 3) 1
    match cause.val with
    | 1 => (m, (c1.bump (F.PEER_CNT_count 0) resent).peerSend (.resend fseq))
    | 2 => nakEpoch m c1 tag
    | 0 => (m, c)
    | _ => match tag with
      | .mirror _ => peerLostAll m c1
      | .own k => (m, c1.writeRefused k)) s

/-- The WRITE of a tag leaves again under the epoch learned. -/
def Ctl.writeAgain (c : Ctl) : PeerTag → Ctl
  | .mirror q => c.emit (.mirror [q])
  | .own k => match Tab.at? c.pair.writes k with
    | some w => c.peerSend (.write (.own k) w.win (c.get F.PEER_WIN_EPOCH_tx) w.off w.data)
    | none => c

/-- PEER_EPOCH_INFO (R333): the peer's window epoch; refused messages are sent again. -/
def execPeerEpochInfo (epoch : Fin 65536) (s : State) : Host.Outcome State Fault Refusal :=
  peerRow (fun m c =>
    let c1 := c.set F.PEER_WIN_EPOCH_tx epoch
    (m, c1.pair.resend.foldl Ctl.writeAgain { c1 with pair := { c1.pair with resend := [] } })) s

/-- PEER_EPOCH_QUERY (R331). -/
def execPeerEpochQuery (s : State) : Host.Outcome State Fault Refusal := peerRow (fun m c => (m, c.sayEpoch)) s

/-- PEER_WACK (R329): a WRITE is persistent on the peer. -/
def execPeerWack (tag : PeerTag) (s : State) : Host.Outcome State Fault Refusal :=
  peerRow (fun m c => (m, match tag with
    | .mirror q => (({ c with pair := { c.pair with mirNaks := Tab.del c.pair.mirNaks q } }).peerPersistent q)
    | .own k => c.writeDone k)) s

/-! ### HELLO (R328, R56, R58) -/

/-- The pair is mis-strapped: the flag and its event, once. -/
def Ctl.slotConflict (c : Ctl) : Ctl :=
  if c.flag F.GLB_MODE_STAT_slot_conflict then c else (c.setFlag F.GLB_MODE_STAT_slot_conflict true).faultRecord 0x88 1 0

/-- PEER_HELLO (R328): one with answer flag 0 is answered; it tells the peer's mode, epoch and slot. A standby joins a peer that
serves. -/
def execPeerHello (h : HelloMsg) (s : State) : Host.Outcome State Fault Refusal :=
  peerRow (fun m c =>
    let c1 := ({ c with
      pair := { c.pair with hello := some h }
      power := { c.power with peerAbsent := false } }).set F.PEER_STAT_peer_mode h.mode
    let c2 := if c1.mode = .boot then c1.setFlag F.GLB_START_STAT_peer_found true else c1
    let c3 := if (h.slot == 1) == c2.power.slotId then c2.slotConflict else c2
    let c4 := if h.answer then c3 else c3.sayHello true
    (m, if c4.startCase == .join then c4.joinSync else c4)) s

/-! ### Heartbeats (R330, R338, R339) -/

/-- The heartbeat that a device sends now. -/
def Ctl.hbMsg (c : Ctl) : HbMsg :=
  { num := c.pair.hbNum, mode := c.get F.GLB_MODE_STAT_mode, lease := c.lease, epoch := c.epoch, head := c.car.head - 1
    applied := (c.rd Reg.PEER_APPLIED_LO).toNat + 2 ^ 32 * (c.rd Reg.PEER_APPLIED_HI).toNat, echo := c.pair.hbPeer
    endorse := c.flag F.PEER_STAT_endorsing, commit := c.pair.commit, bays := (List.range 24).map c.chSt
    members := (List.range 24).map c.memState, synced := c.flag F.GLB_MODE_STAT_peer_synced }

/-- Sets whose commit a heartbeat reports are applied (R324). -/
def applyHeld (m : Mem) (c : Ctl) (ids : List Nat) : Mem × Ctl :=
  ids.foldl (fun (a : Mem × Ctl) id =>
    (a.2.pair.held.filter (fun h => h.txn == id)).foldl (fun (a : Mem × Ctl) h =>
      applySet a.1 { a.2 with pair := { a.2.pair with held := a.2.pair.held.filter (fun x => x != h) } } h) a) (m, c)

/-- What a standby does with a heartbeat of the active: its epoch while synced (R323), committed sets (R324), the loss it reports (R351),
and the join of an unsynced standby (R60). -/
def hbStandby (m : Mem) (c : Ctl) (was : Option HbMsg) (h : HbMsg) : Mem × Ctl :=
  let c1 := if c.flag F.GLB_MODE_STAT_peer_synced && c.epoch != h.epoch then c.storeEpoch h.epoch else c
  match applyHeld m c1 h.commit with
  | (m1, c2) =>
    let dropped := c2.flag F.GLB_MODE_STAT_peer_synced && !h.synced && (match was with | some w => w.synced | none => false)
    let c3 := if dropped then c2.standbyLost else c2
    (m1, c3.joinSync)

/-- What a lease holder does with a heartbeat: mirroring begins with a peer in STANDBY once replay is complete (R60, R217), and a peer
that leaves STANDBY without the lease is lost (R350). -/
def hbActive (m : Mem) (c : Ctl) (was : Option HbMsg) (h : HbMsg) : Mem × Ctl :=
  if h.mode = 4 then
    (m, if !h.lease && c.flag F.PEER_CFG_en && !c.flag F.GLB_MODE_STAT_slot_conflict && !c.flag F.GLB_MODE_STAT_peer_synced
        && !c.pair.syncing && c.flag F.GLB_START_STAT_replay_done && !c.halted then
      ({ c with pair := { c.pair with syncing := true } }).setFlag F.CAR_STAT_mirror true else c)
  else if !h.lease && c.flag F.PEER_CFG_en && (c.mirroring || (match was with | some w => w.mode == 4 | none => false)) then peerLostAll m c
  else (m, c)

/-- PEER_HEARTBEAT (R330): a valid heartbeat clears suspicion; an endorsement that echoes a heartbeat of the lease holder extends its
lease (R338). -/
def execPeerHeartbeat (h : HbMsg) (s : State) : Host.Outcome State Fault Refusal :=
  peerRow (fun m c =>
    let was := c.pair.last
    let ends := if c.lease && h.endorse then (Tab.at? c.pair.hbSent h.echo).map (· + 40000000) else none
    let c1 := { c with pair := { c.pair with
      hbPeer := h.num, hbAt := some c.dt, last := some h, misses := 0, asked := false, retryAt := none, refEnd := none
      beganAt := if c.pair.freed || c.lease then c.pair.beganAt else none
      shadowed := if h.lease then some (h.bays, h.members) else c.pair.shadowed
      endEnd := match ends with | some t => some t | none => c.pair.endEnd } }
    let c2 := ((c1.setFlag F.PEER_STAT_suspect false).set F.PEER_STAT_peer_mode h.mode).setFlag F.PEER_STAT_endorse_rx h.endorse
    match (if c2.lease then hbActive m c2 was h else if h.lease && c2.mode == .standby then hbStandby m c2 was h else (m, c2)) with
    | (m1, c3) => (m1, c3.setFlag F.PEER_STAT_endorsing c3.endorseOk)) s

/-- The conditions of R343 but for the message or tick that brings them: a synced, paired standby. -/
def Ctl.mayAcquire (c : Ctl) : Bool :=
  c.mode == .standby && !c.lease && c.flag F.GLB_MODE_STAT_peer_synced && c.flag F.PEER_CFG_en && !c.flag F.GLB_MODE_STAT_slot_conflict

/-- The peer has become suspect: the active treats it as lost (fault 0x14), a synced standby has detected fault 0x01 and asks for the
lease (R343). -/
def suspectPeer (m : Mem) (c : Ctl) : Mem × Ctl :=
  let c1 := (((c.setFlag F.PEER_STAT_suspect true).bump (F.PEER_CNT_count 5) 1).setFlag F.PEER_STAT_endorsing false)
  let c2 := { c1 with pair := { c1.pair with beganAt := match c1.pair.beganAt with | some t => some t | none => some c1.dt, refEnd := none } }
  if !c2.flag F.PEER_CFG_en then (m, c2)
  else if c2.lease then
    peerLostAll m (if c2.flag F.PEER_STAT_lost || c2.halted then c2 else c2.faultRecord 0x14 0 0)
  else
    let served := c2.mode == .standby && (match c2.pair.last with | some h => h.lease | none => false)
    let c3 := if served || c2.mayAcquire then c2.faultRecord 0x01 1 0 else c2
    (m, if c3.mayAcquire then c3.acquire else c3)

/-- The heartbeat of a tick leaves: its time is kept for the echo, and with endorsement r moves on (R339). -/
def Ctl.hbSend (c : Ctl) : Ctl :=
  let c1 := c.setFlag F.PEER_STAT_endorsing c.endorseOk
  let n := c1.pair.hbNum + 1
  let c2 := { c1 with pair := { c1.pair with
    hbNum := n, hbSent := Tab.put (c1.pair.hbSent.filter (fun p => decide (n < p.1 + 64))) n c1.dt
    rAt := if c1.flag F.PEER_STAT_endorsing then c1.pair.hbAt else c1.pair.rAt, rxHeld := 0 } }
  let c3 := c2.peerSend (.heartbeat c2.hbMsg)
  if c3.flag F.PEER_STAT_link_up then { c3 with pair := { c3.pair with commit := [] } } else c3

/-- HEARTBEAT_TICK (R330): the next 1 ms tick of DT: a miss when no valid heartbeat has arrived since the last, suspicion at the fifth, and
the heartbeat. -/
def execHeartbeatTick (s : State) : Host.Outcome State Fault Refusal :=
  onAll (fun m c =>
    if !c.awake then (m, c)
    else
      let old := c.pair.tickAt
      let c1 := c.reach (old + 1000000)
      let missed := match c1.pair.hbAt with | some t => decide (t ≤ old) | none => true
      let n := if missed then c1.pair.misses + 1 else 0
      let c2 := { c1 with pair := { c1.pair with tickAt := old + 1000000, misses := n } }
      let c3 := if missed then c2.bump (F.PEER_CNT_count 4) 1 else c2
      match (if n = 5 then suspectPeer m c3 else (m, c3)) with
      | (m1, c4) => (m1, c4.hbSend)) s

/-! ### WRITE (R329, R332) -/

/-- The entry of an INTENT record of sequence number `seq` in eight bytes, Table 9.7. -/
def intentOf (seq : Nat) (bs : List Byte) : IntentE :=
  let v := leNat bs
  ⟨seq - v / 2 ^ 32, v / 2 ^ 27 % 32, v / 2 ^ 21 % 64, v / 2 ^ 15 % 64, Nat.testBit v 14, Nat.testBit v 13⟩

/-- The record that starts a byte list, if its magic, length and crc are right (Table 9.4); its ring line is `line`. -/
def Ctl.recParse (c : Ctl) (line : Nat) (bs : List Byte) : Option JRec :=
  let lines := pktField bs 4 4
  let h := bs.take 64
  let pay := (bs.drop 64).take (64 * lines)
  if pktField bs 0 2 ≠ 0xCAF0 ∨ bs.length < 64 + 64 * lines ∨ pktField bs 60 4 ≠ crc32c (h.take 60 ++ pay) then none
  else
    let typ := pktField bs 2 1
    let seq := pktField bs 8 8
    let nsid := pktField bs 16 2 % 2 ^ 14
    let loc := pktField bs 20 8
    let count := pktField bs 28 4
    let unit0 := c.nsBlock nsid loc / 16
    let ud := pktField bs 32 8
    some { JRec.blank typ with
      seq := seq, nsid := nsid, group := pktField bs 18 1 % 16, loc := loc, count := count
      udelta := if ud < 2 ^ 63 then (ud : Int) else (ud : Int) - 2 ^ 64
      tenant := pktField bs 40 2 % 4096, dt := pktField bs 48 8, mirrored := Nat.testBit (pktField bs 3 1) 0
      allocs := if typ = Rt.data then ((List.range 5).filter (fun i => Nat.testBit (pktField bs 3 1) (3 + i))).map (unit0 + ·) else []
      unit0 := if typ = Rt.data then unit0 else 0
      line := line, lines := lines
      data := if typ = Rt.intent ∨ typ = Rt.done then [] else pay
      entries := if typ = Rt.intent then (List.range count).map (fun i => intentOf seq ((pay.drop (8 * i)).take 8)) else []
      names := if typ = Rt.done then (List.range count).map (fun i => leNat ((pay.drop (8 * i)).take 8)) else []
      landed := true, durable := true, peer := true, settled := !(typ == Rt.data || typ == Rt.zero) }

/-- The absolute ring line of a ring position for a record of sequence number `seq`, counted beside the records held. -/
def Ctl.lineFor (c : Ctl) (pos seq : Nat) : Nat :=
  match c.car.recs with
  | [] => ringLines + pos
  | r :: _ =>
    if r.seq ≤ seq then r.line + (pos + ringLines - r.line % ringLines) % ringLines
    else r.line - (r.line % ringLines + ringLines - pos) % ringLines

/-- Records in sequence order with one put in its place. -/
def recPut : List JRec → JRec → List JRec
  | [], x => [x]
  | r :: rs, x => if x.seq < r.seq then x :: r :: rs else if x.seq = r.seq then x :: rs else r :: recPut rs x

/-- A mirrored record joins the standby's ring: older records whose lines it takes are gone, a VOID voids the records it names, a
lost-stripe record takes effect in the standby's own table (R253), and head and line follow. -/
def mirrorRec (acc : Mem × Ctl) (r : JRec) : Mem × Ctl :=
  let c := acc.2
  let rs := recPut (c.car.recs.filter (fun x => decide (r.line + r.size ≤ x.line + ringLines))) r
  let rs1 := if r.typ = Rt.void then rs.map (fun x => if r.loc ≤ x.seq ∧ x.seq < r.loc + r.count then { x with void := true } else x) else rs
  let a := if r.typ = Rt.lost then applyLost (recStore acc.1 r, c) r else (recStore acc.1 r, c)
  (a.1, ({ a.2 with car := { c.car with
    recs := rs1, head := max c.car.head (r.seq + 1), line := max (if c.car.recs.isEmpty then 0 else c.car.line) (r.line + r.size) } }).noteRing)

/-- The whole records of a WRITE into the ring, from ring position `pos` up. -/
def mirrorData : Nat → Mem × Ctl → Nat → List Byte → Mem × Ctl
  | 0, acc, _, _ => acc
  | n + 1, acc, pos, bs =>
    match acc.2.recParse (acc.2.lineFor (pos % ringLines) (pktField bs 8 8)) bs with
    | some r => mirrorData n (mirrorRec acc r) (pos + r.size) (bs.drop (64 * r.size))
    | none => acc

/-- Whether window 0 receives the active's ring. -/
def Ctl.ringWindow (c : Ctl) (win : Nat) : Bool :=
  win == 0 && !c.lease && (c.pair.syncing || c.flag F.GLB_MODE_STAT_peer_synced) && c.get (F.PEER_WIN_OPR_base 0) == 96

/-- The NAK cause of a WRITE: 2 EPOCH, 4 CLOSED, 3 RANGE, 0 where it is accepted (R332). -/
def Ctl.writeNak (c : Ctl) (win epoch off len : Nat) : Nat :=
  if epoch ≠ c.get F.PEER_WIN_EPOCH_rx then 2
  else if !c.flag (F.PEER_WIN_OPR_en win) then 4
  else if 65536 * c.get (F.PEER_WIN_OSZ_size win) < off + len then 3
  else 0

/-- PEER_WRITE (R329, R332): refused whole with a NAK, or written, the header line of a record last, and acknowledged. -/
def execPeerWrite (tag : PeerTag) (win : Fin 16) (epoch : Fin 65536) (off : Nat) (data : List Byte) (fseq : Fin 65536)
    (s : State) : Host.Outcome State Fault Refusal :=
  peerRow (fun m c =>
    let k := c.writeNak win epoch off data.length
    if k ≠ 0 then (m, (c.bump (F.PEER_CNT_count (if k = 2 then 1 else 2)) 1).peerSend (.nak k fseq))
    else if c.ringWindow win then
      match mirrorData (data.length / 64 + 1) (m, c) (off / 64) data with
      | (m1, c1) => (m1, c1.peerSend (.wack tag))
    else (m.put .carafe (65536 * c.get (F.PEER_WIN_OPR_base win) + off) data, c.peerSend (.wack tag))) s

/-! ### Configuration and keys (R324, R294, R295) -/

/-- PEER_CONFIG (R324): the set is held and acknowledged; one with no writes drops the set of a scheduled commit that was cancelled. -/
def execPeerConfig (txn : Nat) (writes : List (Nat × Word)) (ops : List CfgOp) (atNs : Option Nat) (s : State) :
    Host.Outcome State Fault Refusal :=
  peerRow (fun m c =>
    if c.lease then (m, c)
    else
      let old := c.pair.held.filter (fun h => txn == 0 || h.txn != txn)
      let held := if writes.isEmpty && ops.isEmpty then old else old ++ [(⟨txn, writes, ops, atNs⟩ : HeldSet)]
      (m, ({ c with pair := { c.pair with held := held } }).peerSend (.configAck txn))) s

/-- PEER_CONFIG_ACK (R324). -/
def execPeerConfigAck (txn : Nat) (s : State) : Host.Outcome State Fault Refusal := peerRow (fun m c => commitResume m c (some txn)) s

/-- PEER_KEY (R294, R295). -/
def execPeerKey (k : KeyMsg) (s : State) : Host.Outcome State Fault Refusal := peerRow (fun m c => (m, c.peerKey k)) s

/-- PEER_KEY_ACK (R294, R295): the status of the peer's checks for the command of a page. -/
def execPeerKeyAck (tenant : Fin 4096) (status : Nat) (s : State) : Host.Outcome State Fault Refusal :=
  peerRow (fun m c => (m, c.peerKeyAck tenant status)) s

/-! ### The active's notices (R342, R349 to R351) -/

/-- FENCING or HANDOVER has arrived: a takeover may drive at its grant, and a synced standby asks for the lease (R343, R344). -/
def Ctl.peerFreed (c : Ctl) (handed : Bool) : Ctl :=
  if c.lease && c.pair.take.isNone then c
  else
    let c1 := { c with pair := { c.pair with
      freed := true, handed := c.pair.handed || handed, beganAt := match c.pair.beganAt with | some t => some t | none => some c.dt } }
    if c1.mayAcquire then c1.acquire else c1

/-- PEER_FENCING (R342, R343). -/
def execPeerFencing (s : State) : Host.Outcome State Fault Refusal := peerRow (fun m c => (m, c.peerFreed false)) s

/-- PEER_HANDOVER (R349): with the old active's head sequence number. -/
def execPeerHandover (s : State) : Host.Outcome State Fault Refusal := peerRow (fun m c => (m, c.peerFreed true)) s

/-- PEER_LEAVE (R350, R351). -/
def execPeerLeave (s : State) : Host.Outcome State Fault Refusal :=
  peerRow (fun m c => if c.lease then peerLostAll m c else (m, c.standbyLost)) s

/-! ### Shadow replay and mirror sync (R323, R60, R217) -/

/-- Whether a persistent VOID record names a sequence number. -/
def Ctl.voidNames (c : Ctl) (seq : Nat) : Bool :=
  c.car.recs.any (fun r => r.typ == Rt.void && decide (r.loc ≤ seq) && decide (seq < r.loc + r.count))

/-- SHADOW_APPLY (R323): the next sequence number is applied when its record is in the standby's ring, or passed over when a VOID names
it. -/
def execShadowApply (s : State) : Host.Outcome State Fault Refusal :=
  onAll (fun m c =>
    let q := c.pair.shadow
    let next (c : Ctl) : Ctl := { c with pair := { c.pair with shadow := q + 1 } }
    if !c.flag F.GLB_MODE_STAT_peer_synced || c.lease || !c.awake then (m, c)
    else match c.recBy q with
      | some _ =>
        match replayRec (m, c) q with
        | (m1, c1) => (m1, (next c1).wr Reg.PEER_APPLIED_LO (wd q) |>.wr Reg.PEER_APPLIED_HI (wd (q / 2 ^ 32)))
      | none => (m, if c.voidNames q then next c else c)) s

/-- What a new sync of the pair forgets of the loss before it. -/
def Ctl.syncClean (c : Ctl) : Ctl :=
  ((c.setFlag F.GLB_MODE_STAT_peer_synced true).setFlag F.PEER_STAT_lost false |> fun c =>
    { c with pair := { c.pair with syncing := false, freed := false, handed := false, beganAt := none, refEnd := none, retryAt := none } })

/-- MIRROR_SYNC_COMPLETE (R60, R59): the copy and the live mirror meet. On the active every record has its peer copy; the standby has the
active's key blobs (`blobs`, by key-store entry) and applies records from the oldest on. -/
def execMirrorSyncComplete (blobs : List (Nat × List Byte)) (s : State) : Host.Outcome State Fault Refusal :=
  onAll (fun m c =>
    if !c.pair.syncing || !c.peerHears then (m, c)
    else if c.lease then
      let c1 := c.syncClean.mapRecs (fun r => { r with peer := true })
      let c2 := { c1 with car := { c1.car with peerWt := false } }
      let c3 := if c2.mode = .standby then c2.setFlag F.GLB_START_STAT_mirror_synced true else c2
      (m, ((c3.faultRecord 0x84 0 0).landCheckAll.wtUpdate).reassess)
    else
      let c1 := ({ c.syncClean with keys := { c.keys with store := blobs.foldl (fun (t : Tab (List Byte)) (p : Nat × List Byte) => Tab.put t p.1 p.2) [] } }).keysRestore
      let head := match c1.pair.last with | some h => h.head | none => 0
      let q := match c1.car.recs with | r :: _ => r.seq | [] => head + 1
      let c2 := { c1 with
        keys := { c1.keys with restored := true }
        pair := { c1.pair with shadow := q } }
      let c3 := (c2.wr Reg.PEER_APPLIED_LO (wd (q - 1))).wr Reg.PEER_APPLIED_HI (wd ((q - 1) / 2 ^ 32))
      (m, (c3.faultRecord 0x84 0 0).reassess)) s

/-- MIRROR_SYNC_ABANDON (R59): the 1 s limit of step 15 ends on a starting lease holder; a later sync starts with the peer's next
heartbeat. -/
def execMirrorSyncAbandon (s : State) : Host.Outcome State Fault Refusal :=
  onCtl (fun _ c =>
    if c.lease && c.mode == .standby && c.flag F.GLB_START_STAT_replay_done && c.pair.take.isNone && !c.flag F.GLB_START_STAT_mirror_synced then
      ({ c with power := { c.power with mirrorAbandoned := true }, pair := { c.pair with syncing := false } }).setFlag F.CAR_STAT_mirror false
    else c) s

end Sys2Proof.Machine
end

