-- ==== Sys2Proof/Machine/Witness.lean ====
section
/-! DEFINITION. The witness and switchover: requests and replies, the takeover, handover and forced takeover, and the pairing opcodes and
steps (13_pairing_and_failover.md, R335 to R353, R357, R358). -/

namespace Sys2Proof.Machine

/-! ### Taking the lease from STANDBY (R345) -/

/-- R345 step 3 and the configuration sets of step 4: the shared outputs are driven, each bay by its shadowed state, and sets acknowledged
and not applied take effect; sets of scheduled commits stay held (R324). -/
def driveOutputs (m : Mem) (c : Ctl) (vs : List BaySample) : Mem × Ctl :=
  let us := match c.pair.beganAt with | some t => min 0xFFFFFFFF ((c.dt - t) / 1000) | none => 0
  let c1 := (c.baysTake (c.pair.shadowed.map (·.1)) vs).wr Reg.PEER_SWO_DRIVE (wd us)
  let now := c1.pair.held.filter (fun h => h.atNs.isNone)
  let c2 := { c1 with pair := { c1.pair with held := c1.pair.held.filter (fun h => h.atNs.isSome), take := some (.members c1.dt) } }
  now.foldl (fun (a : Mem × Ctl) h => applySet a.1 a.2 h) (m, c2)

/-- The DT in ns of drive permission: r + 42 ms, or now when FENCING or HANDOVER has arrived or the device never endorsed (R344). -/
def Ctl.driveAt (c : Ctl) : Nat :=
  if c.pair.freed then c.dt else match c.pair.rAt with | some r => r + 42000000 | none => c.dt

/-- Outputs are driven if drive permission has come. -/
def driveIfMay (m : Mem) (c : Ctl) (vs : List BaySample) : Mem × Ctl :=
  if c.pair.take = some .permission ∧ c.driveAt ≤ c.dt then driveOutputs m c vs else (m, c)

/-- Steps 1 and 2 of R345 for a standby that takes the lease, from source `src` of PEER_LEASE: windows closed, epoch stored, and R350
applies to it (R351). -/
def takeLease (m : Mem) (c : Ctl) (epoch src : Nat) (ends : Option Nat) (code : Nat) : Mem × Ctl :=
  let c1 := ((c.winsClose.storeEpoch epoch).setFlag F.GLB_MODE_STAT_lease true).set F.PEER_LEASE_src src
  let c2 := { c1 with pair := { c1.pair with
    witEnd := ends, endEnd := none, leaseAt := c.dt, retryAt := none, refEnd := none, forceAt := none, syncing := false, take := some .permission } }
  let c3 := ((c2.setFlag F.PEER_STAT_endorsing false).roleNote).faultRecord code 3 0
  peerLostAll m c3

/-- The lease granted in step 8 of Table 3.3: windows closed, epoch stored, and the bays driven as R375 has it. -/
def startLease (c : Ctl) (epoch ends : Nat) (vs : List BaySample) : Ctl :=
  let c1 := ((c.winsClose.storeEpoch epoch).setFlag F.GLB_MODE_STAT_lease true).set F.PEER_LEASE_src 1
  let c2 := { c1 with pair := { c1.pair with witEnd := some ends, endEnd := none, leaseAt := c.dt, retryAt := none, refEnd := none } }
  (((c2.setFlag F.GLB_START_STAT_lease true).roleNote).baysTake none vs).membersNote

/-! ### Requests to the witness (R336, R343) -/

/-- A synced standby that has cause to ask for the lease: the peer is suspect, or has freed its lease (R343). -/
def Ctl.wantsLease (c : Ctl) : Bool := c.mayAcquire && (c.flag F.PEER_STAT_suspect || c.pair.freed)

/-- A device that asked for the lease in step 7 and has neither got it nor been refused for good (R56). -/
def Ctl.startWants (c : Ctl) : Bool :=
  c.mode == .standby && !c.lease && c.flag F.GLB_START_STAT_lease_req && !c.conflictUp && !c.flag F.GLB_MODE_STAT_no_witness && !c.flag F.GLB_MODE_STAT_stale_epoch

/-- WITNESS_TICK (R336, R353): at the next multiple of 10 ms, RENEW of a witness lease, ACQUIRE with the forced flag of a forced one, else
STATUS; in a safe stop nothing leaves, so the lease is not renewed (R35, R43). -/
def execWitnessTick (s : State) : Host.Outcome State Fault Refusal :=
  onCtl (fun _ c =>
    if !c.awake then c
    else
      let c1 := c.reach ((c.dt / 10000000 + 1) * 10000000)
      if c1.lease && c1.forced then c1.witSend .acquire true
      else if c1.lease then c1.witSend .renew false
      else c1.witSend .status false) s

/-- WITNESS_REQUEST_TIMEOUT (R336): the request goes unanswered for 1 ms: a RENEW is counted; an ACQUIRE is sent again while it is
wanted. -/
def execWitnessRequestTimeout (num : Nat) (s : State) : Host.Outcome State Fault Refusal :=
  onCtl (fun _ c =>
    match (if c.awake then c.pair.reqs.find? (fun r => r.num == num && !r.late) else none) with
    | none => c
    | some r =>
      let c1 := c.reach (r.sent + 1000000)
      let c2 := { c1 with pair := { c1.pair with reqs := c1.pair.reqs.map (fun x => if x.num = num then { x with late := true } else x) } }
      match r.kind with
      | .renew => c2.bump (F.PEER_CNT_count 8) 1
      | .acquire => if c2.wantsLease || c2.startWants then c2.acquire else c2
      | _ => c2) s

/-- WITNESS_LOST (R336, R352): 30 ms with no valid frame: no_witness, and NO_WITNESS in the fault records (0x15, event 0x85). -/
def execWitnessLost (s : State) : Host.Outcome State Fault Refusal :=
  onCtl (fun _ c =>
    if !c.awake || c.flag F.GLB_MODE_STAT_no_witness then c
    else (((c.reach (c.pair.witAt + 30000000)).setFlag F.GLB_MODE_STAT_no_witness true).faultRecord 0x15 0 0).faultRecord 0x85 0 0) s

/-! ### Replies (R335, R336, R340, R343) -/

/-- A frame from the witness: one whose crc fails is discarded; a valid one restores the witness, and its reply is taken when it matches
a request at most 5 ms old. -/
def witReply (req : Nat) (crcOk : Bool) (f : WitReq → Mem → Ctl → Mem × Ctl) (s : State) : Host.Outcome State Fault Refusal :=
  onAll (fun m c =>
    if !c.awake then (m, c)
    else if !crcOk then (m, c.bump (F.PEER_CNT_count 7) 1)
    else
      let c1 := { c with pair := { c.pair with witAt := c.dt } }
      let c2 := if c1.flag F.GLB_MODE_STAT_no_witness then (c1.setFlag F.GLB_MODE_STAT_no_witness false).faultRecord 0x86 0 0 else c1
      match c2.pair.reqs.find? (fun r => r.num == req && decide (c2.dt ≤ r.sent + 5000000)) with
      | none => (m, c2.bump (F.PEER_CNT_count 7) 1)
      | some r => f r m { c2 with pair := { c2.pair with reqs := c2.pair.reqs.filter (fun x => x.num != req) } }) s

/-- What a GRANT does (R338, R340, R343, R353): it turns a forced lease into a witness lease, extends a lease, or gives one to a standby that
asked for it; one that is wanted no longer is released. -/
def grantTake (epoch : Nat) (vs : List BaySample) (r : WitReq) (m : Mem) (c : Ctl) : Mem × Ctl :=
  let ends := r.sent + 40000000
  if c.power.stop.isSome || !(r.kind == .renew || r.kind == .acquire) then (m, c)
  else if c.lease then
    let c1 := if r.kind == .acquire then (c.storeEpoch epoch).set F.PEER_LEASE_src 1 else c
    (m, { c1 with pair := { c1.pair with witEnd := some ends } })
  else if r.kind == .renew then (m, c)
  else if c.mayAcquire then
    match takeLease m c epoch 1 (some ends) 0x80 with
    | (m1, c1) => driveIfMay m1 c1 vs
  else if c.mode == .standby && c.flag F.GLB_START_STAT_lease_req && !c.conflictUp then (m, startLease c epoch ends vs)
  else (m, c.witSend .release false)

/-- WITNESS_GRANT (R340). `vs` are the bays' measurements where the outputs are driven at once. -/
def execWitnessGrant (req epoch : Nat) (crcOk : Bool) (vs : List BaySample) (s : State) : Host.Outcome State Fault Refusal :=
  witReply req crcOk (grantTake epoch vs) s

/-- REFUSE cause 1: a device that asked in step 7 has been refused, and stays in STANDBY with stale_epoch (R56); on a synced standby the
remaining time in µs sets the retry, and an end later than one reported before says that the active serves on (R343, R351). -/
def Ctl.refusedHeld (c : Ctl) (value : Nat) : Ctl :=
  let ends := c.dt + 1000 * value
  let later := c.mayAcquire && (match c.pair.refEnd with | some e => decide (e < ends) | none => false)
  if later then c.standbyLost
  else if c.startWants && !c.mayAcquire then c.setFlag F.GLB_MODE_STAT_stale_epoch true
  else if c.mayAcquire then { c with pair := { c.pair with retryAt := some ends, refEnd := some ends } }
  else c

/-- REFUSE cause 2: the epoch presented is stale. A forced lease ends at once, and its record names the refusal (R353). -/
def Ctl.refusedStale (c : Ctl) : Ctl :=
  if c.lease then (if c.forced then (c.fence).faultRecord 0x82 5 2 else c)
  else
    let c1 := c.setFlag F.GLB_MODE_STAT_stale_epoch true
    { c1.standbyLost with pair := { c1.standbyLost.pair with retryAt := none, refEnd := none } }

/-- WITNESS_REFUSE (R343): cause 1 lease held, 2 stale epoch, 3 not the holder. -/
def execWitnessRefuse (req cause value : Nat) (crcOk : Bool) (s : State) : Host.Outcome State Fault Refusal :=
  witReply req crcOk (fun r m c =>
    let c1 := c.bump (F.PEER_CNT_count 6) 1
    (m, if r.kind != .acquire then c1 else if cause = 1 then c1.refusedHeld value else if cause = 2 then c1.refusedStale else c1)) s

/-- WITNESS_STATE (R343): a free lease brings ACQUIRE from a synced standby that does not endorse; `holder` is none for a free lease. -/
def execWitnessState (req : Nat) (holder : Option (Fin 2)) (crcOk : Bool) (s : State) : Host.Outcome State Fault Refusal :=
  witReply req crcOk (fun _ m c => (m, if holder.isNone && c.mayAcquire && !c.flag F.PEER_STAT_endorsing then c.acquire else c)) s

/-- ACQUIRE_RETRY_TIMER (R343): the remaining time that the refusal reported has elapsed. -/
def execAcquireRetryTimer (s : State) : Host.Outcome State Fault Refusal :=
  onCtl (fun _ c =>
    match c.pair.retryAt with
    | none => c
    | some t =>
      let c1 := c.reach t
      if c1.wantsLease || c1.startWants then c1.acquire else { c1 with pair := { c1.pair with retryAt := none } }) s

/-! ### Drive permission and service entry (R344, R345) -/

/-- DRIVE_PERMISSION (R344): r + 42 ms has passed since the grant. -/
def execDrivePermission (vs : List BaySample) (s : State) : Host.Outcome State Fault Refusal :=
  onAll (fun m c => if c.lease && c.pair.take == some .permission then driveOutputs m (c.reach c.driveAt) vs else (m, c)) s

/-- A member is declared missing (R55): its bay is FAILED for cause 7 and counted, and its group is assessed without it. -/
def memberMissing (m : Mem) (c : Ctl) (bay : Nat) : Mem × Ctl :=
  match c.posOfBay bay with
  | none => (m, c)
  | some (g, p) =>
    let c1 := ((c.set (F.RBD_MEM_STAT_group bay) g).set (F.RBD_MEM_STAT_pos bay) p).set (F.RBD_MEM_STAT_state bay) 1
    memFail m (c1.bump F.GLB_START_STAT_members_missing 1) bay 7

/-- Bays whose members a takeover waits for: ONLINE in the last heartbeat of the old active, or every configured one without such a
heartbeat, and not yet assessed (R345). -/
def Ctl.takeWaits (c : Ctl) : List Nat :=
  (List.range 24).filter (fun b => c.memState b == 0 && (c.posOfBay b).isSome &&
    (match c.pair.shadowed with | some x => x.2.getD b 0 == 1 | none => true))

/-- TAKEOVER_SERVICE_ENTRY (R345 steps 4 to 7): members not ready by member_wait_s are missing, keys are as on the active, the tail is
applied, intents are redone unless the lease was handed over, and the mode serves. `groups`, `looks` and `stored` are what the members hold
where the old active wrote it, `bad` the blocks that redo cannot read. -/
def execTakeoverServiceEntry (groups : List GroupLook) (looks : List CkLook) (bad : List BadLook) (stored : List Nat) (s : State) :
    Host.Outcome State Fault Refusal :=
  onAll (fun m c =>
    match c.pair.take with
    | some (.members since) =>
      let waits := c.takeWaits
      let c0 := if waits.isEmpty then c else c.reach (since + 1000000000 * c.get F.GLB_START_CFG_member_wait_s)
      match waits.foldl (fun (a : Mem × Ctl) b => memberMissing a.1 a.2 b) (m, c0) with
      | (m1, c1) =>
        let c2 := (if c1.keys.restored then c1 else { c1.keysRestore with keys := { c1.keysRestore.keys with restored := true } }).pendSettle stored
        match replayBuild m1 c2 groups looks with
        | (m2, c3) =>
          match replayBad m2 c3 with
          | (m3, c4) =>
            match (if c4.pair.handed then (m3, c4) else replayRedo m3 c4 bad) with
            | (m4, c5) =>
              let us := match c5.pair.beganAt with | some t => min 0xFFFFFFFF ((c5.dt - t) / 1000) | none => 0
              let c6 := (c5.setFlag F.GLB_START_STAT_members_ready true).setFlag F.GLB_START_STAT_replay_done true
              let c7 := { c6.wr Reg.PEER_SWO_SERVE (wd us) with pair := { c6.pair with take := none, freed := false, handed := false, beganAt := none } }
              let c8 := c7.reassess
              (m4, (c8.setMode c8.serveMode).psApply)
    | _ => (m, c)) s

/-! ### Pairing opcodes (Table 13.11) -/

/-- PAIR_STATUS: PEER_STAT, PEER_LEASE, PEER_EPOCH and GLB_MODE_STAT as they read. -/
def pairStatus (t : Taken) (m : Mem) (c : Ctl) : CRes :=
  if t.pkt.words.length ≠ 0 then .err m c Cs.badParam
  else .ok m c ([Reg.PEER_STAT, Reg.PEER_LEASE, Reg.PEER_EPOCH, Reg.GLB_MODE_STAT].map c.peek)

/-- PAIR_STATUS (R358). -/
def execPairStatus (src : ChiebSrc) (s : State) : Host.Outcome State Fault Refusal := chiebRow 0x0800 src pairStatus s

/-- HANDOVER (R349 step 1): fetching stops, and the operation ends when RELEASE has been sent. -/
def handoverTake (t : Taken) (m : Mem) (c : Ctl) : CRes :=
  if t.pkt.words.length ≠ 0 then .err m c Cs.badParam
  else if !c.lease then .err m c Cs.notActive
  else if !c.flag F.GLB_MODE_STAT_peer_synced then .err m c Cs.peerNotSynced
  else if c.pair.hand.isSome || c.halted then .err m c Cs.badState
  else longOp 0x0801 m c (fun h m c => (m, { c with pair := { c.pair with hand := some .drain, handOp := some h } }))

/-- HANDOVER (R349). -/
def execHandover (src : ChiebSrc) (s : State) : Host.Outcome State Fault Refusal := chiebRow 0x0801 src handoverTake s

/-- The active hands over (R349 steps 3 to 5): held capsules end Asymmetric Access Inaccessible, HANDOVER and RELEASE leave, the device is
fenced, and 100 ms later it resets itself. -/
def Ctl.handOut (c : Ctl) : Ctl :=
  let c1 := { c with pair := { c.pair with hand := some (.fenced (c.dt + 100000000)) } }
  let io (e : IntakeEntry) : Option Nat := match e.cap with | .io _ x => some x.cid | _ => none
  let c2 := (c1.host.intake.foldl (fun (c : Ctl) (e : IntakeEntry) => match io e with
      | some cid => c.complete e.conn cid none St.anaInaccessible 0 0
      | none => c)
    { c1 with host := { c1.host with intake := c1.host.intake.filter (fun e => (io e).isNone) } }).anaUpdate
  let c3 := match c2.pair.handOp with | some h => c2.handleEnd h Cs.ok [] | none => c2
  let ck := c3.baysKeep false
  let c4 := (({ ck with pair := { ck.pair with handOp := none } }).faultRecord 0x81 2 0).peerSend (.handover (ck.car.head - 1))
  let c5 := (c4.witSend .release false).fence
  { c5 with pair := { c5.pair with hand := some (.fenced (c1.dt + 100000000)) } }

/-- HANDOVER_SYNC_REACHED (R349): no host brew runs and the standby has applied every record. -/
def execHandoverSyncReached (s : State) : Host.Outcome State Fault Refusal :=
  onCtl (fun _ c =>
    match c.pair.hand, c.pair.last with
    | some .drain, some h => if c.ioTags == 0 && h.applied == c.car.head - 1 && !c.halted then c.handOut else c
    | _, _ => c) s

/-- HANDOVER_SELF_RESET (R349 step 6): 100 ms after the handover; an image whose trial it leaves falls back (R435). -/
def execHandoverSelfReset (s : State) : Host.Outcome State Fault Refusal :=
  onAll (fun m c =>
    match c.pair.hand with
    | some (.fenced t) => toReset m (c.reach t) (if c.trust.leaving then 5 else 6)
    | _ => (m, c)) s

/-- FORCED_TAKEOVER (R353): refused without the flag, while the peer is heard, and where a condition fails; else the 42 ms wait begins. -/
def forcedTake (t : Taken) (m : Mem) (c : Ctl) : CRes :=
  let cut := c.flag F.PEER_STAT_suspect || !c.flag F.PEER_STAT_link_up
  if t.pkt.words.length ≠ 1 then .err m c Cs.badParam
  else if t.w 0 % 2 = 0 then .err m c Cs.denied
  else if !cut && c.pair.hbAt.isSome then .err m c Cs.peerAlive
  else if !(c.mode == .standby) || c.lease || c.halted || !cut || !(c.flag F.GLB_MODE_STAT_no_witness || c.flag F.GLB_MODE_STAT_stale_epoch) then .err m c Cs.badState
  else
    let wait := match c.pair.hbAt with | some a => a + 42000000 | none => c.dt
    .ok m { c with pair := { c.pair with forceAt := some wait, beganAt := match c.pair.beganAt with | some b => some b | none => some c.dt } } []

/-- FORCED_TAKEOVER (R353). -/
def execForcedTakeover (src : ChiebSrc) (s : State) : Host.Outcome State Fault Refusal := chiebRow 0x0802 src forcedTake s

/-- FORCED_TAKEOVER_WAIT_END (R353): 42 ms after the last valid heartbeat the device takes a forced lease of the next epoch and drives the
outputs. -/
def execForcedTakeoverWaitEnd (vs : List BaySample) (s : State) : Host.Outcome State Fault Refusal :=
  onAll (fun m c =>
    match c.pair.forceAt with
    | none => (m, c)
    | some t =>
      let t1 := match c.pair.hbAt with | some a => max t (a + 42000000) | none => t
      if c.mode != .standby || c.lease || c.halted then (m, { c with pair := { c.pair with forceAt := none } })
      else
        match takeLease m (c.reach t1) (c.epoch + 1) 3 none 0x82 with
        | (m1, c1) => driveOutputs m1 c1 vs) s

/-! ### PEER steps (Table 13.10) -/

/-- A PEER step whose token is settled as it is accepted: the token arrives at once. -/
def Ctl.peerSettled (c : Ctl) (tag : Nat) : Ctl :=
  match c.brew? tag with
  | none => c
  | some b =>
    match b.tokens.find? (fun t => !t.arrived && t.fate.isSome && (c.brewStep b t.step).eng == Cls.peer) with
    | some t => c.tokenPost tag t.id (t.fate.getD 0)
    | none => c

/-- A PEER step is issued, and a token settled at once arrives. -/
def peerIssue (m : Mem) (c : Ctl) (tag op : Nat) (act : Issued → Mem → Ctl → Act) : Mem × Ctl :=
  match issue m c tag Cls.peer op false act with
  | (m1, c1) => (m1, c1.peerSettled tag)

/-- PEER WRITE: the WRITE leaves; its token ends at WACK, or PEER_LOST where the peer is lost already. -/
def peerWriteAct (tag : Nat) (i : Issued) (m : Mem) (c : Ctl) : Act :=
  if i.step.len < 64 ∨ 1048576 < i.step.len ∨ i.step.len % 64 ≠ 0 then .refuse m c 0x0A
  else match i.srcSlot with
    | none => .refuse m c 0x0A
    | some x =>
      if !c.flag F.PEER_STAT_link_up || c.flag F.PEER_STAT_lost then { Act.ok m c with fate := some 0x40 }
      else .ok m (c.writeSend (.step tag c.tokNext) (i.step.arg0 % 16) (64 * i.step.arg1) (m.bytes .hbm (ptrByte x.ptr) i.step.len))

/-- PEER_WRITE_STEP (R357). -/
def execPeerWriteStep (tag : Nat) (s : State) : Host.Outcome State Fault Refusal :=
  onAll (fun m c => peerIssue m c tag 0x01 (peerWriteAct tag)) s

/-- PEER SYNC: the whole records whose header line lies in the range leave as WRITEs at the same offsets of window 0 (R329). -/
def peerSyncAct (tag : Nat) (i : Issued) (m : Mem) (c : Ctl) : Act :=
  let first := i.step.arg1 * 2 ^ 32 + i.step.arg0
  let count := i.step.arg2 * 2 ^ 32 + i.step.len
  let recs := c.car.recs.filter (fun r => decide (first ≤ r.line % ringLines) && decide (r.line % ringLines < first + count) && r.landed)
  if !c.flag F.PEER_STAT_link_up || c.flag F.PEER_STAT_lost then { Act.ok m c with fate := some 0x40 }
  else if recs.isEmpty then { Act.ok m c with fate := some 0 }
  else
    let tok := c.tokNext
    .ok m (recs.foldl (fun c r => c.writeSend (.step tag tok) 0 (64 * (r.line % ringLines)) (r.header ++ r.payload)) c)

/-- PEER_SYNC_STEP (R357). -/
def execPeerSyncStep (tag : Nat) (s : State) : Host.Outcome State Fault Refusal :=
  onAll (fun m c => peerIssue m c tag 0x02 (peerSyncAct tag)) s

end Sys2Proof.Machine
end

