-- ==== Sys2Proof/Machine/Firmware.lean ====
section
/-! DEFINITION. Firmware: the image store and its container, verification and boot, download, commit, activation, trial and fallback
(17_firmware_and_trust.md, R423 to R438; R107 of 05_host_command_path.md). -/

namespace Sys2Proof.Machine

/-! ### The container (R425, Tables 17.2 and 17.3) -/

/-- Bytes of the manifest before the first component: header, component entries, signature. -/
def imgSigEnd : Nat := 256 + 7 * 64 + 29792

/-- The svn, anti-rollback value, version, key slot, revoke bits and lowest revision of a manifest. -/
def imgSvn (bs : List Byte) : Nat := pktField bs 12 4
def imgFloor (bs : List Byte) : Nat := pktField bs 16 4
def imgVer (bs : List Byte) : Nat := pktField bs 20 8
def imgKey (bs : List Byte) : Nat := pktField bs 28 1
def imgRevoke (bs : List Byte) : Nat := pktField bs 29 1 % 16
def imgMinRev (bs : List Byte) : Nat := pktField bs 30 2

/-- Whether the reserved bytes of component entry `i` are 0 (Table 17.3). -/
def imgRsvd (bs : List Byte) (i : Nat) : Bool :=
  let a := 256 + 64 * i
  pktField bs (a + 1) 3 == 0 && pktField bs (a + 12) 4 == 0 && pktField bs (a + 48) 16 == 0

/-- Type, offset and length of component entry `i`. -/
def imgComp (bs : List Byte) (i : Nat) : Nat × Nat × Nat :=
  let a := 256 + 64 * i
  (pktField bs a 1, pktField bs (a + 4) 4, pktField bs (a + 8) 4)

/-- Check 1 of Table 17.4: magic, format, ncomp, size and the component table are well formed. -/
def imgForm (bs : List Byte) : Bool :=
  let cs := (List.range 7).map (imgComp bs)
  pktField bs 0 4 == 0x46424B49 && pktField bs 4 2 == 1 && pktField bs 6 2 == 7 && pktField bs 8 4 == bs.length
    && bs.length % 4096 == 0 && decide (bs.length ≤ 67108864) && (List.range 7).all (imgRsvd bs)
    && (List.range 7).all (fun t => (cs.filter (fun x => x.1 == t + 1)).length == 1)
    && cs.all (fun x => x.2.1 % 4096 == 0 && decide (imgSigEnd ≤ x.2.1) && decide (1 ≤ x.2.2) && decide (x.2.1 + x.2.2 ≤ bs.length)
      && cs.all (fun y => y == x || decide (x.2.1 + x.2.2 ≤ y.2.1) || decide (y.2.1 + y.2.2 ≤ x.2.1)))

/-- Check 2 of Table 17.4: the key slot holds a hash, is not revoked, and the image's key hashes to it (R426). -/
def Ctl.keyFits (c : Ctl) (k : Nat) (l : ImgLook) : Bool :=
  decide (k < 4) && c.bitOf F.FWU_KEYS_programmed k && !c.bitOf F.FWU_KEYS_revoked k && l.keyOk

/-- The checks of Table 17.4 on a container, in order: 0, or the Chieb status of the first that fails. -/
def Ctl.imgCheck (c : Ctl) (bs : List Byte) (l : ImgLook) : Nat :=
  if !imgForm bs then Cs.fwBadImage
  else if !c.keyFits (imgKey bs) l then Cs.fwBadKey
  else if !l.sigOk then Cs.fwBadImage
  else if c.get F.GLB_ID_rev < imgMinRev bs then Cs.fwBadImage
  else if imgSvn bs < c.get F.FWU_SVN_svn then Cs.fwRollback
  else if !l.digOk then Cs.fwBadImage
  else 0

/-- The checks on an image slot. Slot 0 holds the factory image, well formed and fit for the silicon as made. -/
def Ctl.slotCheck (c : Ctl) (s : Nat) (l : ImgLook) : Nat :=
  if s = 0 then
    (if !c.keyFits (c.get (F.FWU_SLOT_key_idx 0)) l then Cs.fwBadKey
     else if !l.sigOk then Cs.fwBadImage
     else if c.get (F.FWU_SLOT_SVN_svn 0) < c.get F.FWU_SVN_svn then Cs.fwRollback
     else if !l.digOk then Cs.fwBadImage else 0)
  else match Tab.at? c.trust.images s with
    | some bs => c.imgCheck bs l
    | none => Cs.fwBadImage

/-! ### Verification and boot (R427 to R429) -/

/-- Boot-control fields in persistent word 65 changed as one write (R428). -/
def Ctl.bootCtl (c : Ctl) (f : Ctl → Ctl) : Ctl :=
  let c1 := f c
  let k := pcrMask Reg.FWU_STAT
  if (c1.rd Reg.FWU_STAT &&& k) = (c.rd Reg.FWU_STAT &&& k) then c1
  else if 5 ≤ (c.pcrAt 65).row then c1.wr Reg.FWU_STAT ((c1.rd Reg.FWU_STAT &&& ~~~ k) ||| (c.rd Reg.FWU_STAT &&& k))
  else c1.pcrWear 65

/-- Digests of the manifest and of each component, in order of type (R429, R442). -/
def Ctl.imgMeasure (c : Ctl) (s : Nat) : List (List Byte) :=
  match (if s = 0 then none else Tab.at? c.trust.images s) with
  | none => (List.range 8).map Config.factoryDigest
  | some bs => Config.sha256 (bs.take (256 + 7 * 64)) :: (List.range 7).map (fun t =>
      match ((List.range 7).map (imgComp bs)).find? (fun x => x.1 == t + 1) with
      | some x => Config.sha256 ((bs.drop x.2.1).take x.2.2)
      | none => [])

/-- The image of a slot runs: its measurements are recorded and its health starts anew (R429, R434). -/
def Ctl.imageRuns (c : Ctl) (s : Nat) : Ctl :=
  { c with trust := { c.trust with meas := c.imgMeasure s, imageAt := c.dt, katOk := false, badSeen := false } }

/-- The candidates of a boot in order, each once and only if VALID (R424, R428). -/
def Ctl.bootOrder (c : Ctl) (pend : Option Nat) : List Nat :=
  let l := (match pend with | some p => [p] | none => []) ++ [c.get F.FWU_STAT_cur_slot, c.get F.FWU_STAT_prev_slot, 1, 2, 3, 0]
  (l.eraseDups).filter (fun s => c.get (F.FWU_SLOT_state s) == 2)

/-- The candidates are tried in order: the slot that passes, if any, and the state with the rejected ones counted. -/
def bootTry (looks : List ImgLook) : List Nat → Ctl → Option Nat × Ctl
  | [], c => (none, c)
  | s :: ss, c =>
    if c.slotCheck s (looks.getD s ⟨false, false, false⟩) = 0 then (some s, c)
    else bootTry looks ss (c.bump F.FWU_STAT_boot_attempts 1)

/-- RECOVERY for a cause (R428, Table 3.2). -/
def Ctl.toRecovery (c : Ctl) (cause : Nat) : Ctl :=
  (((c.set F.FWU_STAT_rec_cause cause).setMode .recovery).setFlag F.GLB_MODE_STAT_busy false).baysKeep true

/-- A reset during a trial falls back to the previous slot (R428). -/
def Ctl.trialFall (c : Ctl) : Ctl :=
  if c.flag F.FWU_STAT_trial then
    (c.bootCtl (fun c => (c.set F.FWU_STAT_cur_slot (c.get F.FWU_STAT_prev_slot)).setFlag F.FWU_STAT_trial false)).setFlag F.FWU_STAT_fallback true
  else c

/-- The procedure of R428: slots found in WRITING are INVALID, and an image is chosen and loaded, or the device enters RECOVERY. An image
that verified with TESTEN high enters TEST (Table 3.2). -/
def bootChoose (m : Mem) (c : Ctl) (looks : List ImgLook) : Mem × Ctl :=
  let c0 := [1, 2, 3].foldl (fun (c : Ctl) s => if c.get (F.FWU_SLOT_state s) = 1 then c.set (F.FWU_SLOT_state s) 3 else c) c
  if c0.flag F.FWU_STAT_rec_flag then (m, (c0.bootCtl (fun c => c.setFlag F.FWU_STAT_rec_flag false)).toRecovery 1)
  else
    let c1 := c0.trialFall
    let pend := if c1.flag F.FWU_STAT_pend_valid then some (c1.get F.FWU_STAT_pend_slot) else none
    let c2 := c1.bootCtl (fun c => c.setFlag F.FWU_STAT_pend_valid false)
    match bootTry looks (c2.bootOrder pend) c2 with
    | (none, c3) => (m, c3.toRecovery 2)
    | (some s, c3) =>
      let c4 := if pend = some s then
          c3.bootCtl (fun c => ((c.set F.FWU_STAT_prev_slot (c.get F.FWU_STAT_cur_slot)).set F.FWU_STAT_cur_slot s).setFlag F.FWU_STAT_trial true)
        else if s ≠ c3.get F.FWU_STAT_cur_slot then (c3.bootCtl (fun c => c.set F.FWU_STAT_cur_slot s)).setFlag F.FWU_STAT_fallback true
        else c3
      match configReplay m ((c4.imageRuns s).setFlag F.GLB_START_STAT_image_ok true) with
      | (m1, c5) => (m1, if c5.power.testen then (c5.setMode .test).setFlag F.GLB_MODE_STAT_busy false else c5)

/-- IMAGE_LOADED (R429, step 3 of Table 3.3): in BOOT the image is chosen and loaded, and the stored configuration is rebuilt (R400); the domains
that GLB_PD_CTRL cannot switch are on (R31).
`looks` are what the fuses and signatures say of slots 0 to 3. -/
def execImageLoaded (looks : List ImgLook) (s : State) : Host.Outcome State Fault Refusal :=
  onAll (fun m c => if c.mode = .boot ∧ !c.flag F.GLB_START_STAT_image_ok ∧ c.power.stop.isNone then
    bootChoose m (c.set F.GLB_PD_STAT_pd_is_on (c.get F.GLB_PD_STAT_pd_is_on ||| pdFixed.toNat)) looks else (m, c)) s

/-! ### Download (R430) -/

/-- Data staged at a byte offset; none where it overlaps what is staged. -/
def Ctl.stageImage (c : Ctl) (off : Nat) (bs : List Byte) : Option Ctl :=
  let us := (List.range (bs.length / 4096)).map (fun i => off / 4096 + i)
  let old := if off = 0 then [] else c.trust.staged
  if us.any (fun u => Tab.has old u) then none
  else some { c with trust := { c.trust with
    staged := us.foldl (fun (t : Tab (List Byte)) u => Tab.put t u ((bs.drop (4096 * u - off)).take 4096)) old } }

/-- The bytes staged, when they cover exactly bytes 0 to size − 1 of the staged manifest. -/
def Ctl.stagedImage (c : Ctl) : Option (List Byte) :=
  let bs := c.trust.staged.flatMap (·.2)
  if c.trust.staged.map (·.1) == List.range c.trust.staged.length && pktField bs 8 4 == bs.length && !bs.isEmpty then some bs else none

/-- Nothing is staged. -/
def Ctl.unstage (c : Ctl) : Ctl := { c with trust := { c.trust with staged := [] } }

/-! ### Commit (R431, R433) -/

/-- An activation is in progress until the image confirms or falls back (R432). -/
def Ctl.activating (c : Ctl) : Bool := c.trust.busyAct || c.flag F.FWU_STAT_trial || (match c.trust.commit with | some x => x.action == 3 | none => false)

/-- Whether the mode accepts activation without reset (Table 3.4), and no QUIESCE is in progress (Table 3.2). -/
def Ctl.actModeOk (c : Ctl) : Bool :=
  !c.power.quiescing && (match c.mode with
    | .active | .degraded | .quiesced | .idleLow => true
    | .standby => !c.lease
    | _ => false)

/-- The device holds the lease and is paired: it activates by handover (R433). -/
def Ctl.pairedActive (c : Ctl) : Bool := c.lease && c.flag F.PEER_CFG_en

/-- The peer runs the image of a version (R433 step 2). -/
def Ctl.peerRuns (c : Ctl) (ver : Nat) : Bool :=
  c.flag F.GLB_MODE_STAT_peer_synced && (match c.pair.hello with | some h => h.image == ver | none => false)

/-- Whether the persistent word that a commit writes holds a token: word 65 for every action but 000b (R404, R431). -/
def Ctl.commitToken (c : Ctl) (action : Nat) : Bool := action == 0 || decide (0 < (c.pcrGain 65).tokens)

/-- The commit takes that token. -/
def Ctl.commitTake (c : Ctl) (action : Nat) : Ctl :=
  if action = 0 then c else c.setPcr 65 { c.pcrGain 65 with tokens := (c.pcrGain 65).tokens - 1 }

/-- The slot starts at the next boot. -/
def Ctl.pend (c : Ctl) (slot : Nat) : Ctl :=
  c.bootCtl (fun c => (c.set F.FWU_STAT_pend_slot slot).setFlag F.FWU_STAT_pend_valid true)

/-- The NVMe status of a refused or failed commit (R91, R430). -/
def fwNvStatus (st : Nat) : NvStatus :=
  if st = 0 then St.ok
  else if st = Cs.fwSlot then St.fwSlot
  else if st = Cs.fwOverlap then St.fwOverlap
  else if st = Cs.badState ∨ st = Cs.fwPeerImage then St.fwProhibited
  else if st = Cs.badParam then St.badField
  else St.fwImage

/-- Who waits for a commit learns its status. -/
def Ctl.fwAnswer (c : Ctl) (who : FwWho) (st : Nat) : Ctl :=
  match who with
  | .handle h => c.handleEnd h st []
  | .nvme conn cid k =>
    if (c.assoc? k).any (fun a => a.adminConn == conn && !a.ending) && !c.adminDropped k conn cid then
      c.complete conn cid (c.assocTenant k) (fwNvStatus st) 0 0
    else c.adminGone k conn cid
  | .nobody => c

/-- Why a commit is refused before it begins, in the order of R91, R430, R427 and R433; 0 where it may begin. -/
def Ctl.fwRefusal (c : Ctl) (slot action : Nat) (l : ImgLook) : Nat :=
  if 4 ≤ action then Cs.badParam
  else if slot = 0 ∨ 4 ≤ slot then Cs.fwSlot
  else if c.trust.commit.isSome || c.mode == .boot then Cs.badState
  else if action = 3 && (!c.actModeOk || c.activating) then Cs.badState
  else if action = 2 then (if c.get (F.FWU_SLOT_state slot) = 2 then c.slotCheck slot l else Cs.fwBadImage)
  else match c.stagedImage with
    | none => Cs.fwIncomplete
    | some bs =>
      let st := c.imgCheck bs l
      if st ≠ 0 then st
      else if action = 3 && c.pairedActive && !c.peerRuns (imgVer bs) then Cs.fwPeerImage
      else 0

/-- The slot is being written with what is staged (R424). -/
def Ctl.slotBegin (c : Ctl) (slot : Nat) : Ctl :=
  match c.stagedImage with
  | some bs => { c.set (F.FWU_SLOT_state slot) 1 with trust := { c.trust with images := Tab.put c.trust.images slot bs } }
  | none => c

/-- The slot is VALID and shows its image. -/
def Ctl.slotValid (c : Ctl) (slot : Nat) : Ctl :=
  match Tab.at? c.trust.images slot with
  | none => c
  | some bs => ((((c.set (F.FWU_SLOT_state slot) 2).set (F.FWU_SLOT_key_idx slot) (imgKey bs)).set (F.FWU_SLOT_SVN_svn slot) (imgSvn bs)).wr
      (Reg.FWU_SLOT_VER_LO slot) (wd (imgVer bs))).wr (Reg.FWU_SLOT_VER_HI slot) (wd (imgVer bs / 2 ^ 32))

/-- A commit whose slot is written, or that needs none written, ends (actions 000b to 010b), or its image is to be activated (011b). -/
def Ctl.commitEnd (c : Ctl) (x : FwCommit) : Ctl :=
  let c1 := if x.action = 1 ∨ x.action = 2 then c.pend x.slot else c
  if x.action = 3 then { c1 with trust := { c1.trust with commit := some { x with phase := 2 } } }
  else ({ c1 with trust := { c1.trust with commit := none } }.unstage).fwAnswer x.who 0

/-- A commit that waits for its token, or begins now (R431). -/
def Ctl.commitBegin (c : Ctl) (x : FwCommit) : Ctl :=
  if !c.commitToken x.action then { c with trust := { c.trust with commit := some { x with phase := 0 } } }
  else
    let c1 := c.commitTake x.action
    if x.action = 2 then c1.commitEnd x
    else { c1.slotBegin x.slot with trust := { (c1.slotBegin x.slot).trust with commit := some { x with phase := 1 } } }

/-- FW_SLOT_WRITTEN (R424, R431): the commit's slot is VALID; a commit that waited for a token takes the next one first. -/
def execFwSlotWritten (s : State) : Host.Outcome State Fault Refusal :=
  onCtl (fun _ c =>
    match c.trust.commit with
    | none => c
    | some x =>
      if c.halted || x.phase = 2 then c
      else
        let c1 := if x.phase = 0 then
            (if c.commitToken x.action then c else c.reach ((c.pcrAt 65).at_ + 1000000000)).commitBegin x
          else c
        match c1.trust.commit with
        | some y => if y.phase = 1 then (c1.slotValid y.slot).commitEnd { y with phase := 1 } else c1
        | none => c1) s

/-! ### Activation (R107, R432, R433) -/

/-- ACTIVATION_WITHOUT_RESET (R107, R432): the notice, ACTIVATING, and the drain of the running brews; IDLE_LOW is left first. -/
def execActivationWithoutReset (s : State) : Host.Outcome State Fault Refusal :=
  onCtl (fun _ c =>
    match c.trust.commit with
    | some x =>
      if x.phase != 2 || c.pairedActive || !c.actModeOk || c.halted then c
      else
        let c1 := c.report .fwStart (fun a => !a.discovery)
        let c2 := if c1.mode = .idleLow then (c1.setMode c1.serveMode).pdReconcile else c1
        let c3 := c2.setMode .activating
        { c3 with trust := { c3.trust with
          commit := none, busyAct := true, act := some ⟨c2.mode, x.slot, c3.dt + 120000000, false, x.who⟩ } }
    | none => c) s

/-- ACTIVATION_DRAIN_DEADLINE (R107): 120 ms after entry, brews still running are forced into their failure steps, those of durable writes
excepted. -/
def execActivationDrainDeadline (s : State) : Host.Outcome State Fault Refusal :=
  onCtl (fun _ c =>
    match c.trust.act with
    | some a =>
      if a.over_ then c
      else
        let c1 := c.reach a.dead
        let c2 := c1.bst.brews.foldl (fun (c : Ctl) (b : Nat × Brew) => match c.tag? b.1 with
          | some t => c.setTag b.1 { t with forced := true }
          | none => c) c1
        { c2 with trust := { c2.trust with act := some { a with over_ := true } } }
    | none => c) s

/-- The mode that an activation returns to: of ACTIVE and DEGRADED the one the redundancy then asks for (R50). -/
def Ctl.actBack (c : Ctl) (a : Activation) : Ctl :=
  let c1 := { c with trust := { c.trust with act := none } }
  (c1.setMode (match a.back with | .active => c1.serveMode | .degraded => c1.serveMode | x => x)).psApply

/-- The end of ACTIVATING (R107, R432): the slot verifies again and its image runs on trial; the device returns to its mode, says HELLO to
its peer, completes the commit, and starts the held commands of I/O queues. An image that fails the second check leaves the old one
running. -/
def Ctl.activationRun (c : Ctl) (look : ImgLook) : Ctl :=
  match c.trust.act with
  | some a =>
    if c.halted || (!a.over_ && !c.bst.brews.isEmpty) then c
    else
      let st := c.slotCheck a.slot look
      if st = 0 then
        let c1 := c.bootCtl (fun c => ((c.set F.FWU_STAT_prev_slot (c.get F.FWU_STAT_cur_slot)).set F.FWU_STAT_cur_slot a.slot).setFlag F.FWU_STAT_trial true)
        (((((c1.imageRuns a.slot).unstage).actBack a).fwAnswer a.who 0).sayHello false).startReady
      else
        let c1 := { c with trust := { c.trust with busyAct := false } }
        ((c1.actBack a).fwAnswer a.who st).startReady
  | none => c

/-- PAIRED_ACTIVATION (R433 steps 3 and 4): the active sets the slot pending, completes the commit with its notice, and hands over. -/
def execPairedActivation (s : State) : Host.Outcome State Fault Refusal :=
  onCtl (fun _ c =>
    match c.trust.commit with
    | some x =>
      if x.phase != 2 || !c.pairedActive || c.halted then c
      else
        let c1 := { c.pend x.slot with trust := { (c.pend x.slot).trust with commit := none, busyAct := true } }
        let c2 := ((c1.unstage).fwAnswer x.who 0).report .fwStart (fun a => !a.discovery)
        if c2.flag F.GLB_MODE_STAT_peer_synced && c2.pair.hand.isNone then { c2 with pair := { c2.pair with hand := some .drain, handOp := none } } else c2
    | none => c) s

/-! ### Trial and fallback (R434, R435) -/

/-- TRIAL_CONFIRM (R434): settle_s after the image's start, in STANDBY, ACTIVE or DEGRADED, with ENGINE_KAT passed and no listed fault. -/
def execTrialConfirm (s : State) : Host.Outcome State Fault Refusal :=
  onCtl (fun _ c =>
    if !c.flag F.FWU_STAT_trial || !(c.mode == .standby || c.mode == .active || c.mode == .degraded) || !c.trust.katOk || c.trust.badSeen
        || c.power.stop.isSome then c
    else
      let c1 := c.reach (c.trust.imageAt + 1000000000 * c.get F.FWU_TRIAL_CFG_settle_s)
      let c2 := c1.bootCtl (fun c => c.setFlag F.FWU_STAT_trial false)
      let c3 := { c2 with trust := { c2.trust with busyAct := false, leaving := false } }
      match Tab.at? c3.trust.images (c3.get F.FWU_STAT_cur_slot) with
      | none => c3
      | some bs =>
        let c4 := c3.pcrOwn F.FWU_SVN_svn (max (c3.get F.FWU_SVN_svn) (imgFloor bs))
        (List.range 4).foldl (fun (c : Ctl) k => if Nat.testBit (imgRevoke bs) k && k != imgKey bs then c.setBitOf F.FWU_KEYS_revoked k true else c) c4) s

/-- A trial ends in fallback (R435): a lease holder with a synced peer hands over first; any other device resets at once. A device in its
safe stop holds (R48), and its restart ends the trial. -/
def trialOut (m : Mem) (c : Ctl) : Mem × Ctl :=
  if c.power.stop.isSome then (m, c)
  else if c.lease && c.flag F.GLB_MODE_STAT_peer_synced && !c.halted then
    (m, { c with
      trust := { c.trust with leaving := true }
      pair := { c.pair with hand := match c.pair.hand with | some h => some h | none => some .drain } })
  else toReset m c 5

/-- TRIAL_WINDOW_EXPIRE (R435): window_s without confirmation. -/
def execTrialWindowExpire (s : State) : Host.Outcome State Fault Refusal :=
  onAll (fun m c => if c.flag F.FWU_STAT_trial && c.awake && c.power.stop.isNone then trialOut m (c.reach c.trialEnd) else (m, c)) s

/-! ### Opcodes (Table 17.6) -/

/-- FW_STATUS: FWU_STAT, FWU_SVN, FWU_DL_STAT, and each slot's registers. -/
def fwStatus (t : Taken) (m : Mem) (c : Ctl) : CRes :=
  if t.pkt.words.length ≠ 0 then .err m c Cs.badParam
  else .ok m c (([Reg.FWU_STAT, Reg.FWU_SVN, Reg.FWU_DL_STAT] ++ (List.range 4).flatMap (fun n =>
    [Reg.FWU_SLOT n, Reg.FWU_SLOT_SVN n, Reg.FWU_SLOT_VER_LO n, Reg.FWU_SLOT_VER_HI n])).map c.peek)

/-- FW_STATUS (R438). -/
def execFwStatus (src : ChiebSrc) (s : State) : Host.Outcome State Fault Refusal := chiebRow 0x0600 src fwStatus s

/-- FW_DOWNLOAD: offset, length, data. -/
def fwDownload (t : Taken) (m : Mem) (c : Ctl) : CRes :=
  let off := t.w 0
  let len := t.w 1
  if t.pkt.words.length < 2 ∨ off % 4096 ≠ 0 ∨ len % 4096 ≠ 0 ∨ len < 4096 ∨ 61440 < len ∨ t.pkt.words.length ≠ 2 + len / 4 ∨ 67108864 < off + len then
    .err m c Cs.badParam
  else if c.mode = .boot then .err m c Cs.badState
  else match c.stageImage off (wordBytes (t.pkt.words.drop 2)) with
    | some c1 => .ok m c1 []
    | none => .err m c Cs.fwOverlap

/-- FW_DOWNLOAD (R430). -/
def execFwDownload (src : ChiebSrc) (s : State) : Host.Outcome State Fault Refusal := chiebRow 0x0601 src fwDownload s

/-- FW_COMMIT: slot in w0 [1:0], action in w0 [6:4]; PENDING under a handle. -/
def fwCommit (l : ImgLook) (t : Taken) (m : Mem) (c : Ctl) : CRes :=
  let slot := t.w 0 % 4
  let action := t.w 0 / 16 % 8
  if t.pkt.words.length ≠ 1 then .err m c Cs.badParam
  else match c.fwRefusal slot action l with
    | 0 => longOp 0x0602 m c (fun h m c => (m, c.commitBegin ⟨slot, action, .handle h, 0⟩))
    | st => .err m c st

/-- FW_COMMIT (R431). `look` is what the fuses and signatures say of the image. -/
def execFwCommit (src : ChiebSrc) (look : ImgLook) (s : State) : Host.Outcome State Fault Refusal := chiebRow 0x0602 src (fwCommit look) s

/-- FW_DISCARD: nothing is staged. -/
def fwDiscard (t : Taken) (m : Mem) (c : Ctl) : CRes := if t.pkt.words.length ≠ 0 then .err m c Cs.badParam else .ok m c.unstage []

/-- FW_DISCARD (R430). -/
def execFwDiscard (src : ChiebSrc) (s : State) : Host.Outcome State Fault Refusal := chiebRow 0x0603 src fwDiscard s

/-- FW_REJECT: refused when no image is on trial; else the fallback of R435 is noted. -/
def fwReject (t : Taken) (m : Mem) (c : Ctl) : CRes :=
  if t.pkt.words.length ≠ 0 then .err m c Cs.badParam
  else if !c.flag F.FWU_STAT_trial then .err m c Cs.badState
  else .ok m { c with trust := { c.trust with leaving := true } } []

/-- FW_REJECT (R435): once it is answered, the trial ends in fallback. -/
def execFwReject (src : ChiebSrc) (s : State) : Host.Outcome State Fault Refusal :=
  match chiebRow 0x0604 src fwReject s with
  | .next s1 => if s.c.trust.leaving then .next s1 else onAll (fun m c => if c.trust.leaving then trialOut m c else (m, c)) s1
  | .fault f => .fault f
  | .refused r => .refused r

/-- The requester root words are all zero, those on their way to persistence included (R443). -/
def Ctl.rootZero (c : Ctl) : Bool := (List.range 8).all (fun w => c.pcrLast (Reg.FWU_SPDM_ROOT w) == 0)

/-- SPDM_ROOT_SET: at first from the mailbox or the sideband, later only inside a session; each word is written as a persistent word. -/
def spdmRootSet (t : Taken) (m : Mem) (c : Ctl) : CRes :=
  let place := match t.src with | .mailbox _ => true | .sideband _ _ => true | _ => t.secured
  let bad := ((List.range 8).map (fun w => c.pcrRefusal (67 + w))).find? (fun st => st != 0)
  if t.pkt.words.length ≠ 8 then .err m c Cs.badParam
  else if !(if c.rootZero then place else t.secured) then .err m c Cs.denied
  else match bad with
    | some st => .err m c st
    | none => .ok m ((List.range 8).foldl (fun (c : Ctl) w => c.pcrStart (Reg.FWU_SPDM_ROOT w) (67 + w) (wd (t.w w)) true) c) []

/-- SPDM_ROOT_SET (R443). -/
def execSpdmRootSet (src : ChiebSrc) (s : State) : Host.Outcome State Fault Refusal := chiebRow 0x0605 src spdmRootSet s

end Sys2Proof.Machine
end

