-- ==== Sys2Proof/Machine/HostAdmin.lean ====
section
/-! DEFINITION. Fabrics and admin commands (05_host_command_path.md, R77 to R84, R90 to R92, R94, R96, R100 to R106, R112): Connect,
properties, Abort, features, events, firmware, self-test, keep-alive, and Chieb packets in-band. -/

namespace Sys2Proof.Machine

/-! ### Admin commands -/

/-- The completion of an admin command. -/
def Ctl.adminEnd (c : Ctl) (x : AdminCmd) (a : Assoc) (st : NvStatus) (dw0 dw1 : Nat) : Ctl :=
  c.complete x.conn x.cid (some a.tenant) st dw0 dw1

/-- Data of an admin command, then its successful completion. -/
def Ctl.adminData (c : Ctl) (x : AdminCmd) (a : Assoc) (d : HostData) : Ctl :=
  (if c.halted then c else c.emit (.hostData x.conn x.cid d)).adminEnd x a St.ok 0 0

/-- The most bytes that a command may move (MDTS 9, Table 5.1). -/
def mdts : Nat := 2097152

/-! ### Connect (R77 to R80, R82) -/

/-- The bytes of a string. -/
def asciiBytes (s : String) : List Byte := s.toList.map (fun ch => BitVec.ofNat 8 ch.toNat)

/-- The well-known discovery NQN (R82). -/
def discoveryNqn : Nqn := asciiBytes "nqn.2014-08.org.nvmexpress.discovery"

/-- CNTLID of association `k` (R77). -/
def Ctl.cntlid (c : Ctl) (k : Nat) : Nat := (if c.power.slotId then 0x1000 else 0) + k + 1

/-- A Connect refused for a parameter: DW0 names its offset (IPO) and whether it lies in the data. -/
def Ctl.connectBad (c : Ctl) (x : ConnectCmd) (ipo data : Nat) : Ctl := c.complete x.conn x.cid none St.connParam (ipo + 65536 * data) 0

/-- The connection has carried a Connect. -/
def Ctl.connMark (c : Ctl) (k : Nat) : Ctl := { c with net := { c.net with conns := Tab.upd c.net.conns k (fun x => { x with used := true }) } }

/-- Whether the host of an admin Connect is admitted (R78). -/
def Ctl.hostAdmitted (c : Ctl) (nqn : Nqn) (tcp tls : Bool) : Option HostEntry :=
  match c.hostOf nqn with
  | some h => if h.tenant ≠ 0xFFF && (!tcp || !h.tls || tls) then some h else none
  | none => none

/-- A new association: its controller not enabled, and nothing set. -/
def Assoc.fresh (x : ConnectCmd) (tenant : Nat) (disc : Bool) (dt : Nat) : Assoc :=
  { hostNqn := x.hostNqn, tenant := tenant, discovery := disc, adminConn := x.conn, kato := x.kato, kaStart := dt, cc := 0, rdy := false,
    shst := 0, shAt := 0, aecfg := 0, granted := none, aers := [], events := [], masked := [], aborts := 0, ps := 0, apstEn := false,
    apst := [], idleAt := dt, acre := false, chieb := none, errLog := [], errCount := 0, changedNs := [], ending := false, stLog := [] }

/-- The association of a Connect begins under the lowest free index: its CNTLID is returned, and its in-band channel accepts any seq
(R77, R385). -/
def Ctl.assocBegin (c : Ctl) (x : ConnectCmd) (tenant : Nat) (disc : Bool) : Ctl :=
  match Tab.freeKey c.host.assocs 0 4096 with
  | none => (c.bump F.HCP_REFUSE_STAT_connect_busy 1).complete x.conn x.cid none St.connBusy 0 0
  | some k =>
    let c1 := ((c.setAssoc k (Assoc.fresh x tenant disc c.dt)).connMark x.conn).chanReset (1 + k)
    c1.psApply.complete x.conn x.cid (some tenant) St.ok (c.cntlid k) 0

/-- A command on the admin queue restarts the keep-alive timer (R81). -/
def Ctl.keepAlive (c : Ctl) (conn : Nat) : Ctl :=
  match c.adminAssoc conn with
  | some (k, a) => c.setAssoc k { a with kaStart := c.dt }
  | none => c

/-- The tenant number of a discovery association: no tenant, so that it sees no namespace (R78, R82). -/
def noTenant : Nat := 0xFFF

/-- Checks of an admin Connect, and its association. The order of the checks, and the refusal of a second Connect of a connection, are
notes/assumptions/21.md. -/
def Ctl.connectAdmin (c : Ctl) (x : ConnectCmd) : Ctl :=
  let disc := x.subNqn == discoveryNqn
  let cn := c.conn? x.conn
  if (c.connAssoc x.conn).isSome then (c.keepAlive x.conn).connectBad x 42 0
  else if x.recfmt ≠ 0 then c.complete x.conn x.cid none St.connFormat 0 0
  else if !disc && x.subNqn != c.mgt.nqn then c.connectBad x 256 1
  else if x.qid ≠ 0 then c.connectBad x 42 0
  else if x.cntlid ≠ 0xFFFF then c.connectBad x 16 1
  else if x.sqsize ≠ 31 then c.connectBad x 44 0
  else if x.kato < 1000 ∨ 600000 < x.kato then c.connectBad x 48 0
  else if disc then c.assocBegin x noTenant true
  else match c.hostAdmitted x.hostNqn (cn.any (·.tcp)) (cn.any (·.tls)) with
    | none => (c.bump F.HCP_REFUSE_STAT_connect_host 1).complete x.conn x.cid none St.connHost 0 0
    | some h => c.assocBegin x h.tenant false

/-- The I/O queue of a Connect is connected. -/
def Ctl.queueBegin (c : Ctl) (x : ConnectCmd) (k : Nat) (a : Assoc) (tcp : Bool) : Ctl :=
  let q : HostQueue := ⟨k, x.qid, x.sqsize + 1, x.conn, false, false, tcp⟩
  ({ c with host := { c.host with queues := Tab.put c.host.queues x.conn q } }.connMark x.conn).complete x.conn x.cid (some a.tenant) St.ok
    (c.cntlid k) 0

/-- The highest QID of an association: the smaller of its two grants, or 1,024 before any (R80). -/
def Assoc.maxQid (a : Assoc) : Nat := match a.granted with | some (sq, cq) => min 1024 (min sq cq) | none => 1024

/-- Checks of an I/O Connect, and its queue (R79, R80). -/
def Ctl.connectIo (c : Ctl) (x : ConnectCmd) : Ctl :=
  if (c.connAssoc x.conn).isSome then (c.keepAlive x.conn).connectBad x 42 0
  else if x.recfmt ≠ 0 then c.complete x.conn x.cid none St.connFormat 0 0
  else if x.subNqn ≠ c.mgt.nqn then c.connectBad x 256 1
  else match c.host.assocs.find? (fun p => c.cntlid p.1 == x.cntlid && !p.2.ending && !p.2.discovery && p.2.hostNqn == x.hostNqn) with
    | none => c.connectBad x 16 1
    | some (k, a) =>
      if x.qid = 0 ∨ a.maxQid < x.qid ∨ c.host.queues.any (fun q => q.2.assoc == k && q.2.qid == x.qid) then
        c.connectBad x 42 0
      else if x.sqsize < 1 ∨ 4095 < x.sqsize then c.connectBad x 44 0
      else if 262144 ≤ c.host.queues.length then (c.bump F.HCP_REFUSE_STAT_connect_busy 1).complete x.conn x.cid none St.connBusy 0 0
      else c.queueBegin x k a ((c.conn? x.conn).any (·.tcp))

/-! ### Properties (R88, R106) -/

/-- CAP: MQES 4,095, CQR 1, TO 1, the NVM command set, MPSMIN and MPSMAX 0 (R106). -/
def nvCap : Nat := 4095 + 2 ^ 16 + 2 ^ 24 + 2 ^ 37

/-- CSTS of a controller: RDY, and SHST (R106). -/
def Assoc.csts (a : Assoc) : Nat := (if a.rdy then 1 else 0) + 4 * a.shst

/-- NVME_PROPERTY_GET (R88): the property's offset stands in CDW11. -/
def propertyGetDo (cmd : AdminCmd) (_ : Nat) (a : Assoc) (c : Ctl) : Ctl :=
  match cmd.cdw11.toNat with
  | 0x00 => c.adminEnd cmd a St.ok (nvCap % 2 ^ 32) (nvCap / 2 ^ 32)
  | 0x08 => c.adminEnd cmd a St.ok 0x00020000 0
  | 0x14 => c.adminEnd cmd a St.ok a.cc.toNat 0
  | 0x1C => c.adminEnd cmd a St.ok a.csts 0
  | _ => c.adminEnd cmd a St.badField 0 0

/-- The Abort commands of a controller that are held are counted (R79). -/
def Ctl.abortsNote (c : Ctl) (k : Nat) : Ctl :=
  let isAbort (x : Capsule) : Bool := match x with | .admin y => y.op == .abort | _ => false
  c.onAssoc k (fun a => { a with aborts :=
    (c.host.intake.filter (fun e => e.conn == a.adminConn && isAbort e.cap)).length
      + (c.host.tags.filter (fun p => p.2.assoc == k && p.2.state == .waiting && p.2.adm.any (fun x => x.op == .abort))).length })

/-- The rule of R106 for the tags of a controller that satisfy `p`: they are discarded, and capsules of its I/O queues that have no context
yet go with them. -/
def Ctl.ctlrDiscard (c : Ctl) (k : Nat) (p : TagE → Bool) : Ctl :=
  let ks := (c.host.queues.filter (fun q => q.2.assoc == k)).map (·.1)
  (({ c with host := { c.host with intake := c.host.intake.filter (fun e => !ks.contains e.conn) } }).discardTags
    (fun t => t.assoc == k && p t)).abortsNote k

/-- CC.EN goes from 1 to 0 (R106). -/
def Ctl.ctlrReset (c : Ctl) (k : Nat) : Ctl :=
  (c.ctlrDiscard k (fun _ => true)).onAssoc k (fun a => { a with rdy := false, shst := 0, aers := [] })

/-- CC.EN, and CC.SHN. -/
def ccEn (w : Word) : Bool := w.getLsbD 0
def ccShn (w : Word) : Nat := getBits w 15 14

/-- A shutdown notification starts: CSTS.SHST is 01b until it is complete (R106). -/
def Ctl.shutdownBegin (c : Ctl) (k : Nat) : Ctl := c.onAssoc k (fun a => { a with shst := 1, shAt := c.dt })

/-- CC goes from `old` to `new` (R106): CC.EN to 0 resets the controller, CC.EN to 1 enables it; a shutdown notification that was not given
yet starts the shutdown. -/
def Ctl.ccChange (c : Ctl) (k : Nat) (old new : Word) : Ctl :=
  if ccEn old && !ccEn new then c.ctlrReset k
  else
    let c1 := if !ccEn old && ccEn new then c.onAssoc k (fun a => { a with rdy := true, shst := 0 }) else c
    if ccShn new ≠ 0 && (c1.assoc? k).any (fun a => a.shst == 0) then c1.shutdownBegin k else c1

/-- A Property Set (R88, R106): any offset but CC's gives Invalid Field in Command; its completion leaves before what CC changes. -/
def propertySetDo (cmd : AdminCmd) (k : Nat) (a : Assoc) (c : Ctl) : Ctl :=
  if cmd.cdw11.toNat ≠ 0x14 then c.adminEnd cmd a St.badField 0 0
  else ((c.setAssoc k { a with cc := cmd.cdw12 }).adminEnd cmd a St.ok 0 0).ccChange k a.cc cmd.cdw12

/-- Whether a command still keeps a shutdown waiting: a tag of the controller, or a capsule of its queues at intake; Asynchronous Event
Requests do not count (R106). -/
def Ctl.shutdownBusy (c : Ctl) (k : Nat) : Bool :=
  c.host.tags.any (fun p => p.2.kind.host && p.2.assoc == k && !p.2.adm.any (fun x => x.op == .asyncEvent))
    || c.host.intake.any (fun e => (c.assocConns k).contains e.conn)

/-- SHUTDOWN_COMPLETE (R106): no outstanding command remains, or 100 ms have passed and what remains is handled as for CC.EN 1 to 0. -/
def execShutdownComplete (assoc : Fin 4096) (s : State) : Host.Outcome State Fault Refusal :=
  onCtl (fun _ c =>
    match c.assoc? assoc with
    | none => c
    | some a =>
      if a.shst ≠ 1 ∨ a.ending ∨ c.halted then c
      else
        let c1 := if c.shutdownBusy assoc then
            (c.reach (a.shAt + 100000000)).ctlrDiscard assoc (fun t => !t.adm.any (fun x => x.op == .asyncEvent))
          else c
        c1.onAssoc assoc (fun a => { a with shst := 2 })) s

/-! ### Keep-alive (R81) -/

/-- Keep Alive: the timer has started again with the capsule. -/
def keepAliveDo (cmd : AdminCmd) (_ : Nat) (a : Assoc) (c : Ctl) : Ctl := c.adminEnd cmd a St.ok 0 0

/-- KEEP_ALIVE_TIMEOUT (R81): the timer reaches KATO, and the association ends. -/
def execKeepAliveTimeout (assoc : Fin 4096) (s : State) : Host.Outcome State Fault Refusal :=
  onCtl (fun _ c =>
    match c.assoc? assoc with
    | none => c
    | some a =>
      if a.ending ∨ c.halted then c
      else ((c.reach (a.kaStart + 1000000 * a.kato)).bump F.HCP_KATO_STAT_kato_exp 1).assocEnd assoc) s

/-! ### Abort (R79, R103, Table 5.9) -/

/-- The tag of a command by association, queue and CID: the one whose CID is in use, else one whose completion has left. -/
def Ctl.tagOf (c : Ctl) (k qid cid : Nat) : Option (Nat × TagE) :=
  let l := c.host.tags.filter (fun p =>
    p.2.kind.host && p.2.kind != .conflict && p.2.assoc == k && p.2.qid == qid && p.2.cid == cid)
  (l.find? (fun p => !p.2.sent)).or l.head?

/-- NVME_ABORT (R103): CDW10 names queue and CID. -/
def abortDo (cmd : AdminCmd) (k : Nat) (a : Assoc) (c : Ctl) : Ctl :=
  let qid := getBits cmd.cdw10 15 0
  match (if qid = 0 then none else c.tagOf k qid (getBits cmd.cdw10 31 16)) with
  | some (tag, t) =>
    match t.state with
    | .waiting | .running =>
      ((((c.tagTo tag .aborted).bump F.HCP_ABORT_STAT_abort_won 1).tev .hcp 7 0 (some a.tenant) none 1).adminEnd cmd a St.ok 0 0).startReady
    | .completing => (c.bump F.HCP_ABORT_STAT_cpl_won 1).adminEnd cmd a St.ok 1 0
    | _ => c.adminEnd cmd a St.ok 1 0
  | none => c.adminEnd cmd a St.ok 1 0

/-! ### Features (R94, Table 5.5) -/

/-- The features of Table 5.5. -/
def featIds : List Nat := [0x02, 0x04, 0x07, 0x0B, 0x0C, 0x0F, 0x16, 0xD1, 0xD2, 0xD3]

/-- The 256 bytes of an APST table: idle state in bits [7:3] of an entry and idle time in ms in [31:8] (R112). -/
def apstBytes (t : List (Nat × Nat)) : List Byte :=
  (List.range 32).flatMap (fun i => let e := t.getD i (0, 0); leBytes 8 (8 * e.1 + 256 * e.2))

/-- The entries that 256 bytes name. -/
def apstEntries (bs : List Byte) : List (Nat × Nat) :=
  (List.range 32).map (fun i => let v := leNat ((bs.drop (8 * i)).take 4); (v / 8 % 32, v / 256))

/-- The I/O queue of an association by its QID. -/
def Ctl.queueBy (c : Ctl) (k qid : Nat) : Option (Nat × HostQueue) :=
  c.host.queues.find? (fun q => q.2.assoc == k && q.2.qid == qid && !q.2.ending)

/-- The flag of an ordered queue, or none where D1h gives Invalid Field in Command (R100). -/
def Ctl.orderedFlag (c : Ctl) (k qid : Nat) : Option Bool :=
  if c.flag F.HCP_CFG_ordered_en then (c.queueBy k qid).map (·.2.ordered) else none

/-- DW0 of Number of Queues: the counts of submission and completion queues less 1. -/
def queueDw (n : Nat × Nat) : Nat := (n.1 - 1) + 65536 * (n.2 - 1)

/-- The value of a feature, current or default, in DW0; none is Invalid Field in Command (R94). -/
def Ctl.featValue (c : Ctl) (k : Nat) (a : Assoc) (x : AdminCmd) (fid : Nat) (dflt : Bool) : Option Nat :=
  if fid = 0x02 then some (if dflt then 0 else a.ps)
  else if fid = 0x04 then 
    some ((if dflt then getBits (Reg.resetWord Reg.GLB_THERM_CFG) F.GLB_THERM_CFG_warn_c.hi F.GLB_THERM_CFG_warn_c.lo
      else c.get F.GLB_THERM_CFG_warn_c) + 273)
  else if fid = 0x07 then some (queueDw (if dflt then (1024, 1024) else a.granted.getD (1024, 1024)))
  else if fid = 0x0B then some (if dflt then 0 else a.aecfg.toNat)
  else if fid = 0x0C then some (if !dflt && a.apstEn then 1 else 0)
  else if fid = 0x0F then some (if dflt then Config.katoDefault else a.kato)
  else if fid = 0x16 then some 0
  else if fid = 0xD1 then (c.orderedFlag k (getBits x.cdw11 15 0)).map (fun o => if o && !dflt then 1 else 0)
  else if fid = 0xD2 then some a.tenant
  else if fid = 0xD3 then
    some ((if dflt || !c.flag (F.CRM_NS_CFG_host_set x.nsid) then 0 else c.get (F.CRM_NS_CFG_host_mode x.nsid))
      + 4 * (if dflt then c.get (F.CRM_NS_CFG_mgmt_mode x.nsid) else c.crmMode x.nsid))
  else none

/-- The data that Get Features returns with DW0: the APST table, and the 512 bytes of Host Behavior Support. -/
def featData (a : Assoc) (fid : Nat) (dflt : Bool) : Option HostData :=
  if fid = 0x0C then some (.bytes (apstBytes (if dflt then [] else a.apst)))
  else if fid = 0x16 then some (.bytes (leBytes 1 (if a.acre && !dflt then 1 else 0) ++ List.replicate 511 0))
  else none

/-- Whether NSID is wrong for a feature: D3h takes a namespace of the tenant, the others any value (R93, R184). -/
def Ctl.featNsBad (c : Ctl) (a : Assoc) (x : AdminCmd) (fid : Nat) : Bool := fid == 0xD3 && !c.nsAttached x.nsid a.tenant

/-- NVME_GET_FEATURES (R94): SEL 000b current, 001b and 010b default, since nothing is saveable, 011b capabilities. -/
def getFeaturesDo (cmd : AdminCmd) (k : Nat) (a : Assoc) (c : Ctl) : Ctl :=
  let fid := getBits cmd.cdw10 7 0
  let sel := getBits cmd.cdw10 10 8
  if !featIds.contains fid || decide (3 < sel) then c.adminEnd cmd a St.badField 0 0
  else if sel = 3 then
    if fid = 0xD1 ∧ (c.orderedFlag k (getBits cmd.cdw11 15 0)).isNone then c.adminEnd cmd a St.badField 0 0
    else c.adminEnd cmd a St.ok ((if fid = 0xD3 then 2 else 0) + (if fid = 0x04 ∨ fid = 0xD2 then 0 else 4)) 0
  else if c.featNsBad a cmd fid then c.adminEnd cmd a St.badNs 0 0
  else match c.featValue k a cmd fid (sel != 0) with
    | none => c.adminEnd cmd a St.badField 0 0
    | some v =>
      let c1 := match featData a fid (sel != 0) with
        | some d => c.emit (.hostData cmd.conn cmd.cid d)
        | none => c
      c1.adminEnd cmd a St.ok v 0

/-- What setting a feature does: its status, DW0 of the completion, and the state after it. -/
abbrev FeatSet := AdminCmd → Nat → Assoc → Ctl → NvStatus × Nat × Ctl

/-- Power Management (R112): power states 0 to 3. -/
def setPower : FeatSet := fun x k a c =>
  let ps := getBits x.cdw11 4 0
  if 3 < ps ∨ getBits x.cdw11 31 8 ≠ 0 then (St.badField, 0, c)
  else (St.ok, 0, (c.setAssoc k { a with ps := ps, idleAt := c.dt }).psApply)

/-- Number of Queues (R80): both grants. -/
def setQueues : FeatSet := fun x k a c =>
  let n := (min 1024 (getBits x.cdw11 15 0 + 1), min 1024 (getBits x.cdw11 31 16 + 1))
  (St.ok, queueDw n, c.setAssoc k { a with granted := some n })

/-- Asynchronous Event Configuration (R96). -/
def setEvents : FeatSet := fun x k a c => (St.ok, 0, c.setAssoc k { a with aecfg := x.cdw11 })

/-- Autonomous Power State Transition (R112): 32 entries, each naming a power state of Table 5.10. -/
def setApst : FeatSet := fun x k a c =>
  let es := apstEntries x.data
  if es.any (fun e => decide (3 < e.1)) ∨ getBits x.cdw11 31 1 ≠ 0 then (St.badField, 0, c)
  else (St.ok, 0, c.setAssoc k { a with apstEn := getBit x.cdw11 0, apst := es })

/-- Keep Alive Timer (R94). -/
def setKato : FeatSet := fun x k a c =>
  if x.cdw11.toNat < 1000 ∨ 600000 < x.cdw11.toNat then (St.katoInvalid, 0, c)
  else (St.ok, 0, c.setAssoc k { a with kato := x.cdw11.toNat })

/-- Host Behavior Support (R94): ACRE only. -/
def setBehavior : FeatSet := fun x k a c =>
  if 1 < leNat (x.data.take 1) || (x.data.drop 1).any (· != 0) then (St.badField, 0, c)
  else (St.ok, 0, c.setAssoc k { a with acre := leNat (x.data.take 1) == 1 })

/-- Ordered queues (R100, R101). -/
def setOrdered : FeatSet := fun x k _ c =>
  let qid := getBits x.cdw11 15 0
  match (if c.flag F.HCP_CFG_ordered_en && getBits x.cdw11 31 17 == 0 then c.queueBy k qid else none) with
  | none => (St.badField, 0, c)
  | some (n, q) =>
    if c.host.tags.any (fun p => p.2.kind.host && p.2.assoc == k && p.2.qid == qid) then (St.sequence, 0, c)
    else (St.ok, 0, { c with host := { c.host with queues := Tab.put c.host.queues n { q with ordered := getBit x.cdw11 16 } } })

/-- Crema hints (R184). -/
def setHints : FeatSet := fun x _ a c =>
  if !c.nsAttached x.nsid a.tenant then (St.badNs, 0, c)
  else if getBits x.cdw11 31 2 ≠ 0 ∨ getBits x.cdw11 1 0 = 3 then (St.badField, 0, c)
  else (St.ok, 0, (c.set (F.CRM_NS_CFG_host_mode x.nsid) (getBits x.cdw11 1 0)).setFlag (F.CRM_NS_CFG_host_set x.nsid) true)

/-- What setting each feature of Table 5.5 does; 04h and D2h are not changeable (R94). -/
def featSet (fid : Nat) : FeatSet :=
  if fid = 0x02 then setPower else if fid = 0x07 then setQueues else if fid = 0x0B then setEvents else if fid = 0x0C then setApst
  else if fid = 0x0F then setKato else if fid = 0x16 then setBehavior else if fid = 0xD1 then setOrdered else if fid = 0xD3 then setHints
  else fun _ _ _ c => (St.notChangeable, 0, c)

/-- Set Features (R94): an FID outside Table 5.5 gives Invalid Field in Command, SV = 1 Feature Identifier Not Saveable. -/
def setFeaturesDo (cmd : AdminCmd) (k : Nat) (a : Assoc) (c : Ctl) : Ctl :=
  let fid := getBits cmd.cdw10 7 0
  if !featIds.contains fid then c.adminEnd cmd a St.badField 0 0
  else if getBit cmd.cdw10 31 then c.adminEnd cmd a St.notSaveable 0 0
  else
    let r := featSet fid cmd k a c
    r.2.2.adminEnd cmd a r.1 r.2.1 0

/-! ### Asynchronous events (R79, R96) -/

/-- NVME_ASYNC_EVENT_REQUEST (R96): the oldest event held completes it at once; else it is held, up to 8. -/
def asyncEventDo (cmd : AdminCmd) (k : Nat) (a : Assoc) (c : Ctl) : Ctl :=
  if 8 ≤ a.aers.length then c.adminEnd cmd a St.aerLimit 0 0
  else match a.events with
    | e :: rest =>
      (c.setAssoc k { a with events := rest, masked := if e.maskable then a.masked ++ [e] else a.masked }).adminEnd cmd a St.ok e.dw0 0
    | [] => c.setAssoc k { a with aers := a.aers ++ [cmd.cid] }

/-! ### Firmware (R91, R430, R431) -/

/-- NVME_FIRMWARE_IMAGE_DOWNLOAD (R91, R430): dwords less 1 in CDW10, offset in dwords in CDW11. -/
def fwDownloadDo (cmd : AdminCmd) (_ : Nat) (a : Assoc) (c : Ctl) : Ctl :=
  let len := 4 * (cmd.cdw10.toNat + 1)
  let off := 4 * cmd.cdw11.toNat
  if mdts < len ∨ len % 4096 ≠ 0 ∨ off % 4096 ≠ 0 ∨ 67108864 < off + len then c.adminEnd cmd a St.badField 0 0
  else if cmd.data.length ≠ len then c.adminEnd cmd a St.sglLength 0 0
  else match c.stageImage off cmd.data with
    | some c1 => c1.adminEnd cmd a St.ok 0 0
    | none => c.adminEnd cmd a St.fwOverlap 0 0

/-- The image slot of a firmware slot: FS 0 selects the lowest of slots 1 to 3 that is not running. -/
def Ctl.fsSlot (c : Ctl) (fs : Nat) : Nat :=
  if fs = 0 then (([1, 2, 3] : List Nat).find? (fun n => n != c.get F.FWU_STAT_cur_slot)).getD 1 else fs - 1

/-- Why a Firmware Commit is refused (R91); 0 where it may begin. Slot 0, the factory image, may only be made pending. -/
def Ctl.nvFwRefusal (c : Ctl) (slot action : Nat) (look : ImgLook) : Nat :=
  if slot = 0 ∧ action = 2 then (if c.trust.commit.isSome then Cs.badState else c.slotCheck 0 look) else c.fwRefusal slot action look

/-- Firmware Commit (R91, R431): FS in CDW10 [2:0], action in [5:3]. -/
def fwCommitDo (cmd : AdminCmd) (look : ImgLook) (k : Nat) (a : Assoc) (c : Ctl) : Ctl :=
  let slot := c.fsSlot (getBits cmd.cdw10 2 0)
  let action := getBits cmd.cdw10 5 3
  let st := c.nvFwRefusal slot action look
  if st ≠ 0 then c.adminEnd cmd a (fwNvStatus st) 0 0
  else c.commitBegin ⟨slot, action, .nvme cmd.conn cmd.cid k, 0⟩

/-! ### Device Self-test (R92) -/

/-- A result joins log page 06h of the controller that asked: the newest 20 are kept. -/
def Ctl.testResult (c : Ctl) (t : DevTest) (result : Nat) : Ctl :=
  ({ c with host := { c.host with test := none } }).onAssoc t.assoc (fun a =>
    { a with stLog := ((⟨if t.extended then 2 else 1, result, t.nsid⟩ : SelfTestResult) :: a.stLog).take 20 })

/-- The groups whose stripes a self-test reads: none for NSID 0, the namespace's, or every one (R92). -/
def Ctl.testGroups (c : Ctl) (nsid : Nat) : List Nat :=
  if nsid = 0 then [] else if nsid = 0xFFFFFFFF then c.groups else [c.nsGroup nsid]

/-- NVME_DEVICE_SELF_TEST (R92): STC 1h short, 2h extended, Fh abort. -/
def selfTestDo (cmd : AdminCmd) (k : Nat) (a : Assoc) (c : Ctl) : Ctl :=
  let stc := getBits cmd.cdw10 3 0
  if stc = 15 then (match c.host.test with | some t => c.testResult t 1 | none => c).adminEnd cmd a St.ok 0 0
  else if stc ≠ 1 ∧ stc ≠ 2 then c.adminEnd cmd a St.badField 0 0
  else if cmd.nsid ≠ 0 ∧ cmd.nsid ≠ 0xFFFFFFFF ∧ !c.nsAttached cmd.nsid a.tenant then c.adminEnd cmd a St.badNs 0 0
  else if c.host.test.isSome then c.adminEnd cmd a St.testRunning 0 0
  else
    let gs := c.testGroups cmd.nsid
    (({ c with host := { c.host with test := some ⟨k, stc == 2, cmd.nsid, gs⟩ } }).emit (.selfTest (stc == 2) gs)).adminEnd cmd a St.ok
      0 0

/-- SELF_TEST_DONE (R92), with the result code that the test found: a concurrent test, it waits for the exit in IDLE_LOW (Table 3.4). -/
def execSelfTestDone (result : Fin 16) (s : State) : Host.Outcome State Fault Refusal :=
  onCtl (fun _ c => match (if c.halted || c.mode == .idleLow then none else c.host.test) with | some t => c.testResult t result | none => c) s

/-! ### Chieb in-band (R90) -/

/-- Whether a C1h or C2h is served: the status that refuses it, or none. -/
def Ctl.chiebRefusal (c : Ctl) (a : Assoc) : Option NvStatus :=
  if !c.flag F.HCP_CFG_inband_en then some St.badOpcode else if !c.inband a then some St.denied else none

/-- Chieb request (R90): a pending reply is discarded, and the packet is taken; its completion follows with the reply. -/
def chiebRequestDo (cmd : AdminCmd) (k : Nat) (a : Assoc) (m : Mem) (c : Ctl) : Mem × Ctl :=
  match c.chiebRefusal a with
  | some st => (m, c.adminEnd cmd a st 0 0)
  | none => chiebTake m (c.setAssoc k { a with chieb := none }) ⟨1 + k, .inband k, pktOf cmd.data, false, cmd.conn, cmd.cid⟩ cmd.data true

/-- CHIEB_REPLY_C2H (R90). -/
def chiebReplyDo (cmd : AdminCmd) (k : Nat) (a : Assoc) (c : Ctl) : Ctl :=
  match c.chiebRefusal a with
  | some st => c.adminEnd cmd a st 0 0
  | none =>
    match a.chieb with
    | none => c.adminEnd cmd a St.sequence 0 0
    | some bs => (c.setAssoc k { a with chieb := none }).adminData cmd a (.bytes bs)

/-! ### Autonomous power-state transition (R112) -/

/-- APST_IDLE_TIMER (R112): the controller has been idle for the idle time of its state's entry, and moves to the entry's state; DEGRADED
suppresses it (R51). -/
def execApstIdleTimer (assoc : Fin 4096) (s : State) : Host.Outcome State Fault Refusal :=
  onCtl (fun _ c =>
    match c.assoc? assoc with
    | none => c
    | some a =>
      let e := a.apst.getD a.ps (0, 0)
      if c.mode == .degraded || a.ending || !a.apstEn || e.2 == 0 || e.1 == a.ps || c.halted || c.host.tags.any (fun p => p.2.kind.io && p.2.assoc == assoc.val) then c
      else
        let c1 := c.reach (a.idleAt + 1000000 * e.2)
        (c1.setAssoc assoc { a with ps := e.1, idleAt := c1.dt }).psApply) s

end Sys2Proof.Machine
end

