-- ==== Sys2Proof/Machine/HostPages.lean ====
section
/-! DEFINITION. What Identify and Get Log Page return (05_host_command_path.md, R82, R93, R95, R110; R437 of 17_firmware_and_trust.md), at
the byte places of the NVMe Base Specification (PRESUMED, notes/assumptions/37.md). -/

namespace Sys2Proof.Machine

/-- A structure of `n` bytes from fields: first byte, number of bytes, little-endian value; every other byte is 0. -/
def structBytes (n : Nat) (fs : List (Nat × Nat × Nat)) : List Byte :=
  (List.range n).map (fun i => match fs.find? (fun f => decide (f.1 ≤ i) && decide (i < f.1 + f.2.1)) with
    | some f => BitVec.ofNat 8 (f.2.2 / 256 ^ (i - f.1))
    | none => 0)

/-- An NQN in `n` bytes. -/
def nqnField (n : Nat) (q : Nqn) : List Byte := (q ++ List.replicate n 0).take n

/-! ### Identify (R93) -/

/-- The power state descriptors of Table 5.10: maximum power in 0.01 W, ENLAT and EXLAT; PS3 is not operational. -/
def psdFields : List (Nat × Nat × Nat) :=
  [(2048, 2, 18500), (2080, 2, 14000), (2084, 4, 10), (2088, 4, 50), (2112, 2, 9000), (2116, 4, 1000), (2120, 4, 2000),
   (2144, 2, 2500), (2147, 1, 2), (2148, 4, 120000), (2152, 4, 20000)]

/-- AWUPF: 63, or 0 in write-through mode (R108, R109). -/
def Ctl.awupf (c : Ctl) : Nat := if c.flag F.CAR_STAT_wt then 0 else 63

/-- Whether the connection of an admin queue is NVMe/TCP. -/
def Ctl.adminTcp (c : Ctl) (a : Assoc) : Bool := (c.conn? a.adminConn).any (·.tcp)

/-- Identify Controller, Table 5.4 (CNS 01h). -/
def Ctl.idController (c : Ctl) (k : Nat) (a : Assoc) : List Byte :=
  let bs := structBytes 4096 ([(77, 1, 9), (78, 2, c.cntlid k), (80, 4, 0x00020000), (92, 4, if a.discovery then 0x80000000 else 0xB00),
    (111, 1, if a.discovery then 2 else 1), (128, 2, c.get F.HCP_CFG_crd1_100ms), (256, 2, 0x14), (258, 1, 15), (259, 1, 7), (260, 1, 0x19),
    (261, 1, 6), (262, 1, 255), (263, 1, 3), (265, 1, 1), (270, 2, 2), (316, 2, 120), (318, 1, 1), (319, 1, 1), (320, 2, 1), (342, 1, 1),
    (343, 1, 0x45), (344, 4, 16), (348, 4, 16), (512, 1, 0x66), (513, 1, 0x44), (514, 2, 65535), (516, 4, 16384), (520, 2, 0x0C),
    (526, 2, 63), (528, 2, c.awupf), (1792, 4, 260), (1796, 4, 1), (1803, 1, if c.adminTcp a then 1 else 16)] ++ psdFields)
  bs.take 768 ++ nqnField 256 c.mgt.nqn ++ bs.drop 1024

/-- NUSE of a namespace: its usage in blocks (R206). -/
def Ctl.nuse (c : Ctl) (ns : Nat) : Nat := ((Tab.getD c.car.ns ns ⟨0, 0, 0⟩).usage + 4095) / 4096

/-- Identify Namespace (CNS 00h); `none` gives what every namespace has in common. -/
def Ctl.idNamespace (c : Ctl) (ns : Option Nat) : List Byte :=
  let own := match ns with
    | some n =>
      let z := c.nsze n
      let w := c.grpDS (c.nsGroup n) - 1
      [(0, 8, z), (8, 8, z), (16, 8, c.nuse n), (64, 2, w), (66, 2, w), (72, 2, w), (92, 4, c.nsGroup n + 1)]
    | none => []
  let bs := structBytes 4096 (own ++ [(24, 1, 0x13), (33, 1, 9), (34, 2, c.awupf), (36, 2, c.awupf), (130, 1, 12)])
  let id := match ns with | some n => (Tab.getD c.mgt.nguid n [] ++ List.replicate 16 0).take 16 | none => List.replicate 16 0
  bs.take 104 ++ id ++ bs.drop 120

/-- The namespaces attached to a tenant, ascending. -/
def Ctl.visibleNs (c : Ctl) (ten : Nat) : List Nat := (c.car.ns.map (·.1)).filter (fun n => c.nsAttached n ten)

/-- The namespace identification descriptors (CNS 03h): the NGUID, then the command set. -/
def Ctl.idDescriptors (c : Ctl) (ns : Nat) : List Byte :=
  let bs : List Byte := [2, 16, 0, 0] ++ (Tab.getD c.mgt.nguid ns [] ++ List.replicate 16 0).take 16 ++ [4, 1, 0, 0, 0]
  bs ++ List.replicate (4096 - bs.length) 0

/-- NVME_IDENTIFY (R93): CNS in CDW10 [7:0]. -/
def identifyDo (cmd : AdminCmd) (k : Nat) (a : Assoc) (c : Ctl) : Ctl :=
  let cns := getBits cmd.cdw10 7 0
  let all := cmd.nsid == 0xFFFFFFFF
  if cns = 0x01 then c.adminData cmd a (.bytes (c.idController k a))
  else if cns = 0x06 then
    if getBits cmd.cdw11 31 24 ≠ 0 then c.adminEnd cmd a St.badField 0 0
    else c.adminData cmd a (.words [16, 256, min Config.dmsl (2 ^ 32)])
  else if cns = 0x00 then
    if all then c.adminData cmd a (.bytes (c.idNamespace none))
    else if c.nsAttached cmd.nsid a.tenant then c.adminData cmd a (.bytes (c.idNamespace (some cmd.nsid)))
    else c.adminEnd cmd a St.badNs 0 0
  else if cns = 0x02 then
    if all then c.adminEnd cmd a St.badNs 0 0
    else c.adminData cmd a (.nsList (((c.visibleNs a.tenant).filter (fun n => decide (cmd.nsid < n))).take 1024))
  else if cns = 0x03 then
    if c.nsAttached cmd.nsid a.tenant then c.adminData cmd a (.bytes (c.idDescriptors cmd.nsid)) else c.adminEnd cmd a St.badNs 0 0
  else c.adminEnd cmd a St.badField 0 0

/-! ### Log pages (R95, Table 5.6) -/

/-- A log page: its length and its bytes. -/
structure Page where
  len  : Nat
  byte : Nat → Byte

/-- A page given by its bytes. -/
def Page.of (bs : List Byte) : Page := ⟨bs.length, fun i => bs.getD i 0⟩

/-- The bytes of a page that a command asks for, from an offset. -/
def Page.cut (p : Page) (off n : Nat) : List Byte := (List.range (min n (p.len - off))).map (fun i => p.byte (off + i))

/-- The status field of an entry of the Error Information log. -/
def NvStatus.field (s : NvStatus) : Nat := 2 * (s.sc + 256 * s.sct + 2048 * s.crd + (if s.dnr then 2 ^ 14 else 0))

/-- Error Information (01h): 256 entries of 64 bytes, newest first. -/
def pageErrors (a : Assoc) : Page :=
  ⟨16384, fun i => match a.errLog[i / 64]? with
    | some e => (structBytes 64 [(0, 8, e.count), (8, 2, e.qid), (10, 2, e.cid), (12, 2, e.st.field), (16, 8, e.lba), (24, 4, e.nsid)]).getD (i % 64) 0
    | none => 0⟩

/-- SMART / Health Information (02h): the temperature in kelvin; the spec gives the other fields no value. -/
def Ctl.pageHealth (c : Ctl) : Page :=
  ⟨512, fun i => if i = 1 ∨ i = 2 then BitVec.ofNat 8 ((c.get F.GLB_THERM_STAT_tj_max_c + 273) / 256 ^ (i - 1))
    else BitVec.ofNat 8 (Config.freeNat (c.fv + i))⟩

/-- Eight ASCII hexadecimal digits of a version: major and minor of 8 bits, patch of 16. -/
def hexVersion (v : Nat) : List Byte :=
  (List.range 8).map (fun i => let d := v / 16 ^ (7 - i) % 16; BitVec.ofNat 8 (if d < 10 then 48 + d else 55 + d))

/-- The version digits of an image slot: as FRS holds them (R437). -/
def Ctl.slotFrs (c : Ctl) (n : Nat) : List Byte :=
  if c.get (F.FWU_SLOT_state n) = 2 then
    let lo := (c.rd (Reg.FWU_SLOT_VER_LO n)).toNat
    let hi := (c.rd (Reg.FWU_SLOT_VER_HI n)).toNat
    hexVersion (hi / 2 ^ 16 % 256 * 2 ^ 24 + hi % 256 * 2 ^ 16 + lo / 2 ^ 16 % 2 ^ 16)
  else List.replicate 8 0

/-- Firmware Slot Information (03h), R437. -/
def Ctl.pageFirmware (c : Ctl) : Page :=
  let pend := if c.flag F.FWU_STAT_pend_valid then c.get F.FWU_STAT_pend_slot + 1 else 0
  Page.of (leBytes 8 (c.get F.FWU_STAT_cur_slot + 1 + 16 * pend) ++ (List.range 4).flatMap c.slotFrs ++ List.replicate 472 0)

/-- Changed Namespace List (04h): ascending, or FFFFFFFFh alone where more than 1,024 have changed. -/
def pageChanged (a : Assoc) : Page :=
  let l := if 1024 < a.changedNs.length then [0xFFFFFFFF] else a.changedNs.foldl (fun l n => (l.filter (· < n)) ++ [n] ++ l.filter (n < ·)) []
  Page.of (l.flatMap (leBytes 4) ++ List.replicate (4096 - 4 * l.length) 0)

/-- Commands Supported and Effects (05h): the opcodes of Table 5.3; Write, Write Zeroes and Dataset Management change content. -/
def pageEffects : Page :=
  Page.of (structBytes 4096
    (([0x02, 0x06, 0x08, 0x09, 0x0A, 0x0C, 0x10, 0x11, 0x14, 0x18, 0xC1, 0xC2] : List Nat).map (fun op => (4 * op, 4, 1))
      ++ [(1024, 4, 1), (1028, 4, 3), (1032, 4, 1), (1056, 4, 3), (1060, 4, 3)]))

/-- Device Self-test (06h): the test in progress for this controller, and its 20 newest results; progress, time and diagnostics are open. -/
def Ctl.pageSelfTest (c : Ctl) (k : Nat) (a : Assoc) : Page :=
  let now := match c.host.test with | some t => if t.assoc = k then (if t.extended then 2 else 1) else 0 | none => 0
  ⟨564, fun i =>
    if i = 0 then BitVec.ofNat 8 now
    else if i = 1 then (if now = 0 then 0 else BitVec.ofNat 8 (Config.freeNat (c.fv + i) % 101))
    else if i < 4 then 0
    else
      let j := (i - 4) % 28
      match a.stLog[(i - 4) / 28]? with
      | none => if j = 0 then 0x0F else 0
      | some r =>
        if j = 0 then BitVec.ofNat 8 (16 * r.code + r.result)
        else if 12 ≤ j ∧ j < 16 then BitVec.ofNat 8 (r.nsid / 256 ^ (j - 12))
        else BitVec.ofNat 8 (Config.freeNat (c.fv + i))⟩

/-- Asymmetric Namespace Access (0Ch): 16 groups, each with the namespaces of the tenant unless RGO asks for groups only (R110). The change
count of a group's descriptor reads 0 (DESIGN CHOICE, notes/assumptions/77.md). -/
def Ctl.pageAna (c : Ctl) (a : Assoc) (rgo : Bool) : Page :=
  let group (g : Nat) : List Byte :=
    let ids := if rgo then [] else (c.visibleNs a.tenant).filter (fun n => c.nsGroup n == g)
    leBytes 4 (g + 1) ++ leBytes 4 ids.length ++ leBytes 8 0 ++ leBytes 16 (if c.bitOf F.HCP_ANA_GRP_inacc g then 3 else 1) ++ ids.flatMap (leBytes 4)
  Page.of (leBytes 8 c.host.anaCnt ++ leBytes 8 16 ++ (List.range 16).flatMap group)

/-- Whether counter `n` is visible to a host of a tenant (R453). -/
def Ctl.telVisible (c : Ctl) (ten n : Nat) : Bool := c.flag (F.TEL_SEL_ten_en n) && c.get (F.TEL_SEL_tenant n) == ten

/-- Telemetry snapshot (C8h), or none where the host may not read it (R453, R454). Before the first sweep its area is 0 (R455). -/
def Ctl.pageTelemetry (c : Ctl) (a : Assoc) : Option Page :=
  let full := c.inband a
  if !full && !c.bitOf (F.TEL_TEN_PERM_perm (a.tenant / 32)) (a.tenant % 32) then none
  else match c.tel.snap with
    | some x => some (Page.of (snapBytes x (fun n => full || c.telVisible a.tenant n)))
    | none => some (Page.of (List.replicate 2688 0))

/-- Lost-stripe table (C9h), R257. -/
def Ctl.pageLost (c : Ctl) : Page :=
  let h := leBytes 8 (c.get F.RBD_LST_GEN_changes) ++ leBytes 4 (c.get F.RBD_LST_STAT_entries) ++ leBytes 4 (c.get F.RBD_LST_STAT_overflow)
  ⟨4194368, fun i =>
    if i < 64 then h.getD i 0
    else match Tab.at? c.rbd.lost ((i - 64) / 64) with
      | some e => e.bytes.getD ((i - 64) % 64) 0
      | none => 0⟩

/-- The entries of the Discovery page (R82): both transports on each port that is up, of this device and, when paired, of the peer, of
whose ports nothing tells this device. -/
def Ctl.discoveryList (c : Ctl) (a : Assoc) : List (Nat × Nat × Bool × Bool) :=
  let sec := (c.hostOf a.hostNqn).any (·.tls)
  let ports (slot : Nat) (up : Nat → Bool) : List (Nat × Nat × Bool × Bool) :=
    ((List.range 24).filter up).flatMap (fun n => [(slot, n, false, false), (slot, n, true, sec)])
  let me := if c.power.slotId then 1 else 0
  ports me c.netUp ++ (if c.flag F.PEER_CFG_en then ports (1 - me) (fun n => Nat.testBit (Config.freeNat c.fv) n) else [])

/-- A log page by its LID: the status that refuses it, or the page and the free values its content takes. -/
def Ctl.logPage (c : Ctl) (k : Nat) (a : Assoc) (x : AdminCmd) : Except NvStatus (Page × Nat) :=
  let lid := getBits x.cdw10 7 0
  if lid = 0x01 then .ok (pageErrors a, 0)
  else if lid = 0x02 then (if x.nsid = 0xFFFFFFFF ∨ x.nsid = 0 then .ok (c.pageHealth, 512) else .error St.badField)
  else if lid = 0x03 then .ok (c.pageFirmware, 0)
  else if lid = 0x04 then .ok (pageChanged a, 0)
  else if lid = 0x05 then .ok (pageEffects, 0)
  else if lid = 0x06 then .ok (c.pageSelfTest k a, 564)
  else if lid = 0x0C then .ok (c.pageAna a (getBit x.cdw10 8), 0)
  else if lid = 0xC8 then (match c.pageTelemetry a with | some p => .ok (p, 0) | none => .error St.denied)
  else if lid = 0xC9 then (if c.inband a then .ok (c.pageLost, 0) else .error St.denied)
  else if lid = 0xCA then (if c.inband a then .ok (Page.of c.bayPage, 0) else .error St.denied)
  else if lid = 0xCB then (if c.inband a then .ok (Page.of c.faultPage, 0) else .error St.denied)
  else .error St.badLog

/-- A page read with RAE 0 lets its events come again, and empties the Changed Namespace List (R96). -/
def Assoc.pageSeen (a : Assoc) (lid : Nat) : Assoc :=
  { a with masked := a.masked.filter (fun e => e.lid != lid), changedNs := if lid = 0x04 then [] else a.changedNs }

/-- NVME_GET_LOG_PAGE (R95): LID, LSP, RAE and NUMDL in CDW10, NUMDU in CDW11, the offset in CDW12 and CDW13. -/
def getLogPageDo (cmd : AdminCmd) (k : Nat) (a : Assoc) (c : Ctl) : Ctl :=
  let lid := getBits cmd.cdw10 7 0
  let n := 4 * (getBits cmd.cdw10 31 16 + 65536 * getBits cmd.cdw11 15 0 + 1)
  let off := cmd.cdw12.toNat + 2 ^ 32 * cmd.cdw13.toNat
  let seen (c : Ctl) : Ctl := if getBit cmd.cdw10 15 then c else c.setAssoc k (a.pageSeen lid)
  if lid = 0x70 then
    if !a.discovery then c.adminEnd cmd a St.badLog 0 0
    else if mdts < n then c.adminEnd cmd a St.badField 0 0
    else ((seen c).tookFree).adminData cmd a (.discovery off n c.mgt.nqn (c.discoveryList a))
  else match c.logPage k a cmd with
    | .error st => c.adminEnd cmd a st 0 0
    | .ok (p, free) =>
      if mdts < n ∨ p.len < off ∨ off % 4 ≠ 0 then c.adminEnd cmd a St.badField 0 0
      else ((seen c).tookN free).adminData cmd a (.bytes (p.cut off n))

end Sys2Proof.Machine
end

