-- ==== Sys2Proof/Machine/HostQueues.lean ====
section
/-! DEFINITION. Capsules of the host command path as they arrive, wait and are served (05_host_command_path.md, R80, R81, R83, R85 to R88,
R97, R107): the rows of Table 5.3. -/

namespace Sys2Proof.Machine

/-! ### Reserved fields (R97) -/

/-- The reserved bits of CDW10 to CDW15 of an admin command, at the places of the NVMe Base Specification (PRESUMED,
notes/assumptions/68.md); those of CDW11 of a feature are its own. -/
def AdminOp.reserved : AdminOp → List Nat
  | .propertyGet => [0xFFFFFFF8, 0, 0xFFFFFFFF, 0xFFFFFFFF, 0xFFFFFFFF, 0xFFFFFFFF]
  | .propertySet => [0xFFFFFFF8, 0, 0, 0, 0xFFFFFFFF, 0xFFFFFFFF]
  | .getLogPage => [0, 0, 0, 0, 0x007FFF80, 0xFFFFFFFF]
  | .identify => [0x0000FF00, 0x00FF0000, 0xFFFFFFFF, 0xFFFFFFFF, 0xFFFFFF80, 0xFFFFFFFF]
  | .abort => [0, 0xFFFFFFFF, 0xFFFFFFFF, 0xFFFFFFFF, 0xFFFFFFFF, 0xFFFFFFFF]
  | .getFeatures => [0xFFFFF800, 0, 0xFFFFFFFF, 0xFFFFFFFF, 0xFFFFFF80, 0xFFFFFFFF]
  | .setFeatures => [0x7FFFFF00, 0, 0xFFFFFFFF, 0xFFFFFFFF, 0xFFFFFF80, 0xFFFFFFFF]
  | .asyncEvent | .keepAlive => [0xFFFFFFFF, 0xFFFFFFFF, 0xFFFFFFFF, 0xFFFFFFFF, 0xFFFFFFFF, 0xFFFFFFFF]
  | .fwDownload => [0, 0, 0xFFFFFFFF, 0xFFFFFFFF, 0xFFFFFFFF, 0xFFFFFFFF]
  | .fwCommit => [0x7FFFFFC0, 0xFFFFFFFF, 0xFFFFFFFF, 0xFFFFFFFF, 0xFFFFFFFF, 0xFFFFFFFF]
  | .selfTest => [0xFFFFFFF0, 0xFFFFFFFF, 0xFFFFFFFF, 0xFFFFFFFF, 0xFFFFFFFF, 0]
  | .chiebRequest | .chiebReply | .disconnect | .invalid => []

/-- Whether a reserved field of an admin command is not 0. -/
def AdminCap.rsvd (x : AdminCap) : Bool :=
  (List.zip [x.cmd.cdw10, x.cmd.cdw11, x.cmd.cdw12, x.cmd.cdw13, x.cmd.cdw14, x.cmd.cdw15] x.op.reserved).any
    (fun p => p.1.toNat &&& p.2 != 0)

/-! ### Serving an admin command -/

/-- What each command of an admin queue does (Table 5.3). A Disconnect there gives Invalid Field in Command (R81), any other opcode Invalid
Command Opcode (R88). -/
def adminDo (x : AdminCap) (k : Nat) (a : Assoc) (m : Mem) (c : Ctl) : Mem × Ctl :=
  match x.op with
  | .propertyGet => (m, propertyGetDo x.cmd k a c)
  | .propertySet => (m, propertySetDo x.cmd k a c)
  | .getLogPage => (m, getLogPageDo x.cmd k a c)
  | .identify => (m, identifyDo x.cmd k a c)
  | .abort => (m, abortDo x.cmd k a c)
  | .getFeatures => (m, getFeaturesDo x.cmd k a c)
  | .setFeatures => (m, setFeaturesDo x.cmd k a c)
  | .asyncEvent => (m, asyncEventDo x.cmd k a c)
  | .fwDownload => (m, fwDownloadDo x.cmd k a c)
  | .fwCommit => (m, fwCommitDo x.cmd x.look k a c)
  | .selfTest => (m, selfTestDo x.cmd k a c)
  | .keepAlive => (m, keepAliveDo x.cmd k a c)
  | .chiebRequest => chiebRequestDo x.cmd k a m c
  | .chiebReply => (m, chiebReplyDo x.cmd k a c)
  | .disconnect => (m, c.adminEnd x.cmd a St.badField 0 0)
  | .invalid => (m, c.adminEnd x.cmd a St.badOpcode 0 0)

/-- The context that an admin command holds from its start until its completion leaves (R85, R87). -/
def AdminCap.tag (x : AdminCap) (k seq : Nat) (st : TagState) : TagE := ⟨st, .admin, k, 0, x.cmd.cid, none, false, seq, false, some x⟩

/-- An admin command runs on its context: a reserved field that is not 0 is refused (R97). -/
def adminStart (m : Mem) (c : Ctl) (tag seq k : Nat) (a : Assoc) (x : AdminCap) : Mem × Ctl :=
  let c1 := c.setTag tag (x.tag k seq .running)
  if x.rsvd then (m, c1.adminEnd x.cmd a St.badField 0 0) else adminDo x k a m c1

/-- A capsule of an admin queue takes a context (R85): refused for a CID in use (R86), held in WAITING while ACTIVATING (R107), else
run. -/
def adminAccept (m : Mem) (c : Ctl) (k : Nat) (a : Assoc) (x : AdminCap) : Mem × Ctl :=
  match c.freeTag with
  | none => (m, c)
  | some tag =>
    if c.cidUsed k 0 x.cmd.cid then (m, c.post x.cmd.conn x.cmd.cid (some a.tenant) St.cidConflict 0 0)
    else
      let c1 := { c.tev .hcp 0 0 (some a.tenant) none 1 with host := { c.host with capSeq := c.host.capSeq + 1 } }
      if c.mode = .activating then (m, (c1.setTag tag (x.tag k c.host.capSeq .waiting)).abortsNote k) else adminStart m c1 tag c.host.capSeq k a x

/-- A capsule of a connected admin queue (R79, R81, R85): it restarts the keep-alive timer; an Abort beyond 16 outstanding ones is refused;
one that finds no context, or capsules of its queue waiting, waits at intake. -/
def adminTake (m : Mem) (c : Ctl) (k : Nat) (a : Assoc) (x : AdminCap) : Mem × Ctl :=
  let b := { a with kaStart := c.dt }
  let c1 := c.setAssoc k b
  if x.op = .abort ∧ 16 ≤ a.aborts then (m, c1.post x.cmd.conn x.cmd.cid (some a.tenant) St.abortLimit 0 0)
  else if c1.mustWait k x.cmd.conn then (m, (c1.starve x.cmd.conn (.admin x)).abortsNote k)
  else adminAccept m c1 k b x

/-- A capsule that has a connection and a CID only, of an I/O queue. -/
def IoCmd.plain (conn cid : Nat) : IoCmd := ⟨conn, cid, 0, 0, 0, 0, [], false, [], [], false, false⟩

/-- The opcodes of admin commands that are I/O commands on an I/O queue: 02h, 08h and 09h (Table 5.3). -/
def AdminOp.onIo : AdminOp → Bool
  | .getLogPage | .abort | .setFeatures => true
  | _ => false

/-- A capsule of the admin command set arrives: on an admin queue where it is the command of its row (`hit`); on an I/O queue its opcode is
not supported (R88), or is an I/O command, with a row of its own; on a queue that is not connected it is refused (R80). -/
def adminArrive (x : AdminCap) (hit : Assoc → Bool) (m : Mem) (c : Ctl) : Mem × Ctl :=
  let conn := x.cmd.conn
  if !c.ioOpen conn then (m, c)
  else match c.adminAssoc conn with
    | some (k, a) => if hit a then adminTake m c k a x else (m, c)
    | none =>
      match c.openQueue conn with
      | some q => (m, if x.op.onIo then c else c.ioTake .badOpcode (IoCmd.plain conn x.cmd.cid) q)
      | none => (m, c.complete conn x.cmd.cid none St.sequence 0 0)

/-- A row of the admin command set. -/
def adminRow (x : AdminCap) (hit : Assoc → Bool) (s : State) : Host.Outcome State Fault Refusal := onAll (adminArrive x hit) s

/-- An admin command that no image look belongs to. -/
def AdminOp.on (op : AdminOp) (cmd : AdminCmd) : AdminCap := ⟨op, cmd, ⟨false, false, false⟩⟩

/-- A capsule that has a connection and a CID only, of an admin queue. -/
def AdminOp.plain (op : AdminOp) (conn cid : Nat) : AdminCap := op.on ⟨conn, cid, 0, 0, 0, 0, 0, 0, 0, []⟩

/-- NVME_IDENTIFY (R93). -/
def execNvmeIdentify (cmd : AdminCmd) (s : State) : Host.Outcome State Fault Refusal := adminRow (AdminOp.identify.on cmd) (fun _ => true) s

/-- NVME_GET_LOG_PAGE (R95). -/
def execNvmeGetLogPage (cmd : AdminCmd) (s : State) : Host.Outcome State Fault Refusal :=
  adminRow (AdminOp.getLogPage.on cmd) (fun _ => true) s

/-- NVME_PROPERTY_GET (R88). -/
def execNvmePropertyGet (cmd : AdminCmd) (s : State) : Host.Outcome State Fault Refusal :=
  adminRow (AdminOp.propertyGet.on cmd) (fun _ => true) s

/-- Whether a Property Set is one of CC, and makes a change of it. -/
def ccHit (x : AdminCmd) (p : Word → Word → Bool) (a : Assoc) : Bool := x.cdw11.toNat != 0x14 || p a.cc x.cdw12

/-- PROPERTY_SET_CC_EN_CLEAR (R106). -/
def execPropertySetCcEnClear (cmd : AdminCmd) (s : State) : Host.Outcome State Fault Refusal :=
  adminRow (AdminOp.propertySet.on cmd) (ccHit cmd (fun old new => ccEn old && !ccEn new)) s

/-- PROPERTY_SET_CC_EN_SET (R106). -/
def execPropertySetCcEnSet (cmd : AdminCmd) (s : State) : Host.Outcome State Fault Refusal :=
  adminRow (AdminOp.propertySet.on cmd) (ccHit cmd (fun old new => !ccEn old && ccEn new)) s

/-- PROPERTY_SET_SHUTDOWN (R106): a write of CC that leaves CC.EN. -/
def execPropertySetShutdown (cmd : AdminCmd) (s : State) : Host.Outcome State Fault Refusal :=
  adminRow (AdminOp.propertySet.on cmd) (ccHit cmd (fun old new => ccEn old == ccEn new)) s

/-- NVME_KEEP_ALIVE (R81). -/
def execNvmeKeepAlive (cmd : AdminCmd) (s : State) : Host.Outcome State Fault Refusal := adminRow (AdminOp.keepAlive.on cmd) (fun _ => true) s

/-- INVALID_COMMAND_OPCODE (R80, R88), on an admin or an I/O queue. -/
def execInvalidCommandOpcode (conn cid : Nat) (s : State) : Host.Outcome State Fault Refusal :=
  adminRow (AdminOp.invalid.plain conn cid) (fun _ => true) s

/-- NVME_ABORT (R103). -/
def execNvmeAbort (cmd : AdminCmd) (s : State) : Host.Outcome State Fault Refusal := adminRow (AdminOp.abort.on cmd) (fun _ => true) s

/-- NVME_GET_FEATURES (R94). -/
def execNvmeGetFeatures (cmd : AdminCmd) (s : State) : Host.Outcome State Fault Refusal :=
  adminRow (AdminOp.getFeatures.on cmd) (fun _ => true) s

/-- Whether a Set Features names a feature of its row, or one outside Table 5.5. -/
def featHit (x : AdminCmd) (fids : List Nat) (_ : Assoc) : Bool :=
  fids.contains (getBits x.cdw10 7 0) || !featIds.contains (getBits x.cdw10 7 0)

/-- SET_FEATURES_POWER_MANAGEMENT (R112). -/
def execSetFeaturesPowerManagement (cmd : AdminCmd) (s : State) : Host.Outcome State Fault Refusal :=
  adminRow (AdminOp.setFeatures.on cmd) (featHit cmd [0x02]) s

/-- SET_FEATURES_NUMBER_OF_QUEUES (R80). -/
def execSetFeaturesNumberOfQueues (cmd : AdminCmd) (s : State) : Host.Outcome State Fault Refusal :=
  adminRow (AdminOp.setFeatures.on cmd) (featHit cmd [0x07]) s

/-- SET_FEATURES_ASYNC_EVENT_CONFIG (R96). -/
def execSetFeaturesAsyncEventConfig (cmd : AdminCmd) (s : State) : Host.Outcome State Fault Refusal :=
  adminRow (AdminOp.setFeatures.on cmd) (featHit cmd [0x0B]) s

/-- SET_FEATURES_APST (R112). -/
def execSetFeaturesApst (cmd : AdminCmd) (s : State) : Host.Outcome State Fault Refusal :=
  adminRow (AdminOp.setFeatures.on cmd) (featHit cmd [0x0C]) s

/-- SET_FEATURES_KEEP_ALIVE_TIMER (R94). -/
def execSetFeaturesKeepAliveTimer (cmd : AdminCmd) (s : State) : Host.Outcome State Fault Refusal :=
  adminRow (AdminOp.setFeatures.on cmd) (featHit cmd [0x0F]) s

/-- SET_FEATURES_HOST_BEHAVIOR (R94). -/
def execSetFeaturesHostBehavior (cmd : AdminCmd) (s : State) : Host.Outcome State Fault Refusal :=
  adminRow (AdminOp.setFeatures.on cmd) (featHit cmd [0x16]) s

/-- SET_FEATURES_ORDERED_QUEUES (R100, R101). -/
def execSetFeaturesOrderedQueues (cmd : AdminCmd) (s : State) : Host.Outcome State Fault Refusal :=
  adminRow (AdminOp.setFeatures.on cmd) (featHit cmd [0xD1]) s

/-- SET_FEATURES_CREMA_HINTS (R184). -/
def execSetFeaturesCremaHints (cmd : AdminCmd) (s : State) : Host.Outcome State Fault Refusal :=
  adminRow (AdminOp.setFeatures.on cmd) (featHit cmd [0xD3]) s

/-- SET_FEATURES_NOT_CHANGEABLE (R94): 04h and D2h. -/
def execSetFeaturesNotChangeable (cmd : AdminCmd) (s : State) : Host.Outcome State Fault Refusal :=
  adminRow (AdminOp.setFeatures.on cmd) (featHit cmd [0x04, 0xD2]) s

/-- NVME_ASYNC_EVENT_REQUEST (R96). -/
def execNvmeAsyncEventRequest (cmd : AdminCmd) (s : State) : Host.Outcome State Fault Refusal :=
  adminRow (AdminOp.asyncEvent.on cmd) (fun _ => true) s

/-- NVME_FIRMWARE_IMAGE_DOWNLOAD (R91, R430). -/
def execNvmeFirmwareImageDownload (cmd : AdminCmd) (s : State) : Host.Outcome State Fault Refusal :=
  adminRow (AdminOp.fwDownload.on cmd) (fun _ => true) s

/-- NVME_FIRMWARE_COMMIT (R91, R431). -/
def execNvmeFirmwareCommit (cmd : AdminCmd) (look : ImgLook) (s : State) : Host.Outcome State Fault Refusal :=
  adminRow ⟨.fwCommit, cmd, look⟩ (fun _ => true) s

/-- NVME_DEVICE_SELF_TEST (R92). -/
def execNvmeDeviceSelfTest (cmd : AdminCmd) (s : State) : Host.Outcome State Fault Refusal :=
  adminRow (AdminOp.selfTest.on cmd) (fun _ => true) s

/-- CHIEB_REQUEST_C1H (R90). -/
def execChiebRequestC1h (cmd : AdminCmd) (s : State) : Host.Outcome State Fault Refusal :=
  adminRow (AdminOp.chiebRequest.on cmd) (fun _ => true) s

/-- CHIEB_REPLY_C2H (R90). -/
def execChiebReplyC2h (cmd : AdminCmd) (s : State) : Host.Outcome State Fault Refusal :=
  adminRow (AdminOp.chiebReply.on cmd) (fun _ => true) s

/-! ### Capsules of I/O queues, and Connect -/

/-- A capsule of the I/O command set arrives (R80, R83): taken on a connected I/O queue, refused on a queue that is not connected. On an admin
queue the opcodes 00h and 01h are refused (R88), and 02h, 08h and 09h are other commands, with rows of their own. -/
def ioRow (kind : TagKind) (x : IoCmd) (s : State) : Host.Outcome State Fault Refusal :=
  onAll (fun m c =>
    match (if c.ioOpen x.conn then c.openQueue x.conn else none) with
    | some q => (m, c.ioTake kind x q)
    | none => adminArrive (AdminOp.invalid.plain x.conn x.cid) (fun _ => kind == .write || kind == .flush) m c) s

/-- NVME_READ (R88, R89, R170). -/
def execNvmeRead (cmd : IoCmd) (s : State) : Host.Outcome State Fault Refusal := ioRow .read cmd s

/-- NVME_WRITE (R88, R215). -/
def execNvmeWrite (cmd : IoCmd) (s : State) : Host.Outcome State Fault Refusal := ioRow .write cmd s

/-- NVME_WRITE_ZEROES (R88, R215). -/
def execNvmeWriteZeroes (cmd : IoCmd) (s : State) : Host.Outcome State Fault Refusal := ioRow .writeZeroes cmd s

/-- NVME_DATASET_MANAGEMENT (R88, R215). -/
def execNvmeDatasetManagement (cmd : IoCmd) (s : State) : Host.Outcome State Fault Refusal := ioRow .dsm cmd s

/-- NVME_FLUSH (R105). -/
def execNvmeFlush (cmd : IoCmd) (s : State) : Host.Outcome State Fault Refusal := ioRow .flush cmd s

/-- NVME_DISCONNECT (R80, R81, R84): taken on an I/O queue; on an admin queue it is refused. -/
def execNvmeDisconnect (conn cid : Nat) (s : State) : Host.Outcome State Fault Refusal :=
  onAll (fun m c =>
    match (if c.ioOpen conn then c.openQueue conn else none) with
    | some q => (m, c.ioTake .disconnect (IoCmd.plain conn cid) q)
    | none => adminArrive (AdminOp.disconnect.plain conn cid) (fun _ => true) m c) s

/-- A Connect, which holds no context (notes/assumptions/68.md): of an admin queue or of an I/O queue. -/
def Ctl.connectDo (c : Ctl) (admin : Bool) (x : ConnectCmd) : Ctl := if admin then c.connectAdmin x else c.connectIo x

/-- A Connect arrives: held while ACTIVATING (R107), else served. -/
def connectRow (admin : Bool) (x : ConnectCmd) (s : State) : Host.Outcome State Fault Refusal :=
  onCtl (fun _ c =>
    if !c.ioOpen x.conn then c
    else if c.mode = .activating then c.keepCapsule x.conn (.connect admin x)
    else c.connectDo admin x) s

/-- NVME_CONNECT_ADMIN (R78, R79). -/
def execNvmeConnectAdmin (cmd : ConnectCmd) (s : State) : Host.Outcome State Fault Refusal := connectRow true cmd s

/-- NVME_CONNECT_IO (R80). -/
def execNvmeConnectIo (cmd : ConnectCmd) (s : State) : Host.Outcome State Fault Refusal := connectRow false cmd s

/-! ### Capsules that waited (R85, R107) -/

/-- Whether a capsule at intake can be served now: a context is there for its association, and fetching goes on. -/
def Ctl.servable (c : Ctl) (e : IntakeEntry) : Bool :=
  match e.cap with
  | .io _ _ => !c.fetchStopped && (Tab.at? c.host.queues e.conn).all (fun q => c.contextFor q.assoc)
  | .admin _ => (c.adminAssoc e.conn).all (fun p => c.contextFor p.1)
  | .connect _ _ => c.mode != .activating

/-- A capsule at intake is served; one whose queue has gone is dropped. -/
def intakeServe (m : Mem) (c : Ctl) (e : IntakeEntry) : Mem × Ctl :=
  match e.cap with
  | .io kind x => (m, match Tab.at? c.host.queues e.conn with | some q => c.ioAccept kind x q | none => c)
  | .admin x =>
    match c.adminAssoc e.conn with
    | some (k, _) =>
      let c1 := c.abortsNote k
      match c1.assoc? k with | some a => adminAccept m c1 k a x | none => (m, c1)
    | none => (m, c)
  | .connect admin x => (m, c.connectDo admin x)

/-- CAPSULE_INTAKE_RESUME (R85): the next waiting capsule, taking the queues in turn, is served. -/
def execCapsuleIntakeResume (s : State) : Host.Outcome State Fault Refusal :=
  onAll (fun m c =>
    match (if c.halted then none else turnNext c.host.served ((c.host.intake.filter c.servable).map (fun e => e.conn))) with
    | none => (m, c)
    | some k =>
      match c.host.intake.findIdx? (fun e => e.conn == k) with
      | none => (m, c)
      | some i =>
        match c.host.intake[i]? with
        | none => (m, c)
        | some e => intakeServe m { c with host := { c.host with intake := c.host.intake.eraseIdx i, served := k } } e) s

/-- A held admin command starts on its context. -/
def adminHeld (m : Mem) (c : Ctl) (tag : Nat) : Mem × Ctl :=
  match c.tag? tag with
  | none => (m, c)
  | some t =>
    match t.adm, c.assoc? t.assoc with
    | some x, some a =>
      if t.state = .waiting then
        match adminStart m c tag t.seq t.assoc a x with | (m1, c1) => (m1, c1.abortsNote t.assoc)
      else (m, c)
    | _, _ => (m, c)

/-- The admin commands and the Connects that ACTIVATING held start, in the order of acceptance (R107). -/
def adminResume (m : Mem) (c : Ctl) : Mem × Ctl :=
  let held := (c.host.tags.filter (fun p => p.2.adm.isSome && p.2.state == .waiting)).foldl (fun l e => insertSeq e l) []
  let r := held.foldl (fun (a : Mem × Ctl) p => adminHeld a.1 a.2 p.1) (m, c)
  let isCon (e : IntakeEntry) : Bool := match e.cap with | .connect _ _ => true | _ => false
  (r.2.host.intake.filter isCon).foldl (fun (a : Mem × Ctl) e => intakeServe a.1 a.2 e)
    (r.1, { r.2 with host := { r.2.host with intake := r.2.host.intake.filter (fun e => !isCon e) } })

/-- ACTIVATION_IMAGE_RUNNING (R107, R432): the new image runs, or the old one goes on, and the device starts the held commands. -/
def execActivationImageRunning (look : ImgLook) (s : State) : Host.Outcome State Fault Refusal :=
  onAll (fun m c => let c1 := c.activationRun look; if c1.mode = .activating then (m, c1) else adminResume m c1) s

end Sys2Proof.Machine
end

