-- ==== Sys2Proof/Machine/Startup.lean ====
section
/-! DEFINITION. Power-on and start-up, resets, the safe stop and thermal limits (02_package_and_power.md, R28 to R45;
03_modes_and_startup.md, R54 to R60). -/

namespace Sys2Proof.Machine

/-! ### Power-on (R28, R29) -/

/-- FIRST_RAIL_RISE (R28): OFF to RESET. -/
def execFirstRailRise (s : State) : Host.Outcome State Fault Refusal :=
  onCtl (fun _ c => if c.mode = .off then c.set F.GLB_MODE_STAT_mode 1 else c) s

/-- POWER_ON_RESET_RELEASE (R29, steps 3 to 5 of Table 2.4): with every rail within tolerance the device samples its straps, DT starts at 0,
and it enters BOOT, its bay channels in follower keeper mode (Table 3.1, R375). -/
def execPowerOnResetRelease (railOk : BitVec 12) (slotId testen : Bool) (s : State) : Host.Outcome State Fault Refusal :=
  onCtl (fun _ c =>
    if c.mode != .reset || railOk != 0xFFF then c
    else
      let c1 := { c with time := Time.reset, power := { c.power with slotId := slotId, testen := testen } }
      ((c1.wr Reg.GLB_MODE_STAT (Reg.resetWord Reg.GLB_MODE_STAT)).setFlag F.GLB_ID_slot slotId).baysKeep true) s

/-! ### Table 3.3 -/

/-- BOOT, or the TEST that TESTEN brings: start-up goes on. -/
def Ctl.starting (c : Ctl) : Bool := (c.mode == .boot || (c.mode == .test && c.power.testen)) && c.flag F.GLB_START_STAT_image_ok && c.power.stop.isNone

/-- The settings of the switch and the buffer manager in step 4 (R164): every metadata word FREE, no link hold, every pool disabled. -/
def Ctl.poolsInit (c : Ctl) : Ctl :=
  let c1 := { c with swc := { c.swc with bufs := [], badMeta := [], holds := [] } }
  let c2 := (List.range 49).foldl (fun (c : Ctl) l =>
    (c.setFlag (F.SWC_LINK_STAT_holding l) false).setFlag (F.SWC_LINK_STAT_expired l) false) c1
  (List.range 5).foldl (fun (c : Ctl) p => c.setFlag (F.BPM_POOL_CFG_en p) false) c2

/-- HBM_INIT_DONE (step 4): every domain is on, the HBM is cleared, the sensors read, the bay channels are follower keepers (R375), and the
switch and the pools are set (R164). -/
def execHbmInitDone (s : State) : Host.Outcome State Fault Refusal :=
  onAll (fun m c =>
    if !c.starting || c.flag F.GLB_START_STAT_hbm_ok then (m, c)
    else
      let c1 := ((c.set F.GLB_PD_STAT_pd_is_on 0xFFFFF).setFlag F.GLB_PD_STAT_busy false).setFlag F.GLB_START_STAT_hbm_ok true
      ({ m with hbm := [], ue := [] },
       (((List.range 24).foldl (fun (c : Ctl) n => c.setFlag (F.GLB_TEMP_valid n) true) c1).baysKeep true).poolsInit)) s

/-- CARAFE_SCAN_DONE (step 5): the stop marker, the role at the last stop and the stored epoch are read from the newest copy of the control
area whose CRC-32C holds (R209); `badA` and `badB` tell of a copy whose CRC-32C does not. The marker is taken away, so that it is absent
after a stop that is not safe (R35). A Carafe marked invalid holds no record, and is the ring's fresh start (R53). A Carafe that has
failed keeps the device in write-through mode (R233). -/
def execCarafeScanDone (badA badB : Bool) (s : State) : Host.Outcome State Fault Refusal :=
  onCtl (fun _ c =>
    if !c.starting || c.power.scanned then c
    else
      let ok := !c.car.invalid && !c.car.failed && !(badA && badB)
      let c0 := { c with power := { c.power with
        scanned := true, ctlA := if badA then Power.reset.ctlA else c.power.ctlA, ctlB := if badB then Power.reset.ctlB else c.power.ctlB } }
      let x := c0.ctlNew
      let c1 := ((c0.set F.GLB_PWR_STAT_last_stop x.stop).set F.GLB_START_STAT_last_role x.role).set F.PEER_EPOCH_epoch x.epoch
      let c2 := c1.ctlPut (fun y => { y with stop := 2, role := 0 })
      let c3 := { c2 with car := if ok then c2.car else { c2.car with recs := [], invalid := false } }
      ((c3.setFlag F.GLB_START_STAT_carafe_ok ok).skekRestore).noteRing.wtUpdate) s

/-- PEER_ABSENT_TIMEOUT (step 6): no hello within 500 ms of step 3. -/
def execPeerAbsentTimeout (s : State) : Host.Outcome State Fault Refusal :=
  onCtl (fun _ c =>
    if c.mode != .boot || !c.starting || c.pair.hello.isSome || c.power.peerAbsent then c
    else
      let c1 := c.reach (c.trust.imageAt + 500000000)
      { c1 with power := { c1.power with peerAbsent := true } }) s

/-- STANDBY_ENTER (step 7, R56): the device requests the lease, joins a serving peer, or waits. -/
def execStandbyEnter (s : State) : Host.Outcome State Fault Refusal :=
  onCtl (fun _ c =>
    if c.mode != .boot || !c.starting || !c.flag F.GLB_START_STAT_hbm_ok || !c.power.scanned || !(c.pair.hello.isSome || c.power.peerAbsent) then c
    else
      let c1 := (c.setMode .standby).setFlag F.GLB_MODE_STAT_busy false
      match c1.startCase with
      | .request => c1.startRequest
      | .join => c1.joinSync
      | .wait => { c1 with pair := { c1.pair with waits := true } }) s

/-- Configured members not yet assessed. -/
def Ctl.membersDue (c : Ctl) : List Nat := (List.range 24).filter (fun b => c.memState b == 0 && (c.posOfBay b).isSome)

/-- The DT in ns at which a bay's member is missing if not ready: member_wait_s after its PERST# was released, or after step 8 where it had
not been released by then (R55). -/
def Ctl.memberDeadline (c : Ctl) (b : Nat) : Nat :=
  let w := 1000000000 * c.get F.GLB_START_CFG_member_wait_s
  match (c.ch b).perstAt with
  | some x => if x ≤ c.pair.leaseAt + w then x + w else c.pair.leaseAt + w
  | none => c.pair.leaseAt + w

/-- MEMBER_WAIT_EXPIRE (R55): the earliest deadline of the members not ready comes, and every one whose own deadline has come is missing. -/
def execMemberWaitExpire (s : State) : Host.Outcome State Fault Refusal :=
  onAll (fun m c =>
    if !c.lease || c.mode != .standby || c.pair.take.isSome || c.flag F.GLB_START_STAT_members_ready || c.halted then (m, c)
    else
      let c0 := match (c.membersDue.map c.memberDeadline).min? with | some t => c.reach t | none => c
      match (c.membersDue.filter (fun b => decide (c.memberDeadline b ≤ c0.dt))).foldl (fun (a : Mem × Ctl) b => memberMissing a.1 a.2 b) (m, c0) with
      | (m1, c1) => (m1, (c1.membersNote).reassess)) s

/-- A port comes up (step 14). -/
def Ctl.netRaise (c : Ctl) (np : Nat) : Ctl :=
  if c.npExists np && c.flag (F.NET_PORT_CFG_en np) && !c.flag (F.NET_PORT_STAT_up np) then
    (((c.setFlag (F.NET_PORT_STAT_local_fault np) false).setFlag (F.NET_PORT_STAT_remote_fault np) false).setFlag (F.NET_PORT_STAT_up np) true).linkUp np
  else c

/-- NETWORK_PORTS_UP (step 14): the ports named, of those configured, are up. -/
def execNetworkPortsUp (ports : BitVec 24) (s : State) : Host.Outcome State Fault Refusal :=
  onCtl (fun _ c =>
    if !c.mode.netOk || !c.flag F.GLB_START_STAT_hbm_ok || c.flag F.GLB_START_STAT_net_up || c.halted then c
    else
      ((((List.range 24).filter (fun n => ports.getLsbD n)).foldl Ctl.netRaise c).ptpSelect).setFlag F.GLB_START_STAT_net_up true) s

/-- SERVICE_ENTRY (R59, step 16). -/
def execServiceEntry (s : State) : Host.Outcome State Fault Refusal :=
  onCtl (fun _ c =>
    let ended := !c.flag F.GLB_START_STAT_peer_found || c.flag F.GLB_START_STAT_mirror_synced || c.power.mirrorAbandoned
    if !c.lease || c.mode != .standby || c.pair.take.isSome || c.halted || !c.flag F.GLB_START_STAT_members_ready
        || !c.flag F.GLB_START_STAT_replay_done || !c.flag F.GLB_START_STAT_net_up || !ended then c
    else
      let low := decide (0 < c.get F.GLB_START_STAT_members_missing) || !c.flag F.GLB_START_STAT_peer_found || c.power.mirrorAbandoned || c.deficit
      (c.setMode (if low then .degraded else .active)).psApply) s

/-! ### The safe stop (R35 to R38, Table 2.6) -/

/-- The domains that stay on in the hold after a safe stop: D00, D01, D02 and D19. -/
def stopDomains : Nat := 2 ^ 0 + 2 ^ 1 + 2 ^ 2 + 2 ^ 19

/-- The sensors of the HBM stacks and MRAM dies no longer read: their domains are off. -/
def Ctl.sensorsOff (c : Ctl) : Ctl := ([18, 19, 20, 21, 22, 23] : List Nat).foldl (fun (c : Ctl) n => c.setFlag (F.GLB_TEMP_valid n) false) c

/-- What domains D03 to D18 hold is gone: brews, contexts and connections, buffers and queues, the Crema directory and the work of the
journal, its records that had begun being complete and the others absent (R30); the member and rebuild work; and the link to the peer. -/
def Ctl.unpowered (c : Ctl) : Ctl :=
  let r := c.resetFrom true false
  let c1 := { c with
    fv := r.fv, host := r.host, bst := r.bst, swc := r.swc, crm := r.crm, car := r.car, rbd := r.rbd, net := r.net
    pair := { c.pair with writes := [], mirNaks := [], resend := [], reqs := [], syncing := false, waits := false } }
  (c1.setFlag F.PEER_STAT_link_up false).set F.PEER_STAT_lanes 0

/-- The safe stop: nothing new starts, lanes idle and PERST# low, records and persistent writes in flight complete, domains off, the stop
marker written, and the bays in keeper mode. What the domains that go off held is gone, so no completion follows a brew that was cut off;
moves of mode and of the lease are abandoned. A thermal trip on the same stop decides how it is left (R38). -/
def Ctl.safeStop (c : Ctl) (k : StopKind) : Ctl :=
  if c.mode = .off ∨ c.mode = .reset then c
  else if c.power.stop.isSome then
    (if k = .thermal then ({ c with power := { c.power with stop := some .thermal } }).ctlPut (fun x => { x with stop := 3 })
     else { c with power := { c.power with pwrLow := true } })
  else
    let c1 := (((c.perstAllLow.netIdle.drivesIdle).pcrFinish).baysKeep false).dropMoves.unpowered
    let c2 := (((c1.set F.GLB_PD_STAT_pd_is_on stopDomains).setFlag F.GLB_PD_STAT_busy false).setFlag F.GLB_MODE_STAT_safe_stop true).sensorsOff
    let c3 : Ctl := { c2 with
      power := { c2.power with
        stop := some k, pwrLow := c2.power.pwrLow || k == .pwrfail, quiescing := false
        pdHeld := none, pdQueue := [], drainEnd := none } }
    c3.ctlPut (fun x => { x with stop := if k = .thermal then 3 else 1 })

/-- PWRFAIL_ACCEPT (R35): PWRFAIL_N has been low for 2 µs. -/
def execPwrfailAccept (s : State) : Host.Outcome State Fault Refusal := onCtl (fun _ c => c.safeStop .pwrfail) s

/-- PWRFAIL_GLITCH (R35): a pulse of `ns`, shorter than 2 µs, is recorded when it lasts at least 0.1 µs; whether a shorter one is recorded is
open. -/
def execPwrfailGlitch (ns : Nat) (s : State) : Host.Outcome State Fault Refusal :=
  onCtl (fun _ c =>
    if c.mode = .off ∨ c.mode = .reset ∨ 2000 ≤ ns then c
    else if 100 ≤ ns then c.setFlag F.GLB_PWR_STAT_pwrfail_seen true
    else (if c.free % 2 = 1 then c.setFlag F.GLB_PWR_STAT_pwrfail_seen true else c).tookFree) s

/-- PWRFAIL_RESTART (R38): after a stop that PWRFAIL_N alone began, PWRFAIL_N high for 100 ms with every rail in tolerance: the event itself
says that each rail_ok bit is 1 again. -/
def execPwrfailRestart (s : State) : Host.Outcome State Fault Refusal :=
  onAll (fun m c => if c.power.stop = some .pwrfail then toReset m c 2 else (m, c)) s

/-! ### Temperatures (R43, R44) -/

/-- The hottest of the valid sensors: its number and reading. -/
def Ctl.hottest (c : Ctl) : Nat × Nat :=
  ((List.range 24).filter (fun n => c.flag (F.GLB_TEMP_valid n))).foldl (fun a n => if a.2 < c.get (F.GLB_TEMP_temp n) then (n, c.get (F.GLB_TEMP_temp n)) else a) (0, 0)

/-- A reading, (T + 40 °C) · 4, in whole °C; below 0 °C it is 0. -/
def tempC (q : Nat) : Nat := q / 4 - 40

/-- The domain that powers sensor `n`: D00 and D19 for the controller and bay-power dies, D06, D07 and D09 for the stacks and MRAM. -/
def sensorDomain (n : Nat) : Nat := if n < 16 then 0 else if n < 18 then 19 else if n < 20 then 6 else if n < 22 then 7 else 9

/-- Whether sensor `n` reads: its die or domain is powered (GLB_TEMP_n.valid). -/
def Ctl.sensorOn (c : Ctl) (n : Nat) : Bool :=
  c.mode != .off && c.mode != .reset && c.bitOf F.GLB_PD_STAT_pd_is_on (sensorDomain n)

/-- A sensor reads: GLB_TEMP_n, the hottest sensor, and the warning with its event when it rises (Table 2.9). -/
def Ctl.tempRead (c : Ctl) (n q : Nat) : Ctl :=
  let c1 := (c.set (F.GLB_TEMP_temp n) q).setFlag (F.GLB_TEMP_valid n) true
  let h := c1.hottest
  let c2 := (c1.set F.GLB_THERM_STAT_hot_sensor h.1).set F.GLB_THERM_STAT_tj_max_c (tempC h.2)
  let warn := decide (4 * (c2.get F.GLB_THERM_CFG_warn_c + 40) ≤ h.2)
  let rise := warn && !c2.flag F.GLB_THERM_STAT_warn
  let c3 := c2.setFlag F.GLB_THERM_STAT_warn warn
  if rise then ((c3.setFlag F.GLB_PWR_STAT_therm_seen true).intSet 3).report .temperature (fun a => !a.discovery) else c3

/-- A row of a sensor's reading, while its domain is powered. -/
def tempRow (n q : Nat) (f : Ctl → Ctl) (s : State) : Host.Outcome State Fault Refusal :=
  onCtl (fun _ c => if c.sensorOn n then f (c.tempRead n q) else c) s

/-- THERMAL_WARNING (R43): a sensor's reading, and the warning when the hottest reaches warn_c. -/
def execThermalWarning (sensor : Fin 24) (temp : Fin 1024) (s : State) : Host.Outcome State Fault Refusal := tempRow sensor temp id s

/-- THERMAL_THROTTLE_START (R43): at 105 °C with throttle_en the background budgets go to zero. -/
def execThermalThrottleStart (sensor : Fin 24) (temp : Fin 1024) (s : State) : Host.Outcome State Fault Refusal :=
  tempRow sensor temp (fun c =>
    if c.flag F.GLB_THERM_CFG_throttle_en && decide (580 ≤ c.hottest.2) then c.setFlag F.GLB_THERM_STAT_throttle true else c) s

/-- THROTTLE_STEP (R43): each 1 ms of throttling cuts host issue by 10 %, until the hottest sensor is at 104 °C or lower. -/
def execThrottleStep (sensor : Fin 24) (temp : Fin 1024) (s : State) : Host.Outcome State Fault Refusal :=
  tempRow sensor temp (fun c =>
    if !c.flag F.GLB_THERM_STAT_throttle then c
    else
      let c1 := c.pass 1000000
      (if c1.hottest.2 ≤ 576 then { c1.setFlag F.GLB_THERM_STAT_throttle false with power := { c1.power with issuePct := 100 } }
       else { c1 with power := { c1.power with issuePct := c1.power.issuePct - 10 } } : Ctl).startReady) s

/-- THERMAL_TRIP (R43): a sensor at 115 °C: fault 0x0C, THERM_N low, and the safe stop. -/
def execThermalTrip (sensor : Fin 24) (temp : Fin 1024) (s : State) : Host.Outcome State Fault Refusal :=
  tempRow sensor temp (fun c =>
    if temp.val < 620 then c
    else
      let c1 := if c.power.thermN then c else c.faultRecord 0x0C 1 sensor
      ({ c1 with power := { c1.power with thermN := true } }).safeStop .thermal) s

/-- LIFE_RECORD (R45): at the next multiple of 4 hours of DT, 4 hours and 4 times the mean of the hottest sensor in °C are added to the two
persistent words. -/
def execLifeRecord (mean : Nat) (s : State) : Host.Outcome State Fault Refusal :=
  onCtl (fun _ c =>
    if c.mode = .off ∨ c.mode = .reset ∨ c.power.stop.isSome then c
    else
      let p := 14400000000000
      let c1 := c.reach ((c.dt / p + 1) * p)
      (c1.pcrOwn F.GLB_LIFE_HOURS_hours ((c1.get F.GLB_LIFE_HOURS_hours + 4) % 2 ^ 32)).pcrOwn F.GLB_LIFE_TJSUM_tjsum
        ((c1.get F.GLB_LIFE_TJSUM_tjsum + 4 * mean) % 2 ^ 32)) s

/-! ### Resets (R30, R44, R49) -/

/-- GRST_N_ASSERT (R30, R44): a low of `ns`; shorter than 10 µs it is ignored, and after a thermal trip it acts only while the hottest
sensor reads 95 °C or less. -/
def execGrstNAssert (ns : Nat) (s : State) : Host.Outcome State Fault Refusal :=
  onAll (fun m c =>
    if ns < 10000 || c.mode == .off || c.mode == .reset then (m, c)
    else if c.power.stop = some .thermal then (if c.hottest.2 ≤ 540 then toReset m c 3 else (m, c))
    else toReset m c 1) s

/-- RAILS_REMOVED (R49): OFF from any mode; VAON falls, so D00's records are lost, records being written are torn, and the stop is unclean
unless a safe stop has ended. -/
def execRailsRemoved (s : State) : Host.Outcome State Fault Refusal :=
  onAll (fun m c =>
    if c.mode = .off then (m, c)
    else
      let c1 := c.resetFrom false c.power.stop.isNone
      (m.afterReset, (c1.wr Reg.GLB_RST_STAT 0).set F.GLB_MODE_STAT_mode 0)) s

end Sys2Proof.Machine
end

