-- ==== Sys2Proof/Machine/SelfTests.lean ====
section
/-! DEFINITION. Self-test and calibration (15_management_and_transactions.md, R405 to R407; R61 of 03_modes_and_startup.md; R281; R380). -/

namespace Sys2Proof.Machine

/-- The request of a test: the mode, its target, a test already running, its condition, and a handle, in this order. -/
def testOp (op : Nat) (k : TestClass) (valid : Nat → Bool) (cond : Ctl → Nat → Bool) (f : Nat → Mem → Ctl → Mem × Ctl)
    (t : Taken) (m : Mem) (c : Ctl) : CRes :=
  let x := t.w 0 % 256
  if testMode k c.mode ≠ 0 then .err m c (testMode k c.mode)
  else if t.pkt.words.isEmpty || !valid x then .err m c Cs.badParam
  else if c.testOn op x then .err m c Cs.testRunning
  else if !cond c x then .err m c Cs.busyExclusive
  else
    longOp op m c (fun h m c => f x m { c with mgt := { c.mgt with tests := c.mgt.tests ++ [(⟨op, x, h⟩ : RunTest)] } })

/-- A test with no target and no condition, and nothing that its start changes. -/
def plainTest (op : Nat) (k : TestClass) : Taken → Mem → Ctl → CRes := testOp op k (· == 0) (fun _ _ => true) (fun _ m c => (m, c))

/-- ENGINE_KAT (R281): concurrent. -/
def execEngineKat (src : ChiebSrc) (s : State) : Host.Outcome State Fault Refusal := chiebRow 0x0A10 src (plainTest 0x0A10 .concurrent) s

/-- CARAFE_SCAN (R405): concurrent. -/
def execCarafeScan (src : ChiebSrc) (s : State) : Host.Outcome State Fault Refusal := chiebRow 0x0A11 src (plainTest 0x0A11 .concurrent) s

/-- HBM_SCRUB (R405): concurrent. -/
def execHbmScrub (src : ChiebSrc) (s : State) : Host.Outcome State Fault Refusal := chiebRow 0x0A12 src (plainTest 0x0A12 .concurrent) s

/-- PCR_VERIFY (R405): concurrent. -/
def execPcrVerify (src : ChiebSrc) (s : State) : Host.Outcome State Fault Refusal := chiebRow 0x0A13 src (plainTest 0x0A13 .concurrent) s

/-- NET_PRBS (R406): the port is disabled. -/
def execNetPrbs (src : ChiebSrc) (s : State) : Host.Outcome State Fault Refusal :=
  chiebRow 0x0A20 src (testOp 0x0A20 .quiesced (fun x => decide (x < 24)) (fun c x => !c.flag (F.NET_PORT_CFG_en x)) (fun _ m c => (m, c))) s

/-- Whether a bay is no member, or holds a FAILED one. -/
def Ctl.bayUnused (c : Ctl) (b : Nat) : Bool := c.memState b == 2 || ((c.posOfBay b).isNone && (c.memState b == 0 || c.memState b == 5))

/-- DRV_EQ (R406): the bay is no member, or its member is FAILED. -/
def execDrvEq (src : ChiebSrc) (s : State) : Host.Outcome State Fault Refusal :=
  chiebRow 0x0A21 src (testOp 0x0A21 .quiesced (fun x => decide (x < 24)) Ctl.bayUnused (fun _ m c => (m, c))) s

/-- PEER_PRBS (R406): the device is unpaired. -/
def execPeerPrbs (src : ChiebSrc) (s : State) : Host.Outcome State Fault Refusal :=
  chiebRow 0x0A22 src (testOp 0x0A22 .quiesced (· == 0) (fun c _ => !c.flag F.PEER_CFG_en) (fun _ m c => (m, c))) s

/-- What a march over Carafe leaves (R53, R405): a Carafe marked invalid, without what its control area and ring held. -/
def Ctl.carafeWiped (c : Ctl) : Ctl :=
  { c with
    car := { Journal.reset with
      ns := c.car.ns, maps := c.car.maps, forms := c.car.forms, ckA := c.car.ckA, ckB := c.car.ckB, umap := c.car.umap, failed := c.car.failed, invalid := true }
    rbd := { c.rbd with lost := [] }
    power := { c.power with ctlA := Power.reset.ctlA, ctlB := Power.reset.ctlB } }

/-- HBM_MARCH (R405): over both stacks; what they hold afterwards is like memory never written. -/
def execHbmMarch (src : ChiebSrc) (s : State) : Host.Outcome State Fault Refusal :=
  chiebRow 0x0A40 src (testOp 0x0A40 .testOnly (· == 0) (fun _ _ => true) (fun _ m c => ({ m with hbm := [] }, c))) s

/-- MRAM_MARCH (R405): destructive, and Carafe is marked invalid. -/
def execMramMarch (src : ChiebSrc) (s : State) : Host.Outcome State Fault Refusal :=
  chiebRow 0x0A41 src (testOp 0x0A41 .testOnly (· == 0) (fun _ _ => true) (fun _ m c => ({ m with carafe := [] }, c.carafeWiped))) s

/-- SERDES_LOOP (R405). -/
def execSerdesLoop (src : ChiebSrc) (s : State) : Host.Outcome State Fault Refusal := chiebRow 0x0A42 src (plainTest 0x0A42 .testOnly) s

/-- Tests whose end TEST_DONE tells; a calibration has an end of its own. -/
def testEnds (op : Nat) : Bool := chiebTest op && op != 0x0A30

/-- Whether a running test may end: a concurrent one only runs at a Test rate above 0, and outside IDLE_LOW (R405, Table 3.4). -/
def Ctl.testRuns (c : Ctl) (op : Nat) : Bool := c.mode != .idleLow && (decide (0x0A20 ≤ op) || c.bgRates.2.2.2 != 0)

/-- What the end of a test leaves beside its handle: ENGINE_KAT without an error has passed (R434); equalisation presets are stored. -/
def Ctl.testLeaves (c : Ctl) (op target errors : Nat) : Ctl :=
  if op = 0x0A10 ∧ errors = 0 then { c with trust := { c.trust with katOk := true } }
  else if op = 0x0A21 ∧ !c.pair.presets.contains target then { c with pair := { c.pair with presets := c.pair.presets ++ [target] } }
  else c

/-- Whether an end of ENGINE_KAT without an error that no request asked for is the device's own run on an image on trial (R434). -/
def Ctl.ownKat (c : Ctl) (op target errors : Nat) : Bool :=
  op == 0x0A10 && target == 0 && errors == 0 && c.flag F.FWU_STAT_trial && !c.halted

/-- The uncorrectable HBM words that a scrub has met: each is recorded at its read as detected and counted (R405, Table 13.8). -/
def Ctl.scrubMet (c : Ctl) (m : Mem) (op : Nat) : Ctl :=
  if op = 0x0A12 then m.ue.foldl (fun c w => (c.faultRecord 0x05 1 0).tev .hbm 3 (hbmStack w) none none 1) c else c

/-- TEST_DONE (R407): a running test ends with the errors found and the first failing instance or address. -/
def execTestDone (op target : Nat) (errors first : Word) (s : State) : Host.Outcome State Fault Refusal :=
  onCtl (fun m c =>
    match c.mgt.tests.find? (fun t => t.op == op && t.target == target) with
    | some t =>
      if testEnds op && c.testRuns op then
        let c1 := { c with mgt := { c.mgt with tests := c.mgt.tests.filter (fun x => !(x.op == op && x.target == target)) } }
        ((c1.scrubMet m op).testLeaves op target errors.toNat).handleEnd t.handle Cs.ok [errors, first]
      else if c.ownKat op target errors.toNat then c.testLeaves op target errors.toNat
      else c
    | none => if c.ownKat op target errors.toNat then c.testLeaves op target errors.toNat else c) s

/-- TEST_STATUS: opcode, target and handle of each running test. -/
def testStatus (_ : Taken) (m : Mem) (c : Ctl) : CRes := .ok m c (c.mgt.tests.flatMap (fun t => [wd t.op, wd t.target, wd t.handle]))

/-- TEST_STATUS (R407). -/
def execTestStatus (src : ChiebSrc) (s : State) : Host.Outcome State Fault Refusal := chiebRow 0x0A00 src testStatus s

/-! ### Calibration (R380) -/

/-- Whether a bay's gate is off in a state that calibration needs. -/
def Ctl.calOk (c : Ctl) (b : Nat) : Bool := [Ch.empty, Ch.seating, Ch.idle, Ch.latched].contains (c.chSt b)

/-- BAY_CAL (R380): the channel samples for 10 ms. -/
def execBayCal (src : ChiebSrc) (s : State) : Host.Outcome State Fault Refusal :=
  chiebRow 0x0A30 src (testOp 0x0A30 .quiesced (fun x => decide (x < 24)) Ctl.calOk (fun b m c =>
    (m, { c with bay := { c.bay with cal := Tab.put c.bay.cal b (c.dt + 10000000) } }))) s

/-- BAY_CAL_DONE (R380): the mean is written as one persistent word, unless that is refused (R403, R404); in IDLE_LOW the test waits for the
exit (Table 3.4). -/
def execBayCalDone (bay : Fin 24) (ofs : BitVec 16) (s : State) : Host.Outcome State Fault Refusal :=
  onCtl (fun _ c =>
    match (if c.testRuns 0x0A30 then Tab.at? c.bay.cal bay else none) with
    | none => c
    | some t =>
      let c1 := c.reach t
      let h := ((c1.mgt.tests.find? (fun x => x.op == 0x0A30 && x.target == bay.val)).map (·.handle)).getD 64
      let ck := if c1.chSt bay = Ch.precheck then c1.onCh bay (fun x => { x with since := c1.dt }) else c1
      let c2 := { ck with
        bay := { ck.bay with cal := Tab.del ck.bay.cal bay }
        mgt := { c1.mgt with tests := c1.mgt.tests.filter (fun x => !(x.op == 0x0A30 && x.target == bay.val)) } }
      match c2.pcrRequest (Reg.BAY_CH_OFS bay) (8 + bay) (ofs.setWidth 32) false with
      | (0, c3) => (c3.bayEvent bay 0x0B 0 (c3.chSt bay) (c3.bayNow bay)).handleEnd h Cs.ok [0, 0]
      | (st, c3) => c3.handleEnd h st []) s

end Sys2Proof.Machine
end

