-- ==== Sys2Proof/Machine/Sideband.lean ====
section
/-! DEFINITION. The NVMe-MI commands of the sideband, MI_ALERT_N, and MCTP endpoint assignment (15_management_and_transactions.md, R384, R385;
R58 of 03_modes_and_startup.md). -/

namespace Sys2Proof.Machine

/-- MI_ALERT_N is driven low (R384). -/
def Ctl.miAlertLow (c : Ctl) : Bool := c.flag F.PEER_FAULT_STAT_pend && c.flag F.MGT_CFG_mi_alert_en

/-- The device answers NVMe-MI commands: its management is up, and the sideband is not mute (R58). -/
def Ctl.miOpen (c : Ctl) : Bool := !(c.mode == .off || c.mode == .reset) && !c.sidebandMute

/-- An NVMe-MI command of an endpoint: answered, with what it changes. -/
def miRow (eid : Nat) (f : Ctl → MiRsp × Ctl) (s : State) : Host.Outcome State Fault Refusal :=
  onCtl (fun _ c => if c.miOpen then (f c).2.emit (.mi eid (f c).1) else c) s

/-- NVMe-MI status Invalid Parameter. -/
def miBad : Nat := 0x04

/-- MI_READ_DATA_STRUCTURE (R384): structures 0 to 4 of NVMe-MI 1.2; the spec gives no content to any. -/
def execMiReadDataStructure (eid : Fin 256) (dtyp portId : Byte) (ctrlId : BitVec 16) (s : State) : Host.Outcome State Fault Refusal :=
  miRow eid (fun c =>
    (if 4 < dtyp.toNat then .error miBad else .dataStructure dtyp.toNat (Config.miStructure dtyp.toNat portId.toNat ctrlId.toNat), c)) s

/-- MI_SUBSYSTEM_HEALTH_POLL (R384): the temperature of the hottest sensor; the other bytes are open. -/
def execMiSubsystemHealthPoll (eid : Fin 256) (s : State) : Host.Outcome State Fault Refusal :=
  miRow eid (fun c => (.subsystemHealth (tempC c.hottest.2)
    ((List.range 7).map (fun i => BitVec.ofNat 8 (Config.freeNat (c.fv + i)))), c.tookN 7)) s

/-- MI_CONTROLLER_HEALTH_POLL (R384): CNTLID and CSTS of every controller, and the temperature. -/
def execMiControllerHealthPoll (eid : Fin 256) (s : State) : Host.Outcome State Fault Refusal :=
  miRow eid (fun c =>
    (.controllerHealth ((c.host.assocs.filter (fun p => !p.2.discovery && !p.2.ending)).map (fun p => (c.cntlid p.1, p.2.csts)))
      (tempC c.hottest.2), c)) s

/-- MI_CONFIGURATION_GET (R384): 01h SMBus frequency, 02h health status change, 03h MCTP transmission unit size. -/
def execMiConfigurationGet (eid : Fin 256) (cfgId : Byte) (s : State) : Host.Outcome State Fault Refusal :=
  miRow eid (fun c =>
    (match cfgId.toNat with
      | 1 => .configuration 1 c.mgt.miFreq
      | 2 => .configuration 2 0
      | 3 => .configuration 3 c.mgt.miMtu
      | _ => .error miBad, c)) s

/-- MI_CONFIGURATION_SET (R384): the frequency is 100 kHz (1) or 400 kHz (2). -/
def execMiConfigurationSet (eid : Fin 256) (cfgId : Byte) (value : BitVec 16) (s : State) : Host.Outcome State Fault Refusal :=
  miRow eid (fun c =>
    match cfgId.toNat with
    | 1 => if value = 1 ∨ value = 2 then (.done, { c with mgt := { c.mgt with miFreq := value.toNat } }) else (.error miBad, c)
    | 2 => (.done, c)
    | 3 => if value.toNat < 64 then (.error miBad, c) else (.done, { c with mgt := { c.mgt with miMtu := value.toNat } })
    | _ => (.error miBad, c)) s

/-- MCTP_ENDPOINT_ASSIGNED (R385): the channel of the endpoint accepts any seq next. -/
def execMctpEndpointAssigned (eid : Fin 256) (s : State) : Host.Outcome State Fault Refusal := onCtl (fun _ c => c.chanReset (8192 + eid)) s

end Sys2Proof.Machine
end

