-- ==== Sys2Proof/Machine/Spdm.lean ====
section
/-! DEFINITION. SPDM 1.3 (17_firmware_and_trust.md, R439 to R443): negotiation, certificates, signatures, measurements, and the secured
sessions that carry Chieb packets. A requester is a number: 0 Data Object Exchange on the service endpoint, 1 + e the sideband endpoint e. -/

namespace Sys2Proof.Machine

/-- Error codes of SPDM (PRESUMED, notes/assumptions/38.md). -/
def SpdmErr.invalidRequest : Nat := 0x01
def SpdmErr.unexpectedRequest : Nat := 0x04
def SpdmErr.decryptError : Nat := 0x06
def SpdmErr.versionMismatch : Nat := 0x41

/-- Whether requests of a requester reach the device: configuration space answers, or the sideband is not mute (R58). -/
def Ctl.spdmOpen (c : Ctl) (who : Nat) : Bool :=
  if who = 0 then c.cfgOpen else !c.sidebandMute && c.mode != .off && c.mode != .reset

/-- What requester `who` has negotiated. -/
def Ctl.spdmPeer (c : Ctl) (who : Nat) : SpdmPeer := Tab.getD c.trust.peers who ⟨false, false, false, none⟩

/-- The state with a requester. -/
def Ctl.setSpdmPeer (c : Ctl) (who : Nat) (p : SpdmPeer) : Ctl := { c with trust := { c.trust with peers := Tab.put c.trust.peers who p } }

/-- A response. -/
def Ctl.spdmSay (c : Ctl) (who : Nat) (r : SpdmRsp) : Ctl := c.emit (.spdm who r)

/-- A request that reaches the device. -/
def spdmReq (who : Fin 257) (f : SpdmPeer → Ctl → Ctl) (s : State) : Host.Outcome State Fault Refusal :=
  onCtl (fun _ c => if c.spdmOpen who then f (c.spdmPeer who) c else c) s

/-- A request that needs the whole negotiation before it (R440). -/
def spdmAfter (who : Fin 257) (f : SpdmPeer → Ctl → Ctl) (s : State) : Host.Outcome State Fault Refusal :=
  spdmReq who (fun p c => if p.algs then f p c else c.spdmSay who (.error SpdmErr.unexpectedRequest)) s

/-- SPDM_GET_VERSION (R440): version 1.3; the negotiation starts anew. -/
def execSpdmGetVersion (who : Fin 257) (s : State) : Host.Outcome State Fault Refusal :=
  spdmReq who (fun _ c => (c.setSpdmPeer who ⟨true, false, false, none⟩).spdmSay who (.version 0x13)) s

/-- SPDM_GET_CAPABILITIES (R440): a request of another version is refused. -/
def execSpdmGetCapabilities (who : Fin 257) (version : Byte) (s : State) : Host.Outcome State Fault Refusal :=
  spdmReq who (fun p c =>
    if !p.ver then c.spdmSay who (.error SpdmErr.unexpectedRequest)
    else if version ≠ 0x13 then c.spdmSay who (.error SpdmErr.versionMismatch)
    else (c.setSpdmPeer who { p with caps := true }).spdmSay who .capabilities) s

/-- Whether an offer holds what Table 17.7 settles. -/
def algsFit (a : SpdmAlgs) : Bool := a.hash && a.rspSig && a.reqSig && a.dhe && a.aead && a.keySched

/-- SPDM_NEGOTIATE_ALGORITHMS (R440). -/
def execSpdmNegotiateAlgorithms (who : Fin 257) (algs : SpdmAlgs) (s : State) : Host.Outcome State Fault Refusal :=
  spdmReq who (fun p c =>
    if !p.caps then c.spdmSay who (.error SpdmErr.unexpectedRequest)
    else if !algsFit algs then c.spdmSay who (.error SpdmErr.invalidRequest)
    else (c.setSpdmPeer who { p with algs := true }).spdmSay who .algorithms) s

/-- SPDM_GET_DIGESTS (R440): certificate slot 0. -/
def execSpdmGetDigests (who : Fin 257) (s : State) : Host.Outcome State Fault Refusal :=
  spdmAfter who (fun _ c => c.spdmSay who (.digests (Config.sha256 Config.certChain))) s

/-- SPDM_GET_CERTIFICATE (R439, R440): a portion of the chain of slot 0. -/
def execSpdmGetCertificate (who : Fin 257) (slot : Fin 8) (off len : BitVec 16) (s : State) : Host.Outcome State Fault Refusal :=
  spdmAfter who (fun _ c =>
    let n := Config.certChain.length
    if slot.val ≠ 0 ∨ n ≤ off.toNat then c.spdmSay who (.error SpdmErr.invalidRequest)
    else
      let part := (Config.certChain.drop off.toNat).take len.toNat
      c.spdmSay who (.certificate part (n - off.toNat - part.length))) s

/-! ### Signatures (R441) -/

/-- A signature by the identity key starts over what the request and its response make to be signed; the requester is told to wait. -/
def Ctl.signBegin (c : Ctl) (who : Nat) (p : SpdmPeer) (x : SpdmPend) : Ctl :=
  (c.setSpdmPeer who { p with pend := some x }).spdmSay who (.notReady 21)

/-- SPDM_CHALLENGE (R441): `transcript` is what SPDM has the device sign. -/
def execSpdmChallenge (who : Fin 257) (slot : Fin 8) (transcript : List Byte) (s : State) : Host.Outcome State Fault Refusal :=
  spdmAfter who (fun p c =>
    if slot.val ≠ 0 then c.spdmSay who (.error SpdmErr.invalidRequest)
    else c.signBegin who p ⟨.challenge, false, transcript, [], none⟩) s

/-- The measurement blocks of Table 17.8 by index. -/
def Ctl.measBlocks (c : Ctl) : List (Nat × List Byte) :=
  let cur := c.get F.FWU_STAT_cur_slot
  [(1, Config.bootRomDigest)] ++ (c.trust.meas.zipIdx).map (fun p => (p.2 + 2, p.1))
    ++ [(0x10, leBytes 4 (c.get F.FWU_SVN_svn) ++ leBytes 1 cur ++ leBytes 1 (c.get F.FWU_STAT_trial)
          ++ leBytes 4 (c.rd (Reg.FWU_SLOT_VER_LO cur)).toNat ++ leBytes 4 (c.rd (Reg.FWU_SLOT_VER_HI cur)).toNat),
        (0x11, leBytes 4 (c.rd Reg.FWU_KEYS).toNat)]

/-- SPDM_GET_MEASUREMENTS (R442): index 0 asks how many blocks there are, 0xFF for every block, another for its own; signed when asked. -/
def execSpdmGetMeasurements (who : Fin 257) (index : Fin 256) (signed : Bool) (transcript : List Byte) (s : State) : Host.Outcome State Fault Refusal :=
  spdmAfter who (fun p c =>
    let bs := if index.val = 255 then c.measBlocks else c.measBlocks.filter (fun b => b.1 == index.val)
    if index.val = 0 && !signed then c.spdmSay who (.measurementCount c.measBlocks.length)
    else if bs.isEmpty && index.val != 0 then c.spdmSay who (.error SpdmErr.invalidRequest)
    else if signed then c.signBegin who p ⟨.measurements, false, transcript, bs, none⟩
    else c.spdmSay who (.measurements bs none)) s

/-- The SHA-256 of the root certificate that requesters must end at (FWU_SPDM_ROOT_w). -/
def Ctl.spdmRoot (c : Ctl) : List Byte := wordBytes ((List.range 8).map (fun w => c.rd (Reg.FWU_SPDM_ROOT w)))

/-- SPDM_KEY_EXCHANGE (R443): no session is accepted while the root words are all zero; else a session begins, its response signed. -/
def execSpdmKeyExchange (who : Fin 257) (transcript : List Byte) (s : State) : Host.Outcome State Fault Refusal :=
  spdmAfter who (fun p c =>
    match (if c.spdmRoot.all (· == 0) then none else Tab.freeKey c.trust.sessions 0 (c.trust.sessions.length + 1)) with
    | none => c.spdmSay who (.error SpdmErr.unexpectedRequest)
    | some k =>
      let c1 := { c with trust := { c.trust with sessions := Tab.put c.trust.sessions k ⟨who, false, false, 0, c.dt⟩ } }
      c1.signBegin who p ⟨.keyExchange, false, transcript, [], some k⟩) s

/-- SPDM_SIGNATURE_DONE (R441). -/
def execSpdmSignatureDone (who : Fin 257) (s : State) : Host.Outcome State Fault Refusal :=
  onCtl (fun _ c =>
    let p := c.spdmPeer who
    match p.pend with
    | some x => if c.mode = .off ∨ c.mode = .reset then c else c.setSpdmPeer who { p with pend := some { x with ready := true } }
    | none => c) s

/-- A session of the table changed. -/
def Ctl.updSession (c : Ctl) (k : Nat) (f : SpdmSess → SpdmSess) : Ctl :=
  { c with trust := { c.trust with sessions := Tab.upd c.trust.sessions k f } }

/-- The response of a request whose signature is done. -/
def Ctl.signedRsp (c : Ctl) (who : Nat) (x : SpdmPend) : Ctl :=
  let sig := Config.identitySign x.data
  match x.kind with
  | .challenge => c.spdmSay who (.challengeAuth sig)
  | .measurements => c.spdmSay who (.measurements x.blocks (some sig))
  | .keyExchange =>
    let k := x.session.getD 0
    (c.updSession k (fun s => { s with keyed := true })).spdmSay who (.keyExchangeRsp k sig)

/-- SPDM_RESPOND_IF_READY (R441). -/
def execSpdmRespondIfReady (who : Fin 257) (s : State) : Host.Outcome State Fault Refusal :=
  spdmReq who (fun p c =>
    match p.pend with
    | none => c.spdmSay who (.error SpdmErr.unexpectedRequest)
    | some x => if x.ready then (c.setSpdmPeer who { p with pend := none }).signedRsp who x else c.spdmSay who (.notReady 21)) s

/-! ### Sessions (R443) -/

/-- Session `k` of a requester, when FINISH has completed it. -/
def Ctl.liveSession (c : Ctl) (k : Nat) : Option SpdmSess := (Tab.at? c.trust.sessions k).bind (fun x => if x.done then some x else none)

/-- A session is forgotten. -/
def Ctl.endSession (c : Ctl) (k : Nat) : Ctl := { c with trust := { c.trust with sessions := Tab.del c.trust.sessions k } }

/-- SPDM_FINISH (R443): the session is complete when the requester's chain ends at the root of FWU_SPDM_ROOT_w and its signature and HMAC
verify (`ok`); else it ends. -/
def execSpdmFinish (who : Fin 257) (session : Nat) (root : List Byte) (ok : Bool) (s : State) : Host.Outcome State Fault Refusal :=
  spdmReq who (fun _ c =>
    match Tab.at? c.trust.sessions session with
    | none => c.spdmSay who (.error SpdmErr.invalidRequest)
    | some x =>
      if x.peer ≠ who.val ∨ x.done ∨ !x.keyed then c.spdmSay who (.error SpdmErr.invalidRequest)
      else if !ok || root != c.spdmRoot || c.spdmRoot.all (· == 0) then (c.endSession session).spdmSay who (.error SpdmErr.decryptError)
      else (c.updSession session (fun y => { y with done := true, at_ := c.dt })).spdmSay who (.finishRsp session)) s

/-- A request inside a session; outside one it is dropped. -/
def sessionReq (session : Nat) (f : SpdmSess → Ctl → Ctl) (s : State) : Host.Outcome State Fault Refusal :=
  onCtl (fun _ c =>
    match c.liveSession session with
    | some x => if c.spdmOpen x.peer then f x (c.updSession session (fun y => { y with at_ := c.dt })) else c
    | none => c) s

/-- SPDM_HEARTBEAT (R440). -/
def execSpdmHeartbeat (session : Nat) (s : State) : Host.Outcome State Fault Refusal :=
  sessionReq session (fun x c => c.spdmSay x.peer (.heartbeatAck session)) s

/-- SPDM_KEY_UPDATE (R440). -/
def execSpdmKeyUpdate (session : Nat) (s : State) : Host.Outcome State Fault Refusal :=
  sessionReq session (fun x c =>
    (c.updSession session (fun y => { y with keyGen := y.keyGen + 1 })).spdmSay x.peer (.keyUpdateAck session)) s

/-- SPDM_END_SESSION (R443). -/
def execSpdmEndSession (session : Nat) (s : State) : Host.Outcome State Fault Refusal :=
  sessionReq session (fun x c => (c.spdmSay x.peer (.endSessionAck session)).endSession session) s

/-- SECURED_MESSAGE (R443): `bytes` is what the message holds once decrypted: a Chieb packet, after the vendor ID over MCTP. It is taken on
the requester's channel. -/
def execSecuredMessage (session : Nat) (bytes : List Byte) (s : State) : Host.Outcome State Fault Refusal :=
  onAll (fun m c =>
    match c.liveSession session with
    | none => (m, c)
    | some x =>
      let p := if x.peer = 0 then bytes else bytes.drop 2
      let ch := c.chanOf (.session session)
      if !c.spdmOpen x.peer || (x.peer != 0 && pktField bytes 0 2 != Config.vendorId.toNat)
          || (x.peer != 0 && c.mgt.taken.any (fun t => t.chan == ch && t.pkt.seq != (pktOf p).seq)) then (m, c)
      else chiebTake m (c.updSession session (fun y => { y with at_ := c.dt })) ⟨ch, .session session, pktOf p, true, 0, 0⟩ p true) s

end Sys2Proof.Machine
end

