-- ==== Sys2Proof/Machine/TelOps.lean ====
section
/-! DEFINITION. The telemetry opcodes (18_telemetry.md, R449, R452 to R454, Table 18.4). -/

namespace Sys2Proof.Machine

/-- TEL_SNAPSHOT: the latest scheduled snapshot, as in SRAM; zeros before the first (R455). -/
def telSnapshot (_ : Taken) (m : Mem) (c : Ctl) : CRes :=
  .ok m c (match c.tel.snap with
    | some x => leWords 672 (snapBytes x (fun _ => true))
    | none => List.replicate 672 0)

/-- TEL_SNAPSHOT (R454). -/
def execTelSnapshot (src : ChiebSrc) (s : State) : Host.Outcome State Fault Refusal := chiebRow 0x0700 src telSnapshot s

/-- TEL_SWEEP: an on-demand sweep, whose snapshot takes no number and is returned in the reply only. -/
def telSweep (_ : Taken) (m : Mem) (c : Ctl) : CRes :=
  .ok m c (leWords 672 (snapBytes (c.takeSnapshot false true c.dntNs c.tel.period) (fun _ => true)))

/-- TEL_SWEEP (R449). -/
def execTelSweep (src : ChiebSrc) (s : State) : Host.Outcome State Fault Refusal := chiebRow 0x0701 src telSweep s

/-- Sample records between the tail and the head. -/
def Ctl.samplesHeld (c : Ctl) : Nat := (c.get F.TEL_SMP_STAT_head + 4096 - c.get F.TEL_SMP_TAIL_tail) % 4096

/-- TEL_SAMPLES: at most `w0` records from the tail, which advances past them. -/
def telSamples (t : Taken) (m : Mem) (c : Ctl) : CRes :=
  let n := t.w 0
  if t.pkt.words.isEmpty ∨ n = 0 ∨ 2048 < n then .err m c Cs.badParam
  else
    let k := min n c.samplesHeld
    let tail := c.get F.TEL_SMP_TAIL_tail
    let v := c.memView m
    .ok m (c.set F.TEL_SMP_TAIL_tail ((tail + k) % 4096))
      ((List.range k).flatMap (fun i => leWords 8 (v.bytes .sram (0x30000 + 32 * ((tail + i) % 4096)) 32)))

/-- TEL_SAMPLES (R452). -/
def execTelSamples (src : ChiebSrc) (s : State) : Host.Outcome State Fault Refusal := chiebRow 0x0702 src telSamples s

end Sys2Proof.Machine
end

