-- ==== Sys2Proof/Machine/TimeStep.lean ====
section
/-! DEFINITION. Sync messages: the offset, steps and slews of DNT, the states they lead to, and the scheduled events that a step jumps over
(04_network_time.md, R63, R69, R71 to R74). -/

namespace Sys2Proof.Machine

/-! ### Events that a forward step jumps over (R73) -/

/-- A DNT-scheduled event, in the order of R72. -/
inductive DntEv where
  | commit (e : Sched)
  | adopt (np : Nat)
  | cycle (np : Nat)
  | tod
  | decay
  | sweep

/-- Its place among events of one instant (R72). -/
def DntEv.rank : DntEv → Nat
  | .commit _ => 1
  | .adopt _ => 2
  | .cycle _ => 2
  | .tod => 3
  | .decay => 4
  | .sweep => 5

/-- Whether an event comes before another in instant order, R72 applying among equal instants. -/
def dntFirst (a b : Nat × DntEv) : Bool :=
  decide (a.1 < b.1) || (a.1 == b.1 && (decide (a.2.rank < b.2.rank) || (a.2.rank == b.2.rank &&
    (match a.2, b.2 with | .commit x, .commit y => x.first y | _, _ => true))))

/-- An event put in its place. -/
def dntInsert (x : Nat × DntEv) : List (Nat × DntEv) → List (Nat × DntEv)
  | [] => [x]
  | y :: ys => if dntFirst y x then y :: dntInsert x ys else x :: y :: ys

/-- The first cycle start of a port's list at or after `t` that has not fired (R73). -/
def Ctl.cycleNext (c : Ctl) (np : Nat) (l : PourList) (t : Nat) : Nat :=
  atOrAfter l.at_ l.cycle (match (c.np np).cycAt with | some x => max t (x + 1) | none => t)

/-- The events with an instant after `old` and not after `new`, seen before the step; a periodic one stands once, at its first. -/
def Ctl.dntJumped (c : Ctl) (old new : Nat) : List (Nat × DntEv) :=
  let inJ (t : Nat) : Bool := decide (old < t) && decide (t ≤ new)
  let commits := (c.scheds [2]).map (fun e => (e.time, DntEv.commit e))
  let adopts := (List.range 24).filterMap (fun np => (c.gclDue np).map (fun a => (a, DntEv.adopt np)))
  let cycles := (List.range 24).filterMap (fun np => (c.gclLive np).map (fun l => (c.cycleNext np l (old + 1), DntEv.cycle np)))
  let tods := [(c.todNext old, DntEv.tod)]
  let decays := [(nextInstant old c.crm.lastDecay (c.get F.CRM_DECAY_period_s * 1000000000), DntEv.decay)]
  let sweeps := if c.flag F.TEL_CFG_en && c.bitOf F.GLB_PD_STAT_pd_is_on 2 then
      [(c.sweepNext old, DntEv.sweep)] else []
  ((commits ++ adopts ++ cycles ++ tods ++ decays ++ sweeps).filter (fun p => inJ p.1)).foldl (fun l x => dntInsert x l) []

/-- A cycle start of a port's list fires at instant `t` (R315). -/
def Ctl.cycleFire (c : Ctl) (np t : Nat) : Ctl := (c.setNp np { c.np np with cycAt := some t }).gclShow np

/-- A scheduled event fires, when DNT is `now` ns. A commit waits while another is between its steps, and is held while DNT is
unsynchronised (Table 4.3); `late` says that a step jumped over the instant. -/
def dntDo (late : Bool) (now : Nat) (a : Mem × Ctl) (p : Nat × DntEv) : Mem × Ctl :=
  let m := a.1
  let c := a.2
  match p.2 with
  | .commit e =>
    if c.committing then (m, c)
    else if c.unsync then (m, match e with | .own k x => c.setTxn k { x with state := 3 } | .held _ => c)
    else schedFire m c e
  | .adopt np => (m, c.gclAdopt np p.1)
  | .cycle np => (m, c.cycleFire np now)
  | .tod => (m, c.todFire now)
  | .decay => (m, c.decayFire now)
  | .sweep =>
    let c1 := c.sweepFire late p.1 now (c.sweepPeriod p.1 now)
    ((match c1.tel.snap with | some x => snapPublish m x | none => m), c1)

/-- A jumped event fires at the step, when DNT is `new` ns, and is counted as late (R73). -/
def dntFire (new : Nat) (a : Mem × Ctl) (p : Nat × DntEv) : Mem × Ctl := dntDo true new (a.1, a.2.bump F.TIM_EVT_STAT_late 1) p

/-! ### Events at their instants (R72) -/

/-- The events of a rank below `k` that are due at instant `t`, in their order: a commit or an adoption whose instant has come, and what else
has this very instant. -/
def Ctl.dntDue (c : Ctl) (k t : Nat) : List (Nat × DntEv) :=
  let now := c.dntNs
  let commits := ((c.scheds [2]).filter (fun e => decide (e.time ≤ t))).map (fun e => (e.time, DntEv.commit e))
  let adopts := (List.range 24).filterMap (fun np => match c.gclDue np with | some a => if a ≤ t then some (a, DntEv.adopt np) else none | none => none)
  let cycles := (List.range 24).filterMap (fun np => match c.gclLive np with
    | some l => if c.cycleNext np l t = t then some (t, DntEv.cycle np) else none
    | none => none)
  let tods := if c.todNext now = t then [(t, DntEv.tod)] else []
  let decays := if nextInstant now c.crm.lastDecay (c.get F.CRM_DECAY_period_s * 1000000000) = t then [(t, DntEv.decay)] else []
  ((commits ++ adopts ++ cycles ++ tods ++ decays).filter (fun p => decide (p.2.rank < k))).foldl (fun l x => dntInsert x l) []

/-- Before an event of rank `k` at instant `t`, the events of lower rank that share the instant fire (R72); DNT has reached `t`. -/
def dntAhead (k t : Nat) (m : Mem) (c : Ctl) : Mem × Ctl := (c.dntDue k t).foldl (dntDo false t) (m, c.reachDnt t)

/-- A row of a DNT-scheduled event of rank `k` at instant `t`. -/
def dntRow (k t : Nat) (f : Mem → Ctl → Mem × Ctl) (m : Mem) (c : Ctl) : Mem × Ctl :=
  match dntAhead k t m c with
  | (m1, c1) => f m1 c1

/-- POUR_LIST_ADOPT (R317). -/
def execPourListAdopt (np : Fin 24) (s : State) : Host.Outcome State Fault Refusal :=
  onAll (fun m c => match c.gclDue np.val with
    | some a => dntRow 2 a (fun m c => (m, c.gclAdopt np.val a)) m c
    | none => (m, c)) s

/-- GATE_ENTRY_ADVANCE (R315): DNT reaches the end of the entry in force; where a new cycle begins, one that has fired already does not fire
again (R73). -/
def execGateEntryAdvance (np : Fin 24) (s : State) : Host.Outcome State Fault Refusal :=
  onAll (fun m c =>
    match c.gclLive np.val with
    | none => (m, c)
    | some l =>
      let t := c.dntNs + (gclAt (c.gclParts np.val l) 0 (c.gclPhase l)).2
      if atOrAfter l.at_ l.cycle t ≠ t then (m, (c.reachDnt t).gclShow np.val)
      else if c.cycleNext np.val l t = t then dntRow 2 t (fun m c => (m, c.cycleFire np.val t)) m c
      else (m, c.reachDnt t)) s

/-- TOD_BOUNDARY (R75): DNT reaches the next half-hour boundary of the time of day. -/
def execTodBoundary (s : State) : Host.Outcome State Fault Refusal :=
  onAll (fun m c => let t := c.todNext c.dntNs; dntRow 3 t (fun m c => (m, c.todFire t)) m c) s

/-- SKETCH_DECAY (R179): DNT reaches the decay instant. -/
def execSketchDecay (s : State) : Host.Outcome State Fault Refusal :=
  onAll (fun m c =>
    let t := nextInstant c.dntNs c.crm.lastDecay (c.get F.CRM_DECAY_period_s * 1000000000)
    dntRow 4 t (fun m c => (m, c.decayFire t)) m c) s

/-- TELEMETRY_SWEEP (R446): at a sweep instant with TEL_CFG.en set, the counters are latched and published. -/
def execTelemetrySweep (s : State) : Host.Outcome State Fault Refusal :=
  onAll (fun m c =>
    if c.flag F.TEL_CFG_en && c.bitOf F.GLB_PD_STAT_pd_is_on 2 then
      let t := c.sweepNext c.dntNs
      dntRow 5 t (fun m c =>
        let c1 := c.sweepFire false t t (c.sweepPeriod t t)
        ((match c1.tel.snap with | some x => snapPublish m x | none => m), c1)) m c
    else (m, c)) s

/-- The held commits when DNT is synchronised again, those of sets that a takeover left among them (R324): one whose instant has passed
commits at once, the others wait for theirs (Table 4.3). -/
def heldRelease (m : Mem) (c : Ctl) : Mem × Ctl :=
  let due := ((c.scheds [3]).filter (fun e => decide (e.time ≤ c.dntNs))).map (fun e => (e.time, DntEv.commit e))
  let c1 := { c with mgt := { c.mgt with txns := c.mgt.txns.map (fun (p : Nat × Txn) => if p.2.state = 3 then (p.1, { p.2 with state := 2 }) else p) } }
  (due.foldl (fun l x => dntInsert x l) []).foldl (fun a p =>
    match p.2 with
    | .commit e => if a.2.committing then a else schedFire a.1 a.2 e
    | _ => a) (m, c1)

/-! ### Steps and slews (R71) -/

/-- DNT steps by the measured offset; with a forward step the events it jumps over fire. -/
def dntStep (m : Mem) (c : Ctl) (off : Int) : Mem × Ctl :=
  let old := c.dntNs
  let c1 := ({ c with time := { c.time with dnt := ((c.time.dnt : Int) - off * 65536).toNat, delayReq := none, good := 0, overCnt := 0 } }).bump
    F.TIM_EVT_STAT_steps 1
  let evs := if c1.dntNs ≤ old then [] else c.dntJumped old c1.dntNs
  let r := evs.foldl (dntFire c1.dntNs) (m, c1)
  (r.1, r.2.todEval.gclShowAll)

/-- DNT is slewed toward the time transmitter: the rate is a free value within 100 ppm. -/
def Ctl.dntSlew (c : Ctl) (off : Int) : Ctl :=
  let k : Int := c.free % 100001
  { c.tookFree with time := { c.time with slew := if 0 < off then -k else if off < 0 then k else 0 } }

/-- The offset as TIM_OFFSET shows it. -/
def offsetField (off : Int) : Nat := (max (-2147483647) (min 2147483647 off) % (2 ^ 32 : Nat)).toNat

/-- A Sync whose offset is measured, by the state it finds (Table 4.2, R71). -/
def ptpServo (m : Mem) (c : Ctl) (off : Int) : Mem × Ctl :=
  let thr : Int := c.get F.TIM_STEP_THR_thr_ns
  let big : Bool := decide (thr < off.natAbs)
  let wasUnsync := c.unsync
  let c0 := c.set F.TIM_OFFSET_offset_ns (offsetField off)
  let c1 := if c0.sync = Sync.acquiring ∨ c0.sync = Sync.locked then c0
    else { c0.setSync Sync.acquiring with time := { c0.time with good := 0, overCnt := 0 } }
  let good := if off.natAbs ≤ 1000 then c1.time.good + 1 else 0
  let r : Mem × Ctl :=
    if c1.sync = Sync.locked then
      (if !big then (m, ({ c1 with time := { c1.time with overCnt := 0 } }).dntSlew off)
       else if 4 ≤ c1.time.overCnt + 1 then
         (let s := dntStep m c1 off
          (s.1, s.2.setSync Sync.acquiring))
       else (m, ({ c1 with time := { c1.time with overCnt := c1.time.overCnt + 1 } }).dntSlew off))
    else if big then dntStep m c1 off
    else
      let c2 := ({ c1 with time := { c1.time with good := good } }).dntSlew off
      (m, if 8 ≤ good then c2.setSync Sync.locked else c2)
  if wasUnsync then
    let h := heldRelease r.1 r.2
    (h.1, h.2.todEval.gclShowAll)
  else r

/-! ### Sync and Follow_Up (R63) -/

/-- The identity of the time transmitter of a port. -/
def Ctl.gmOf (c : Ctl) (np : Nat) : Option Nat := (Tab.at? c.time.announces np).map (·.identity)

/-- Whether a Sync or Follow_Up of a port is from the selected time transmitter, in the domain. -/
def Ctl.ptpFrom (c : Ctl) (np domain : Nat) (ether : Bool) (identity : Nat) : Bool :=
  c.ptpHears np domain ether && c.ptpPort == some np && c.gmOf np == some identity

/-- A Sync with its origin time known: the offset is what the receive time exceeds it by, less the correction and the path delay; with the
end-to-end mechanism a Delay_Req follows. -/
def ptpUse (m : Mem) (c : Ctl) (np : Nat) (rx : Nat) (origin corr peer : Int) : Mem × Ctl :=
  let p2p := c.get F.TIM_PTP_CFG_profile == 2
  let off : Int := (rx : Int) - origin - corr - (if p2p then peer else c.time.pathDelay)
  let c0 := { c with time := { c.time with wait := none, brkWait := false, pathDelay := if p2p then peer else c.time.pathDelay } }
  let r := ptpServo m c0 off
  if p2p then r
  else
    let moved := decide (r.2.time.dnt ≠ c0.time.dnt)
    (r.1, ({ r.2 with time := { r.2.time with lastSync := some (origin + corr, if moved then (rx : Int) - off else rx),
                                              delayReq := some r.2.dntNs } }).emit (.delayReq np))

/-- Whether a Sync interval, by its base-2 logarithm in s, is one that is accepted (Table 4.1). -/
def syncInterval (logInt : Int) : Bool := decide (-7 ≤ logInt) && decide (logInt ≤ 1)

/-- PTP_SYNC (R63, R71): `dtNs` from now a Sync arrives. `peer` is the peer delay of the 802.1AS profile. -/
def execPtpSync (np : Fin 24) (domain : Nat) (ether : Bool) (identity seq : Nat) (twoStep : Bool) (logInt : Int) (origin corr peer : Int) (dtNs : Nat)
    (s : State) : Host.Outcome State Fault Refusal :=
  onAll (fun m c0 =>
    let c := c0.pass dtNs
    if !c.ptpFrom np domain ether identity || !syncInterval logInt then (m, c)
    else if twoStep then
      (m, { c with time := { c.time with wait := some ⟨np, seq, c.dntNs, corr⟩ } })
    else if c.get F.TIM_PTP_CFG_profile = 2 then (m, c)
    else ptpUse m c np c.dntNs origin corr peer) s

/-- PTP_FOLLOW_UP (R63): it completes the two-step Sync of its sequence number. -/
def execPtpFollowUp (np : Fin 24) (domain : Nat) (ether : Bool) (identity seq : Nat) (origin corr peer : Int) (s : State) : Host.Outcome State Fault Refusal :=
  onAll (fun m c =>
    match c.time.wait with
    | some w =>
      if c.ptpFrom np domain ether identity && w.port == np.val && w.seq == seq then ptpUse m c np w.rx origin (w.corr + corr) peer else (m, c)
    | none => (m, c)) s

end Sys2Proof.Machine
end

