-- ==== Sys2Proof/Machine/Transports.lean ====
section
/-! DEFINITION. Connections, their transfers and congestion control (12_network_ports.md, R304 to R308, R319), and the egress choice
(R310 to R316). -/

namespace Sys2Proof.Machine

/-! ### Connections (R304) -/

/-- Connection contexts of the device (R304). -/
def connTotal : Nat := 266496

/-- Whether a context is in use: by a connection, or by a queue that is not yet released. -/
def Ctl.connUsed (c : Ctl) (k : Nat) : Bool :=
  Tab.has c.net.conns k || Tab.has c.host.queues k || c.host.assocs.any (fun a => a.2.adminConn == k)

/-- The lowest free context from `i` on, within `n`. -/
def Ctl.freeConn (c : Ctl) : Nat → Nat → Option Nat
  | _, 0 => none
  | i, n + 1 => if c.connUsed i then c.freeConn (i + 1) n else some i

/-- A context for a new connection: the lowest free one (R304). -/
def Ctl.newConn (c : Ctl) : Option Nat :=
  let m := c.net.conns.length + c.host.queues.length + c.host.assocs.length
  c.freeConn 0 (min connTotal (m + 1))

/-- The path MTU of a connection (R305): the largest of 1,024, 2,048 and 4,096 within NET_RC_CFG.mtu, the peer's offer, and
max_frame less the 62 bytes of headers and FCS that a middle packet carries untagged (DEDUCED, notes/assumptions/24.md). -/
def Ctl.pathMtu (c : Ctl) (np offer : Nat) : Nat :=
  let ok (m : Nat) : Bool := decide (m ≤ 1024 * 2 ^ c.get F.NET_RC_CFG_mtu) && decide (m ≤ offer)
    && decide (m + 62 ≤ c.get (F.NET_PORT_MTU_max_frame np))
  if ok 4096 then 4096 else if ok 2048 then 2048 else 1024

/-- A new connection of a port starts at the port rate (R308). -/
def Ctl.connFresh (c : Ctl) (tcp : Bool) (np mac vlan mtu r2t : Nat) : Conn :=
  { tcp := tcp, port := np, since := c.dt, used := false, mac := mac, vlan := vlan, mtu := mtu, r2t := r2t, rate := c.npRate * 1000000000,
    paceAt := 0, cutAt := none, cnpAt := none, riseAt := c.dt, retries := 0, xfers := [], recs := [], tls := false }

/-- Enabled clusters, in ascending order. -/
def Ctl.clusters (c : Ctl) : List Nat := (List.range 24).filter (c.engineOn Cls.cip)

/-- The cluster that takes a connection's records (R288); none while every cluster is disabled. -/
def Ctl.tlsCluster (c : Ctl) (k : Nat) : Option Nat :=
  if c.engineOn Cls.cip (k % 24) then some (k % 24)
  else c.clusters[k % max 1 c.clusters.length]?

/-- Number of a record under its key, for the cipher. -/
def tlsNumber (gen n : Nat) : Nat := gen * 2 ^ 64 + n

/-- A request for a connection takes the lowest free context, or is refused (R304). -/
def Ctl.connOpen (c : Ctl) (tcp : Bool) (np mac vlan mtu r2t : Nat) (refuse : Output) : Ctl :=
  if !c.netUp np then c
  else
    let c1 := c.frameIn np none 0
    match c1.newConn with
    | none => c1.emit refuse
    | some k => ((c1.setConn k (c1.connFresh tcp np mac vlan mtu r2t)).emit (.connAccept k)).tev .net 9 np none none 1

/-- ROCE_CONNECT_REQUEST (R304, R305), with the path MTU the peer offers. -/
def execRoceConnectRequest (np : Fin 24) (mac vlan offer : Nat) (s : State) : Host.Outcome State Fault Refusal :=
  onCtl (fun _ c => c.connOpen false np.val mac vlan (c.pathMtu np.val offer) 0 (.connReject np.val)) s

/-- TCP_SYN (R304); `r2t` is how many Ready to Transfer PDUs the host will take at once per command, its MAXR2T (R306). -/
def execTcpSyn (np : Fin 24) (mac vlan r2t : Nat) (s : State) : Host.Outcome State Fault Refusal :=
  onCtl (fun _ c => c.connOpen true np.val mac vlan 0 r2t (.tcpReset np.val)) s

/-- CONNECT_TIMEOUT (R304): a connection that has carried no Connect within 10 s is torn down. -/
def execConnectTimeout (conn : Nat) (s : State) : Host.Outcome State Fault Refusal :=
  onCtl (fun _ c =>
    match c.conn? conn with
    | none => c
    | some x => if x.used then c else ((c.reach (x.since + 10000000000)).emit (.connClose conn)).connDrop conn) s

/-- CM_DISCONNECT_REQUEST (R81): the host closes a RoCEv2 connection, and the association of its queue ends. -/
def execCmDisconnectRequest (conn : Nat) (s : State) : Host.Outcome State Fault Refusal :=
  onCtl (fun _ c => match c.conn? conn with | some x => if x.tcp then c else c.connLost conn | none => c) s

/-- A connection that a frame from `mac` and `vlan` has reached: what the device sends on it goes there (R301). -/
def Conn.from_ (x : Conn) (mac vlan : Nat) : Conn := { x with mac := mac, vlan := vlan }

/-- A frame of connection `k` arrives; `x` is the connection with the frame's source. -/
def Ctl.connFrame (c : Ctl) (k : Nat) (x : Conn) (bytes : Nat) : Ctl := (c.frameIn x.port (c.connTenant k) bytes).setConn k x

/-- A frame for a RoCEv2 connection, or for none (R301). -/
def Ctl.onRoce (c : Ctl) (np k mac vlan : Nat) (f : Conn → Ctl → Ctl) : Ctl :=
  if !c.netUp np then c
  else match c.conn? k with
    | some x =>
      if x.tcp ∨ x.port ≠ np then (c.frameIn np none 0).frameNoMatch np
      else f (x.from_ mac vlan) (c.connFrame k (x.from_ mac vlan) 0)
    | none => (c.frameIn np none 0).frameNoMatch np

/-- ROCE_SEND_RECEIVE (R305): a SEND carries a capsule, whose command follows; the frame's source is kept (R301). -/
def execRoceSendReceive (np : Fin 24) (conn mac vlan : Nat) (s : State) : Host.Outcome State Fault Refusal :=
  onCtl (fun _ c => c.onRoce np.val conn mac vlan (fun _ c => c)) s

/-! ### Transfers (R319) -/

/-- The connection of a brew's command. -/
def Ctl.tagConn (c : Ctl) (tag : Nat) : Option (Nat × IoCmd × TagKind) :=
  (c.tag? tag).bind (fun t => t.cmd.map (fun x => (x.conn, x, t.kind)))

/-- The PULL transfers of a list whose data the transport has asked for: on RoCEv2 the first rd_depth of those not complete (R305), on TCP
of each command the first that its host's MAXR2T admits (R306). -/
def Ctl.pullsOpen (c : Ctl) (x : Conn) (xs : List Xfer) : List Xfer :=
  let ps := xs.filter (fun t => !t.push && decide (t.moved < t.len))
  let ahead (i : Nat) (t : Xfer) : Nat := if x.tcp then ((ps.take i).filter (fun u => u.tag == t.tag)).length else i
  ((List.range ps.length).zip ps |>.filter (fun p => decide (ahead p.1 p.2 < (if x.tcp then x.r2t else c.get F.NET_RC_CFG_rd_depth)))).map (·.2)

/-- Connection `k` goes on as `x` with the transfers `xs`: PULLs whose turn has come are asked for, and a revoked one not yet asked for is
dropped. -/
def Ctl.setXfers (c : Ctl) (k : Nat) (x : Conn) (xs : List Xfer) : Ctl :=
  let old := (c.pullsOpen x x.xfers).map (·.tok)
  let ys := xs.filter (fun t => t.push || decide (t.len ≤ t.moved) || old.contains t.tok || c.xferLive t)
  ((c.pullsOpen x ys).filter (fun t => !old.contains t.tok)).foldl (fun c t => c.emit (.pullRequest k t.off (t.len - t.moved)))
    (c.setConn k { x with xfers := ys })

/-- PUSH: a slot that is not valid ends BPM_FAULT, a range outside the buffer or the command's data XFER_ERR, a lost connection
CONN_ERR (notes/assumptions/25.md), an uncorrectable word HBM_UE with its Crema entry removed (R187), a refused REF REF_FULL, which counts
as a copy of a Crema buffer (R185); else the transport holds a reference and sends the data. -/
def xptPushAct (tag : Nat) (i : Issued) (m : Mem) (c : Ctl) : Act :=
  match i.brew.slot? i.step.src, c.tagConn tag with
  | none, _ => .refuse m c 0x02
  | _, none => .refuse m c 0x09
  | some b, some (k, cmd, kind) =>
    match c.conn? k with
    | none => .refuse m c 0x09
    | some x =>
      let a := ptrByte b.ptr + i.step.arg0
      if ptrSize b.ptr < i.step.arg0 + i.step.len ∨ ioBytes kind cmd < i.step.arg1 + i.step.len then .refuse m c 0x41
      else if m.hbmBad a i.step.len then .refuse m (c.crmBufferBad (ptrAddr b.ptr)) 0x03
      else
        let r := c.bufDo b.ptr (.ref 1) (xptReq x.port) false
        if r.1 ≠ .done then
          .refuse m (if r.1 = .refFull && c.crm.entries.any (fun e => e.2.valid && e.2.ptr == b.ptr) then r.2.crmCnt 9 1 else r.2) 0x40
        else
          let t : Xfer := ⟨tag, c.tokNext, true, b.ptr, a, i.step.arg1, i.step.len, 0, 0, 0⟩
          .ok m ((r.2.setConn k { x with xfers := x.xfers ++ [t] }).emit (.pushData k i.step.arg1 (m.bytes .hbm a i.step.len)))

/-- Transfers that are complete end OK and leave their connection. -/
def Ctl.xferSettle (c : Ctl) (k : Nat) : Ctl :=
  match c.conn? k with
  | none => c
  | some x =>
    let c1 := c.setXfers k x (x.xfers.filter (fun t => decide (t.moved < t.len)))
    (x.xfers.filter (fun t => decide (t.len ≤ t.moved))).foldl (fun c t => c.xferEnd x.port t 0) c1

/-- The connection of a tag's command settles what is complete. -/
def Ctl.tagSettle (c : Ctl) (tag : Nat) : Ctl := match c.tagConn tag with | some p => c.xferSettle p.1 | none => c

/-- XPT_PUSH (R319). -/
def execXptPush (tag : Nat) (s : State) : Host.Outcome State Fault Refusal :=
  onAll (fun m c => match issue m c tag Cls.xpt 0x01 false (xptPushAct tag) with | (m1, c1) => (m1, c1.tagSettle tag)) s

/-- PULL: in-capsule data is copied into dst at once; else the transport asks the host for the data. -/
def xptPullAct (tag : Nat) (i : Issued) (m : Mem) (c : Ctl) : Act :=
  match i.brew.slot? i.step.dst, c.tagConn tag with
  | none, _ => .refuse m c 0x02
  | _, none => .refuse m c 0x09
  | some b, some (k, cmd, kind) =>
    match c.conn? k with
    | none => .refuse m c 0x09
    | some x =>
      let a := ptrByte b.ptr + i.step.arg0
      if ptrSize b.ptr < i.step.arg0 + i.step.len ∨ ioBytes kind cmd < i.step.arg1 + i.step.len then .refuse m c 0x41
      else
        let t : Xfer := ⟨tag, c.tokNext, false, b.ptr, a, i.step.arg1, i.step.len, 0, 0, 0⟩
        if cmd.sgls.any (fun d => d.kind == .inCapsule) then
          .ok (m.put .hbm a ((cmd.data.drop i.step.arg1).take i.step.len)) (c.setConn k { x with xfers := x.xfers ++ [{ t with moved := i.step.len }] })
        else
          let c1 := c.setConn k { x with xfers := x.xfers ++ [t] }
          .ok m (if (c.pullsOpen x (x.xfers ++ [t])).contains t then c1.emit (.pullRequest k t.off t.len) else c1)

/-- XPT_PULL (R319). -/
def execXptPull (tag : Nat) (s : State) : Host.Outcome State Fault Refusal :=
  onAll (fun m c => match issue m c tag Cls.xpt 0x02 false (xptPullAct tag) with | (m1, c1) => (m1, c1.tagSettle tag)) s

/-- Data of PULLs arrives in order: it lands in the buffers of live transfers, and a revoked one's is discarded (R319). -/
def pullLand (c : Ctl) (m : Mem) : List Xfer → List Byte → Mem × List Xfer
  | [], _ => (m, [])
  | t :: ts, bs =>
    if t.push then let r := pullLand c m ts bs; (r.1, t :: r.2)
    else
      let n := min bs.length (t.len - t.moved)
      let m1 := if c.xferLive t then m.put .hbm (t.addr + t.moved) (bs.take n) else m
      let r := pullLand c m1 ts (bs.drop n)
      (r.1, { t with moved := t.moved + n } :: r.2)

/-- Bytes acknowledged count for the PUSH transfers in order (R305, R319). -/
def pushAcked : List Xfer → Nat → List Xfer
  | [], _ => []
  | t :: ts, n =>
    if t.push then let k := min n (t.len - t.moved); { t with moved := t.moved + k } :: pushAcked ts (n - k) else t :: pushAcked ts n

/-- TLS records whose PUSH data is acknowledged are kept no longer (R186). -/
def recsAcked : List TlsRec → Nat → List TlsRec
  | [], _ => []
  | r :: rs, n => if r.pay ≤ n then recsAcked rs (n - r.pay) else { r with pay := r.pay - n } :: rs

/-- The transfers of a connection after data and acknowledgements have arrived; a live connection's retries start again. -/
def Ctl.xferMove (c : Ctl) (m : Mem) (k acked : Nat) (data : List Byte) : Mem × Ctl :=
  match c.conn? k with
  | none => (m, c)
  | some x =>
    let r := pullLand c m (pushAcked x.xfers acked) data
    (r.1, (c.setXfers k { x with retries := 0, recs := if acked = 0 then x.recs else recsAcked x.recs acked } r.2).xferSettle k)

/-- ROCE_READ_RESPONSE (R305). -/
def execRoceReadResponse (np : Fin 24) (conn mac vlan : Nat) (data : List Byte) (s : State) :
    Host.Outcome State Fault Refusal :=
  onAll (fun m c =>
    let c1 := c.onRoce np.val conn mac vlan (fun _ c => c)
    match c.conn? conn with
    | some x => if x.tcp ∨ x.port ≠ np.val ∨ !c.netUp np.val then (m, c1) else c1.xferMove m conn 0 data
    | none => (m, c1)) s

/-- ROCE_ACK_RECEIVE (R305): the next `bytes` of pushed data are acknowledged; transfers that are complete drop their references. -/
def execRoceAckReceive (np : Fin 24) (conn mac vlan bytes : Nat) (s : State) : Host.Outcome State Fault Refusal :=
  onCtl (fun m c => c.onRoce np.val conn mac vlan (fun _ c => (c.xferMove m conn bytes []).2)) s

/-- Bytes of PUSH data not yet acknowledged. -/
def Conn.unacked (x : Conn) : Nat := (x.xfers.map (fun t => if t.push then t.len - t.moved else 0)).sum

/-- Records not acknowledged are sealed again under the same numbers and boundaries (R186). -/
def Ctl.recsResend (c : Ctl) (k : Nat) (x : Conn) : Ctl :=
  match Tab.at? c.keys.ctab k with
  | some e => x.recs.foldl (fun c r => c.emit (.tlsRecord k (Config.gcmSeal e.key (tlsNumber r.gen r.num) r.data))) c
  | none => c

/-- A retry on a connection: within its limit the data not acknowledged is sent again, in its TLS records where it has them; beyond it the
connection is lost (R305, R306). -/
def Ctl.connRetry (c : Ctl) (k : Nat) (x : Conn) (limit : Nat) : Ctl :=
  if x.retries < limit then
    (((c.setConn k { x with retries := x.retries + 1 }).emit (.resendData k)).recsResend k x).tev .net 4 x.port (c.connTenant k) none x.unacked
  else c.connLost k

/-- ROCE_NAK_RECEIVE (R305): a sequence NAK resends from its PSN; a remote access or R_Key NAK ends the transfer it names, the oldest
PUSH or the oldest PULL, with XFER_ERR, and the connection goes to error. -/
def execRoceNakReceive (np : Fin 24) (conn mac vlan : Nat) (access push : Bool) (s : State) : Host.Outcome State Fault Refusal :=
  onCtl (fun _ c => c.onRoce np.val conn mac vlan (fun x c =>
    if !access then c.connRetry conn x (c.get F.NET_RC_CFG_retry_cnt)
    else match x.xfers.find? (fun t => t.push == push) with
      | none => c.connLost conn
      | some t => ((c.setConn conn { x with xfers := x.xfers.erase t }).xferEnd x.port t 0x41).connLost conn)) s

/-- ROCE_ACK_TIMEOUT (R305). -/
def execRoceAckTimeout (conn : Nat) (s : State) : Host.Outcome State Fault Refusal :=
  onCtl (fun _ c =>
    match c.conn? conn with
    | some x => if x.tcp then c else c.connRetry conn x (c.get F.NET_RC_CFG_retry_cnt)
    | none => c) s

/-- TCP_RTO_EXPIRE (R306): after the limit of consecutive timeouts the device resets the connection. -/
def execTcpRtoExpire (conn : Nat) (s : State) : Host.Outcome State Fault Refusal :=
  onCtl (fun _ c =>
    match c.conn? conn with
    | some x =>
      if !x.tcp then c
      else if x.retries + 1 < c.get F.NET_TCP_CFG_retries then c.connRetry conn x (c.get F.NET_TCP_CFG_retries)
      else (c.emit (.tcpReset x.port)).connLost conn
    | none => c) s

/-- TCP_SEGMENT_RECEIVE (R306): a segment acknowledges `acked` bytes of pushed data and delivers `data` of H2CData PDUs; a PDU whose data
digest is wrong ends the oldest PULL with XFER_ERR; a FIN or RST ends the connection (R81). -/
def execTcpSegmentReceive (np : Fin 24) (conn mac vlan acked : Nat) (data : List Byte) (digestBad close : Bool) (s : State) :
    Host.Outcome State Fault Refusal :=
  onAll (fun m c =>
    if !c.netUp np.val then (m, c)
    else match c.conn? conn with
      | none => (m, (c.frameIn np.val none 0).frameNoMatch np.val)
      | some x =>
        if !x.tcp ∨ x.port ≠ np.val then (m, (c.frameIn np.val none 0).frameNoMatch np.val)
        else
          let c1 := c.connFrame conn (x.from_ mac vlan) data.length
          let r := c1.xferMove m conn acked (if digestBad then [] else data)
          let c2 := if !digestBad then r.2
            else match (r.2.conn? conn) with
              | none => r.2
              | some y =>
                match y.xfers.find? (fun t => !t.push) with
                | some t => (r.2.setXfers conn y (y.xfers.erase t)).xferEnd y.port t 0x41
                | none => r.2
          (r.1, if close then c2.connLost conn else c2)) s

/-- A poisoned cell at a NET port: its frame is discarded; a transfer that meets poison twice ends with HBM_UE. -/
def Ctl.netPoison (c : Ctl) (np conn : Nat) : Ctl :=
  let c1 := c.emit (.frameDiscard np)
  match c1.conn? conn with
  | none => c1
  | some x =>
    match x.xfers.find? (fun t => t.push) with
    | none => c1
    | some t =>
      if t.poison = 0 then c1.setConn conn { x with xfers := x.xfers.map (fun u => if u = t then { u with poison := 1 } else u) }
      else ((c1.setConn conn { x with xfers := x.xfers.erase t }).crmBufferBad (ptrAddr t.ptr)).xferEnd x.port t 0x03

/-- The oldest token still outstanding is settled HBM_UE. -/
def poisonToken : List Token → List Token
  | [] => []
  | t :: ts => if t.arrived then t :: poisonToken ts else { t with fate := some 0x03 } :: ts

/-- CELL_POISONED (R148, R187): a poisoned cell ends the step of a destination engine with HBM_UE, or its token where the step has left
one; marks the HBM words it is written to uncorrectable (R162 in the metadata region); or has its frame discarded; a transfer that meets poison twice ends with HBM_UE. SWC_ERR_STAT counts it. -/
def execCellPoisoned (dest : PoisonDest) (s : State) : Host.Outcome State Fault Refusal :=
  onAll (fun m c =>
    let c1 := (c.bump F.SWC_ERR_STAT_poisoned 1).faultRecord 0x17 1 0
    match dest with
    | .engine tag =>
      match c1.brew? tag with
      | some b =>
        match b.result with
        | some (_, cls, inst) => (m, c1.setBrew tag { b with result := some (0x03, cls, inst), ueSeen := true })
        | none => (m, c1.setBrew tag { b with tokens := poisonToken b.tokens })
      | none => (m, c1)
    | .hbm words =>
      ({ m with ue := m.ue ++ words.filter (fun w => !m.ue.contains w) },
       { c1 with swc := { c1.swc with badMeta := c1.swc.badMeta ++ (words.filter (fun w => decide (w < 2 ^ 23))).flatMap (fun w => [2 * w, 2 * w + 1]) } })
    | .net np conn => (m, c1.netPoison np.val conn)) s

/-! ### Queue entries of the transports (R146, R149, R185, R186) -/

/-- A transfer ends because a reference of it was refused with REF_FULL; where its buffer is Crema's, the brew serves a copy, which is
counted (R185). -/
def Ctl.xferFull (c : Ctl) (k : Nat) (ptr : Word) : Ctl :=
  match c.conn? k with
  | none => c
  | some x =>
    match x.xfers.find? (fun t => t.push && t.ptr == ptr) with
    | none => c
    | some t =>
      let c1 := if c.crm.entries.any (fun e => e.2.valid && e.2.ptr == ptr) then c.crmCnt 9 1 else c
      (c1.setConn k { x with xfers := x.xfers.erase t }).xferEnd x.port t 0x40

/-- An entry of connection `k` takes its reference and joins its VOQ; while the hold of its link has expired it is discarded on arrival
(R149, R153); REF_FULL ends its transfer (R185); with no queue entry free nothing happens (DESIGN CHOICE,
notes/assumptions/79.md). -/
def Ctl.entryJoin (c : Ctl) (k port : Nat) (e : QEntry) (ue : Bool) : Ctl :=
  if (match e.link with | some l => c.linkExpired l | none => false) then
    (c.bump (F.SWC_DROP_CNT_cells (e.link.getD 0)) e.cells).tev .swc 3 e.port none none e.cells
  else if qeTotal ≤ c.qeUsed then c
  else match c.bufDo e.ptr (.ref 1) (swReq port) ue with
    | (.refFull, c1) => c1.xferFull k e.ptr
    | (_, c1) => c1.qeAppend e

/-- A transport's entry: data that leaves on link NPnn from the buffer's HBM port, by way of its cipher cluster where the connection has
TLS (R186); or, with `pull`, data that arrives on NPnn and is bound for the buffer (R146). -/
def Ctl.xptEntry (c : Ctl) (np : Nat) (pull : Bool) (ptr : Word) (cell0 cells last flow sp : Nat) : QEntry :=
  let net := c.linkPort np flow
  let hbm := hbmPort (ptrByte ptr)
  let e : QEntry := { input := hbm, port := net, sub := np, ptr := ptr, start := cell0, cell0 := cell0, cells := cells, last := last,
                      flow := flow, sp := sp, link := some np, owner := none }
  if pull then { e with input := net, port := hbm, sub := 0, link := none }
  else if (match c.conn? flow with | some x => x.tls | none => false) then
    { e with port := 36 + (c.tlsCluster flow).getD (flow % 24) / 6, sub := 0, link := none }
  else e

/-- QUEUE_ENTRY_APPEND (R146, R149, R153, R186): a transport's entry for a transfer segment. With no queue entry free it changes nothing (DESIGN
CHOICE, notes/assumptions/79.md). -/
def execQueueEntryAppend (np : Fin 24) (pull : Bool) (ptr : Word) (cell0 cells last flow sp : Nat) (ue : Bool) (s : State) :
    Host.Outcome State Fault Refusal :=
  onCtl (fun _ c => c.entryJoin flow (c.linkPort np.val flow) (c.xptEntry np.val pull ptr cell0 cells last flow sp) ue) s

/-! ### Congestion (R308) -/

/-- CE_MARKED_RECEIVE (R308): a CNP goes back, at most one per connection in each gap. -/
def execCeMarkedReceive (np : Fin 24) (conn mac vlan : Nat) (s : State) : Host.Outcome State Fault Refusal :=
  onCtl (fun _ c => c.onRoce np.val conn mac vlan (fun x c =>
    let c1 := c.npCnt np.val 8 1
    let gap := 1000 * c.get F.NET_CC_CFG_gap_us
    let early := match x.cnpAt with | some t => decide (c.dt < t + gap) | none => false
    if early then c1
    else ((c1.setConn conn { x with cnpAt := some c.dt }).npCnt np.val 9 1).emit (.cnp conn))) s

/-- CNP_RECEIVE (R308): the send rate is cut by dec/256, not below 100 Mb/s, at most once in each gap. Rates are whole bit/s, cut
down (notes/assumptions/26.md). -/
def execCnpReceive (np : Fin 24) (conn mac vlan : Nat) (s : State) : Host.Outcome State Fault Refusal :=
  onCtl (fun _ c => c.onRoce np.val conn mac vlan (fun x c =>
    let c1 := (c.npCnt np.val 10 1).tev .net 5 np.val none none 1
    let gap := 1000 * c.get F.NET_CC_CFG_gap_us
    let early := match x.cutAt with | some t => decide (c.dt < t + gap) | none => false
    if early then c1.setConn conn { x with riseAt := c.dt }
    else c1.setConn conn { x with riseAt := c.dt, cutAt := some c.dt,
                                  rate := max 100000000 (x.rate * (256 - c.get F.NET_CC_CFG_dec) / 256) })) s

/-- RATE_INCREASE_TIMER (R308): 64 µs without a CNP. -/
def execRateIncreaseTimer (conn : Nat) (s : State) : Host.Outcome State Fault Refusal :=
  onCtl (fun _ c =>
    match c.conn? conn with
    | none => c
    | some x =>
      if x.tcp then c
      else
        let c1 := c.reach (x.riseAt + 64000)
        c1.setConn conn { x with riseAt := c1.dt,
                                 rate := min (c.npRate * 1000000000) (x.rate + 100000000 * c.get F.NET_CC_CFG_inc_100mbps) }) s

/-! ### Egress service (R310 to R313, R316) -/

/-- A frame ready on a port: of a connection, or of the device itself, and its length from destination address to FCS. -/
structure ReadyFrame where
  conn : Option Nat
  len  : Nat
  deriving DecidableEq, Repr

/-- Class of a frame (R310). -/
def Ctl.frameCls (c : Ctl) (f : ReadyFrame) : Nat :=
  match f.conn with
  | none => c.get F.NET_CC_CFG_cnp_cls
  | some k => match c.connTenant k with | some t => c.get (F.NET_TEN_CFG_cls t) | none => 0

/-- The tenant shaper of a frame; the device's own frames have none (R310). -/
def Ctl.frameShaper (c : Ctl) (f : ReadyFrame) : Option Nat := (f.conn.bind c.connTenant).map tenShaper

/-- Whether a ready frame's connection is eligible: its tenant shaper lets it start, and R308 permits its rate. -/
def Ctl.frameEligible (c : Ctl) (f : ReadyFrame) : Bool :=
  (match c.frameShaper f with | some k => (c.shaper k).open_ | none => true)
    && (match f.conn.bind c.conn? with | some x => x.tcp || decide (x.paceAt ≤ c.dt) | none => true)

/-- The number a frame's connection is served by in its class; the device's own frames come after every connection. -/
def ReadyFrame.key (f : ReadyFrame) : Nat := f.conn.getD connTotal

/-- The frame a class sends next: of its eligible connections, the first in turn after the one served last (R311). -/
def Ctl.clsNext (c : Ctl) (np cls : Nat) (fs : List ReadyFrame) : Option ReadyFrame :=
  let es := fs.filter (fun f => c.frameCls f == cls && c.frameEligible f)
  let last := Tab.getD (c.np np).served cls connTotal
  match turnNext last (es.map ReadyFrame.key) with
  | some k => es.find? (fun f => f.key == k)
  | none => none

/-- Counted length of a frame on a port (R312). -/
def Ctl.counted (c : Ctl) (np len : Nat) : Nat :=
  let o := c.get (F.NET_PORT_CFG_ovh np)
  if 64 ≤ o then len + o - 128 else len + o

/-- The frame of a class that is a candidate on a port, and whether it would overrun its gate (R311 item 1). -/
def Ctl.candidate (c : Ctl) (np : Nat) (fs : List ReadyFrame) (cls : Nat) : Option (ReadyFrame × Bool) :=
  match c.clsNext np cls fs with
  | none => none
  | some f =>
    let g := c.gateOk np cls f.len
    if g.1 && !c.bitOf (F.NET_PORT_STAT_paused np) (c.get (F.NET_CLS_MAP_pcp cls)) && (c.shaper (clsShaper np cls)).open_ then some (f, g.2)
    else none

/-- Weight of a class on a port (NET_PORT_WRR_n). -/
def Ctl.wrr (c : Ctl) (np cls : Nat) : Nat := (c.rd (Reg.NET_PORT_WRR np)).toNat / 16 ^ cls % 16

/-- The deficit round robin among the classes below `hi` (R311 item 3): the class whose turn it is gains its weight once per turn and
sends while its deficit covers the frame; a class with no frame ready has deficit 0; else the turn passes on. A class starts a frame
while its deficit is at least the counted length (DESIGN CHOICE, notes/assumptions/27.md). -/
def Ctl.drr (np hi : Nat) (fs : List ReadyFrame) : Nat → Ctl → Option (Nat × ReadyFrame × Bool) × Ctl
  | 0, c => (none, c)
  | n + 1, c =>
    let x := c.np np
    let k := x.turn % max 1 hi
    let pass (x : NetPort) : Ctl := c.setNp np { x with turn := (k + 1) % max 1 hi, gained := false }
    if !fs.any (fun f => c.frameCls f == k) then Ctl.drr np hi fs n (pass { x with deficit := Tab.put x.deficit k 0 })
    else match c.candidate np fs k with
      | none => Ctl.drr np hi fs n (pass x)
      | some (f, o) =>
        let d := Tab.getD x.deficit k 0 + (if x.gained then 0 else 2048 * c.wrr np k)
        let c1 := c.setNp np { x with turn := k, gained := true, deficit := Tab.put x.deficit k d }
        if c.counted np f.len ≤ d then (some (k, f, o), c1)
        else Ctl.drr np hi fs n (c1.setNp np { c1.np np with turn := (k + 1) % max 1 hi, gained := false })

/-- The strict classes of a port, highest first (R311 item 2). -/
def strictClasses (s : Nat) : List Nat := (List.range s).map (fun i => 7 - i)

/-- The class and frame that a port sends at a frame start (R311). -/
def Ctl.egressPick (c : Ctl) (np : Nat) (fs : List ReadyFrame) : Option (Nat × ReadyFrame × Bool) × Ctl :=
  let s := c.get (F.NET_PORT_CFG_strict np)
  match (strictClasses s).find? (fun k => (c.candidate np fs k).isSome) with
  | some k => ((c.candidate np fs k).map (fun p => (k, p.1, p.2)), c)
  | none =>
    let cs := (List.range (8 - s)).filter (fun k => (c.candidate np fs k).isSome)
    if cs.isEmpty then (none, c) else Ctl.drr np (8 - s) fs 512 c

/-- A frame starts on a port: debits (R311 item 5), pacing, counts (Table 18.1, NET_PORT_CNT_n_13). -/
def Ctl.frameGo (c : Ctl) (np cls : Nat) (f : ReadyFrame) (overrun strict : Bool) : Ctl :=
  let n := c.counted np f.len
  let ten := f.conn.bind c.connTenant
  let x := c.np np
  let c1 := c.setNp np { x with served := Tab.put x.served cls f.key,
                                deficit := if strict then x.deficit else Tab.put x.deficit cls (Tab.getD x.deficit cls 0 - n) }
  let c2 := match f.conn with
    | some k => match c1.conn? k with
      | some y => c1.setConn k { y with paceAt := c1.dt + f.len * 8 * 1000000000 / max 1 y.rate }
      | none => c1
    | none => c1
  let c3 := c2.shaperDebit (clsShaper np cls) n
  let c4 := match c.frameShaper f with | some k => c3.shaperDebit k n | none => c3
  let c5 := (c4.npCnt np 0 1).emit (.frameStart np cls f.conn f.len)
  let c6 := if overrun then c5.npCnt np 13 1 else c5
  (c6.tev .net 2 np none none 1).tev .net 0 np ten none f.len

/-- Frames that a closed gate alone holds (Table 18.1, NET event 7). -/
def Ctl.gateHeld (c : Ctl) (np : Nat) (fs : List ReadyFrame) : Nat :=
  ((List.range 8).filter (fun k => match c.clsNext np k fs with | some f => !(c.gateOk np k f.len).1 | none => false)).length

/-- EGRESS_FRAME_SELECT (R311): at a frame start on a port, with the frames that are ready. -/
def execEgressFrameSelect (np : Fin 24) (frames : List (Option Nat × Nat)) (s : State) : Host.Outcome State Fault Refusal :=
  onCtl (fun _ c =>
    let fs := frames.map (fun p => (⟨p.1, p.2⟩ : ReadyFrame))
    if !c.netUp np.val then c
    else
      let c0 := c.tev .net 7 np.val none none (c.gateHeld np.val fs)
      match c0.egressPick np.val fs with
      | (some (k, f, o), c1) => c1.frameGo np.val k f o (decide (8 - c.get (F.NET_PORT_CFG_strict np.val) ≤ k))
      | (none, c1) => c1) s

end Sys2Proof.Machine
end

