-- ==== Sys2Proof/Machine/Tls.lean ====
section
/-! DEFINITION. TLS on a connection: the handshake and its records (11_tamp_and_cipher.md, R284, R287, R288; R307 of
12_network_ports.md). -/

namespace Sys2Proof.Machine

/-- Records sealed under one key before the device sends KeyUpdate. -/
def tlsKeyLimit : Nat := 2 ^ 24

/-- The check of Table 11.6 that a record of a connection fails, 0 where none does. -/
def Ctl.tlsCause (c : Ctl) (k : Nat) : Nat :=
  match Tab.at? c.keys.ctab k with
  | none => 5
  | some e =>
    if !e.valid then 5
    else match c.connTenant k with
      | some t => if t = e.tenant then 0 else 6
      | none => 0

/-- A KEY_FAULT on a record ends the transfer that the record serves, the oldest PUSH or PULL of its connection, with CONN_ERR (R186). -/
def Ctl.tlsFault (c : Ctl) (k cause ten n : Nat) (push : Bool) : Ctl :=
  let c1 := c.keyFault cause ten true k 0 n
  match c1.conn? k with
  | none => c1
  | some x =>
    match x.xfers.find? (fun t => t.push == push) with
    | none => c1
    | some t => (c1.setXfers k x (x.xfers.erase t)).xferEnd x.port t 0x09

/-- A record is presented to its cluster: a failed check gives no output; else `f` works on the connection and its entry. -/
def Ctl.tlsRecord (c : Ctl) (k : Nat) (push : Bool) (f : Conn → CtabE → Nat → Ctl → Ctl) : Ctl :=
  match c.conn? k, c.tlsCluster k with
  | some x, some n =>
    if !x.tls then c
    else
      let cause := c.tlsCause k
      match Tab.at? c.keys.ctab k with
      | some e => if cause ≠ 0 then c.tlsFault k cause e.tenant n push else f x e n c
      | none => c.tlsFault k 5 ((c.connTenant k).getD 0) n push
  | _, _ => c

/-- The state with an entry of the connection key table. -/
def Ctl.setCtab (c : Ctl) (k : Nat) (e : CtabE) : Ctl := { c with keys := { c.keys with ctab := Tab.put c.keys.ctab k e } }

/-- Bytes a record adds to its plaintext: its header, its content type and its tag (TLS 1.3). -/
def tlsOverhead : Nat := 22

/-- The ciphertext of a record with `pay` bytes of transfer `t` goes from cluster `n` to the connection's NET port: its entry names the
plaintext buffer (R186). -/
def Ctl.tlsEntry (c : Ctl) (k n sp : Nat) (x : Conn) (t : Xfer) (len : Nat) : Ctl :=
  let a := (t.addr + t.sealed - ptrByte t.ptr) / 256
  let e : QEntry := { input := 36 + n / 6, port := c.linkPort x.port k, sub := x.port, ptr := t.ptr, start := a, cell0 := a,
                      cells := (len + tlsOverhead + 255) / 256, last := (len + tlsOverhead - 1) % 256 + 1, flow := k, sp := sp,
                      link := some x.port, owner := none }
  c.entryJoin k (c.linkPort x.port k) e false

/-- A record's plaintext is kept until it is acknowledged, with its number and the PUSH data in it: that of the oldest transfer not yet
sealed (R186). -/
def Conn.keepRecord (x : Conn) (e : CtabE) (data : List Byte) : Option Xfer × Conn :=
  match x.xfers.find? (fun t => t.push && decide (t.sealed < t.len)) with
  | none => (none, { x with recs := x.recs ++ [⟨e.txGen, e.sent, 0, data⟩] })
  | some t =>
    let pay := min data.length (t.len - t.sealed)
    (some t, { x with recs := x.recs ++ [⟨e.txGen, e.sent, pay, data⟩]
                      xfers := x.xfers.map (fun u => if u = t then { u with sealed := u.sealed + pay } else u) })

/-- TLS_RECORD_ENCRYPT (R186, R288, R307): a record of at most 16,384 bytes is sealed and leaves for the NET port, at switch priority `sp`;
after 2^24 records a KeyUpdate follows. -/
def execTlsRecordEncrypt (conn : Nat) (data : List Byte) (sp : Nat) (s : State) : Host.Outcome State Fault Refusal :=
  onCtl (fun _ c =>
    if 16384 < data.length then c
    else c.tlsRecord conn true (fun x e n c =>
      let q := x.keepRecord e data
      let c0 := ((c.setConn conn q.2).emit (.tlsRecord conn (Config.gcmSeal e.key (tlsNumber e.txGen e.sent) data))).tev .cip 1 n (some e.tenant)
        none data.length
      let c1 := match q.1 with | some t => c0.tlsEntry conn n sp x t data.length | none => c0
      if e.sent + 1 < tlsKeyLimit then c1.setCtab conn { e with sent := e.sent + 1 }
      else (c1.setCtab conn { e with sent := 0, txGen := e.txGen + 1 }).emit (.tlsKeyUpdate conn))) s

/-- TLS_RECORD_DECRYPT (R307): a record that does not authenticate ends the connection; `update` says that the record is the host's
KeyUpdate. -/
def execTlsRecordDecrypt (conn : Nat) (data : List Byte) (update : Bool) (s : State) : Host.Outcome State Fault Refusal :=
  onCtl (fun _ c => c.tlsRecord conn false (fun _ e n c =>
    match Config.gcmOpen e.key (tlsNumber e.rxGen e.rcvd) data with
    | none => ((c.emit (.tlsAlert conn 20)).emit (.connClose conn)).connLost conn
    | some p =>
      (c.tev .cip 1 n (some e.tenant) none p.length).setCtab conn
        (if update then { e with rxGen := e.rxGen + 1, rcvd := 0 } else { e with rcvd := e.rcvd + 1 }))) s

/-- TLS_CLIENT_HELLO (R307): the PSK identity names a host of the allowed-host list, whose entry names a loaded PSK slot; the
offer is psk_ke with the one cipher suite. Anything else ends the handshake with handshake_failure. `input` is what the transport gives the
key schedule (R287). -/
def execTlsClientHello (conn : Nat) (identity : Nqn) (pskKe suite : Bool) (input : List Byte) (s : State) :
    Host.Outcome State Fault Refusal :=
  onCtl (fun _ c =>
    match c.conn? conn with
    | none => c
    | some x =>
      if x.tls || !x.tcp then c
      else
        let fail := ((c.emit (.tlsAlert conn 40)).emit (.connClose conn)).connLost conn
        match c.hostOf identity with
        | none => fail
        | some h =>
          if !pskKe || !suite || decide (h.psk < 2) || c.slotState h.tenant h.psk != 1 then fail
          else
            let old := match Tab.at? c.keys.ctab conn with | some e => e.gen + 1 | none => 0
            (c.setConn conn { x with tls := true }).setCtab conn
              ⟨true, old, h.tenant, h.psk, Config.tlsKeys (Tab.getD c.keys.mat (keyKey h.tenant h.psk) []) input, 0, 0, 0, 0⟩) s

end Sys2Proof.Machine
end

