-- ==== Sys2Proof/Machine/Dispatch.lean ====
section
/-! DEFINITION. One arm per command: the call of its meaning, or its rejection by name. -/

namespace Sys2Proof.Machine

/-- The effect of a command on everything but the queue. -/
def exec (i : Instr) (s : State) : Host.Outcome State Fault Refusal :=
  match i with
  | .firstRailRise => Sys2Proof.Machine.execFirstRailRise s
  | .powerOnResetRelease railOk slotId testen => Sys2Proof.Machine.execPowerOnResetRelease railOk slotId testen s
  | .imageLoaded looks => Sys2Proof.Machine.execImageLoaded looks s
  | .hbmInitDone => Sys2Proof.Machine.execHbmInitDone s
  | .carafeScanDone badA badB => Sys2Proof.Machine.execCarafeScanDone badA badB s
  | .peerAbsentTimeout => Sys2Proof.Machine.execPeerAbsentTimeout s
  | .standbyEnter => Sys2Proof.Machine.execStandbyEnter s
  | .memberWaitExpire => Sys2Proof.Machine.execMemberWaitExpire s
  | .driveLinkTrained bay lanes switch => Sys2Proof.Machine.execDriveLinkTrained bay lanes switch s
  | .driveReady bay cap meta16 meta0 label states => Sys2Proof.Machine.execDriveReady bay cap meta16 meta0 label states s
  | .journalReplay groups looks bad ckBad => Sys2Proof.Machine.execJournalReplay groups looks bad ckBad s
  | .networkPortsUp ports => Sys2Proof.Machine.execNetworkPortsUp ports s
  | .mirrorSyncComplete blobs => Sys2Proof.Machine.execMirrorSyncComplete blobs s
  | .mirrorSyncAbandon => Sys2Proof.Machine.execMirrorSyncAbandon s
  | .serviceEntry => Sys2Proof.Machine.execServiceEntry s
  | .grstNAssert ns => Sys2Proof.Machine.execGrstNAssert ns s
  | .pwrfailAccept => Sys2Proof.Machine.execPwrfailAccept s
  | .pwrfailGlitch ns => Sys2Proof.Machine.execPwrfailGlitch ns s
  | .pwrfailRestart => Sys2Proof.Machine.execPwrfailRestart s
  | .railOutOfTolerance rail => Sys2Proof.Machine.execRailOutOfTolerance rail s
  | .thermalWarning sensor temp => Sys2Proof.Machine.execThermalWarning sensor temp s
  | .thermalThrottleStart sensor temp => Sys2Proof.Machine.execThermalThrottleStart sensor temp s
  | .throttleStep sensor temp => Sys2Proof.Machine.execThrottleStep sensor temp s
  | .thermalTrip sensor temp => Sys2Proof.Machine.execThermalTrip sensor temp s
  | .lifeRecord mean => Sys2Proof.Machine.execLifeRecord mean s
  | .glbPdCtrlWrite value => Sys2Proof.Machine.execGlbPdCtrlWrite value s
  | .domainTransitionDone => Sys2Proof.Machine.execDomainTransitionDone s
  | .d07DrainDone => Sys2Proof.Machine.execD07DrainDone s
  | .d07DrainTimeout => Sys2Proof.Machine.execD07DrainTimeout s
  | .modeReqQuiesce confirm => Sys2Proof.Machine.execModeReqQuiesce confirm s
  | .quiesceDone => Sys2Proof.Machine.execQuiesceDone s
  | .modeReqResume confirm => Sys2Proof.Machine.execModeReqResume confirm s
  | .modeReqReset confirm => Sys2Proof.Machine.execModeReqReset confirm s
  | .modeReqRecovery confirm => Sys2Proof.Machine.execModeReqRecovery confirm s
  | .modeReqTest confirm => Sys2Proof.Machine.execModeReqTest confirm s
  | .modeReqUnknown code confirm => Sys2Proof.Machine.execModeReqUnknown code confirm s
  | .ptpSync np domain ether identity seq twoStep logInt origin corr peer dtNs => Sys2Proof.Machine.execPtpSync np domain ether identity seq twoStep logInt origin corr peer dtNs s
  | .ptpFollowUp np domain ether identity seq origin corr peer => Sys2Proof.Machine.execPtpFollowUp np domain ether identity seq origin corr peer s
  | .ptpAnnounce np domain ether prio1 cls accuracy variance prio2 identity hops utc => Sys2Proof.Machine.execPtpAnnounce np domain ether prio1 cls accuracy variance prio2 identity hops utc s
  | .ptpDelayResp np domain ether received corr => Sys2Proof.Machine.execPtpDelayResp np domain ether received corr s
  | .ptpPdelayReq np domain ether => Sys2Proof.Machine.execPtpPdelayReq np domain ether s
  | .announceTimeout np => Sys2Proof.Machine.execAnnounceTimeout np s
  | .syncTimeout => Sys2Proof.Machine.execSyncTimeout s
  | .syncLostExpire => Sys2Proof.Machine.execSyncLostExpire s
  | .timSyncLostWrite limit => Sys2Proof.Machine.execTimSyncLostWrite limit s
  | .ppsEdge dtNs => Sys2Proof.Machine.execPpsEdge dtNs s
  | .ref10mOutOfTolerance => Sys2Proof.Machine.execRef10mOutOfTolerance s
  | .todBoundary => Sys2Proof.Machine.execTodBoundary s
  | .scheduledCommitFire => Sys2Proof.Machine.execScheduledCommitFire s
  | .nvmeConnectAdmin cmd => Sys2Proof.Machine.execNvmeConnectAdmin cmd s
  | .nvmeConnectIo cmd => Sys2Proof.Machine.execNvmeConnectIo cmd s
  | .connectTimeout conn => Sys2Proof.Machine.execConnectTimeout conn s
  | .nvmePropertyGet cmd => Sys2Proof.Machine.execNvmePropertyGet cmd s
  | .propertySetCcEnClear cmd => Sys2Proof.Machine.execPropertySetCcEnClear cmd s
  | .propertySetCcEnSet cmd => Sys2Proof.Machine.execPropertySetCcEnSet cmd s
  | .propertySetShutdown cmd => Sys2Proof.Machine.execPropertySetShutdown cmd s
  | .shutdownComplete assoc => Sys2Proof.Machine.execShutdownComplete assoc s
  | .nvmeDisconnect conn cid => Sys2Proof.Machine.execNvmeDisconnect conn cid s
  | .nvmeGetLogPage cmd => Sys2Proof.Machine.execNvmeGetLogPage cmd s
  | .nvmeIdentify cmd => Sys2Proof.Machine.execNvmeIdentify cmd s
  | .nvmeAbort cmd => Sys2Proof.Machine.execNvmeAbort cmd s
  | .nvmeGetFeatures cmd => Sys2Proof.Machine.execNvmeGetFeatures cmd s
  | .setFeaturesPowerManagement cmd => Sys2Proof.Machine.execSetFeaturesPowerManagement cmd s
  | .setFeaturesNumberOfQueues cmd => Sys2Proof.Machine.execSetFeaturesNumberOfQueues cmd s
  | .setFeaturesAsyncEventConfig cmd => Sys2Proof.Machine.execSetFeaturesAsyncEventConfig cmd s
  | .setFeaturesApst cmd => Sys2Proof.Machine.execSetFeaturesApst cmd s
  | .setFeaturesKeepAliveTimer cmd => Sys2Proof.Machine.execSetFeaturesKeepAliveTimer cmd s
  | .setFeaturesHostBehavior cmd => Sys2Proof.Machine.execSetFeaturesHostBehavior cmd s
  | .setFeaturesOrderedQueues cmd => Sys2Proof.Machine.execSetFeaturesOrderedQueues cmd s
  | .setFeaturesCremaHints cmd => Sys2Proof.Machine.execSetFeaturesCremaHints cmd s
  | .setFeaturesNotChangeable cmd => Sys2Proof.Machine.execSetFeaturesNotChangeable cmd s
  | .nvmeAsyncEventRequest cmd => Sys2Proof.Machine.execNvmeAsyncEventRequest cmd s
  | .nvmeFirmwareImageDownload cmd => Sys2Proof.Machine.execNvmeFirmwareImageDownload cmd s
  | .nvmeFirmwareCommit cmd look => Sys2Proof.Machine.execNvmeFirmwareCommit cmd look s
  | .nvmeDeviceSelfTest cmd => Sys2Proof.Machine.execNvmeDeviceSelfTest cmd s
  | .selfTestDone result => Sys2Proof.Machine.execSelfTestDone result s
  | .nvmeKeepAlive cmd => Sys2Proof.Machine.execNvmeKeepAlive cmd s
  | .keepAliveTimeout assoc => Sys2Proof.Machine.execKeepAliveTimeout assoc s
  | .chiebRequestC1h cmd => Sys2Proof.Machine.execChiebRequestC1h cmd s
  | .chiebReplyC2h cmd => Sys2Proof.Machine.execChiebReplyC2h cmd s
  | .invalidCommandOpcode conn cid => Sys2Proof.Machine.execInvalidCommandOpcode conn cid s
  | .nvmeFlush cmd => Sys2Proof.Machine.execNvmeFlush cmd s
  | .nvmeRead cmd => Sys2Proof.Machine.execNvmeRead cmd s
  | .nvmeWrite cmd => Sys2Proof.Machine.execNvmeWrite cmd s
  | .nvmeWriteZeroes cmd => Sys2Proof.Machine.execNvmeWriteZeroes cmd s
  | .nvmeDatasetManagement cmd => Sys2Proof.Machine.execNvmeDatasetManagement cmd s
  | .capsuleIntakeResume => Sys2Proof.Machine.execCapsuleIntakeResume s
  | .apstIdleTimer assoc => Sys2Proof.Machine.execApstIdleTimer assoc s
  | .stepEnd tag => Sys2Proof.Machine.execStepEnd tag s
  | .tokenArrive tag step status media data => Sys2Proof.Machine.execTokenArrive tag step status media data s
  | .evtWaitToken tag => Sys2Proof.Machine.execEvtWaitToken tag s
  | .evtWaitTimeout tag => Sys2Proof.Machine.execEvtWaitTimeout tag s
  | .evtDelay tag => Sys2Proof.Machine.execEvtDelay tag s
  | .evtDelayExpire tag => Sys2Proof.Machine.execEvtDelayExpire tag s
  | .stepTimerExpire tag => Sys2Proof.Machine.execStepTimerExpire tag s
  | .bpmAlloc tag ue race => Sys2Proof.Machine.execBpmAlloc tag ue race s
  | .bpmRef tag ue => Sys2Proof.Machine.execBpmRef tag ue s
  | .bpmDrop tag ue => Sys2Proof.Machine.execBpmDrop tag ue s
  | .bpmReleaseAll tag ue => Sys2Proof.Machine.execBpmReleaseAll tag ue s
  | .dmaStepMove tag hbmUe => Sys2Proof.Machine.execDmaStepMove tag hbmUe s
  | .dmaStepMoveSwap tag hbmUe => Sys2Proof.Machine.execDmaStepMoveSwap tag hbmUe s
  | .dmaStepRun tag => Sys2Proof.Machine.execDmaStepRun tag s
  | .dqeRead tag => Sys2Proof.Machine.execDqeRead tag s
  | .dqeWrite tag => Sys2Proof.Machine.execDqeWrite tag s
  | .cipXtsEnc tag => Sys2Proof.Machine.execCipXtsEnc tag s
  | .cipXtsDec tag => Sys2Proof.Machine.execCipXtsDec tag s
  | .tmpcEncode tag segs => Sys2Proof.Machine.execTmpcEncode tag segs s
  | .tmpdDecode tag => Sys2Proof.Machine.execTmpdDecode tag s
  | .galEncode tag => Sys2Proof.Machine.execGalEncode tag s
  | .galUpdate tag => Sys2Proof.Machine.execGalUpdate tag s
  | .galDecode tag => Sys2Proof.Machine.execGalDecode tag s
  | .crcGen tag => Sys2Proof.Machine.execCrcGen tag s
  | .crcChk tag => Sys2Proof.Machine.execCrcChk tag s
  | .crmVerdict tag => Sys2Proof.Machine.execCrmVerdict tag s
  | .crmInsert tag => Sys2Proof.Machine.execCrmInsert tag s
  | .crmFill tag => Sys2Proof.Machine.execCrmFill tag s
  | .crmCommit tag => Sys2Proof.Machine.execCrmCommit tag s
  | .crmInval tag => Sys2Proof.Machine.execCrmInval tag s
  | .xptPush tag => Sys2Proof.Machine.execXptPush tag s
  | .xptPull tag => Sys2Proof.Machine.execXptPull tag s
  | .hcpComplete tag => Sys2Proof.Machine.execHcpComplete tag s
  | .hcpFail tag => Sys2Proof.Machine.execHcpFail tag s
  | .carReserve tag => Sys2Proof.Machine.execCarReserve tag s
  | .carIndex tag => Sys2Proof.Machine.execCarIndex tag s
  | .carLand tag => Sys2Proof.Machine.execCarLand tag s
  | .carafeHeaderPersistent seq => Sys2Proof.Machine.execCarafeHeaderPersistent seq s
  | .carVoid tag => Sys2Proof.Machine.execCarVoid tag s
  | .carRead tag fixed => Sys2Proof.Machine.execCarRead tag fixed s
  | .carGather tag fixed => Sys2Proof.Machine.execCarGather tag fixed s
  | .carIntent tag => Sys2Proof.Machine.execCarIntent tag s
  | .carDone tag => Sys2Proof.Machine.execCarDone tag s
  | .peerWriteStep tag => Sys2Proof.Machine.execPeerWriteStep tag s
  | .peerSyncStep tag => Sys2Proof.Machine.execPeerSyncStep tag s
  | .swcEnq tag => Sys2Proof.Machine.execSwcEnq tag s
  | .queueEntryAppend np pull ptr cell0 cells last flow sp ue => Sys2Proof.Machine.execQueueEntryAppend np pull ptr cell0 cells last flow sp ue s
  | .queueEntrySent entry corrected ue => Sys2Proof.Machine.execQueueEntrySent entry corrected ue s
  | .cellPoisoned dest => Sys2Proof.Machine.execCellPoisoned dest s
  | .linkDown link cells => Sys2Proof.Machine.execLinkDown link cells s
  | .linkUp link => Sys2Proof.Machine.execLinkUp link s
  | .portHoldExpire link => Sys2Proof.Machine.execPortHoldExpire link s
  | .bpmMgtAlloc core size noFallback ue race => Sys2Proof.Machine.execBpmMgtAlloc core size noFallback ue race s
  | .bpmMgtRef core ue => Sys2Proof.Machine.execBpmMgtRef core ue s
  | .bpmMgtDeref core ue => Sys2Proof.Machine.execBpmMgtDeref core ue s
  | .bpmMgtFree core ue => Sys2Proof.Machine.execBpmMgtFree core ue s
  | .bstLoadDataWrite data fromCore => Sys2Proof.Machine.execBstLoadDataWrite data fromCore s
  | .bstInstall rcp last prio fromCore => Sys2Proof.Machine.execBstInstall rcp last prio fromCore s
  | .bstRetire rcp => Sys2Proof.Machine.execBstRetire rcp s
  | .engineDisable cls inst => Sys2Proof.Machine.execEngineDisable cls inst s
  | .engineDisableAck cls inst => Sys2Proof.Machine.execEngineDisableAck cls inst s
  | .engineEnable cls inst => Sys2Proof.Machine.execEngineEnable cls inst s
  | .dmaStart ch => Sys2Proof.Machine.execDmaStart ch s
  | .dmaStop ch => Sys2Proof.Machine.execDmaStop ch s
  | .dmaStoppingDone ch => Sys2Proof.Machine.execDmaStoppingDone ch s
  | .dmaClrErr ch => Sys2Proof.Machine.execDmaClrErr ch s
  | .dmaShadowArm ch edge => Sys2Proof.Machine.execDmaShadowArm ch edge s
  | .dmaShadowWrite ch reg value edge => Sys2Proof.Machine.execDmaShadowWrite ch reg value edge s
  | .dmaMove ch hbmUe => Sys2Proof.Machine.execDmaMove ch hbmUe s
  | .dmaMoveSwap ch hbmUe => Sys2Proof.Machine.execDmaMoveSwap ch hbmUe s
  | .dmaLoop ch => Sys2Proof.Machine.execDmaLoop ch s
  | .dmaWait ch => Sys2Proof.Machine.execDmaWait ch s
  | .dmaWaitSatisfied ch => Sys2Proof.Machine.execDmaWaitSatisfied ch s
  | .dmaWaitTimeout ch => Sys2Proof.Machine.execDmaWaitTimeout ch s
  | .dmaSignal ch => Sys2Proof.Machine.execDmaSignal ch s
  | .dmaLink ch => Sys2Proof.Machine.execDmaLink ch s
  | .dmaEnd ch => Sys2Proof.Machine.execDmaEnd ch s
  | .dmaInstructionComplete ch => Sys2Proof.Machine.execDmaInstructionComplete ch s
  | .crmInvalidateNs nsid => Sys2Proof.Machine.execCrmInvalidateNs nsid s
  | .crmInvalidateAll => Sys2Proof.Machine.execCrmInvalidateAll s
  | .crmSweepDone => Sys2Proof.Machine.execCrmSweepDone s
  | .crmInitDone => Sys2Proof.Machine.execCrmInitDone s
  | .crmLimitEvict pool => Sys2Proof.Machine.execCrmLimitEvict pool s
  | .sketchDecay => Sys2Proof.Machine.execSketchDecay s
  | .gatherDeadlineExpire slot => Sys2Proof.Machine.execGatherDeadlineExpire slot s
  | .flushBrewStart slot => Sys2Proof.Machine.execFlushBrewStart slot s
  | .checkpointTimer group => Sys2Proof.Machine.execCheckpointTimer group s
  | .carafeFault die lines => Sys2Proof.Machine.execCarafeFault die lines s
  | .groupInitDone group failBay => Sys2Proof.Machine.execGroupInitDone group failBay s
  | .memberLinkFailTimeout bay => Sys2Proof.Machine.execMemberLinkFailTimeout bay s
  | .memberCommandTimeout bay => Sys2Proof.Machine.execMemberCommandTimeout bay s
  | .memberResetTimeout bay => Sys2Proof.Machine.execMemberResetTimeout bay s
  | .driveCriticalWarning bay => Sys2Proof.Machine.execDriveCriticalWarning bay s
  | .rbdFailMember bay => Sys2Proof.Machine.execRbdFailMember bay s
  | .rbdDesignateHotspare bay => Sys2Proof.Machine.execRbdDesignateHotspare bay s
  | .rbdReleaseHotspare bay => Sys2Proof.Machine.execRbdReleaseHotspare bay s
  | .rbdUseLabelledDrive bay => Sys2Proof.Machine.execRbdUseLabelledDrive bay s
  | .budgetRefill => Sys2Proof.Machine.execBudgetRefill s
  | .rebuildBrewStart group bad => Sys2Proof.Machine.execRebuildBrewStart group bad s
  | .stripeLockGrant group strp => Sys2Proof.Machine.execStripeLockGrant group strp s
  | .progressRecordWrite group => Sys2Proof.Machine.execProgressRecordWrite group s
  | .repairBrewStart entry still more => Sys2Proof.Machine.execRepairBrewStart entry still more s
  | .cuppingPassStart group => Sys2Proof.Machine.execCuppingPassStart group s
  | .cuppingBrewStart group looks => Sys2Proof.Machine.execCuppingBrewStart group looks s
  | .regrindStart => Sys2Proof.Machine.execRegrindStart s
  | .regrindInitDone => Sys2Proof.Machine.execRegrindInitDone s
  | .regrindCopyBrewStart bad => Sys2Proof.Machine.execRegrindCopyBrewStart bad s
  | .regrindCommit => Sys2Proof.Machine.execRegrindCommit s
  | .regrindAbort => Sys2Proof.Machine.execRegrindAbort s
  | .regrindRetireDone => Sys2Proof.Machine.execRegrindRetireDone s
  | .kpLoad tenant slot => Sys2Proof.Machine.execKpLoad tenant slot s
  | .kpZeroiseSlot tenant slot => Sys2Proof.Machine.execKpZeroiseSlot tenant slot s
  | .kpZeroisePage tenant => Sys2Proof.Machine.execKpZeroisePage tenant s
  | .zeroiseComplete tenant => Sys2Proof.Machine.execZeroiseComplete tenant s
  | .keyStatus src => Sys2Proof.Machine.execKeyStatus src s
  | .skekInstall src => Sys2Proof.Machine.execSkekInstall src s
  | .skekRewrapDone => Sys2Proof.Machine.execSkekRewrapDone s
  | .keyLoad src => Sys2Proof.Machine.execKeyLoad src s
  | .keyZeroise src => Sys2Proof.Machine.execKeyZeroise src s
  | .tlsRecordEncrypt conn data sp => Sys2Proof.Machine.execTlsRecordEncrypt conn data sp s
  | .tlsRecordDecrypt conn data update => Sys2Proof.Machine.execTlsRecordDecrypt conn data update s
  | .netPortDown np localFault remoteFault cells => Sys2Proof.Machine.execNetPortDown np localFault remoteFault cells s
  | .netPortUp np => Sys2Proof.Machine.execNetPortUp np s
  | .arpRequest np ip => Sys2Proof.Machine.execArpRequest np ip s
  | .neighborSolicitation np ip => Sys2Proof.Machine.execNeighborSolicitation np ip s
  | .icmpEcho np v6 ip => Sys2Proof.Machine.execIcmpEcho np v6 ip s
  | .frameDiscard np len fcsBad => Sys2Proof.Machine.execFrameDiscard np len fcsBad s
  | .pauseFrameReceive np => Sys2Proof.Machine.execPauseFrameReceive np s
  | .pfcFrameReceive np quanta => Sys2Proof.Machine.execPfcFrameReceive np quanta s
  | .pfcPauseExpire np prio => Sys2Proof.Machine.execPfcPauseExpire np prio s
  | .pfcXoffSend np prio bytes => Sys2Proof.Machine.execPfcXoffSend np prio bytes s
  | .pfcXoffRefresh np prio => Sys2Proof.Machine.execPfcXoffRefresh np prio s
  | .receiveBufferOverflow np => Sys2Proof.Machine.execReceiveBufferOverflow np s
  | .roceConnectRequest np mac vlan offer => Sys2Proof.Machine.execRoceConnectRequest np mac vlan offer s
  | .roceSendReceive np conn mac vlan => Sys2Proof.Machine.execRoceSendReceive np conn mac vlan s
  | .roceReadResponse np conn mac vlan data => Sys2Proof.Machine.execRoceReadResponse np conn mac vlan data s
  | .roceAckReceive np conn mac vlan bytes => Sys2Proof.Machine.execRoceAckReceive np conn mac vlan bytes s
  | .roceNakReceive np conn mac vlan access push => Sys2Proof.Machine.execRoceNakReceive np conn mac vlan access push s
  | .roceAckTimeout conn => Sys2Proof.Machine.execRoceAckTimeout conn s
  | .ceMarkedReceive np conn mac vlan => Sys2Proof.Machine.execCeMarkedReceive np conn mac vlan s
  | .cnpReceive np conn mac vlan => Sys2Proof.Machine.execCnpReceive np conn mac vlan s
  | .rateIncreaseTimer conn => Sys2Proof.Machine.execRateIncreaseTimer conn s
  | .tcpSyn np mac vlan r2t => Sys2Proof.Machine.execTcpSyn np mac vlan r2t s
  | .tcpSegmentReceive np conn mac vlan acked data digestBad close => Sys2Proof.Machine.execTcpSegmentReceive np conn mac vlan acked data digestBad close s
  | .tcpRtoExpire conn => Sys2Proof.Machine.execTcpRtoExpire conn s
  | .tlsClientHello conn identity pskKe suite input => Sys2Proof.Machine.execTlsClientHello conn identity pskKe suite input s
  | .egressFrameSelect np frames => Sys2Proof.Machine.execEgressFrameSelect np frames s
  | .shaperRefill => Sys2Proof.Machine.execShaperRefill s
  | .gateEntryAdvance np => Sys2Proof.Machine.execGateEntryAdvance np s
  | .pourListAdopt np => Sys2Proof.Machine.execPourListAdopt np s
  | .peerFlitReceive crcOk cls fseq ack credit => Sys2Proof.Machine.execPeerFlitReceive crcOk cls fseq ack credit s
  | .peerNakReceive cause fseq tag resent => Sys2Proof.Machine.execPeerNakReceive cause fseq tag resent s
  | .peerLaneFail lane => Sys2Proof.Machine.execPeerLaneFail lane s
  | .peerHello h => Sys2Proof.Machine.execPeerHello h s
  | .peerHeartbeat h => Sys2Proof.Machine.execPeerHeartbeat h s
  | .heartbeatTick => Sys2Proof.Machine.execHeartbeatTick s
  | .peerWrite tag win epoch off data fseq => Sys2Proof.Machine.execPeerWrite tag win epoch off data fseq s
  | .peerWack tag => Sys2Proof.Machine.execPeerWack tag s
  | .peerEpochInfo epoch => Sys2Proof.Machine.execPeerEpochInfo epoch s
  | .peerEpochQuery => Sys2Proof.Machine.execPeerEpochQuery s
  | .peerConfig txn writes ops atNs => Sys2Proof.Machine.execPeerConfig txn writes ops atNs s
  | .peerConfigAck txn => Sys2Proof.Machine.execPeerConfigAck txn s
  | .peerKey k => Sys2Proof.Machine.execPeerKey k s
  | .peerKeyAck tenant status => Sys2Proof.Machine.execPeerKeyAck tenant status s
  | .peerFencing => Sys2Proof.Machine.execPeerFencing s
  | .peerHandover => Sys2Proof.Machine.execPeerHandover s
  | .peerLeave => Sys2Proof.Machine.execPeerLeave s
  | .shadowApply => Sys2Proof.Machine.execShadowApply s
  | .witnessTick => Sys2Proof.Machine.execWitnessTick s
  | .witnessRequestTimeout num => Sys2Proof.Machine.execWitnessRequestTimeout num s
  | .witnessLost => Sys2Proof.Machine.execWitnessLost s
  | .witnessGrant req epoch crcOk vs => Sys2Proof.Machine.execWitnessGrant req epoch crcOk vs s
  | .witnessRefuse req cause value crcOk => Sys2Proof.Machine.execWitnessRefuse req cause value crcOk s
  | .witnessState req holder crcOk => Sys2Proof.Machine.execWitnessState req holder crcOk s
  | .acquireRetryTimer => Sys2Proof.Machine.execAcquireRetryTimer s
  | .leaseExpire => Sys2Proof.Machine.execLeaseExpire s
  | .drivePermission vs => Sys2Proof.Machine.execDrivePermission vs s
  | .takeoverServiceEntry groups looks bad stored => Sys2Proof.Machine.execTakeoverServiceEntry groups looks bad stored s
  | .pairStatus src => Sys2Proof.Machine.execPairStatus src s
  | .handover src => Sys2Proof.Machine.execHandover src s
  | .handoverSyncReached => Sys2Proof.Machine.execHandoverSyncReached s
  | .handoverSelfReset => Sys2Proof.Machine.execHandoverSelfReset s
  | .forcedTakeover src => Sys2Proof.Machine.execForcedTakeover src s
  | .forcedTakeoverWaitEnd vs => Sys2Proof.Machine.execForcedTakeoverWaitEnd vs s
  | .lockstepMismatch core => Sys2Proof.Machine.execLockstepMismatch core s
  | .watchdogExpire => Sys2Proof.Machine.execWatchdogExpire s
  | .hbmStackFailure stackB => Sys2Proof.Machine.execHbmStackFailure stackB s
  | .clockLoss => Sys2Proof.Machine.execClockLoss s
  | .bayDieSelfCheck parts v12 => Sys2Proof.Machine.execBayDieSelfCheck parts v12 s
  | .seatAssert bay => Sys2Proof.Machine.execSeatAssert bay s
  | .seatDebounceDone bay v => Sys2Proof.Machine.execSeatDebounceDone bay v s
  | .seatDeassert bay v => Sys2Proof.Machine.execSeatDeassert bay v s
  | .rampSlotGrant => Sys2Proof.Machine.execRampSlotGrant s
  | .precheckEnd bay first last => Sys2Proof.Machine.execPrecheckEnd bay first last s
  | .rampComplete bay v => Sys2Proof.Machine.execRampComplete bay v s
  | .gateFailTimeout bay v => Sys2Proof.Machine.execGateFailTimeout bay v s
  | .currentLimitEnter bay v => Sys2Proof.Machine.execCurrentLimitEnter bay v s
  | .currentLimitRelease bay v => Sys2Proof.Machine.execCurrentLimitRelease bay v s
  | .bayFaultTimerExpire bay v => Sys2Proof.Machine.execBayFaultTimerExpire bay v s
  | .fastTrip bay v => Sys2Proof.Machine.execFastTrip bay v s
  | .fastTripHoldEnd bay => Sys2Proof.Machine.execFastTripHoldEnd bay s
  | .fetTempLimit bay v => Sys2Proof.Machine.execFetTempLimit bay v s
  | .perstReleaseTimer bay => Sys2Proof.Machine.execPerstReleaseTimer bay s
  | .bayShutdownDone bay timeout => Sys2Proof.Machine.execBayShutdownDone bay timeout s
  | .bayGateOffDelay bay v => Sys2Proof.Machine.execBayGateOffDelay bay v s
  | .bayOffShortCheck bay v => Sys2Proof.Machine.execBayOffShortCheck bay v s
  | .bayCycleRestart bay => Sys2Proof.Machine.execBayCycleRestart bay s
  | .ps2SecondCheck bay avg v => Sys2Proof.Machine.execPs2SecondCheck bay avg v s
  | .bayCmdOn bay => Sys2Proof.Machine.execBayCmdOn bay s
  | .bayCmdOff bay => Sys2Proof.Machine.execBayCmdOff bay s
  | .bayCmdClear bay => Sys2Proof.Machine.execBayCmdClear bay s
  | .bayCmdCycle bay => Sys2Proof.Machine.execBayCmdCycle bay s
  | .bayStatus src => Sys2Proof.Machine.execBayStatus src s
  | .bayPower src => Sys2Proof.Machine.execBayPower src s
  | .bayPs2Override src => Sys2Proof.Machine.execBayPs2Override src s
  | .bayPs2OvrWrite confirm bays => Sys2Proof.Machine.execBayPs2OvrWrite confirm bays s
  | .bayCal src => Sys2Proof.Machine.execBayCal src s
  | .bayCalDone bay ofs => Sys2Proof.Machine.execBayCalDone bay ofs s
  | .mailboxDoorbell writes ring => Sys2Proof.Machine.execMailboxDoorbell writes ring s
  | .miReadDataStructure eid dtyp portId ctrlId => Sys2Proof.Machine.execMiReadDataStructure eid dtyp portId ctrlId s
  | .miSubsystemHealthPoll eid => Sys2Proof.Machine.execMiSubsystemHealthPoll eid s
  | .miControllerHealthPoll eid => Sys2Proof.Machine.execMiControllerHealthPoll eid s
  | .miConfigurationGet eid cfgId => Sys2Proof.Machine.execMiConfigurationGet eid cfgId s
  | .miConfigurationSet eid cfgId value => Sys2Proof.Machine.execMiConfigurationSet eid cfgId value s
  | .identify src => Sys2Proof.Machine.execIdentify src s
  | .status src => Sys2Proof.Machine.execStatus src s
  | .opQuery src => Sys2Proof.Machine.execOpQuery src s
  | .handleExpire handle => Sys2Proof.Machine.execHandleExpire handle s
  | .regRead src => Sys2Proof.Machine.execRegRead src s
  | .regWrite src => Sys2Proof.Machine.execRegWrite src s
  | .regWriteMasked src => Sys2Proof.Machine.execRegWriteMasked src s
  | .begin src => Sys2Proof.Machine.execBegin src s
  | .commit src => Sys2Proof.Machine.execCommit src s
  | .commitAt src => Sys2Proof.Machine.execCommitAt src s
  | .rollback src => Sys2Proof.Machine.execRollback src s
  | .txnStatus src => Sys2Proof.Machine.execTxnStatus src s
  | .txnExpire slot => Sys2Proof.Machine.execTxnExpire slot s
  | .bar0StagingWrite off value dw => Sys2Proof.Machine.execBar0StagingWrite off value dw s
  | .groupStatus src => Sys2Proof.Machine.execGroupStatus src s
  | .nsCreate src => Sys2Proof.Machine.execNsCreate src s
  | .nsDelete src => Sys2Proof.Machine.execNsDelete src s
  | .nsMove src => Sys2Proof.Machine.execNsMove src s
  | .nsInfo src => Sys2Proof.Machine.execNsInfo src s
  | .hostAdd src => Sys2Proof.Machine.execHostAdd src s
  | .hostRemove src => Sys2Proof.Machine.execHostRemove src s
  | .hostList src => Sys2Proof.Machine.execHostList src s
  | .subsysNqn src => Sys2Proof.Machine.execSubsysNqn src s
  | .timeStatus src => Sys2Proof.Machine.execTimeStatus src s
  | .schedList src => Sys2Proof.Machine.execSchedList src s
  | .persistentRegisterWrite off value => Sys2Proof.Machine.execPersistentRegisterWrite off value s
  | .pcrWriteDone => Sys2Proof.Machine.execPcrWriteDone s
  | .pcrTokenRefill => Sys2Proof.Machine.execPcrTokenRefill s
  | .testStatus src => Sys2Proof.Machine.execTestStatus src s
  | .engineKat src => Sys2Proof.Machine.execEngineKat src s
  | .carafeScan src => Sys2Proof.Machine.execCarafeScan src s
  | .hbmScrub src => Sys2Proof.Machine.execHbmScrub src s
  | .pcrVerify src => Sys2Proof.Machine.execPcrVerify src s
  | .netPrbs src => Sys2Proof.Machine.execNetPrbs src s
  | .drvEq src => Sys2Proof.Machine.execDrvEq src s
  | .peerPrbs src => Sys2Proof.Machine.execPeerPrbs src s
  | .hbmMarch src => Sys2Proof.Machine.execHbmMarch src s
  | .mramMarch src => Sys2Proof.Machine.execMramMarch src s
  | .serdesLoop src => Sys2Proof.Machine.execSerdesLoop src s
  | .testDone op target errors first => Sys2Proof.Machine.execTestDone op target errors first s
  | .pcieConfigRequest write reg be value => Sys2Proof.Machine.execPcieConfigRequest write reg be value s
  | .pmcsrD3hotEnter => Sys2Proof.Machine.execPmcsrD3hotEnter s
  | .pmcsrD0Return => Sys2Proof.Machine.execPmcsrD0Return s
  | .bmeClear => Sys2Proof.Machine.execBmeClear s
  | .bmeSet => Sys2Proof.Machine.execBmeSet s
  | .functionLevelReset => Sys2Proof.Machine.execFunctionLevelReset s
  | .flrDone => Sys2Proof.Machine.execFlrDone s
  | .perstSlAssert => Sys2Proof.Machine.execPerstSlAssert s
  | .perstSlDeassert speed width => Sys2Proof.Machine.execPerstSlDeassert speed width s
  | .hotReset speed width => Sys2Proof.Machine.execHotReset speed width s
  | .endpointLinkDown speed width => Sys2Proof.Machine.execEndpointLinkDown speed width s
  | .completionReceive tag st data => Sys2Proof.Machine.execCompletionReceive tag st data s
  | .completionTimeout tag => Sys2Proof.Machine.execCompletionTimeout tag s
  | .aerError e advisory hdr => Sys2Proof.Machine.execAerError e advisory hdr s
  | .msixUnmask entry => Sys2Proof.Machine.execMsixUnmask entry s
  | .fwStatus src => Sys2Proof.Machine.execFwStatus src s
  | .fwDownload src => Sys2Proof.Machine.execFwDownload src s
  | .fwCommit src look => Sys2Proof.Machine.execFwCommit src look s
  | .fwSlotWritten => Sys2Proof.Machine.execFwSlotWritten s
  | .fwDiscard src => Sys2Proof.Machine.execFwDiscard src s
  | .fwReject src => Sys2Proof.Machine.execFwReject src s
  | .spdmRootSet src => Sys2Proof.Machine.execSpdmRootSet src s
  | .activationWithoutReset => Sys2Proof.Machine.execActivationWithoutReset s
  | .activationDrainDeadline => Sys2Proof.Machine.execActivationDrainDeadline s
  | .activationImageRunning look => Sys2Proof.Machine.execActivationImageRunning look s
  | .pairedActivation => Sys2Proof.Machine.execPairedActivation s
  | .trialConfirm => Sys2Proof.Machine.execTrialConfirm s
  | .trialWindowExpire => Sys2Proof.Machine.execTrialWindowExpire s
  | .spdmGetVersion who => Sys2Proof.Machine.execSpdmGetVersion who s
  | .spdmGetCapabilities who version => Sys2Proof.Machine.execSpdmGetCapabilities who version s
  | .spdmNegotiateAlgorithms who algs => Sys2Proof.Machine.execSpdmNegotiateAlgorithms who algs s
  | .spdmGetDigests who => Sys2Proof.Machine.execSpdmGetDigests who s
  | .spdmGetCertificate who slot off len => Sys2Proof.Machine.execSpdmGetCertificate who slot off len s
  | .spdmChallenge who slot transcript => Sys2Proof.Machine.execSpdmChallenge who slot transcript s
  | .spdmGetMeasurements who index signed transcript => Sys2Proof.Machine.execSpdmGetMeasurements who index signed transcript s
  | .spdmKeyExchange who transcript => Sys2Proof.Machine.execSpdmKeyExchange who transcript s
  | .spdmFinish who session root ok => Sys2Proof.Machine.execSpdmFinish who session root ok s
  | .spdmSignatureDone who => Sys2Proof.Machine.execSpdmSignatureDone who s
  | .spdmRespondIfReady who => Sys2Proof.Machine.execSpdmRespondIfReady who s
  | .spdmHeartbeat session => Sys2Proof.Machine.execSpdmHeartbeat session s
  | .spdmKeyUpdate session => Sys2Proof.Machine.execSpdmKeyUpdate session s
  | .spdmEndSession session => Sys2Proof.Machine.execSpdmEndSession session s
  | .securedMessage session bytes => Sys2Proof.Machine.execSecuredMessage session bytes s
  | .telemetrySweep => Sys2Proof.Machine.execTelemetrySweep s
  | .telSnapshot src => Sys2Proof.Machine.execTelSnapshot src s
  | .telSweep src => Sys2Proof.Machine.execTelSweep src s
  | .telSamples src => Sys2Proof.Machine.execTelSamples src s
  | .registerWrite off value dw => Sys2Proof.Machine.execRegisterWrite off value dw s
  | .railsRemoved => Sys2Proof.Machine.execRailsRemoved s
  | .ref10mInWithinTolerance => Sys2Proof.Machine.execRef10mInWithinTolerance s
  | .followerKeeperSample bay gateHigh pgHigh => Sys2Proof.Machine.execFollowerKeeperSample bay gateHigh pgHigh s
  | .targetFormatDone bay => Sys2Proof.Machine.execTargetFormatDone bay s
  | .bar0Read off dw => Sys2Proof.Machine.execBar0Read off dw s
  | .mctpEndpointAssigned eid => Sys2Proof.Machine.execMctpEndpointAssigned eid s
  | .cmDisconnectRequest conn => Sys2Proof.Machine.execCmDisconnectRequest conn s

end Sys2Proof.Machine
end

