-- ==== Sys2Proof/Machine/Step.lean ====
section
/-! DEFINITION. One step: the command at the front of the queue takes effect; with none the block idles. -/

namespace Sys2Proof.Machine

/-- The state with a queue. -/
def State.withPending (s : State) (q : List Instr) : State := { s with pending := q }

/-- One step: the front command with the queue's rest; an empty queue changes nothing (notes/assumptions/1.md). -/
def step (s : State) : Host.Outcome State Fault Refusal :=
  match s.pending with
  | [] => .next s
  | i :: q => exec i (s.withPending q)

/-- The state with the command that a table word spells at the front of the queue; unchanged where the word spells none. -/
def State.withFetchWord (s : State) (nbits w : Nat) : State :=
  match decodeTableWord nbits w with
  | some i => s.withPending (i :: s.pending)
  | none => s

end Sys2Proof.Machine
end

