-- ==== Sys2Proof/Machine/Factory.lean ====
section
/-! DEFINITION. The write recipe of Table 9.6 (09_layouts_and_write_path.md, R215) as steps of Table 6.2. The management firmware loads it
like any recipe (R121); nothing here puts it into recipe memory. Slots, limits and what the table leaves to the recipe's author are
DESIGN CHOICE (notes/assumptions/75.md). -/

namespace Sys2Proof.Machine

/-- The eight words of a step, Table 6.2. -/
def Step.words (s : Step) : List Word :=
  let b (x : Bool) (k : Nat) : Nat := if x then 2 ^ k else 0
  [BitVec.ofNat 32 (s.eng % 64 * 2 ^ 26 + s.isel % 4 * 2 ^ 24 + s.inst % 256 * 2 ^ 16 + s.op % 256 * 2 ^ 8 + b s.fstep 7 + b s.last 6 + b s.tok 5),
   BitVec.ofNat 32 (s.next % 256 * 2 ^ 24 + s.b0t % 256 * 2 ^ 16 + s.b1t % 256 * 2 ^ 8 + s.failt % 256),
   BitVec.ofNat 32 (s.b0s % 256 * 2 ^ 24 + s.b1s % 256 * 2 ^ 16 + s.b0m % 16 * 2 ^ 12 + s.b1m % 16 * 2 ^ 8),
   BitVec.ofNat 32 (s.src % 16 * 2 ^ 28 + s.dst % 16 * 2 ^ 24 + s.aux % 16 * 2 ^ 20 + s.out % 16 * 2 ^ 16),
   BitVec.ofNat 32 s.arg0, BitVec.ofNat 32 s.arg1, BitVec.ofNat 32 (s.len % 2 ^ 24),
   BitVec.ofNat 32 (s.arg2 % 2 ^ 16 * 2 ^ 16 + s.chk % 2 ^ 16)]

/-- A step with its chk (W7 [15:0]). -/
def Step.checked (s : Step) : Step := { s with chk := stepCrc s.words }

/-- A step of class `eng` and opcode `op` with no slot, argument or branch, that goes to `next` on OK and to `failt` otherwise. -/
def Step.plain (eng op next failt : Nat) : Step :=
  { eng := eng, isel := 0, inst := 0, op := op, fstep := false, last := false, tok := false, next := next, b0t := 0, b1t := 0,
    failt := failt, b0s := 0, b1s := 0, b0m := 0, b1m := 0, src := 15, dst := 15, aux := 15, out := 15, arg0 := 0, arg1 := 0, len := 0,
    arg2 := 0xFFFF, chk := 0 }

/-- An ALLOC of `size` bytes into a slot; POOL_EXHAUSTED takes the retry branch, and failure after it (Table 9.6, indices 0 and 1). -/
def allocStep (i dst size : Nat) : Step :=
  { Step.plain Cls.bpm 0x01 (i + 1) 11 with dst := dst, arg0 := size, b0s := 0x01, b0t := i, b0m := 15 }

/-- The write recipe of Table 9.6 for a command of `n` blocks: data in slot 0, headers and tags in slot 1. -/
def writeRecipe (n : Nat) : List Step :=
  let fail (eng op next : Nat) : Step := { Step.plain eng op next 14 with fstep := true }
  [allocStep 0 0 (4096 * n),
   allocStep 1 1 16384,
   { Step.plain Cls.xpt 0x02 3 11 with dst := 0, len := 4096 * n, tok := true },
   { Step.plain Cls.evt 0x01 4 11 with arg0 := 4000000, arg2 := 2 },
   { Step.plain Cls.crc 0x01 5 11 with src := 0, aux := 1 },
   { Step.plain Cls.car 0x01 6 11 with src := 0, aux := 1 },
   { Step.plain Cls.car 0x02 7 11 with src := 0, aux := 1 },
   Step.plain Cls.crm 0x05 8 11,
   { Step.plain Cls.car 0x03 9 11 with src := 0, aux := 1, tok := true },
   { Step.plain Cls.hcp 0x01 10 11 with arg2 := 8 },
   { Step.plain Cls.bpm 0x0F 10 11 with last := true },
   fail Cls.car 0x04 12,
   fail Cls.crm 0x05 13,
   fail Cls.hcp 0x02 14,
   { fail Cls.bpm 0x0F 14 with last := true }]

/-- The recipe of a Write Zeroes or of a Dataset Management range (R215): indices 0 to 4 of the write recipe are one RESERVE with arg0 [0] = 1,
and each later index is five lower. -/
def zeroRecipe : List Step :=
  let low (s : Step) : Step :=
    { s with next := s.next - 5, failt := s.failt - 5, arg2 := if s.eng = Cls.hcp ∧ s.op = 0x01 then s.arg2 - 5 else s.arg2, src := 15, aux := 15 }
  { Step.plain Cls.car 0x01 1 6 with arg0 := 1 } :: ((writeRecipe 1).drop 6).map low

/-- A recipe as M1 writes it to step memory, and the checks of Table 6.5 that it fails. -/
def recipeErrs (ss : List Step) : List Nat :=
  let ws := ss.map (fun s => s.checked.words)
  (List.range ws.length).flatMap (stepErrs ws)

end Sys2Proof.Machine
end

