-- ==== Sys2Proof/Safety.lean ====
section
/-! DEFINITION. What counts as a safe run of the block, in the terms of the statements. -/

namespace Sys2Proof.Machine

/-- A step that answers a next state. -/
def Runs (s : State) : Prop := ∃ t, step s = .next t

/-- The memories are in canonical form. -/
def State.memOk (s : State) : Bool := Memory.wf s.mem

/-- The state with registers and blocks `c`: the memories and the queue are those of `s`. -/
def State.withCtl (s : State) (c : Ctl) : State := { s with c := c }

/-- The state with these memories, registers and blocks: the queue is that of `s`. -/
def State.withBoth (s : State) (r : Mem × Ctl) : State := { s with mem := r.1, c := r.2 }

/-- The command answers a next state, and `P` holds of it. -/
def Completes (i : Instr) (s : State) (P : State → Prop) : Prop := ∃ t, exec i s = .next t ∧ P t

/-- An association whose keep-alive timer restarts now (R81). -/
def Assoc.alive (a : Assoc) (dt : Nat) : Assoc := { a with kaStart := dt }

/-- The state in which association `k` has restarted its keep-alive timer. -/
def Ctl.alive (c : Ctl) (k : Nat) (a : Assoc) : Ctl := c.setAssoc k (a.alive c.dt)

/-- Capsule `x` of an admin queue is served now, on context `tag`: it is taken in, its connection carries the admin queue of association `k`,
whose record is `a`; it is no Abort beyond 16; no capsule of its queue waits, a context is free, no outstanding command of the queue has its CID,
the device is not activating, and its reserved fields are 0 (R79, R80, R83, R85, R86, R97, R107). -/
abbrev AdminServed (c : Ctl) (x : AdminCap) (k tag : Nat) (a : Assoc) : Prop :=
  c.ioOpen x.cmd.conn = true ∧ c.adminAssoc x.cmd.conn = some (k, a) ∧ (x.op = .abort → a.aborts < 16) ∧
  (c.alive k a).mustWait k x.cmd.conn = false ∧ (c.alive k a).freeTag = some tag ∧ (c.alive k a).cidUsed k 0 x.cmd.cid = false ∧
  c.mode ≠ .activating ∧ x.rsvd = false

/-- The state in which it runs: the keep-alive timer has restarted, and the capsule is counted and holds its context (R81, R85, R87). -/
def Ctl.begun (c : Ctl) (x : AdminCap) (k tag : Nat) (a : Assoc) : Ctl :=
  let c0 := c.alive k a
  ({ c0.tev .hcp 0 0 (some a.tenant) none 1 with host := { c0.host with capSeq := c0.host.capSeq + 1 } }).setTag tag
    (x.tag k c0.host.capSeq .running)

/-- The step that `tag` issues now is class `eng`, opcode `op`; it can be read intact, its brew is not aborted before its first step, an enabled
and free instance `n` takes it, it names no poisoned slot (unless its class takes one), and it is not a fifth token (R116, R125 to R133). -/
abbrev StepAccepted (c : Ctl) (tag eng op : Nat) (poisonOk : Bool) (i : Issued) (n : Nat) : Prop :=
  c.issuable tag eng op = some i ∧ c.abortedFresh tag i.brew = false ∧ c.stepIntact i.brew = true ∧
  c.pickInst tag i.brew i.step = some n ∧ (i.brew.poisoned i.step && !poisonOk) = false ∧
  (i.step.tok && decide (4 ≤ i.brew.tokens.length)) = false ∧ c.instFree eng n = true

/-- The state in which the lane has issued the step. -/
def Ctl.stepIssued (c : Ctl) (tag : Nat) (i : Issued) : Ctl :=
  (c.laneIssue tag i.brew.prio).tev .bst 0 (laneOf tag) none (c.ctxOf tag) 1

/-- A step that its engine has carried out, with `r`: an uncorrectable word it met is counted, a step with tok = 1 that it took leaves a token,
and the status waits for the boundary (R125, Table 1.4). -/
def stepDone (tag eng n : Nat) (i : Issued) (r : Act) : Mem × Ctl :=
  let a := r.late i.step
  (a.m, ((if r.st = 0x03 then a.c.ueCount tag i else a.c).takeToken tag i.step a).stepResult tag a.st eng n)

/-- A step row completes with what its engine does, for every step that is accepted. -/
def StepRuns (row : Instr) (tag eng op : Nat) (poisonOk : Bool) (act : Issued → Mem → Ctl → Act) : Prop :=
  ∀ (s : State) (i : Issued) (n : Nat), StepAccepted s.c tag eng op poisonOk i n →
    exec row s = .next (s.withBoth (stepDone tag eng n i (act { i with inst := n } s.mem (s.c.stepIssued tag i))))

/-- The same for a row whose engine settles what `after` names once the step has been carried out. -/
def StepRunsThen (row : Instr) (tag eng op : Nat) (poisonOk : Bool) (act : Issued → Mem → Ctl → Act) (after : Ctl → Ctl) : Prop :=
  ∀ (s : State) (i : Issued) (n : Nat), StepAccepted s.c tag eng op poisonOk i n →
    Completes row s (fun t =>
      let r := stepDone tag eng n i (act { i with inst := n } s.mem (s.c.stepIssued tag i))
      t.mem = r.1 ∧ t.c = after r.2 ∧ t.pending = s.pending)

/-- Channel `n` runs, no step of a brew uses it, it may take another instruction, and the next one, whose words are `ws`, can be fetched, is owned
by the DMA, has opcode `op` and waits for none in flight (R137, Table 6.10). -/
abbrev InsReady (m : Mem) (c : Ctl) (n op : Nat) (ws : List Word) : Prop :=
  c.chState n = 1 ∧ (c.chan n).move = none ∧ (c.chan n).blocked = false ∧ c.halted = false ∧ (c.chan n).flight.length < 4 ∧
  dmaFetchOk n (c.chan n).pc = true ∧ (dmaSpace (c.chan n).pc == 0 && m.hbmBad (dmaOff (c.chan n).pc) 32) = false ∧
  ws = dmaFetch (c.memView m) (c.chan n).pc ∧ insOwn (wordAt ws 0) = true ∧ insOp (wordAt ws 0) = op ∧
  ((insBar (wordAt ws 0) || decide (5 ≤ op)) && !(c.chan n).flight.isEmpty) = false

/-- The state in which a valid frame of the witness has arrived: the witness is heard now, and no longer lost (R336). -/
def Ctl.witHeard (c : Ctl) : Ctl :=
  let c1 : Ctl := { c with pair := { c.pair with witAt := c.dt } }
  if c1.flag F.GLB_MODE_STAT_no_witness then (c1.setFlag F.GLB_MODE_STAT_no_witness false).faultRecord 0x86 0 0 else c1

/-- The witness answers request `req`, whose record is `r` and which is not older than 5 ms; `c1` is the state in which it has been taken off the
open requests. -/
abbrev WitAnswers (c : Ctl) (req : Nat) (r : WitReq) (c1 : Ctl) : Prop :=
  c.awake = true ∧ c.witHeard.pair.reqs.find? (fun x => x.num == req && decide (c.witHeard.dt ≤ x.sent + 5000000)) = some r ∧
  c1 = { c.witHeard with pair := { c.witHeard.pair with reqs := c.witHeard.pair.reqs.filter (fun x => x.num != req) } }

/-- The state in which a request of `src` has arrived: a sideband message is taken as it comes, unless its endpoint has one in progress; every
other request was taken before (R381 to R385). -/
def chiebArrive (src : ChiebSrc) (m : Mem) (c : Ctl) : Mem × Ctl :=
  match src with
  | .sideband e bs =>
    if c.mgt.taken.any (fun t => t.src == src) || c.mgt.taken.any (fun t => t.chan == 8192 + e && t.pkt.seq != (pktOf (bs.drop 2)).seq) then (m, c)
    else chiebTake m c ⟨8192 + e, src, pktOf (bs.drop 2), false, 0, 0⟩ (bs.drop 2) true
  | _ => (m, c)

/-- The request that a source's message holds is one the device answers: only the sideband may carry another opcode or another vendor's
message, or be mute (R58). -/
abbrev ChiebHeard (op : Nat) (src : ChiebSrc) (c : Ctl) : Prop :=
  match src with
  | .sideband _ bs => (pktOf (bs.drop 2)).op = op ∧ pktField bs 0 2 = Config.vendorId.toNat ∧ c.sidebandMute = false
  | _ => True

/-- Opcode `op` is the next request of `src` and runs: it is taken as `t`, in the memories and state `m` and `c`; the mode accepts it, its source
may send it, and the transaction it names, if any, is its channel's (checks 5 to 7 of R385). -/
abbrev ChiebServed (op : Nat) (src : ChiebSrc) (s : State) (t : Taken) (m : Mem) (c : Ctl) : Prop :=
  ChiebHeard op src s.c ∧ (m, c) = chiebArrive src s.mem s.c ∧ c.chiebNext op src = some t ∧ c.chiebModeOk t = true ∧ c.chiebSrcOk t = true ∧
  (t.pkt.txn = 0 ∨ c.txnStatus t.chan t.pkt.txn = 0)

/-- The outcome of an executed request: what it did, MGT_CNT_0 plus 1, and its reply. -/
def chiebDone (t : Taken) (r : Mem × Ctl) (st : Nat) (ws : List Word) : Mem × Ctl :=
  chiebReply r.1 (r.2.bump (F.MGT_CNT_count 0) 1) t st ws

/-- A row of opcode `op` completes: where `ok` holds of the request and the state, it has effect `eff` and is answered OK with words `ws`. -/
def ChiebRuns (row : ChiebSrc → Instr) (op : Nat) (ok : Taken → Ctl → Prop) (ws : Taken → Mem → Ctl → List Word)
    (eff : Taken → Mem → Ctl → Mem × Ctl) : Prop :=
  ∀ (s : State) (src : ChiebSrc) (t : Taken) (m : Mem) (c : Ctl), ChiebServed op src s t m c → ok t c →
    exec (row src) s = .next (s.withBoth (chiebDone t (eff t m c) Cs.ok (ws t m c)))

/-- A row of a long opcode completes: where `ok` holds and handle `h` is the lowest free one, it starts under `h` with effect `eff` and is answered
PENDING with `h` (R387). -/
def ChiebStarts (row : ChiebSrc → Instr) (op : Nat) (ok : Taken → Ctl → Prop) (eff : Nat → Taken → Mem → Ctl → Mem × Ctl) : Prop :=
  ∀ (s : State) (src : ChiebSrc) (t : Taken) (m : Mem) (c : Ctl) (h : Nat), ChiebServed op src s t m c → ok t c → c.handleFree = some h →
    exec (row src) s = .next (s.withBoth (chiebDone t (eff h t m (c.handleStart h op)) Cs.pending [wd h]))

/-- Every register but those at the offsets listed reads the same in both. -/
def RegsBut (offs : List Nat) (c d : Ctl) : Prop := ∀ o, o ∉ offs → d.rd o = c.rd o

/-- Every register outside the windows listed, each from its first address to the one past its last (Table 19.1), reads the same in both. -/
def RegsWithin (ws : List (Nat × Nat)) (c d : Ctl) : Prop := ∀ o, (∀ w ∈ ws, o < w.1 ∨ w.2 ≤ o) → d.rd o = c.rd o

/-- The window of one register. -/
def regAt (o : Nat) : Nat × Nat := (o, o + 4)

/-- A row's frame: its next state keeps every memory and the queue, keeps every block that `upd` keeps, and changes no register outside the
windows `ws`; `upd s.c t.c` is `s.c` with the blocks the row may change taken from `t.c`. -/
def Frames (row : Instr) (ws : List (Nat × Nat)) (upd : Ctl → Ctl → Ctl) : Prop :=
  ∀ s t, exec row s = .next t → t.mem = s.mem ∧ t.pending = s.pending ∧ t.c = upd s.c t.c ∧ RegsWithin ws s.c t.c

/-- The frame of an endpoint event (R422): HBM, the Carafe and SRAM, the queue, every block but the endpoint, the mailbox, the sessions over the
endpoint and the DMA channels, and every register outside the MGT and EPT windows stay as they are. -/
def EndpointOnly (row : Instr) : Prop :=
  ∀ s t, exec row s = .next t →
    t.mem = { s.mem with bar2 := t.mem.bar2 } ∧ t.pending = s.pending ∧
    t.c = { s.c with
      regs := t.c.regs, out := t.c.out, fv := t.c.fv, ept := t.c.ept, mgt := t.c.mgt, trust := t.c.trust
      bst := { s.c.bst with chans := t.c.bst.chans } } ∧
    RegsWithin [(0x1600000, 0x1700000), (0x1800000, 0x1900000)] s.c t.c

/-- The rows that may store bytes in some state. Every other row stores nothing in any state. -/
def mayStore : Instr → Bool
  | .imageLoaded .. | .memberWaitExpire | .driveReady .. | .journalReplay .. | .grstNAssert .. | .pwrfailRestart | .railOutOfTolerance ..
  | .modeReqQuiesce .. | .modeReqResume .. | .modeReqReset .. | .modeReqRecovery .. | .modeReqTest .. | .modeReqUnknown .. | .ptpSync ..
  | .ptpFollowUp .. | .scheduledCommitFire | .chiebRequestC1h .. | .stepEnd .. | .tokenArrive .. | .dmaStepMove .. | .dmaStepMoveSwap ..
  | .dqeRead .. | .cipXtsEnc .. | .cipXtsDec .. | .tmpcEncode .. | .tmpdDecode .. | .galEncode .. | .galUpdate .. | .galDecode .. | .crcGen ..
  | .xptPull .. | .carLand .. | .carVoid .. | .carRead .. | .carGather .. | .carIntent .. | .carDone .. | .linkDown .. | .dmaStoppingDone ..
  | .dmaMove .. | .dmaMoveSwap .. | .dmaLoop .. | .dmaWait .. | .dmaWaitSatisfied .. | .dmaWaitTimeout .. | .dmaSignal .. | .dmaLink ..
  | .dmaEnd .. | .dmaInstructionComplete .. | .checkpointTimer .. | .carafeFault .. | .groupInitDone .. | .memberLinkFailTimeout ..
  | .memberResetTimeout .. | .driveCriticalWarning .. | .rbdFailMember .. | .rbdDesignateHotspare .. | .rbdReleaseHotspare ..
  | .rbdUseLabelledDrive .. | .rebuildBrewStart .. | .repairBrewStart .. | .cuppingBrewStart .. | .regrindInitDone | .regrindCopyBrewStart ..
  | .regrindCommit | .regrindAbort | .regrindRetireDone | .keyStatus .. | .skekInstall .. | .keyLoad .. | .keyZeroise .. | .roceReadResponse ..
  | .tcpSegmentReceive .. | .peerNakReceive .. | .peerLaneFail .. | .peerHeartbeat .. | .heartbeatTick | .peerWrite ..
  | .peerConfigAck .. | .peerLeave | .shadowApply | .witnessGrant .. | .drivePermission .. | .takeoverServiceEntry .. | .pairStatus ..
  | .handover .. | .handoverSelfReset | .forcedTakeover .. | .forcedTakeoverWaitEnd .. | .lockstepMismatch .. | .watchdogExpire
  | .hbmStackFailure .. | .clockLoss | .bayDieSelfCheck .. | .seatDeassert .. | .precheckEnd .. | .gateFailTimeout .. | .bayFaultTimerExpire ..
  | .fastTrip .. | .fetTempLimit .. | .bayOffShortCheck .. | .ps2SecondCheck .. | .bayStatus .. | .bayPower .. | .bayPs2Override .. | .bayCal ..
  | .mailboxDoorbell .. | .identify .. | .status .. | .opQuery .. | .regRead .. | .regWrite .. | .regWriteMasked .. | .begin .. | .commit ..
  | .commitAt .. | .rollback .. | .txnStatus .. | .groupStatus .. | .nsCreate .. | .nsDelete .. | .nsMove .. | .nsInfo .. | .hostAdd ..
  | .hostRemove .. | .hostList .. | .subsysNqn .. | .timeStatus .. | .schedList .. | .persistentRegisterWrite .. | .testStatus .. | .engineKat ..
  | .carafeScan .. | .hbmScrub .. | .pcrVerify .. | .netPrbs .. | .drvEq .. | .peerPrbs .. | .hbmMarch .. | .mramMarch .. | .serdesLoop ..
  | .flrDone | .perstSlAssert | .hotReset .. | .endpointLinkDown .. | .completionReceive .. | .completionTimeout .. | .fwStatus ..
  | .fwDownload .. | .fwCommit .. | .fwDiscard .. | .fwReject .. | .spdmRootSet .. | .trialWindowExpire | .securedMessage .. | .telemetrySweep
  | .telSnapshot .. | .telSweep .. | .telSamples .. | .registerWrite .. | .railsRemoved
  | .carReserve .. | .hbmInitDone | .cellPoisoned .. | .gateEntryAdvance .. | .pourListAdopt .. | .todBoundary | .sketchDecay
  | .capsuleIntakeResume | .activationImageRunning .. => true
  | _ => false

/-- The bytes outside `n` bytes of memory `sel` from `a` up read the same in both. -/
def StoresOnly (sel : MemSel) (a n : Nat) (m m1 : Mem) : Prop :=
  ∀ r k, (r ≠ sel ∨ k < a ∨ a + n ≤ k) → m1.byte r k = m.byte r k

end Sys2Proof.Machine
end

