-- ==== Sys2Proof/Certificates/Slice0/Obligations.lean ====
section
/-! DEFINITION. The statements about the model: every row completes, what groups of rows leave alone, reset, the memories, and rules of the
spec. -/

open Sys2Proof Sys2Proof.Machine

/-- Rails, straps and the safe stop: FIRST_RAIL_RISE, POWER_ON_RESET_RELEASE, RAILS_REMOVED, PWRFAIL_ACCEPT, PWRFAIL_GLITCH, PWRFAIL_RESTART,
GRST_N_ASSERT and LIFE_RECORD complete with the effect named, from every state in which they act (02_package_and_power.md,
03_modes_and_startup.md). Where the spec leaves a choice, the clauses follow the model's: notes/assumptions 5, 33, 49. -/
def Obligations.PowerRowsComplete : Prop :=
  (∀ s : State, s.c.mode = .off → exec .firstRailRise s = .next (s.withCtl (s.c.set F.GLB_MODE_STAT_mode 1))) ∧
  (∀ (s : State) (slotId testen : Bool), s.c.mode = .reset →
    Completes (.powerOnResetRelease 0xFFF slotId testen) s (fun t =>
      let c1 : Ctl := { s.c with time := Time.reset, power := { s.c.power with slotId := slotId, testen := testen } }
      t.c = ((c1.wr Reg.GLB_MODE_STAT (Reg.resetWord Reg.GLB_MODE_STAT)).setFlag F.GLB_ID_slot slotId).baysKeep true ∧
      t.c.mode = .boot ∧ t.mem = s.mem ∧ t.pending = s.pending)) ∧
  (∀ s : State, s.c.mode ≠ .off →
    Completes .railsRemoved s (fun t => t.c.mode = .off ∧ t.c.rd Reg.GLB_RST_STAT = 0 ∧ t.mem = s.mem.afterReset ∧ t.pending = s.pending)) ∧
  (∀ s : State, s.c.mode ≠ .off → s.c.mode ≠ .reset → s.c.power.stop = none →
    Completes .pwrfailAccept s (fun t =>
      t.c.power.stop = some .pwrfail ∧ t.c.ctlNew.stop = 1 ∧ t.c.halted = true ∧
      (∀ r ∈ t.c.car.recs, r.landed = true → r.durable = true) ∧ t.mem = s.mem ∧ t.pending = s.pending)) ∧
  (∀ (s : State) (ns : Nat), s.c.mode ≠ .off → s.c.mode ≠ .reset → 100 ≤ ns → ns < 2000 →
    exec (.pwrfailGlitch ns) s = .next (s.withCtl (s.c.setFlag F.GLB_PWR_STAT_pwrfail_seen true))) ∧
  (∀ s : State, s.c.power.stop = some .pwrfail →
    Completes .pwrfailRestart s (fun t => t.c.get F.GLB_RST_STAT_cause = 2 ∧ t.mem = s.mem.afterReset ∧ t.pending = s.pending)) ∧
  (∀ (s : State) (ns : Nat), 10000 ≤ ns → s.c.mode ≠ .off → s.c.mode ≠ .reset → s.c.power.stop ≠ some .thermal →
    Completes (.grstNAssert ns) s (fun t => t.c.get F.GLB_RST_STAT_cause = 1 ∧ t.mem = s.mem.afterReset ∧ t.pending = s.pending)) ∧
  (∀ (s : State) (mean : Nat), s.c.mode ≠ .off → s.c.mode ≠ .reset → s.c.power.stop = none →
    Completes (.lifeRecord mean) s (fun t =>
      t.c = ((s.c.reach ((s.c.dt / 14400000000000 + 1) * 14400000000000)).pcrOwn F.GLB_LIFE_HOURS_hours
          ((s.c.get F.GLB_LIFE_HOURS_hours + 4) % 2 ^ 32)).pcrOwn F.GLB_LIFE_TJSUM_tjsum ((s.c.get F.GLB_LIFE_TJSUM_tjsum + 4 * mean) % 2 ^
            32) ∧
      t.mem = s.mem ∧ t.pending = s.pending))

/-- Start-up, Table 3.3: IMAGE_LOADED, HBM_INIT_DONE, CARAFE_SCAN_DONE, PEER_ABSENT_TIMEOUT, STANDBY_ENTER, MEMBER_WAIT_EXPIRE, DRIVE_LINK_TRAINED,
DRIVE_READY, JOURNAL_REPLAY, NETWORK_PORTS_UP, MIRROR_SYNC_ABANDON and SERVICE_ENTRY complete with the effect named, from every state in which
they act (03_modes_and_startup.md). Where the spec leaves a choice, the clauses follow the model's: notes/assumptions 5, 50. -/
def Obligations.StartUpRowsComplete : Prop :=
  (∀ (s : State) (looks : List ImgLook), s.c.mode = .boot → s.c.flag F.GLB_START_STAT_image_ok = false → s.c.power.stop = none →
    exec (.imageLoaded looks) s = .next (s.withBoth (bootChoose s.mem
      (s.c.set F.GLB_PD_STAT_pd_is_on (s.c.get F.GLB_PD_STAT_pd_is_on ||| pdFixed.toNat)) looks))) ∧
  (∀ s : State, s.c.starting = true → s.c.flag F.GLB_START_STAT_hbm_ok = false →
    exec .hbmInitDone s = .next (s.withBoth ({ s.mem with hbm := [], ue := [] },
      (((List.range 24).foldl (fun (c : Ctl) n => c.setFlag (F.GLB_TEMP_valid n) true)
        (((s.c.set F.GLB_PD_STAT_pd_is_on 0xFFFFF).setFlag F.GLB_PD_STAT_busy false).setFlag F.GLB_START_STAT_hbm_ok true)).baysKeep
          true).poolsInit))) ∧
  (∀ s : State, s.c.starting = true → s.c.power.scanned = false →
    Completes (.carafeScanDone false false) s (fun t =>
      t.c.get F.GLB_PWR_STAT_last_stop = s.c.ctlNew.stop % 4 ∧ t.c.get F.GLB_START_STAT_last_role = s.c.ctlNew.role % 4 ∧
      t.c.flag F.GLB_START_STAT_carafe_ok = (!s.c.car.invalid && !s.c.car.failed) ∧ t.c.power.scanned = true ∧ t.mem = s.mem ∧
      t.pending = s.pending)) ∧
  (∀ s : State, s.c.mode = .boot → s.c.starting = true → s.c.pair.hello = none → s.c.power.peerAbsent = false →
    Completes .peerAbsentTimeout s (fun t =>
      t.c.power.peerAbsent = true ∧ t.c.regs = s.c.regs ∧ t.c.pair = s.c.pair ∧ t.mem = s.mem ∧ t.pending = s.pending)) ∧
  (∀ s : State, s.c.mode = .boot → s.c.starting = true → s.c.flag F.GLB_START_STAT_hbm_ok = true → s.c.power.scanned = true →
    (s.c.pair.hello.isSome || s.c.power.peerAbsent) = true →
    ((s.c.setMode .standby).setFlag F.GLB_MODE_STAT_busy false).startCase = .wait →
    Completes .standbyEnter s (fun t =>
      let c1 := (s.c.setMode .standby).setFlag F.GLB_MODE_STAT_busy false
      t.c = { c1 with pair := { c1.pair with waits := true } } ∧ t.c.mode = .standby ∧ t.mem = s.mem ∧ t.pending = s.pending)) ∧
  (∀ s : State, s.c.mode = .boot → s.c.starting = true → s.c.flag F.GLB_START_STAT_hbm_ok = true → s.c.power.scanned = true →
    (s.c.pair.hello.isSome || s.c.power.peerAbsent) = true →
    ((s.c.setMode .standby).setFlag F.GLB_MODE_STAT_busy false).startCase = .request →
    exec .standbyEnter s = .next (s.withCtl ((s.c.setMode .standby).setFlag F.GLB_MODE_STAT_busy false).startRequest)) ∧
  (∀ s : State, s.c.mode = .boot → s.c.starting = true → s.c.flag F.GLB_START_STAT_hbm_ok = true → s.c.power.scanned = true →
    (s.c.pair.hello.isSome || s.c.power.peerAbsent) = true →
    ((s.c.setMode .standby).setFlag F.GLB_MODE_STAT_busy false).startCase = .join →
    exec .standbyEnter s = .next (s.withCtl ((s.c.setMode .standby).setFlag F.GLB_MODE_STAT_busy false).joinSync)) ∧
  (∀ s : State, s.c.lease = true → s.c.mode = .standby → s.c.pair.take = none → s.c.flag F.GLB_START_STAT_members_ready = false →
    s.c.halted = false →
    Completes .memberWaitExpire s (fun t =>
      let c0 := match (s.c.membersDue.map s.c.memberDeadline).min? with | some x => s.c.reach x | none => s.c
      let r := (s.c.membersDue.filter (fun b => decide (s.c.memberDeadline b ≤ c0.dt))).foldl (fun (a : Mem × Ctl) b => memberMissing a.1
        a.2 b)
        (s.mem, c0)
      t.mem = r.1 ∧ t.c = (r.2.membersNote).reassess ∧ t.pending = s.pending)) ∧
  (∀ (s : State) (bay : Fin 24) (lanes : Nat) (switch : Bool), s.c.portRuns bay = true →
    Completes (.driveLinkTrained bay lanes switch) s (fun t =>
      Tab.at? t.c.rbd.ports bay = some (decide (4 ≤ lanes) && !switch) ∧
      t.c.get (F.BAY_CH_STAT_usable bay) = (if s.c.chSt bay = Ch.latched then 4 else if s.c.seat bay = false then 1
        else if s.c.chSt bay ≠ Ch.on then 3 else if 4 ≤ lanes ∧ switch = false then 0 else 2) ∧
      Tab.at? t.c.rbd.downAt bay = none ∧ t.mem = s.mem ∧ t.pending = s.pending)) ∧
  (∀ (s : State) (bay : Fin 24) (cap : Nat) (meta16 meta0 : Bool) (label : Option DriveLabel) (states : List (Bool × Nat)) (c1 : Ctl),
    c1 = { s.c with rbd := { s.c.rbd with
      drives := Tab.put s.c.rbd.drives bay ⟨true, cap, meta16, meta0, label, states, 0⟩, resetAt := Tab.del s.c.rbd.resetAt bay } } →
    s.c.portRuns bay = true → Tab.at? s.c.rbd.ports bay = some true → c1.posOfBay bay = none →
    exec (.driveReady bay cap meta16 meta0 label states) s = .next (s.withCtl c1.pickAll.reassess.memberPower)) ∧
  (∀ (s : State) (groups : List GroupLook) (looks : List CkLook) (bad : List BadLook)
    (ckBad : List (Nat × Bool)), s.c.lease = true → s.c.mode = .standby →
    s.c.flag F.GLB_START_STAT_members_ready = true → s.c.flag F.GLB_START_STAT_replay_done = false →
    Completes (.journalReplay groups looks bad ckBad) s (fun t =>
      let r1 := replayBuild s.mem (s.c.keysRestore.skekDone.ckSpoil ckBad) groups looks
      let r2 := replayBad r1.1 r1.2
      let r3 := replayRedo r2.1 r2.2 bad
      let r4 := replayEnd r3.1 r3.2
      t.mem = r4.1 ∧ t.c = (r4.2.setFlag F.GLB_START_STAT_replay_done true).reassess ∧ t.pending = s.pending)) ∧
  (∀ (s : State) (ports : BitVec 24), s.c.mode.netOk = true → s.c.flag F.GLB_START_STAT_hbm_ok = true →
    s.c.flag F.GLB_START_STAT_net_up = false → s.c.halted = false →
    Completes (.networkPortsUp ports) s (fun t =>
      t.c = ((((List.range 24).filter (fun n => ports.getLsbD n)).foldl Ctl.netRaise s.c).ptpSelect).setFlag F.GLB_START_STAT_net_up true ∧
      t.c.flag F.GLB_START_STAT_net_up = true ∧ t.mem = s.mem ∧ t.pending = s.pending)) ∧
  (∀ s : State, s.c.lease = true → s.c.mode = .standby → s.c.flag F.GLB_START_STAT_replay_done = true → s.c.pair.take = none →
    s.c.flag F.GLB_START_STAT_mirror_synced = false →
    Completes .mirrorSyncAbandon s (fun t =>
      t.c.power.mirrorAbandoned = true ∧ t.c.pair.syncing = false ∧ t.c.flag F.CAR_STAT_mirror = false ∧ t.mem = s.mem ∧
      t.pending = s.pending)) ∧
  (∀ s : State, s.c.lease = true → s.c.mode = .standby → s.c.pair.take = none → s.c.halted = false →
    s.c.flag F.GLB_START_STAT_members_ready = true → s.c.flag F.GLB_START_STAT_replay_done = true → s.c.flag F.GLB_START_STAT_net_up = true
      →
    (s.c.flag F.GLB_START_STAT_peer_found = false ∨ s.c.flag F.GLB_START_STAT_mirror_synced = true ∨ s.c.power.mirrorAbandoned = true) →
    Completes .serviceEntry s (fun t =>
      t.c = (s.c.setMode (if 0 < s.c.get F.GLB_START_STAT_members_missing ∨ s.c.flag F.GLB_START_STAT_peer_found = false ∨
        s.c.power.mirrorAbandoned = true ∨ s.c.deficit = true then .degraded else .active)).psApply ∧
      t.mem = s.mem ∧ t.pending = s.pending)) ∧
  (∀ (s : State) (badA badB : Bool), s.c.starting = true → s.c.power.scanned = false →
    Completes (.carafeScanDone badA badB) s (fun t =>
      let c0 : Ctl := { s.c with power := { s.c.power with
        scanned := true, ctlA := if badA then Power.reset.ctlA else s.c.power.ctlA, ctlB := if badB then Power.reset.ctlB else
          s.c.power.ctlB } }
      t.c.get F.PEER_EPOCH_epoch = c0.ctlNew.epoch % 2 ^ 32 ∧ t.c.ctlNew.stop = 2 ∧ t.c.epoch = c0.ctlNew.epoch ∧
      t.c.flag F.GLB_START_STAT_carafe_ok = (!s.c.car.invalid && !s.c.car.failed && !(badA && badB)) ∧ t.mem = s.mem ∧
      t.pending = s.pending)) ∧
  (∀ (s : State) (bay : Fin 24) (cap : Nat) (meta16 meta0 : Bool) (label : Option DriveLabel) (states : List (Bool × Nat)),
    s.c.portRuns bay = true → Tab.at? s.c.rbd.ports bay ≠ some true →
    exec (.driveReady bay cap meta16 meta0 label states) s = .next (s.withCtl { s.c with rbd := { s.c.rbd with
      drives := Tab.put s.c.rbd.drives bay ⟨true, cap, meta16, meta0, label, states, 0⟩, resetAt := Tab.del s.c.rbd.resetAt bay } }))

/-- Temperatures (02_package_and_power.md, R43): THERMAL_WARNING, THERMAL_THROTTLE_START, THROTTLE_STEP and THERMAL_TRIP complete with the effect
named, from every state in which the sensor reads. Where the spec leaves a choice, the clauses follow the model's: notes/assumptions 5, 49, 66. -/
def Obligations.ThermalRowsComplete : Prop :=
  (∀ (s : State) (sensor : Fin 24) (temp : Fin 1024), s.c.sensorOn sensor = true →
    exec (.thermalWarning sensor temp) s = .next (s.withCtl (s.c.tempRead sensor temp))) ∧
  (∀ (s : State) (sensor : Fin 24) (temp : Fin 1024), s.c.sensorOn sensor = true →
    (s.c.tempRead sensor temp).flag F.GLB_THERM_CFG_throttle_en = true → 580 ≤ (s.c.tempRead sensor temp).hottest.2 →
    exec (.thermalThrottleStart sensor temp) s = .next (s.withCtl ((s.c.tempRead sensor temp).setFlag F.GLB_THERM_STAT_throttle true))) ∧
  (∀ (s : State) (sensor : Fin 24) (temp : Fin 1024), s.c.sensorOn sensor = true →
    (s.c.tempRead sensor temp).flag F.GLB_THERM_STAT_throttle = true →
    exec (.throttleStep sensor temp) s = .next (s.withCtl
      (let c1 := (s.c.tempRead sensor temp).pass 1000000
       (if c1.hottest.2 ≤ 576 then { c1.setFlag F.GLB_THERM_STAT_throttle false with power := { c1.power with issuePct := 100 } }
        else { c1 with power := { c1.power with issuePct := c1.power.issuePct - 10 } } : Ctl).startReady))) ∧
  (∀ (s : State) (sensor : Fin 24) (temp : Fin 1024), s.c.sensorOn sensor = true →
    620 ≤ temp.val → s.c.power.thermN = false →
    exec (.thermalTrip sensor temp) s = .next (s.withCtl
      (({ (s.c.tempRead sensor temp).faultRecord 0x0C 1 sensor with
          power := { ((s.c.tempRead sensor temp).faultRecord 0x0C 1 sensor).power with thermN := true } } : Ctl).safeStop .thermal)))

/-- Power domains and mode requests (02_package_and_power.md, R31 to R34; 03_modes_and_startup.md, R49 to R53): GLB_PD_CTRL_WRITE,
DOMAIN_TRANSITION_DONE, D07_DRAIN_DONE, D07_DRAIN_TIMEOUT, the MODE_REQ rows and QUIESCE_DONE complete with the effect named, from every state in
which they act. Where the spec leaves a choice, the clauses follow the model's: notes/assumptions 5, 15, 16, 49, 65, 76. -/
def Obligations.ModeAndDomainRowsComplete : Prop :=
  (∀ (s : State) (value : Word), s.c.power.stop = none → s.c.bar0Open = true → s.c.flag F.GLB_PD_STAT_busy = false →
    exec (.glbPdCtrlWrite value) s = .next (s.withCtl (s.c.pdAct value))) ∧
  (∀ (s : State) (value : Word), s.c.power.stop = none → s.c.bar0Open = true → s.c.flag F.GLB_PD_STAT_busy = true → s.c.mode.pdOk = true →
    exec (.glbPdCtrlWrite value) s = .next (s.withCtl { s.c with power := { s.c.power with pdHeld := some value } })) ∧
  (∀ (s : State) (d : Nat) (q : List (Nat × Bool)), s.c.power.stop = none → s.c.mode ≠ .off → s.c.mode ≠ .reset → s.c.mode ≠ .boot →
    s.c.power.pdQueue = (d, true) :: q →
    exec .domainTransitionDone s = .next (s.withCtl (s.c.pdUp d).pdNext)) ∧
  (∀ (s : State) (d : Nat) (q : List (Nat × Bool)), s.c.power.stop = none → s.c.mode ≠ .off → s.c.mode ≠ .reset → s.c.mode ≠ .boot →
    s.c.power.pdQueue = (d, false) :: q →
    s.c.bst.drain = [] → s.c.power.drainEnd = none →
    exec .domainTransitionDone s = .next (s.withCtl (s.c.pdDown d).pdNext)) ∧
  (∀ s : State, s.c.power.drainEnd.isSome = true → s.c.stackBFree = true →
    exec .d07DrainDone s = .next (s.withCtl { s.c with power := { s.c.power with drainEnd := none } })) ∧
  (∀ (s : State) (x : Nat), s.c.power.drainEnd = some x → s.c.stackBFree = false → s.c.bitOf F.GLB_PD_CTRL_pd_on 7 = false →
    exec .d07DrainTimeout s = .next (s.withCtl
      (({ s.c.reach x with power := { (s.c.reach x).power with drainEnd := none } } : Ctl).pdRefuse 7 3).pdNext)) ∧
  (∀ (s : State) (x : Nat), s.c.power.drainEnd = some x → s.c.stackBFree = false → s.c.bitOf F.GLB_PD_CTRL_pd_on 7 = true →
    s.c.mode = .idleLow → s.c.get F.HCP_PS_STAT_eff_ps = 3 →
    exec .d07DrainTimeout s = .next (s.withCtl
      ((((({ s.c.reach x with power := { (s.c.reach x).power with drainEnd := none } } : Ctl).setFlag F.HCP_PS_STAT_ps3_refused true).set
        F.HCP_PS_STAT_eff_ps 2).memberPower).pdNext))) ∧
  (∀ (s : State) (confirm : BitVec 16), s.c.power.stop = none → s.c.leaseOver = false → s.c.flag F.GLB_MODE_STAT_busy = false →
    (s.c.mode = .active ∨ s.c.mode = .degraded) →
    exec (.modeReqQuiesce confirm) s = .next (s.withCtl
      ((({ s.c with power := { s.c.power with quiescing := true } } : Ctl).setFlag F.GLB_MODE_STAT_busy true).anaUpdate))) ∧
  (∀ (s : State) (confirm : BitVec 16), s.c.power.stop = none → s.c.leaseOver = false → s.c.flag F.GLB_MODE_STAT_busy = false → s.c.mode =
    .quiesced →
    exec (.modeReqResume confirm) s = .next (s.withCtl (s.c.setMode (if s.c.deficit then .degraded else .active)).psApply)) ∧
  (∀ s : State, s.c.power.stop = none → s.c.mode ≠ .off → s.c.mode ≠ .reset → s.c.leaseOver = false → s.c.flag F.GLB_MODE_STAT_busy = false
    →
    Completes (.modeReqReset 0x5A17) s (fun t =>
      t.c.mode = .reset ∧ t.c.get F.GLB_RST_STAT_cause = 4 ∧ t.mem = s.mem.afterReset ∧ t.pending = s.pending)) ∧
  (∀ s : State, s.c.power.stop = none → s.c.mode ≠ .off → s.c.mode ≠ .reset → s.c.leaseOver = false → s.c.flag F.GLB_MODE_STAT_busy = false
    →
    Completes (.modeReqRecovery 0x5A17) s (fun t =>
      t.c = (toReset s.mem (s.c.pcrOwn F.FWU_STAT_rec_flag 1) 4).2 ∧ t.c.mode = .reset ∧ t.c.get F.GLB_RST_STAT_cause = 4 ∧
      t.mem = s.mem.afterReset ∧ t.pending = s.pending)) ∧
  (∀ s : State, s.c.power.stop = none → s.c.mode = .standby → s.c.leaseOver = false → s.c.flag F.GLB_MODE_STAT_busy = false →
    Completes (.modeReqTest 0x5A17) s (fun t => t.c = s.c.toTest ∧ (s.c.lease = false → t.c.mode = .test) ∧ t.mem = s.mem ∧ t.pending =
      s.pending)) ∧
  (∀ (s : State) (code : Fin 10) (confirm : BitVec 16), s.c.power.stop = none → s.c.mode ≠ .off → s.c.mode ≠ .reset → s.c.leaseOver = false
    →
    exec (.modeReqUnknown code confirm) s = .next (s.withCtl (s.c.set F.GLB_MODE_STAT_req_err 4))) ∧
  (∀ s : State, s.c.power.quiescing = true → s.c.ioBrews = false → s.c.halted = false →
    Completes .quiesceDone s (fun t => t.c.mode = .quiesced ∧ t.c.flag F.GLB_MODE_STAT_busy = false ∧ t.c.power.quiescing = false ∧
      t.mem = s.mem ∧ t.pending = s.pending)) ∧
  (∀ (s : State) (x : Nat), s.c.power.drainEnd = some x → s.c.stackBFree = false → s.c.bitOf F.GLB_PD_CTRL_pd_on 7 = true →
    ¬(s.c.mode = .idleLow ∧ s.c.get F.HCP_PS_STAT_eff_ps = 3) →
    exec .d07DrainTimeout s = .next (s.withCtl
      ({ s.c.reach x with power := { (s.c.reach x).power with drainEnd := none } } : Ctl).pdNext)) ∧
  (∀ (s : State) (confirm : BitVec 16), s.c.power.stop = none → s.c.leaseOver = false → s.c.flag F.GLB_MODE_STAT_busy = false → s.c.mode =
    .idleLow →
    exec (.modeReqQuiesce confirm) s = .next (s.withCtl
      (let c1 := (s.c.setMode s.c.serveMode).pdReconcile
       (({ c1 with power := { c1.power with quiescing := true } } : Ctl).setFlag F.GLB_MODE_STAT_busy true).anaUpdate))) ∧
  (∀ (s : State) (confirm : BitVec 16), s.c.power.stop = none → s.c.mode ≠ .off → s.c.mode ≠ .reset → s.c.leaseOver = true →
    exec (.modeReqQuiesce confirm) s = .next (s.withCtl (s.c.fence.reqRefuse 1)) ∧
    exec (.modeReqResume confirm) s = .next (s.withCtl (s.c.fence.reqRefuse 1)) ∧
    exec (.modeReqReset confirm) s = .next (s.withCtl (s.c.fence.reqRefuse 1)) ∧
    exec (.modeReqRecovery confirm) s = .next (s.withCtl (s.c.fence.reqRefuse 1)) ∧
    exec (.modeReqTest confirm) s = .next (s.withCtl (s.c.fence.reqRefuse 1)))

/-- Network time (04_network_time.md): the PTP rows, the sync and sync-lost timeouts, TIM_SYNC_LOST_WRITE, the two reference inputs, TOD_BOUNDARY and
SCHEDULED_COMMIT_FIRE complete with the effect named, from every state in which they act. Where the spec leaves a choice, the clauses follow the
model's: notes/assumptions 5, 40, 67. -/
def Obligations.TimeRowsComplete : Prop :=
  (∀ (s : State) (np : Fin 24) (domain : Nat) (ether : Bool) (identity seq : Nat) (logInt origin corr peer : Int) (dtNs : Nat),
    (s.c.pass dtNs).ptpFrom np domain ether identity = true → -7 ≤ logInt → logInt ≤ 1 →
    Completes (.ptpSync np domain ether identity seq true logInt origin corr peer dtNs) s (fun t =>
      t.c.time = { (s.c.pass dtNs).time with wait := some ⟨np, seq, (s.c.pass dtNs).dntNs, corr⟩ } ∧ t.c.regs = s.c.regs ∧ t.mem = s.mem ∧
      t.pending = s.pending)) ∧
  (∀ (s : State) (np : Fin 24) (domain : Nat) (ether : Bool) (identity seq : Nat) (logInt origin corr peer : Int) (dtNs : Nat),
    (s.c.pass dtNs).ptpFrom np domain ether identity = true → -7 ≤ logInt → logInt ≤ 1 → s.c.get F.TIM_PTP_CFG_profile ≠ 2 →
    exec (.ptpSync np domain ether identity seq false logInt origin corr peer dtNs) s = .next (s.withBoth
      (ptpUse s.mem (s.c.pass dtNs) np (s.c.pass dtNs).dntNs origin corr peer))) ∧
  (∀ (s : State) (np : Fin 24) (domain : Nat) (ether : Bool) (identity seq : Nat) (origin corr peer corr0 : Int) (rx : Nat),
    s.c.time.wait = some ⟨np.val, seq, rx, corr0⟩ → s.c.ptpFrom np domain ether identity = true →
    exec (.ptpFollowUp np domain ether identity seq origin corr peer) s = .next (s.withBoth (ptpUse s.mem s.c np rx origin (corr0 + corr)
      peer))) ∧
  (∀ (s : State) (np : Fin 24) (domain : Nat) (ether : Bool) (prio1 cls accuracy variance prio2 identity hops : Nat) (utc : Int),
    s.c.ptpHears np domain ether = true →
    Tab.at? s.c.time.announces np = none →
    exec (.ptpAnnounce np domain ether prio1 cls accuracy variance prio2 identity hops utc) s = .next (s.withCtl
      (({ s.c with time := { s.c.time with
          announces := Tab.put s.c.time.announces np ⟨prio1, cls, accuracy, variance, prio2, identity, hops, utc, s.c.dt⟩
          utc := utc } } : Ctl).ptpSelect))) ∧
  (∀ (s : State) (np : Fin 24) (domain : Nat) (ether : Bool) (received corr t1 t2 t3 : Int), s.c.ptpHears np domain ether = true → s.c.get
    F.TIM_PTP_CFG_profile ≠ 2 →
    s.c.ptpPort = some np.val → s.c.time.lastSync = some (t1, t2) → s.c.time.delayReq = some t3 →
    exec (.ptpDelayResp np domain ether received corr) s = .next (s.withCtl
      { s.c with time := { s.c.time with pathDelay := ((t2 - t1) + (received - t3 - corr)) / 2, delayReq := none } })) ∧
  (∀ (s : State) (np : Fin 24) (domain : Nat) (ether : Bool), s.c.get F.TIM_PTP_CFG_profile = 2 →
    s.c.ptpHears np domain ether = true → exec (.ptpPdelayReq np domain ether) s = .next (s.withCtl (s.c.emit (.pdelayResp np)))) ∧
  (∀ (s : State) (np : Fin 24),
    exec (.announceTimeout np) s = .next (s.withCtl
      ({ s.c with time := { s.c.time with announces := Tab.del s.c.time.announces np } } : Ctl).ptpSelect)) ∧
  (∀ s : State, s.c.sync = Sync.acquiring ∨ s.c.sync = Sync.locked →
    Completes .syncTimeout s (fun t => t.c.sync = Sync.holdover ∧ t.c.unsync = false ∧ t.c.time.lostNs = 0 ∧ t.c.time.lostAt = s.c.dt ∧
      t.mem = s.mem ∧ t.pending = s.pending)) ∧
  (∀ s : State, s.c.sync = Sync.holdover → s.c.ppsHolds = false →
    exec .syncLostExpire s = .next (s.withCtl (((s.c.reach (s.c.dt + (s.c.lostLimit - s.c.lostNow))).lostCount).enterUnsync))) ∧
  (∀ (s : State) (limit : Fin 4096), s.c.bar0Open = true → 1 ≤ limit.val → limit.val ≤ 3600 → s.c.sync ≠ Sync.holdover →
    Completes (.timSyncLostWrite limit) s (fun t => t.c = s.c.set F.TIM_SYNC_LOST_limit_s limit ∧ t.c.get F.TIM_SYNC_LOST_limit_s = limit ∧
      t.mem = s.mem ∧ t.pending = s.pending)) ∧
  (∀ (s : State) (dtNs : Nat), s.c.flag F.TIM_REF_CFG_pps_en = true → (s.c.reach dtNs).lostCount.ppsPhase ≤ 65536000 →
    Completes (.ppsEdge dtNs) s (fun t => t.c.time.ppsGood = true ∧ t.c.time.dnt = (s.c.reach dtNs).lostCount.nearSecond * 65536 ∧
      t.c.flag F.TIM_SYNC_STAT_pps_ok = true ∧ t.mem = s.mem ∧ t.pending = s.pending)) ∧
  (∀ (s : State) (dtNs : Nat), s.c.flag F.TIM_REF_CFG_pps_en = true → 65536000 < (s.c.reach dtNs).lostCount.ppsPhase →
    Completes (.ppsEdge dtNs) s (fun t => t.c.time.ppsGood = false ∧ t.c.flag F.TIM_SYNC_STAT_pps_ok = false ∧
      t.c.time.dnt = (s.c.reach dtNs).time.dnt ∧ t.c.get F.TIM_SYNC_STAT_pps_bad = min (s.c.get F.TIM_SYNC_STAT_pps_bad + 1)
        F.TIM_SYNC_STAT_pps_bad.max ∧
      t.mem = s.mem ∧ t.pending = s.pending)) ∧
  (∀ s : State, Completes .ref10mOutOfTolerance s (fun t => t.c.time = { s.c.time with refGood := false } ∧
    t.c.flag F.TIM_SYNC_STAT_ref_ok = false ∧ RegsBut [Reg.TIM_SYNC_STAT] s.c t.c ∧ t.mem = s.mem ∧ t.pending = s.pending)) ∧
  (∀ s : State, Completes .ref10mInWithinTolerance s (fun t => t.c.time = { s.c.time with refGood := true } ∧
    t.c.flag F.TIM_SYNC_STAT_ref_ok = s.c.flag F.TIM_REF_CFG_ref10m_en ∧ RegsBut [Reg.TIM_SYNC_STAT] s.c t.c ∧ t.mem = s.mem ∧
    t.pending = s.pending)) ∧
  (∀ s : State, s.c.dntDue 3 (s.c.todNext s.c.dntNs) = [] →
    exec .todBoundary s = .next (s.withCtl ((s.c.reachDnt (s.c.todNext s.c.dntNs)).todFire (s.c.todNext s.c.dntNs)))) ∧
  (∀ s : State, exec .todBoundary s = .next (s.withBoth
    (dntRow 3 (s.c.todNext s.c.dntNs) (fun m c => (m, c.todFire (s.c.todNext s.c.dntNs))) s.mem s.c))) ∧
  (∀ (s : State) (e : Sched), schedFirst (s.c.scheds [2]) = some e → s.c.committing = false → (s.c.reachDnt e.time).unsync = false →
    exec .scheduledCommitFire s = .next (s.withBoth (schedFire s.mem (s.c.reachDnt e.time) e)))

/-- Connect, properties, Disconnect, keep-alive, Abort and unknown opcodes (05_host_command_path.md, R77 to R84, R88, R103, R106): each completes with
the effect named and its completion capsule, for a capsule that is served. Where the spec leaves a choice, the clauses follow the model's:
notes/assumptions 21, 47, 68. -/
def Obligations.AdminQueueRowsComplete : Prop :=
  (∀ (s : State) (x : ConnectCmd) (h : HostEntry), s.c.ioOpen x.conn = true → s.c.mode ≠ .activating → s.c.connAssoc x.conn = none →
    x.recfmt = 0 → x.subNqn ≠ discoveryNqn → x.subNqn = s.c.mgt.nqn → x.qid = 0 → x.cntlid = 0xFFFF → x.sqsize = 31 → 1000 ≤ x.kato →
    x.kato ≤ 600000 → s.c.hostAdmitted x.hostNqn ((s.c.conn? x.conn).any (·.tcp)) ((s.c.conn? x.conn).any (·.tls)) = some h →
    exec (.nvmeConnectAdmin x) s = .next (s.withCtl (s.c.assocBegin x h.tenant false))) ∧
  (∀ (s : State) (x : ConnectCmd) (k : Nat) (a : Assoc), s.c.ioOpen x.conn = true → s.c.mode ≠ .activating →
    s.c.connAssoc x.conn = none → x.recfmt = 0 → x.subNqn = s.c.mgt.nqn →
    s.c.host.assocs.find? (fun p => s.c.cntlid p.1 == x.cntlid && !p.2.ending && !p.2.discovery && p.2.hostNqn == x.hostNqn) = some (k, a) →
    1 ≤ x.qid → x.qid ≤ a.maxQid → s.c.host.queues.any (fun q => q.2.assoc == k && q.2.qid == x.qid) = false →
    1 ≤ x.sqsize → x.sqsize ≤ 4095 → s.c.host.queues.length < 262144 →
    exec (.nvmeConnectIo x) s = .next (s.withCtl (s.c.queueBegin x k a ((s.c.conn? x.conn).any (·.tcp))))) ∧
  (∀ (s : State) (conn : Nat) (n : Conn), s.c.conn? conn = some n → n.used = false →
    exec (.connectTimeout conn) s = .next (s.withCtl (((s.c.reach (n.since + 10000000000)).emit (.connClose conn)).connDrop conn))) ∧
  (∀ (s : State) (x : AdminCmd) (k tag : Nat) (a : Assoc), AdminServed s.c (AdminOp.propertyGet.on x) k tag a → x.cdw11 = 0x1C →
    exec (.nvmePropertyGet x) s = .next (s.withCtl
      ((s.c.begun (AdminOp.propertyGet.on x) k tag a).adminEnd x (a.alive s.c.dt) St.ok a.csts 0))) ∧
  (∀ (s : State) (x : AdminCmd) (k tag : Nat) (a : Assoc), AdminServed s.c (AdminOp.propertyGet.on x) k tag a → x.cdw11 = 0x00 →
    exec (.nvmePropertyGet x) s = .next (s.withCtl
      ((s.c.begun (AdminOp.propertyGet.on x) k tag a).adminEnd x (a.alive s.c.dt) St.ok (4095 + 2 ^ 16 + 2 ^ 24) 32))) ∧
  (∀ (s : State) (x : AdminCmd) (k tag : Nat) (a : Assoc), AdminServed s.c (AdminOp.propertySet.on x) k tag a → x.cdw11 = 0x14 →
    ccEn a.cc = false → ccEn x.cdw12 = true → ccShn x.cdw12 = 0 →
    exec (.propertySetCcEnSet x) s = .next (s.withCtl
      ((((s.c.begun (AdminOp.propertySet.on x) k tag a).setAssoc k { a.alive s.c.dt with cc := x.cdw12 }).adminEnd x (a.alive s.c.dt) St.ok
        0
        0).onAssoc k (fun b => { b with rdy := true, shst := 0 })))) ∧
  (∀ (s : State) (x : AdminCmd) (k tag : Nat) (a : Assoc), AdminServed s.c (AdminOp.propertySet.on x) k tag a → x.cdw11 = 0x14 →
    ccEn a.cc = true → ccEn x.cdw12 = false →
    exec (.propertySetCcEnClear x) s = .next (s.withCtl
      ((((s.c.begun (AdminOp.propertySet.on x) k tag a).setAssoc k { a.alive s.c.dt with cc := x.cdw12 }).adminEnd x (a.alive s.c.dt) St.ok
        0
        0).ctlrReset k))) ∧
  (∀ (s : State) (x : AdminCmd) (k tag : Nat) (a : Assoc), AdminServed s.c (AdminOp.propertySet.on x) k tag a → x.cdw11 = 0x14 →
    ccEn a.cc = ccEn x.cdw12 → ccShn x.cdw12 ≠ 0 → a.shst = 0 →
    exec (.propertySetShutdown x) s = .next (s.withCtl
      ((((s.c.begun (AdminOp.propertySet.on x) k tag a).setAssoc k { a.alive s.c.dt with cc := x.cdw12 }).adminEnd x (a.alive s.c.dt) St.ok
        0
        0).shutdownBegin k))) ∧
  (∀ (s : State) (k : Fin 4096) (a : Assoc), s.c.assoc? k = some a → a.shst = 1 → a.ending = false → s.c.halted = false →
    s.c.shutdownBusy k = false →
    exec (.shutdownComplete k) s = .next (s.withCtl (s.c.onAssoc k (fun a => { a with shst := 2 })))) ∧
  (∀ (s : State) (k : Fin 4096) (a : Assoc), s.c.assoc? k = some a → a.shst = 1 → a.ending = false → s.c.halted = false →
    s.c.shutdownBusy k = true →
    exec (.shutdownComplete k) s = .next (s.withCtl
      (((s.c.reach (a.shAt + 100000000)).ctlrDiscard k (fun t => !t.adm.any (fun x => x.op == .asyncEvent))).onAssoc k
        (fun a => { a with shst := 2 })))) ∧
  (∀ (s : State) (conn cid tag : Nat) (q : HostQueue), s.c.ioOpen conn = true → s.c.openQueue conn = some q → s.c.fetchStopped = false →
    s.c.mode ≠ .activating → s.c.mustWait q.assoc conn = false → s.c.freeTag = some tag → s.c.cidUsed q.assoc q.qid cid = false →
    q.ordered = false → s.c.host.tags.any (fun p => p.2.state == .waiting || p.2.state == .aborted) = false →
    exec (.nvmeDisconnect conn cid) s = .next (s.withCtl
      (let e : TagE := ⟨.waiting, .disconnect, q.assoc, q.qid, cid, some (IoCmd.plain conn cid), false, s.c.host.capSeq, false, none⟩
       let c1 := (s.c.setTag tag e).tev .hcp 0 0 (s.c.assocTenant q.assoc) none 1
       (({ c1 with host := { c1.host with capSeq := c1.host.capSeq + 1 } } : Ctl).freeTagE tag).queueEnd e (IoCmd.plain conn cid)))) ∧
  (∀ (s : State) (x : AdminCmd) (k tag : Nat) (a : Assoc), AdminServed s.c (AdminOp.keepAlive.on x) k tag a →
    exec (.nvmeKeepAlive x) s = .next (s.withCtl ((s.c.begun (AdminOp.keepAlive.on x) k tag a).adminEnd x (a.alive s.c.dt) St.ok 0 0))) ∧
  (∀ (s : State) (k : Fin 4096) (a : Assoc), s.c.assoc? k = some a → a.ending = false → s.c.halted = false →
    exec (.keepAliveTimeout k) s = .next (s.withCtl
      (((s.c.reach (a.kaStart + 1000000 * a.kato)).bump F.HCP_KATO_STAT_kato_exp 1).assocEnd k))) ∧
  (∀ (s : State) (conn cid k tag : Nat) (a : Assoc), AdminServed s.c (AdminOp.invalid.plain conn cid) k tag a →
    exec (.invalidCommandOpcode conn cid) s = .next (s.withCtl
      ((s.c.begun (AdminOp.invalid.plain conn cid) k tag a).complete conn cid (some a.tenant) St.badOpcode 0 0))) ∧
  (∀ (s : State) (x : AdminCmd) (k tag n : Nat) (a : Assoc) (e : TagE), AdminServed s.c (AdminOp.abort.on x) k tag a →
    getBits x.cdw10 15 0 ≠ 0 → s.c.tagOf k (getBits x.cdw10 15 0) (getBits x.cdw10 31 16) = some (n, e) → e.state = .completing →
    exec (.nvmeAbort x) s = .next (s.withCtl
      (((s.c.begun (AdminOp.abort.on x) k tag a).bump F.HCP_ABORT_STAT_cpl_won 1).adminEnd x (a.alive s.c.dt) St.ok 1 0))) ∧
  (∀ (s : State) (x : AdminCmd) (k tag n : Nat) (a : Assoc) (e : TagE), AdminServed s.c (AdminOp.abort.on x) k tag a →
    getBits x.cdw10 15 0 ≠ 0 → s.c.tagOf k (getBits x.cdw10 15 0) (getBits x.cdw10 31 16) = some (n, e) →
    (e.state = .waiting ∨ e.state = .running) →
    exec (.nvmeAbort x) s = .next (s.withCtl
      ((((((s.c.begun (AdminOp.abort.on x) k tag a).tagTo n .aborted).bump F.HCP_ABORT_STAT_abort_won 1).tev .hcp 7 0 (some a.tenant) none
        1).adminEnd x (a.alive s.c.dt) St.ok 0 0).startReady))) ∧
  (∀ (s : State) (x : ConnectCmd), s.c.ioOpen x.conn = true → s.c.mode ≠ .activating → s.c.connAssoc x.conn = none → x.recfmt = 0 →
    x.subNqn = discoveryNqn → x.qid = 0 → x.cntlid = 0xFFFF → x.sqsize = 31 → 1000 ≤ x.kato → x.kato ≤ 600000 →
    exec (.nvmeConnectAdmin x) s = .next (s.withCtl (s.c.assocBegin x 0xFFF true)))

/-- Features (05_host_command_path.md, R94, R100, R112; 08_read_path_and_crema.md, R184): Get Features and the Set Features rows complete with the
value set and the completion capsule named, for a capsule that is served. Where the spec leaves a choice, the clauses follow the model's:
notes/assumptions 16, 47, 68. -/
def Obligations.FeatureRowsComplete : Prop :=
  (∀ (s : State) (x : AdminCmd) (k tag : Nat) (a : Assoc), AdminServed s.c (AdminOp.getFeatures.on x) k tag a →
    getBits x.cdw10 7 0 = 0x02 → getBits x.cdw10 10 8 = 0 →
    exec (.nvmeGetFeatures x) s = .next (s.withCtl
      ((s.c.begun (AdminOp.getFeatures.on x) k tag a).adminEnd x (a.alive s.c.dt) St.ok a.ps 0))) ∧
  (∀ (s : State) (x : AdminCmd) (k tag : Nat) (a : Assoc), AdminServed s.c (AdminOp.getFeatures.on x) k tag a →
    getBits x.cdw10 7 0 = 0x04 → getBits x.cdw10 10 8 = 0 →
    exec (.nvmeGetFeatures x) s = .next (s.withCtl
      ((s.c.begun (AdminOp.getFeatures.on x) k tag a).adminEnd x (a.alive s.c.dt) St.ok (s.c.get F.GLB_THERM_CFG_warn_c + 273) 0))) ∧
  (∀ (s : State) (x : AdminCmd) (k tag : Nat) (a : Assoc), AdminServed s.c (AdminOp.setFeatures.on x) k tag a →
    getBits x.cdw10 7 0 = 0x02 → getBit x.cdw10 31 = false → getBits x.cdw11 4 0 ≤ 3 → getBits x.cdw11 31 8 = 0 →
    exec (.setFeaturesPowerManagement x) s = .next (s.withCtl
      ((((s.c.begun (AdminOp.setFeatures.on x) k tag a).setAssoc k
        { a.alive s.c.dt with ps := getBits x.cdw11 4 0, idleAt := s.c.dt }).psApply).adminEnd x (a.alive s.c.dt) St.ok 0 0))) ∧
  (∀ (s : State) (x : AdminCmd) (k tag : Nat) (a : Assoc), AdminServed s.c (AdminOp.setFeatures.on x) k tag a →
    getBits x.cdw10 7 0 = 0x07 → getBit x.cdw10 31 = false →
    exec (.setFeaturesNumberOfQueues x) s = .next (s.withCtl
      (let n := (min 1024 (getBits x.cdw11 15 0 + 1), min 1024 (getBits x.cdw11 31 16 + 1))
       ((s.c.begun (AdminOp.setFeatures.on x) k tag a).setAssoc k { a.alive s.c.dt with granted := some n }).adminEnd x (a.alive s.c.dt)
         St.ok ((n.1 - 1) + 65536 * (n.2 - 1)) 0))) ∧
  (∀ (s : State) (x : AdminCmd) (k tag : Nat) (a : Assoc), AdminServed s.c (AdminOp.setFeatures.on x) k tag a →
    getBits x.cdw10 7 0 = 0x0B → getBit x.cdw10 31 = false →
    exec (.setFeaturesAsyncEventConfig x) s = .next (s.withCtl
      (((s.c.begun (AdminOp.setFeatures.on x) k tag a).setAssoc k { a.alive s.c.dt with aecfg := x.cdw11 }).adminEnd x (a.alive s.c.dt)
        St.ok 0 0))) ∧
  (∀ (s : State) (x : AdminCmd) (k tag : Nat) (a : Assoc), AdminServed s.c (AdminOp.setFeatures.on x) k tag a →
    getBits x.cdw10 7 0 = 0x0C → getBit x.cdw10 31 = false → (∀ e ∈ apstEntries x.data, e.1 ≤ 3) → getBits x.cdw11 31 1 = 0 →
    exec (.setFeaturesApst x) s = .next (s.withCtl
      (((s.c.begun (AdminOp.setFeatures.on x) k tag a).setAssoc k
        { a.alive s.c.dt with apstEn := getBit x.cdw11 0, apst := apstEntries x.data }).adminEnd x (a.alive s.c.dt) St.ok 0 0))) ∧
  (∀ (s : State) (x : AdminCmd) (k tag : Nat) (a : Assoc), AdminServed s.c (AdminOp.setFeatures.on x) k tag a →
    getBits x.cdw10 7 0 = 0x0F → getBit x.cdw10 31 = false → 1000 ≤ x.cdw11.toNat → x.cdw11.toNat ≤ 600000 →
    exec (.setFeaturesKeepAliveTimer x) s = .next (s.withCtl
      (((s.c.begun (AdminOp.setFeatures.on x) k tag a).setAssoc k { a.alive s.c.dt with kato := x.cdw11.toNat }).adminEnd x (a.alive s.c.dt)
        St.ok 0 0))) ∧
  (∀ (s : State) (x : AdminCmd) (k tag : Nat) (a : Assoc) (acre : Bool), AdminServed s.c (AdminOp.setFeatures.on x) k tag a →
    getBits x.cdw10 7 0 = 0x16 → getBit x.cdw10 31 = false → x.data = BitVec.ofNat 8 (if acre then 1 else 0) :: List.replicate 511 0 →
    exec (.setFeaturesHostBehavior x) s = .next (s.withCtl
      (((s.c.begun (AdminOp.setFeatures.on x) k tag a).setAssoc k { a.alive s.c.dt with acre := acre }).adminEnd x (a.alive s.c.dt) St.ok 0
        0))) ∧
  (∀ (s : State) (x : AdminCmd) (k tag n : Nat) (a : Assoc) (q : HostQueue), AdminServed s.c (AdminOp.setFeatures.on x) k tag a →
    getBits x.cdw10 7 0 = 0xD1 → getBit x.cdw10 31 = false → s.c.flag F.HCP_CFG_ordered_en = true → getBits x.cdw11 31 17 = 0 →
    s.c.queueBy k (getBits x.cdw11 15 0) = some (n, q) → getBits x.cdw11 15 0 ≠ 0 →
    s.c.host.tags.any (fun p => p.2.kind.host && p.2.assoc == k && p.2.qid == getBits x.cdw11 15 0) = false →
    exec (.setFeaturesOrderedQueues x) s = .next (s.withCtl
      (let c1 := s.c.begun (AdminOp.setFeatures.on x) k tag a
       ({ c1 with host := { c1.host with queues := Tab.put s.c.host.queues n { q with ordered := getBit x.cdw11 16 } } } : Ctl).adminEnd x
         (a.alive s.c.dt) St.ok 0 0))) ∧
  (∀ (s : State) (x : AdminCmd) (k tag : Nat) (a : Assoc), AdminServed s.c (AdminOp.setFeatures.on x) k tag a →
    getBits x.cdw10 7 0 = 0xD3 → getBit x.cdw10 31 = false → s.c.nsAttached x.nsid a.tenant = true → getBits x.cdw11 31 2 = 0 → getBits
      x.cdw11 1 0 ≤ 2 →
    exec (.setFeaturesCremaHints x) s = .next (s.withCtl
      ((((s.c.begun (AdminOp.setFeatures.on x) k tag a).set (F.CRM_NS_CFG_host_mode x.nsid) (getBits x.cdw11 1 0)).setFlag
        (F.CRM_NS_CFG_host_set x.nsid) true).adminEnd x (a.alive s.c.dt) St.ok 0 0))) ∧
  (∀ (s : State) (x : AdminCmd) (k tag : Nat) (a : Assoc), AdminServed s.c (AdminOp.setFeatures.on x) k tag a →
    (getBits x.cdw10 7 0 = 0x04 ∨ getBits x.cdw10 7 0 = 0xD2) → getBit x.cdw10 31 = false →
    exec (.setFeaturesNotChangeable x) s = .next (s.withCtl
      ((s.c.begun (AdminOp.setFeatures.on x) k tag a).adminEnd x (a.alive s.c.dt) St.notChangeable 0 0)))

/-- Events, Identify, log pages, firmware and self-test by NVMe, and Chieb in-band (05_host_command_path.md, R82, R90 to R93, R95, R96, R112): each
completes with the effect named, for a capsule that is served. Where the spec leaves a choice, the clauses follow the model's: notes/assumptions
14, 37, 47, 48, 68, 77. -/
def Obligations.AdminServiceRowsComplete : Prop :=
  (∀ (s : State) (x : AdminCmd) (k tag : Nat) (a : Assoc), AdminServed s.c (AdminOp.asyncEvent.on x) k tag a →
    a.aers.length < 8 → a.events = [] →
    exec (.nvmeAsyncEventRequest x) s = .next (s.withCtl
      ((s.c.begun (AdminOp.asyncEvent.on x) k tag a).setAssoc k { a.alive s.c.dt with aers := a.aers ++ [x.cid] }))) ∧
  (∀ (s : State) (x : AdminCmd) (k tag : Nat) (a : Assoc) (e : AsyncEvent) (es : List AsyncEvent), AdminServed s.c (AdminOp.asyncEvent.on x)
    k tag a →
    a.aers.length < 8 → a.events = e :: es →
    exec (.nvmeAsyncEventRequest x) s = .next (s.withCtl
      (((s.c.begun (AdminOp.asyncEvent.on x) k tag a).setAssoc k
        { a.alive s.c.dt with events := es, masked := if e.maskable then a.masked ++ [e] else a.masked }).adminEnd x (a.alive s.c.dt) St.ok
        e.dw0 0))) ∧
  (∀ (s : State) (x : AdminCmd) (k tag : Nat) (a : Assoc), AdminServed s.c (AdminOp.identify.on x) k tag a →
    getBits x.cdw10 7 0 = 0x01 →
    exec (.nvmeIdentify x) s = .next (s.withCtl
      (((s.c.begun (AdminOp.identify.on x) k tag a).emit (.hostData x.conn x.cid (.bytes ((s.c.begun (AdminOp.identify.on x) k tag
        a).idController k (a.alive s.c.dt))))).adminEnd x (a.alive s.c.dt) St.ok 0 0))) ∧
  (∀ (s : State) (x : AdminCmd) (k tag : Nat) (a : Assoc), AdminServed s.c (AdminOp.identify.on x) k tag a →
    getBits x.cdw10 7 0 = 0x02 → x.nsid ≠ 0xFFFFFFFF →
    exec (.nvmeIdentify x) s = .next (s.withCtl
      (((s.c.begun (AdminOp.identify.on x) k tag a).emit (.hostData x.conn x.cid (.nsList (((s.c.visibleNs a.tenant).filter (fun n => decide
        (x.nsid < n))).take 1024)))).adminEnd x (a.alive s.c.dt) St.ok 0 0))) ∧
  (∀ (s : State) (x : AdminCmd) (k tag free : Nat) (a : Assoc) (p : Page), AdminServed s.c (AdminOp.getLogPage.on x) k tag a →
    getBits x.cdw10 7 0 ≠ 0x70 → (s.c.begun (AdminOp.getLogPage.on x) k tag a).logPage k (a.alive s.c.dt) x = .ok (p, free) →
    x.cdw12 = 0 → x.cdw13 = 0 → getBit x.cdw10 15 = true → 4 * (getBits x.cdw10 31 16 + 65536 * getBits x.cdw11 15 0 + 1) ≤ 2097152 →
    exec (.nvmeGetLogPage x) s = .next (s.withCtl
      ((((s.c.begun (AdminOp.getLogPage.on x) k tag a).tookN free).emit (.hostData x.conn x.cid (.bytes (p.cut 0 (4 * (getBits x.cdw10 31 16
        + 65536 * getBits x.cdw11 15 0 + 1)))))).adminEnd x (a.alive s.c.dt) St.ok 0 0))) ∧
  (∀ (s : State) (x : AdminCmd) (k tag : Nat) (a : Assoc) (c1 : Ctl), AdminServed s.c (AdminOp.fwDownload.on x) k tag a →
    4 * (x.cdw10.toNat + 1) ≤ 2097152 →
    (4 * (x.cdw10.toNat + 1)) % 4096 = 0 → (4 * x.cdw11.toNat) % 4096 = 0 → 4 * x.cdw11.toNat + 4 * (x.cdw10.toNat + 1) ≤ 67108864 →
    x.data.length = 4 * (x.cdw10.toNat + 1) → (s.c.begun (AdminOp.fwDownload.on x) k tag a).stageImage (4 * x.cdw11.toNat) x.data = some c1
      →
    exec (.nvmeFirmwareImageDownload x) s = .next (s.withCtl
      (c1.adminEnd x (a.alive s.c.dt) St.ok 0 0))) ∧
  (∀ (s : State) (x : AdminCmd) (look : ImgLook) (k tag : Nat) (a : Assoc), AdminServed s.c ⟨.fwCommit, x, look⟩ k tag a →
    (s.c.begun ⟨.fwCommit, x, look⟩ k tag a).nvFwRefusal (s.c.fsSlot (getBits x.cdw10 2 0)) (getBits x.cdw10 5 3) look = 0 →
    exec (.nvmeFirmwareCommit x look) s = .next (s.withCtl
      ((s.c.begun ⟨.fwCommit, x, look⟩ k tag a).commitBegin
        ⟨s.c.fsSlot (getBits x.cdw10 2 0), getBits x.cdw10 5 3, .nvme x.conn x.cid k, 0⟩))) ∧
  (∀ (s : State) (x : AdminCmd) (k tag : Nat) (a : Assoc), AdminServed s.c (AdminOp.selfTest.on x) k tag a →
    (getBits x.cdw10 3 0 = 1 ∨ getBits x.cdw10 3 0 = 2) →
    (x.nsid = 0 ∨ x.nsid = 0xFFFFFFFF ∨ s.c.nsAttached x.nsid a.tenant = true) → s.c.host.test = none →
    exec (.nvmeDeviceSelfTest x) s = .next (s.withCtl
      (let c1 := s.c.begun (AdminOp.selfTest.on x) k tag a
       let gs := s.c.testGroups x.nsid
       (({ c1 with host := { c1.host with test := some ⟨k, getBits x.cdw10 3 0 == 2, x.nsid, gs⟩ } } : Ctl).emit
         (.selfTest (getBits x.cdw10 3 0 == 2) gs)).adminEnd x (a.alive s.c.dt) St.ok 0 0))) ∧
  (∀ (s : State) (result : Fin 16) (d : DevTest) (a : Assoc), s.c.halted = false → s.c.mode ≠ .idleLow → s.c.host.test = some d →
    s.c.assoc? d.assoc = some a →
    Completes (.selfTestDone result) s (fun t =>
      t.c.host.test = none ∧
      t.c.assoc? d.assoc = some { a with stLog := ((⟨if d.extended then 2 else 1, result, d.nsid⟩ : SelfTestResult) :: a.stLog).take 20 } ∧
      t.c.regs = s.c.regs ∧ t.mem = s.mem ∧ t.pending = s.pending)) ∧
  (∀ (s : State) (x : AdminCmd) (k tag : Nat) (a : Assoc), AdminServed s.c (AdminOp.chiebRequest.on x) k tag a →
    s.c.flag F.HCP_CFG_inband_en = true → s.c.inband a = true →
    exec (.chiebRequestC1h x) s = .next (s.withBoth (chiebTake s.mem
      ((s.c.begun (AdminOp.chiebRequest.on x) k tag a).setAssoc k { a.alive s.c.dt with chieb := none })
      ⟨1 + k, .inband k, pktOf x.data, false, x.conn, x.cid⟩ x.data true))) ∧
  (∀ (s : State) (x : AdminCmd) (k tag : Nat) (a : Assoc) (bs : List Byte), AdminServed s.c (AdminOp.chiebReply.on x) k tag a →
    s.c.flag F.HCP_CFG_inband_en = true → s.c.inband a = true → a.chieb = some bs →
    exec (.chiebReplyC2h x) s = .next (s.withCtl
      ((((s.c.begun (AdminOp.chiebReply.on x) k tag a).setAssoc k { a.alive s.c.dt with chieb := none }).emit (.hostData x.conn x.cid
        (.bytes bs))).adminEnd x (a.alive s.c.dt) St.ok 0 0))) ∧
  (∀ (s : State) (k : Fin 4096) (a : Assoc), s.c.assoc? k = some a → a.ending = false → a.apstEn = true →
    (a.apst.getD a.ps (0, 0)).2 ≠ 0 → (a.apst.getD a.ps (0, 0)).1 ≠ a.ps → s.c.halted = false → s.c.mode ≠ .degraded →
    s.c.host.tags.any (fun p => p.2.kind.io && p.2.assoc == k.val) = false →
    Completes (.apstIdleTimer k) s (fun t =>
      let c1 := s.c.reach (a.idleAt + 1000000 * (a.apst.getD a.ps (0, 0)).2)
      t.c = (c1.setAssoc k { a with ps := (a.apst.getD a.ps (0, 0)).1, idleAt := c1.dt }).psApply ∧ t.mem = s.mem ∧ t.pending = s.pending))
        ∧
  (∀ (s : State) (x : AdminCmd) (k tag : Nat) (a : Assoc), AdminServed s.c (AdminOp.getLogPage.on x) k tag a →
    getBits x.cdw10 7 0 = 0x70 → a.discovery = true → x.cdw12 = 0 → x.cdw13 = 0 → getBit x.cdw10 15 = true → 4 * (getBits x.cdw10 31 16 +
      65536 * getBits x.cdw11 15 0 + 1) ≤ 2097152 →
    exec (.nvmeGetLogPage x) s = .next (s.withCtl
      ((((s.c.begun (AdminOp.getLogPage.on x) k tag a).tookFree).emit (.hostData x.conn x.cid (.discovery 0 (4 * (getBits x.cdw10 31 16 +
        65536 * getBits x.cdw11 15 0 + 1)) s.c.mgt.nqn (s.c.discoveryList (a.alive s.c.dt))))).adminEnd x (a.alive s.c.dt) St.ok 0 0)))

/-- I/O capsules (05_host_command_path.md, R85 to R89, R105): each I/O row completes by taking a context, its tag WAITING, where its queue is
connected, its CID is free, fetching goes on and a context is there; a capsule kept waiting is taken by CAPSULE_INTAKE_RESUME. Where the spec
leaves a choice, the clauses follow the model's: notes/assumptions 10, 13, 21, 66, 68, 77. -/
def Obligations.IoCapsuleRowsComplete : Prop :=
  (∀ (s : State) (x : IoCmd) (q : HostQueue), s.c.ioOpen x.conn = true → s.c.openQueue x.conn = some q →
    s.c.cidUsed q.assoc q.qid x.cid = false → s.c.fetchStopped = false → s.c.mustWait q.assoc x.conn = false →
    exec (.nvmeRead x) s = .next (s.withCtl (s.c.ioAccept .read x q)) ∧ exec (.nvmeWrite x) s = .next (s.withCtl (s.c.ioAccept .write x q))
      ∧
    exec (.nvmeWriteZeroes x) s = .next (s.withCtl (s.c.ioAccept .writeZeroes x q)) ∧
    exec (.nvmeDatasetManagement x) s = .next (s.withCtl (s.c.ioAccept .dsm x q)) ∧
    exec (.nvmeFlush x) s = .next (s.withCtl (s.c.ioAccept .flush x q))) ∧
  (∀ (s : State) (k j : Nat) (e : IntakeEntry), s.c.halted = false →
    turnNext s.c.host.served ((s.c.host.intake.filter s.c.servable).map (fun e => e.conn)) = some k →
    s.c.host.intake.findIdx? (fun e => e.conn == k) = some j → s.c.host.intake[j]? = some e →
    exec .capsuleIntakeResume s = .next (s.withBoth (intakeServe s.mem
      { s.c with host := { s.c.host with intake := s.c.host.intake.eraseIdx j, served := k } } e))) ∧
  (∀ (s : State) (k j : Nat) (kind : TagKind) (x : IoCmd) (q : HostQueue), s.c.halted = false →
    turnNext s.c.host.served ((s.c.host.intake.filter s.c.servable).map (fun e => e.conn)) = some k →
    s.c.host.intake.findIdx? (fun e => e.conn == k) = some j → s.c.host.intake[j]? = some ⟨k, .io kind x⟩ →
    Tab.at? s.c.host.queues k = some q →
    exec .capsuleIntakeResume s = .next (s.withCtl
      (({ s.c with host := { s.c.host with intake := s.c.host.intake.eraseIdx j, served := k } } : Ctl).ioAccept kind x q)))

/-- Barista's waits, the end of a step, tokens and the step timer (06_barista_and_dma.md, R119, R124, R125, R133): each row completes with the effect
named, from every state in which it acts. Where the spec leaves a choice, the clauses follow the model's: notes/assumptions 5, 23, 61, 69, 78. -/
def Obligations.BrewRowsComplete : Prop :=
  (∀ (s : State) (tag : Nat) (i : Issued), s.c.issuable tag Cls.evt 0x01 = some i → s.c.abortedFresh tag i.brew = false →
    s.c.stepIntact i.brew = true → i.fault (s.c.pickInst tag i.brew i.step) false = none →
    exec (.evtWaitToken tag) s = .next (s.withCtl
      (((s.c.stepIssued tag i).evtWait tag (some i.step.arg2) ((s.c.stepIssued tag i).dt + 1000 * i.step.arg0)).tokenWake tag))) ∧
  (∀ (s : State) (tag : Nat) (i : Issued), s.c.issuable tag Cls.evt 0x02 = some i → s.c.abortedFresh tag i.brew = false →
    s.c.stepIntact i.brew = true → i.fault (s.c.pickInst tag i.brew i.step) false = none →
    exec (.evtDelay tag) s = .next (s.withCtl ((s.c.stepIssued tag i).evtWait tag none ((s.c.stepIssued tag i).dt + i.step.arg0)))) ∧
  (∀ (s : State) (tag step : Nat) (b : Brew) (x : Nat), s.c.brew? tag = some b → b.wait = some (some step, x) →
    exec (.evtWaitTimeout tag) s = .next (s.withCtl (((s.c.reach x).setBrew tag { b with
      wait := none, state := .issued, tokens := [], result := some (0x07, b.tokenCls step s.c, laneOf tag) }).revoke tag))) ∧
  (∀ (s : State) (tag : Nat) (b : Brew) (x : Nat), s.c.brew? tag = some b → b.wait = some (none, x) →
    exec (.evtDelayExpire tag) s = .next (s.withCtl ((s.c.reach x).setBrew tag { b with
      wait := none, state := .issued, result := some (0, Cls.evt, laneOf tag) }))) ∧
  (∀ (s : State) (tag cls inst : Nat) (b : Brew), s.c.brew? tag = some b → b.result = some (0, cls, inst) → s.c.stepIntact b = true →
    b.failing = false → s.c.forcedOut tag b = false → (s.c.brewStep b b.cur).last = false →
    exec (.stepEnd tag) s = .next (s.withCtl (s.c.rejoin tag
      { b.unpoison (s.c.brewStep b b.cur) with retry := 0, cur := (s.c.brewStep b b.cur).next }))) ∧
  (∀ (s : State) (tag cls inst : Nat) (b : Brew), s.c.brew? tag = some b → b.result = some (0, cls, inst) → s.c.stepIntact b = true →
    b.failing = false → s.c.forcedOut tag b = false → (s.c.brewStep b b.cur).last = true →
    exec (.stepEnd tag) s = .next (s.withBoth (brewEnd s.mem (s.c.setBrew tag (b.unpoison (s.c.brewStep b b.cur))) tag
      (b.unpoison (s.c.brewStep b b.cur)) 0))) ∧
  (∀ (s : State) (tag n : Nat) (b : Brew), s.c.brew? tag = some b → (s.c.brewStep b b.cur).eng ≠ Cls.evt →
    (s.c.issuable tag (s.c.brewStep b b.cur).eng (s.c.brewStep b b.cur).op).isSome = true → s.c.abortedFresh tag b = false →
    s.c.stepIntact b = true → s.c.pickInst tag b (s.c.brewStep b b.cur) = some n →
    Completes (.stepTimerExpire tag) s (fun t =>
      let st := s.c.brewStep b b.cur
      let c1 := ((s.c.laneIssue tag b.prio).tev .bst 0 (laneOf tag) none (s.c.ctxOf tag) 1).pass 100000
      let c2 := (c1.engineOff st.eng n).engineDrained st.eng n
      (c2.movable st = true → t.c = (c2.faultRecord 0x04 0 n).rejoin tag { b with fresh := false }) ∧
      (c2.movable st = false → t.c = (c2.faultRecord 0x04 1 n).stepResult tag 0x05 st.eng n) ∧ t.mem = s.mem ∧ t.pending = s.pending)) ∧
  (∀ (s : State) (tag step : Nat) (media : Option Nat) (data : List Byte) (b : Brew) (k : Token), s.c.brew? tag = some b →
    ownArrival (s.c.brewStep b step) = false → b.tokens.find? (fun t => t.step == step && !t.arrived) = some k →
    s.c.moveChan tag k.id = none → k.io = none → k.fate = none →
    exec (.tokenArrive tag step 0 media data) s = .next (s.withBoth (landPieces s.mem k.land data, s.c.tokenPost tag k.id 0))) ∧
  (∀ (s : State) (tag : Nat) (i : Issued) (n : Nat), StepAccepted s.c tag Cls.hcp 0x01 false i n → i.step.arg2 = 0xFFFF →
    exec (.hcpComplete tag) s = .next (s.withBoth (s.mem,
      ((((s.c.stepIssued tag i).hcpComplete tag).takeToken tag i.step (.ok s.mem ((s.c.stepIssued tag i).hcpComplete tag))).stepResult tag 0
        Cls.hcp n).startReady))) ∧
  (∀ tag : Nat, StepRunsThen (.hcpFail tag) tag Cls.hcp 0x02 false (hcpFailAct tag) Ctl.startReady)

/-- The step rows of classes BPM, DMA, DQE, CIP, TMPC, TMPD, GAL and CRC (06_barista_and_dma.md, Table 6.3; 09_layouts_and_write_path.md;
11_tamp_and_cipher.md): a step that is accepted is carried out by its engine, whose status waits for the step boundary. Where the spec leaves a
choice, the clauses follow the model's: notes/assumptions 6, 9, 17, 18, 35, 55, 56, 69, 70, 73, 78. -/
def Obligations.DataStepRowsComplete : Prop :=
  (∀ (tag : Nat) (ue race : Bool), StepRuns (.bpmAlloc tag ue race) tag Cls.bpm 0x01 true (bpmAllocAct tag ue race)) ∧
  (∀ (tag : Nat) (ue : Bool), StepRuns (.bpmRef tag ue) tag Cls.bpm 0x02 true (bpmRefAct tag ue)) ∧
  (∀ (tag : Nat) (ue : Bool), StepRuns (.bpmDrop tag ue) tag Cls.bpm 0x03 true (bpmDropAct tag ue)) ∧
  (∀ (s : State) (tag : Nat) (ue : BitVec 8) (i : Issued) (n : Nat), StepAccepted s.c tag Cls.bpm 0x0F true i n →
    i.brew.tokens.all (fun t => t.arrived) = true →
    exec (.bpmReleaseAll tag ue) s = .next (s.withBoth (stepDone tag Cls.bpm n i (bpmReleaseAct tag ue { i with inst := n } s.mem
      (s.c.stepIssued tag i))))) ∧
  (∀ (tag : Nat) (ue : Bool), StepRuns (.dmaStepMove tag ue) tag Cls.dma 0x01 false (moveAct tag 1 id ue)) ∧
  (∀ (tag : Nat) (ue : Bool), StepRuns (.dmaStepMoveSwap tag ue) tag Cls.dma 0x02 false (fun i =>
    moveAct tag (swapUnit (i.step.arg2 % 4)) (fun bs => swapBytes (i.step.arg2 % 4) (bs.length / swapUnit (i.step.arg2 % 4)) bs) ue i)) ∧
  (∀ (s : State) (tag : Nat) (i : Issued) (n : Nat), StepAccepted s.c tag Cls.dma 0x10 false i n → i.step.tok = true →
    Completes (.dmaStepRun tag) s (fun t =>
      let c1 := (s.c.stepIssued tag i).chanStart n (i.step.arg1 * 2 ^ 32 + i.step.arg0) (some (tag, s.c.tokNext))
      t.c = (c1.takeToken tag i.step (.ok s.mem c1)).stepResult tag 0 Cls.dma n ∧ t.mem = s.mem ∧ t.pending = s.pending)) ∧
  (∀ (s : State) (tag n : Nat) (i : Issued), Tab.at? s.c.car.works tag = none → s.c.issuable tag Cls.dqe 0x01 = some i →
    s.c.abortedFresh tag i.brew = false → s.c.stepIntact i.brew = true → s.c.dqeInst tag false i = some n → i.brew.poisoned i.step = false →
    (i.step.tok && decide (4 ≤ i.brew.tokens.length)) = false →
    exec (.dqeRead tag) s = .next (s.withBoth (stepDone tag Cls.dqe n i (dqeReadAct tag { i with inst := n } s.mem (s.c.stepIssued tag
      i))))) ∧
  (∀ (s : State) (tag n : Nat) (i : Issued), Tab.at? s.c.car.works tag = none → s.c.issuable tag Cls.dqe 0x02 = some i →
    s.c.abortedFresh tag i.brew = false → s.c.stepIntact i.brew = true → s.c.dqeInst tag true i = some n → i.brew.poisoned i.step = false →
    (i.step.tok && decide (4 ≤ i.brew.tokens.length)) = false →
    exec (.dqeWrite tag) s = .next (s.withBoth (stepDone tag Cls.dqe n i (dqeWriteAct tag { i with inst := n } s.mem (s.c.stepIssued tag
      i))))) ∧
  (∀ tag : Nat, StepRuns (.cipXtsEnc tag) tag Cls.cip 0x01 false (xtsAct true tag)) ∧
  (∀ tag : Nat, StepRuns (.cipXtsDec tag) tag Cls.cip 0x02 false (xtsAct false tag)) ∧
  (∀ (s : State) (tag : Nat) (segs : Option (List (List Byte))) (i : Issued) (n : Nat), StepAccepted s.c tag Cls.tmpc 0x01 false i n →
    encodeFits tag segs s.mem s.c i = true →
    exec (.tmpcEncode tag segs) s = .next (s.withBoth (stepDone tag Cls.tmpc n i (tmpcEncodeAct tag segs { i with inst := n } s.mem
      (s.c.stepIssued tag i))))) ∧
  (∀ tag : Nat, StepRuns (.tmpdDecode tag) tag Cls.tmpd 0x01 false (tmpdDecodeAct tag)) ∧
  (∀ tag : Nat, StepRuns (.galEncode tag) tag Cls.gal 0x01 false (galAct tag galEncodeAct)) ∧
  (∀ tag : Nat, StepRuns (.galUpdate tag) tag Cls.gal 0x02 false (galAct tag galUpdateAct)) ∧
  (∀ tag : Nat, StepRuns (.galDecode tag) tag Cls.gal 0x03 false (galAct tag galDecodeAct)) ∧
  (∀ tag : Nat, StepRuns (.crcGen tag) tag Cls.crc 0x01 false (crcGenAct tag)) ∧
  (∀ tag : Nat, StepRuns (.crcChk tag) tag Cls.crc 0x02 false (crcChkAct tag))

/-- The step rows of classes CRM, XPT, CAR, PEER and SWC (06_barista_and_dma.md, Table 6.3; 08_read_path_and_crema.md; 09_layouts_and_write_path.md;
12_network_ports.md; 13_pairing_and_failover.md; 07_switch_core_and_buffers.md): a step that is accepted, and not held, is carried out by its
engine, whose status waits for the step boundary. Where the spec leaves a choice, the clauses follow the model's: notes/assumptions 11, 12, 17,
25, 58, 72, 74, 78, 79. -/
def Obligations.PathStepRowsComplete : Prop :=
  (∀ (s : State) (tag : Nat) (i : Issued) (n gi : Nat) (x : Option Nat) (r : LookupRec), StepAccepted s.c tag Cls.crm 0x01 false i n →
    (s.c.stepIssued tag i).stepGrain tag { i with inst := n } = some (r, gi, x) → (s.c.stepIssued tag i).recGrains r ≤ 4 →
    ((s.c.stepIssued tag i).crmVerdict r.nsid gi).1 = true →
    exec (.crmVerdict tag) s = .next (s.withBoth (stepDone tag Cls.crm n i (.ok s.mem ((s.c.stepIssued tag i).crmVerdict r.nsid gi).2)))) ∧
  (∀ tag : Nat, StepRuns (.crmInsert tag) tag Cls.crm 0x02 false (crmInsertAct tag)) ∧
  (∀ tag : Nat, StepRuns (.crmFill tag) tag Cls.crm 0x03 false (crmFillAct tag)) ∧
  (∀ (s : State) (tag k n : Nat) (i : Issued) (e : CrmEntry) (b : BrewSlot) (c1 : Ctl), StepAccepted s.c tag Cls.crm 0x04 false i n →
    (s.c.stepIssued tag i).fillOf tag = some (k, e) → i.brew.slot? i.step.src = some b →
    (s.c.stepIssued tag i).bufDo b.ptr (.ref 1) crmReq false = (.done, c1) →
    exec (.crmCommit tag) s = .next (s.withBoth (stepDone tag Cls.crm n i (.ok s.mem
      (((c1.setEntry k { e with valid := true, ptr := b.ptr, ref := true }).crmCnt 3 1).tev .crm 2 0 none none 1))))) ∧
  (∀ (s : State) (tag n : Nat) (i : Issued) (r : LookupRec), StepAccepted s.c tag Cls.crm 0x05 false i n →
    (s.c.stepIssued tag i).rec? tag = some r → i.step.arg1 / 2 ^ 31 % 2 = 0 →
    exec (.crmInval tag) s = .next (s.withBoth (stepDone tag Cls.crm n i (.ok s.mem
      ((s.c.stepIssued tag i).invalRange r.nsid r.slba r.nlb))))) ∧
  (∀ tag : Nat, StepRunsThen (.xptPush tag) tag Cls.xpt 0x01 false (xptPushAct tag) (fun c => c.tagSettle tag)) ∧
  (∀ tag : Nat, StepRunsThen (.xptPull tag) tag Cls.xpt 0x02 false (xptPullAct tag) (fun c => c.tagSettle tag)) ∧
  (∀ (s : State) (tag n : Nat) (i : Issued), StepAccepted s.c tag Cls.car 0x01 false i n → reserveHold tag s.mem s.c i = false →
    exec (.carReserve tag) s = .next (s.withBoth (stepDone tag Cls.car n i (carReserveAct tag { i with inst := n } s.mem
      (s.c.stepIssued tag i))))) ∧
  (∀ (s : State) (tag n : Nat) (i : Issued), StepAccepted s.c tag Cls.car 0x02 false i n → s.c.indexFull (s.c.unlanded tag) = false →
    exec (.carIndex tag) s = .next (s.withBoth (stepDone tag Cls.car n i (.ok s.mem
      (((s.c.stepIssued tag i).unlanded tag).foldl (Ctl.indexRec tag) (s.c.stepIssued tag i)).noteRing)))) ∧
  (∀ (s : State) (tag n : Nat) (i : Issued), StepAccepted s.c tag Cls.car 0x03 false i n → s.c.car.failed = false →
    (s.c.ownRecs tag).isEmpty = false →
    exec (.carLand tag) s = .next (s.withBoth (stepDone tag Cls.car n i (carLandAct tag { i with inst := n } s.mem (s.c.stepIssued tag
      i))))) ∧
  (∀ (s : State) (seq : Nat) (r : JRec), s.c.recBy seq = some r → r.landed = true → r.owner = none →
    exec (.carafeHeaderPersistent seq) s = .next (s.withCtl
      (s.c.mapRecs (fun x => if x.seq = seq then { x with durable := true } else x)))) ∧
  (∀ tag : Nat, StepRuns (.carVoid tag) tag Cls.car 0x04 false (fun _ m c => .ok (voidOwn m c tag).1 (voidOwn m c tag).2)) ∧
  (∀ tag fixed : Nat, StepRuns (.carRead tag fixed) tag Cls.car 0x05 false (carReadAct tag fixed)) ∧
  (∀ (s : State) (tag fixed n : Nat) (i : Issued) (w : FlushWork), StepAccepted s.c tag Cls.car 0x06 false i n → s.c.workOf tag i = some w →
    s.c.ringUsed + 70 * s.c.grpDS w.group + 64 ≤ ringLines →
    exec (.carGather tag fixed) s = .next (s.withBoth (stepDone tag Cls.car n i (carGatherAct tag fixed { i with inst := n } s.mem
      (s.c.stepIssued tag i))))) ∧
  (∀ (s : State) (tag n : Nat) (i : Issued) (w : FlushWork), StepAccepted s.c tag Cls.car 0x07 false i n →
    Tab.at? s.c.car.works tag = some w →
    w.intent.isSome = true →
    exec (.carIntent tag) s = .next (s.withBoth (stepDone tag Cls.car n i (carIntentAct tag { i with inst := n } s.mem
      (s.c.stepIssued tag i))))) ∧
  (∀ tag : Nat, StepRuns (.carDone tag) tag Cls.car 0x08 false (carDoneAct tag)) ∧
  (∀ tag : Nat, StepRunsThen (.peerWriteStep tag) tag Cls.peer 0x01 false (peerWriteAct tag) (fun c => c.peerSettled tag)) ∧
  (∀ tag : Nat, StepRunsThen (.peerSyncStep tag) tag Cls.peer 0x02 false (peerSyncAct tag) (fun c => c.peerSettled tag)) ∧
  (∀ tag : Nat, StepRuns (.swcEnq tag) tag Cls.swc 0x01 false (swcEnqAct tag))

/-- Loading and retiring recipes, and disabling and enabling engine instances (06_barista_and_dma.md, R121, R122, R132, R133): each row completes with
the effect named, from every state in which it acts. Where the spec leaves a choice, the clauses follow the model's: notes/assumptions 22, 61, 78. -/
def Obligations.BaristaManagementRowsComplete : Prop :=
  (∀ (s : State) (data : Word), s.c.stepInstalled (s.c.get F.BST_LOAD_ADDR_addr) = false → s.c.bst.loadIdx < 7 →
    Completes (.bstLoadDataWrite data true) s (fun t =>
      t.c.bst = { s.c.bst with
        steps := Tab.put s.c.bst.steps (s.c.get F.BST_LOAD_ADDR_addr)
          (((Tab.getD s.c.bst.steps (s.c.get F.BST_LOAD_ADDR_addr) []) ++ List.replicate 8 0).take 8 |>.set s.c.bst.loadIdx data)
        loadIdx := s.c.bst.loadIdx + 1 } ∧ t.c.regs = s.c.regs ∧ t.mem = s.mem ∧ t.pending = s.pending)) ∧
  (∀ (s : State) (rcp last prio : Nat), s.c.loadCheck rcp (s.c.get F.BST_LOAD_BASE_base) last true = none →
    Completes (.bstInstall rcp last prio true) s (fun t =>
      t.c.bst.dir = dirInstall s.c.bst.dir rcp prio (s.c.get F.BST_LOAD_BASE_base) last
        (dfltFail (s.c.stepRange (s.c.get F.BST_LOAD_BASE_base) last)) ∧
      t.c.get F.BST_LOAD_STAT_err = 0 ∧ t.c.get F.BST_LOAD_STAT_step = 0 ∧ RegsBut [Reg.BST_LOAD_STAT] s.c t.c ∧ t.mem = s.mem ∧
      t.pending = s.pending)) ∧
  (∀ (s : State) (rcp : Nat), s.c.bar0Open = true →
    exec (.bstRetire rcp) s = .next (s.withCtl
      { s.c with bst := { s.c.bst with dir := Tab.upd s.c.bst.dir rcp (fun d => { d with valid := false }) } })) ∧
  (∀ (s : State) (cls inst : Nat), s.c.bar0Open = true → engineControlled cls inst = true → s.c.engineOn cls inst = true →
    exec (.engineDisable cls inst) s = .next (s.withCtl
      { s.c.setEngine cls inst false with
        bst := { (s.c.setEngine cls inst false).bst with drain := (s.c.setEngine cls inst false).bst.drain ++ [engineKey cls inst] } })) ∧
  (∀ (s : State) (cls inst : Nat), s.c.bst.drain.contains (engineKey cls inst) = true → s.c.bst.reEn.contains (engineKey cls inst) = false →
    exec (.engineDisableAck cls inst) s = .next (s.withCtl
      (({ s.c with bst := { s.c.bst with
          drain := s.c.bst.drain.filter (· != engineKey cls inst), reEn := s.c.bst.reEn.filter (· != engineKey cls inst) } } : Ctl).setBitOf
        (F.BST_ENGINE_ACK_ack (8 * cls + inst / 32)) (inst % 32) true))) ∧
  (∀ (s : State) (cls inst : Nat), s.c.bar0Open = true → engineControlled cls inst = true →
    s.c.bitOf F.GLB_PD_STAT_pd_is_on (engineDomain cls inst) = true → s.c.bst.drain.contains (engineKey cls inst) = false →
    exec (.engineEnable cls inst) s = .next (s.withCtl
      ((s.c.setEngine cls inst true).setBitOf (F.BST_ENGINE_ACK_ack (8 * cls + inst / 32)) (inst % 32) false)))

/-- The channel commands and the shadow set (06_barista_and_dma.md, R140, R141): each row completes with the effect named, from every state in which
it acts. Where the spec leaves a choice, the clauses follow the model's: notes/assumptions 51, 70. -/
def Obligations.DmaControlRowsComplete : Prop :=
  (∀ (s : State) (ch : Fin 272), s.c.bar0Open = true → 192 ≤ ch.val → s.c.chState ch = 0 →
    exec (.dmaStart ch) s = .next (s.withCtl
      (s.c.chanStart ch (s.c.get (F.DMA_CH_PROG_HI_addr ch) * 2 ^ 32 + s.c.get (F.DMA_CH_PROG_LO_addr ch)) none))) ∧
  (∀ (s : State) (ch : Fin 272), s.c.bar0Open = true → (s.c.chState ch = 1 ∨ s.c.chState ch = 2) →
    Completes (.dmaStop ch) s (fun t => t.c.chState ch = 3 ∧ t.c = s.c.set (F.DMA_CH_STAT_state ch) 3 ∧ t.mem = s.mem ∧
      t.pending = s.pending)) ∧
  (∀ (s : State) (ch : Fin 272), s.c.bar0Open = true → s.c.chState ch = 4 →
    Completes (.dmaClrErr ch) s (fun t => t.c.chState ch = 0 ∧ t.c = s.c.set (F.DMA_CH_STAT_state ch) 0 ∧ t.mem = s.mem ∧
      t.pending = s.pending)) ∧
  (∀ (s : State) (ch : Fin 272), s.c.bar0Open = true →
    exec (.dmaShadowArm ch false) s = .next (s.withCtl (s.c.setFlag (F.DMA_CH_STAT_shadow_armed ch) true)) ∧
    exec (.dmaShadowArm ch true) s = .next (s.withCtl (s.c.setChan ch { s.c.chan ch with edgeHit := true }))) ∧
  (∀ (s : State) (ch : Fin 272) (v : Word), s.c.bar0Open = true →
    exec (.dmaShadowWrite ch 0 v false) s = .next (s.withCtl (s.c.setChan ch
      { s.c.chan ch with shNext := (s.c.chan ch).shNext / 2 ^ 32 * 2 ^ 32 + v.toNat })) ∧
    exec (.dmaShadowWrite ch 1 v false) s = .next (s.withCtl (s.c.setChan ch
      { s.c.chan ch with shNext := v.toNat * 2 ^ 32 + (s.c.chan ch).shNext % 2 ^ 32 }))) ∧
  (∀ (s : State) (ch : Fin 272) (v : Word), s.c.bar0Open = true → getBits v 7 0 ≠ 0 →
    exec (.dmaShadowWrite ch 2 v false) s = .next (s.withCtl (s.c.setChan ch { s.c.chan ch with shPace := v &&& 0xFFFF00FF }))) ∧
  (∀ (s : State) (ch : Fin 272), s.c.chState ch = 3 → s.c.chBusy ch = false → (s.c.chan ch).flight = [] → (s.c.chan ch).brew = none →
    (dmaFetchOk ch (s.c.chan ch).pc && insOwn (wordAt (dmaFetch (s.c.memView s.mem) (s.c.chan ch).pc) 0)) = false →
    exec (.dmaStoppingDone ch) s = .next (s.withCtl
      (((s.c.setChan ch { s.c.chan ch with wait := none, flight := [], move := none, failed := none }).set (F.DMA_CH_STAT_last_status ch)
        0x0A).toState ch 0)))

/-- The instructions of DMA programs (06_barista_and_dma.md, R135 to R138): each row completes with the effect named, where the channel runs and its
next instruction is that one. Where the spec leaves a choice, the clauses follow the model's: notes/assumptions 31, 51, 70, 78. -/
def Obligations.DmaProgramRowsComplete : Prop :=
  (∀ (s : State) (ch : Fin 272) (ue : Bool) (ws : List Word), InsReady s.mem s.c ch 1 ws →
    exec (.dmaMove ch ue) s = .next (s.withBoth (moveStart ch 1 none ue ws ((s.c.chan ch).pc + 32) s.mem s.c))) ∧
  (∀ (s : State) (ch : Fin 272) (ue : Bool) (ws : List Word), InsReady s.mem s.c ch 2 ws →
    exec (.dmaMoveSwap ch ue) s = .next (s.withBoth
      (moveStart ch (swapUnit (getBits (wordAt ws 0) 21 20)) (some (getBits (wordAt ws 0) 21 20)) ue ws ((s.c.chan ch).pc + 32) s.mem s.c)))
        ∧
  (∀ (s : State) (ch : Fin 272) (ws : List Word), InsReady s.mem s.c ch 3 ws → getBit (wordAt ws 1) 16 = false →
    (s.c.chan ch).ctr0 = some 1 → getBits (wordAt ws 1) 15 0 ≠ 0 → getBits (wordAt ws 2) 7 0 ≠ 0 →
    exec (.dmaLoop ch) s = .next (s.withBoth
      (insEnd s.mem (s.c.setChan ch { s.c.chan ch with ctr0 := none }) ch ws 0 0 ((s.c.chan ch).pc + 32)))) ∧
  (∀ (s : State) (ch : Fin 272) (ws : List Word), InsReady s.mem s.c ch 4 ws → getBits (wordAt ws 1) 7 0 < 64 →
    s.c.waitMet (getBits (wordAt ws 1) 7 0) (getBits (wordAt ws 1) 23 8) 0 = false → (wordAt ws 2) = 0 →
    exec (.dmaWait ch) s = .next (s.withCtl
      ((s.c.setChan ch { s.c.chan ch with wait := some (getBits (wordAt ws 1) 7 0, getBits (wordAt ws 1) 23 8, 0, none) }).toState ch 2))) ∧
  (∀ (s : State) (ch : Fin 272) (ev count k : Nat) (u : Option Nat), s.c.chState ch = 2 → s.c.halted = false →
    (s.c.chan ch).wait = some (ev, count, k, u) → s.c.waitMet ev count k = true →
    exec (.dmaWaitSatisfied ch) s = .next (s.withBoth
      (insEnd s.mem (((s.c.waitTake ev count).setChan ch { s.c.chan ch with wait := none }).toState ch 1) ch
        (dmaFetch (s.c.memView s.mem) (s.c.chan ch).pc) 0 count ((s.c.chan ch).pc + 32)))) ∧
  (∀ (s : State) (ch : Fin 272) (ev count k u : Nat), s.c.chState ch = 2 → s.c.halted = false →
    (s.c.chan ch).wait = some (ev, count, k, some u) → s.c.waitMet ev count k = false →
    exec (.dmaWaitTimeout ch) s = .next (s.withBoth
      (insEnd s.mem (((s.c.reach u).setChan ch { s.c.chan ch with wait := none }).toState ch 1) ch
        (dmaFetch (s.c.memView s.mem) (s.c.chan ch).pc) 0x0B (if ev < 64 then s.c.sem ev else k) ((s.c.chan ch).pc + 32)))) ∧
  (∀ (s : State) (ch : Fin 272) (ws : List Word), InsReady s.mem s.c ch 5 ws → getBits (wordAt ws 1) 7 0 < 64 →
    exec (.dmaSignal ch) s = .next (s.withBoth
      (insEnd s.mem (s.c.setSem (getBits (wordAt ws 1) 7 0) (min 65535 (s.c.sem (getBits (wordAt ws 1) 7 0) + getBits (wordAt ws 1) 23 8)))
        ch ws
        0 0 ((s.c.chan ch).pc + 32)))) ∧
  (∀ (s : State) (ch : Fin 272) (ws : List Word), InsReady s.mem s.c ch 6 ws →
    Completes (.dmaLink ch) s (fun t =>
      let r := insEnd s.mem s.c ch ws 0 0 ((wordAt ws 2).toNat * 2 ^ 32 + (wordAt ws 1).toNat)
      t.c = (r.2.setChan ch { r.2.chan ch with srcOff := 0, dstOff := 0 }).handOver ch ∧ t.mem = r.1 ∧ t.pending = s.pending)) ∧
  (∀ (s : State) (ch : Fin 272) (ws : List Word), InsReady s.mem s.c ch 7 ws → getBit (wordAt ws 1) 0 = false →
    exec (.dmaEnd ch) s = .next (s.withBoth (dmaWriteback s.mem (s.c.chan ch).pc (wordAt ws 0) none 1,
      (((s.c.set (F.DMA_CH_STAT_last_status ch) 1).handOver ch).toState ch 0).chToken ch 0))) ∧
  (∀ (s : State) (ch : Fin 272), (s.c.chState ch = 1 ∨ s.c.chState ch = 2) → s.c.halted = false →
    Completes (.dmaInstructionComplete ch) s (fun t =>
      let x := s.c.chan ch
      let fl := match x.flight.findIdx? (fun i => !i.done && !i.remote) with
        | some i => x.flight.modify i (fun d => { d with done := true })
        | none => x.flight
      let r := flightSettle s.mem (s.c.setChan ch { x with flight := fl }) ch
      t.mem = r.1 ∧ t.c = r.2 ∧ t.pending = s.pending))

/-- The switch core and the buffer manager's management port (07_switch_core_and_buffers.md, R146 to R152, R155 to R163): each row completes with the
effect named, from every state in which it acts. Where the spec leaves a choice, the clauses follow the model's: notes/assumptions 6, 7, 62, 71,
79. -/
def Obligations.SwitchAndBufferRowsComplete : Prop :=
  (∀ (s : State) (np : Fin 24) (pull : Bool) (ptr : Word) (cell0 cells last flow sp : Nat) (ue : Bool) (c1 : Ctl) (e : QEntry),
    s.c.xptEntry np.val pull ptr cell0 cells last flow sp = e → (∀ l, e.link = some l → s.c.linkExpired l = false) →
    s.c.qeUsed < qeTotal → s.c.bufDo ptr (.ref 1) (swReq (s.c.linkPort np.val flow)) ue = (.done, c1) →
    exec (.queueEntryAppend np pull ptr cell0 cells last flow sp ue) s = .next (s.withCtl (c1.qeAppend e))) ∧
  (∀ (s : State) (entry corrected : Nat) (ue : Bool) (e : QEntry), Tab.at? s.c.swc.entries entry = some e → s.c.swRuns = true →
    s.c.qeEligible entry e = true →
    exec (.queueEntrySent entry corrected ue) s = .next (s.withCtl
      ((s.c.cellRun entry ue (s.c.cellsLeft + 1)).bump F.SWC_ERR_STAT_corrected corrected))) ∧
  (∀ (s : State) (words : List Nat),
    Completes (.cellPoisoned (.hbm words)) s (fun t =>
      let c1 := (s.c.bump F.SWC_ERR_STAT_poisoned 1).faultRecord 0x17 1 0
      t.c = { c1 with swc := { c1.swc with
        badMeta := c1.swc.badMeta ++ (words.filter (fun w => decide (w < 2 ^ 23))).flatMap (fun w => [2 * w, 2 * w + 1]) } } ∧ t.mem = {
          s.mem with ue := s.mem.ue ++ words.filter (fun w => !s.mem.ue.contains w) } ∧
      t.pending = s.pending)) ∧
  (∀ (s : State) (link : Fin 49) (cells : Nat) (c1 : Ctl), 24 ≤ link.val → link.val < 48 → s.c.awake = true →
    (s.c.cellsTill link cells).2 = c1 → Tab.at? c1.rbd.ports (link.val - 24) = some true →
    exec (.linkDown link cells) s = .next (s.withCtl
      (({ c1 with rbd := { c1.rbd with
          ports := Tab.put c1.rbd.ports (link.val - 24) false, downAt := Tab.put c1.rbd.downAt (link.val - 24) c1.dt } } : Ctl).linkDown
        link))) ∧
  (∀ (s : State) (link : Fin 49), 24 ≤ link.val → link.val < 48 → s.c.awake = true → Tab.has s.c.rbd.downAt (link.val - 24) = true →
    exec (.linkUp link) s = .next (s.withCtl
      (({ s.c with rbd := { s.c.rbd with
          ports := Tab.put s.c.rbd.ports (link.val - 24) true, downAt := Tab.del s.c.rbd.downAt (link.val - 24) } } : Ctl).linkUp link))) ∧
  (∀ (s : State) (link : Fin 49) (x : Nat), Tab.at? s.c.swc.holds link.val = some x → s.c.flag (F.SWC_LINK_STAT_holding link) = true →
    Completes (.portHoldExpire link) s (fun t =>
      let c1 := s.c.reach (x + s.c.get F.SWC_PORT_HOLD_hold_us * 1000)
      let c2 := { c1 with swc := { c1.swc with holds := Tab.del c1.swc.holds link } }
      t.c = (((c2.setFlag (F.SWC_LINK_STAT_holding link) false).setFlag (F.SWC_LINK_STAT_expired link) true).linkDiscard link).bump
        (F.SWC_FLAP_CNT_expired link) 1 ∧ t.mem = s.mem ∧ t.pending = s.pending)) ∧
  (∀ (s : State) (core : Fin 2) (size : Nat) (noFallback ue race : Bool) (w : Word) (c1 : Ctl), 1 ≤ size → size ≤ 4194304 →
    s.c.alloc size noFallback (coreReq core.val) ue race = (some w, c1) →
    Completes (.bpmMgtAlloc core size noFallback ue race) s (fun t =>
      t.c.rd Reg.BPM_MGT_PTR = w ∧ t.c.get F.BPM_MGT_RESP_status = 0 ∧ t.c.flag F.BPM_MGT_RESP_busy = false ∧ t.c.swc = c1.swc ∧
      t.mem = s.mem ∧ t.pending = s.pending)) ∧
  (∀ (s : State) (core : Fin 2) (ue : Bool), s.c.bufCheck (s.c.rd Reg.BPM_MGT_PTR) (.ref 1) (coreReq core.val) ue = none →
    (s.c.bufAt (ptrAddr (s.c.rd Reg.BPM_MGT_PTR))).refs < 65535 →
    Completes (.bpmMgtRef core ue) s (fun t =>
      let b := s.c.bufAt (ptrAddr (s.c.rd Reg.BPM_MGT_PTR))
      t.c = (s.c.setBuf (ptrAddr (s.c.rd Reg.BPM_MGT_PTR)) { b with refs := b.refs + 1 }).mgtResp 0 ∧
      t.c.get F.BPM_MGT_RESP_status = 0 ∧ t.mem = s.mem ∧ t.pending = s.pending)) ∧
  (∀ (s : State) (core : Fin 2) (ue : Bool), s.c.bufCheck (s.c.rd Reg.BPM_MGT_PTR) .deref (coreReq core.val) ue = none →
    Completes (.bpmMgtDeref core ue) s (fun t =>
      let b := s.c.bufAt (ptrAddr (s.c.rd Reg.BPM_MGT_PTR))
      t.c = (s.c.setBuf (ptrAddr (s.c.rd Reg.BPM_MGT_PTR))
        (if b.state = .released ∧ b.refs = 1 then { b with state := .free, refs := 0 } else { b with refs := b.refs - 1 })).mgtResp 0 ∧
      t.c.get F.BPM_MGT_RESP_status = 0 ∧ t.mem = s.mem ∧ t.pending = s.pending)) ∧
  (∀ (s : State) (core : Fin 2) (ue : Bool), s.c.bufCheck (s.c.rd Reg.BPM_MGT_PTR) .free (coreReq core.val) ue = none →
    Completes (.bpmMgtFree core ue) s (fun t =>
      let b := s.c.bufAt (ptrAddr (s.c.rd Reg.BPM_MGT_PTR))
      t.c = (s.c.setBuf (ptrAddr (s.c.rd Reg.BPM_MGT_PTR))
        (if b.refs = 0 then { b with state := .free } else { b with state := .released })).mgtResp 0 ∧
      t.c.get F.BPM_MGT_RESP_status = 0 ∧ t.mem = s.mem ∧ t.pending = s.pending)) ∧
  (∀ (s : State) (entry corrected : Nat) (ue : Bool) (e : QEntry), s.c.swc.entries = [(entry, e)] → e.cells = 1 → s.c.swRuns = true →
    s.c.qeEligible entry e = true →
    Completes (.queueEntrySent entry corrected ue) s (fun t => t.c.swc.entries = [] ∧ t.mem = s.mem ∧ t.pending = s.pending))

/-- Crema's own rows, the journal's timers and the faults of the Carafe (08_read_path_and_crema.md, R174, R181, R188 to R193;
09_layouts_and_write_path.md, R225, R230): each row completes with the effect named, from every state in which it acts. Where the spec leaves a
choice, the clauses follow the model's: notes/assumptions 11, 12, 58, 62, 72. -/
def Obligations.CremaAndJournalRowsComplete : Prop :=
  (∀ (s : State) (ns : Fin 16384), s.c.bar0Open = true → s.c.flag F.CRM_STAT_sweep = false →
    exec (.crmInvalidateNs ns) s = .next (s.withCtl
      (({ s.c with crm := { s.c.crm with
          nsEp := Tab.put s.c.crm.nsEp ns ((s.c.nsEpoch ns + 1) % 2 ^ 32), sweeps := s.c.crm.sweeps ++ [some ns.val] } } : Ctl).setFlag
        F.CRM_STAT_sweep true))) ∧
  (∀ s : State, s.c.bar0Open = true → s.c.flag F.CRM_STAT_sweep = false →
    exec .crmInvalidateAll s = .next (s.withCtl s.c.invalAll)) ∧
  (∀ s : State, s.c.flag F.CRM_STAT_sweep = true → s.c.crm.held = none →
    Completes .crmSweepDone s (fun t =>
      t.c = (({ s.c with crm := { s.c.crm with sweeps := [], held := none } } : Ctl).entriesDrop
        (fun _ e => e.nsEpoch != s.c.nsEpoch e.nsid)).setFlag
        F.CRM_STAT_sweep false ∧ t.mem = s.mem ∧ t.pending = s.pending)) ∧
  (∀ s : State, s.c.flag F.CRM_STAT_init = true →
    exec .crmInitDone s = .next (s.withCtl
      (let c1 := s.c.crm.entries.foldl (fun c p => c.entryFree p.1 p.2) s.c
       ({ c1 with crm := { c1.crm with entries := [], bktEp := [], recs := [] } } : Ctl).setFlag F.CRM_STAT_init false))) ∧
  (∀ (s : State) (pool : Fin 3), s.c.get (F.CRM_LIMIT_limit (pool.val + 1)) < s.c.get (F.CRM_USE_use (pool.val + 1)) →
    Completes (.crmLimitEvict pool) s (fun t =>
      let p := pool.val + 1
      let x := crmScan s.c (some p) (s.c.poolOrder p)
      let c1 := { s.c.clearRefs x.1 with crm := { (s.c.clearRefs x.1).crm with
        poolHand := Tab.put s.c.crm.poolHand p ((Tab.getD s.c.crm.poolHand p 0 + x.2.2) % 1048576) } }
      (∀ v, x.2.1 = some v → t.c = c1.evict v) ∧ (x.2.1 = none → t.c = c1) ∧ t.mem = s.mem ∧ t.pending = s.pending)) ∧
  (∀ (s : State) (x : Nat), nextInstant s.c.dntNs s.c.crm.lastDecay (s.c.get F.CRM_DECAY_period_s * 1000000000) = x →
    s.c.dntDue 4 x = [] →
    Completes .sketchDecay s (fun t =>
      t.c = (s.c.reachDnt x).decayFire x ∧ t.c.crm.lastDecay = some x ∧
      t.c.crm.sketch = s.c.crm.sketch.map (fun (p : Nat × Nat) => (p.1, p.2 / 2)) ∧ t.mem = s.mem ∧ t.pending = s.pending)) ∧
  (∀ (s : State) (slot : Fin 8192) (x : Nat), (Tab.at? s.c.car.slots slot).bind (·.dead) = some x →
    exec (.gatherDeadlineExpire slot) s = .next (s.withCtl ((s.c.reach x).flushStart slot))) ∧
  (∀ (s : State) (slot : Fin 8192) (g : GSlot) (tag : Nat) (c1 : Ctl), Tab.at? s.c.car.slots slot = some g → s.c.flushDue g = true →
    s.c.bgStart .stripeFlush (Config.recipeOf 5) (devId (s.c.nsOfStripe g.group g.strp)) = .started tag c1 →
    Completes (.flushBrewStart slot) s (fun t =>
      let stage := s.c.get F.RBD_RG_STAT_state != 0 && g.group == s.c.rgStage
      let w : FlushWork := {
        slot := some slot.val, group := g.group, strp := g.strp, recs := s.c.slotSettled g, srcs := [], recons := [], buf := 0, tagBuf := 0
        recon := [], intent := none, tried := 0, forms := [], stage := stage }
      t.c.car.works = Tab.put c1.car.works tag w ∧
      t.c.car.slots = Tab.put c1.car.slots slot { g with flush := some tag } ∧ t.c.regs = c1.regs ∧ t.mem = s.mem ∧ t.pending = s.pending))
        ∧
  (∀ (s : State) (g : Fin 16), s.c.grpReady g = true → s.c.bgOk = true → s.c.get F.CAR_STAT_fill_pct < s.c.get F.CAR_PRESS_hi_pct →
    exec (.checkpointTimer g) s = .next (s.withBoth (checkpoint s.mem
      (s.c.reach (Tab.getD s.c.car.ckAt g 0 + s.c.get F.CAR_CKPT_period_ms * 1000000)) g))) ∧
  (∀ (s : State) (die : Option Bool) (lines : List (Nat × Nat)) (c1 : Ctl), s.c.halted = false →
    (die.isSome = true ∨ lines.any (fun x => s.c.car.recs.any (fun r => r.seq == x.1 && r.landed && decide (x.2 < r.size))) = true) →
    (s.c.mapRecs (fun r => r.spoil die lines)).bump F.CAR_ERR_STAT_ue
      (lines.filter (fun x => s.c.car.recs.any (fun r => r.seq == x.1 && r.landed && decide (x.2 < r.size)))).length = c1 →
    c1.flag F.GLB_MODE_STAT_peer_synced = true →
    exec (.carafeFault die lines) s = .next (s.withBoth (releaseFault s.mem c1 0x0A (if die.isSome then 1 else 0)))) ∧
  (∀ s : State, exec .sketchDecay s = .next (s.withBoth
    (dntRow 4 (nextInstant s.c.dntNs s.c.crm.lastDecay (s.c.get F.CRM_DECAY_period_s * 1000000000))
      (fun m c => (m, c.decayFire (nextInstant s.c.dntNs s.c.crm.lastDecay (s.c.get F.CRM_DECAY_period_s * 1000000000)))) s.mem s.c)))

/-- The members and the groups (10_rebuild_cupping_regrind.md, R237, R243, R246): each row completes with the effect named, from every state in which
it acts. Where the spec leaves a choice, the clauses follow the model's: notes/assumptions 5, 59. -/
def Obligations.MemberRowsComplete : Prop :=
  (∀ (s : State) (group : Fin 16), s.c.rbd.inits.contains group.val = true →
    exec (.groupInitDone group none) s = .next (s.withBoth
      (let c1 : Ctl := { s.c with rbd := { s.c.rbd with inits := s.c.rbd.inits.filter (· != group.val) } }
       let c2 := (c1.positions group).foldl (fun c p => c.setLabel (c.bayAt group p) (c.labelOf group p)) c1
       let r := checkpoint s.mem ((c2.set (F.GAL_GRP_CFG_state group) 2).storeAll (c2.grpBays group)) group
       (r.1, r.2.reassess)))) ∧
  (∀ (s : State) (bay : Fin 24) (k : Nat), Tab.at? s.c.rbd.formats bay = some k →
    exec (.targetFormatDone bay) s = .next (s.withCtl
      (let c1 : Ctl := { s.c with rbd := { s.c.rbd with formats := Tab.del s.c.rbd.formats bay } }
       (((c1.setLabel bay (c1.labelOf (k / 32) (k % 32))).storeAll [bay]).rebuildPos (k / 32) (k % 32) false).reassess))) ∧
  (∀ (s : State) (group : Fin 16) (strp : Nat) (b : LockBy), (s.c.lockOf group strp).holder = none →
    ((s.c.lockOf group strp).waits.find? LockBy.flushes).or (s.c.lockOf group strp).waits.head? = some b →
    exec (.stripeLockGrant group strp) s = .next (s.withCtl
      { s.c with car := { s.c.car with
          locks := Tab.put s.c.car.locks (grpKey group strp) ⟨some b, (s.c.lockOf group strp).waits.erase b⟩ } })) ∧
  (∀ s : State,
    Completes .budgetRefill s (fun t =>
      let c1 := s.c.reach ((s.c.rbd.refill / 1000000 + 1) * 1000000)
      t.c.rbd.bktRb = refillOne c1.rbd.bktRb c1.rbRate ∧ t.c.rbd.bktCup = refillOne c1.rbd.bktCup c1.bgRates.2.1 ∧
      t.c.rbd.bktRg = refillOne c1.rbd.bktRg c1.bgRates.2.2.1 ∧ t.c.rbd.bktTest = refillOne c1.rbd.bktTest c1.bgRates.2.2.2 ∧
      t.c.rbd.refill = c1.dt ∧ t.c.regs = c1.regs ∧ t.mem = s.mem ∧ t.pending = s.pending)) ∧
  (∀ (s : State) (bay : Fin 24) (x : Nat), Tab.at? s.c.rbd.downAt bay = some x →
    (s.c.reach (x + s.c.get F.RBD_CFG_link_fail_s * 1000000000)).memLive bay = true →
    exec (.memberLinkFailTimeout bay) s = .next (s.withBoth
      (memFail s.mem (s.c.reach (x + s.c.get F.RBD_CFG_link_fail_s * 1000000000)) bay 2))) ∧
  (∀ (s : State) (bay : Fin 24),
    s.c.bst.brews.any (fun p => p.2.tokens.any (fun k => !k.arrived && (k.io.map (·.bay)) == some bay.val)) = true →
    exec (.memberCommandTimeout bay) s = .next (s.withCtl
      ((({ s.c with rbd := { s.c.rbd with
          resetAt := Tab.put s.c.rbd.resetAt bay s.c.dt
          drives := Tab.upd s.c.rbd.drives bay (fun d => { d with ready := false }) } } : Ctl).driveErr bay).emit (.memberReset bay)))) ∧
  (∀ (s : State) (bay : Fin 24) (x : Nat), Tab.at? s.c.rbd.resetAt bay = some x → (s.c.reach (x + 2000000000)).memLive bay = true →
    exec (.memberResetTimeout bay) s = .next (s.withBoth
      (let c1 := s.c.reach (x + 2000000000)
       memFail s.mem { c1 with rbd := { c1.rbd with resetAt := Tab.del c1.rbd.resetAt bay } } bay 3))) ∧
  (∀ (s : State) (bay : Fin 24), s.c.memLive bay = true →
    exec (.driveCriticalWarning bay) s = .next (s.withBoth (memFail s.mem s.c bay 4))) ∧
  (∀ (s : State) (bay : Fin 24), s.c.bar0Open = true → s.c.memLive bay = true →
    (s.c.failedPos (s.c.memGrp bay)).length < s.c.grpP (s.c.memGrp bay) →
    exec (.rbdFailMember bay) s = .next (s.withBoth (memFail s.mem (s.c.set F.RBD_CMD_STAT_err 0) bay 8))) ∧
  (∀ (s : State) (bay : Fin 24) (d : Drive), s.c.bar0Open = true → s.c.memState bay = 0 → s.c.drive? bay = some d → d.ready = true →
    s.c.posOfBay bay = none →
    exec (.rbdDesignateHotspare bay) s = .next (s.withCtl
      (((s.c.wr (Reg.RBD_MEM_STAT bay) 0).set (F.RBD_MEM_STAT_state bay) 5).set F.RBD_CMD_STAT_err 0).pickAll.reassess)) ∧
  (∀ (s : State) (bay : Fin 24), s.c.bar0Open = true → s.c.memState bay = 5 →
    exec (.rbdReleaseHotspare bay) s = .next (s.withCtl ((s.c.set (F.RBD_MEM_STAT_state bay) 0).set F.RBD_CMD_STAT_err 0))) ∧
  (∀ (s : State) (bay : Fin 24) (d : Drive), s.c.bar0Open = true → s.c.drive? bay = some d → s.c.memState bay = 2 → d.label.isSome = true →
    d.ready = true → Tab.has s.c.rbd.formats bay = false → Tab.getD s.c.rbd.cmin (s.c.memGrp bay) 0 ≤ d.cap →
    s.c.driveFits (s.c.memGrp bay) bay = true →
    exec (.rbdUseLabelledDrive bay) s = .next (s.withCtl
      ((s.c.formatStart (s.c.memGrp bay) (s.c.memPos bay) bay).set F.RBD_CMD_STAT_err 0)))

/-- Rebuild, repair and Cupping (10_rebuild_cupping_regrind.md, R242, R244, R251, R258, R259): each row completes with the effect named, from every
state in which it acts. Where the spec leaves a choice, the clauses follow the model's: notes/assumptions 5, 13, 59. -/
def Obligations.RebuildRowsComplete : Prop :=
  (∀ (s : State) (group : Fin 16) (bad : List (Nat × Nat)), s.c.bgOk = true → s.c.grpReady group = true →
    (s.c.grpTargets group).isEmpty = false → s.c.rbRate ≠ 0 → 0 < s.c.rbd.bktRb → s.c.shareTurn 0 group = true → s.c.markBlocked = false →
    s.c.lockFree group (s.c.rd (Reg.RBD_RB_CUR group)).toNat .rebuild = true →
    exec (.rebuildBrewStart group bad) s = .next (s.withBoth
      (let strp := (s.c.rd (Reg.RBD_RB_CUR group)).toNat
       let ts := s.c.grpTargets group
       let n := 4096 * s.c.scopeBlocks group strp * ts.length
       let c1 := ({ s.c.lockTake group strp .rebuild with rbd := { s.c.rbd with bktRb := s.c.rbd.bktRb - n } } : Ctl).shareAdd 0 group n
       let r := (c1.scopeRows group strp).foldl (rebuildRow group strp bad) (s.mem, c1)
       let c3 := if n = 0 then r.2 else (r.2.tev .rbd 0 group none none n).emit (.stripeWrite group strp ts)
       (r.1, ((c3.sweepOn group strp).lockDrop group strp).reassess)))) ∧
  (∀ (s : State) (group : Fin 16), (s.c.progOf group).changed = true → s.c.bgOk = true →
    Completes (.progressRecordWrite group) s (fun t =>
      let p := s.c.progOf group
      let c1 := s.c.reach (p.at_ + 1000000000)
      let p1 : Progress := { p with count := p.count + 1, at_ := c1.dt, changed := false }
      let ts := c1.rbd.targets.filter (fun (x : Nat × Target) => x.1 / 32 == group.val)
      let c2 : Ctl := { c1 with rbd := { c1.rbd with
        prog := Tab.put c1.rbd.prog group p1, progRec := Tab.put c1.rbd.progRec group p1
        tgtRec := c1.rbd.tgtRec.filter (fun (x : Nat × Target) => x.1 / 32 != group.val) ++ ts } }
      t.c.rbd = c2.rbd ∧
      t.c.out = (((c2.positions group).filter (fun pos => c2.memUsable (c2.bayAt group pos))).map (fun pos =>
        Output.progressWrite (c2.bayAt group pos) (c2.progressBytes group pos p1))).reverse ++ c1.out ∧ t.c.regs = c1.regs ∧ t.mem = s.mem ∧
          t.pending = s.pending)) ∧
  (∀ (s : State) (entry : Fin 64) (more : List Nat) (e : RepairE), s.c.rbd.repairs[entry.val]? = some e → s.c.bgOk = true →
    s.c.grpReady e.group = true → s.c.lockFree e.group e.strp .repair = true →
    let qs := s.c.rbd.repairs.filter (· != e)
    let c1 := ({ s.c.lockTake e.group e.strp .repair with rbd := { s.c.rbd with repairs := qs } } : Ctl).set F.RBD_REP_STAT_queued qs.length
    let er := c1.erasures e.group e.strp e.row
    let bad := (e.pos :: more).eraseDups.filter (fun p => !er.contains p && decide (p < c1.grpN e.group))
    exec (.repairBrewStart entry false more) s = .next (s.withCtl (c1.lockDrop e.group e.strp)) ∧
    (er.contains e.pos = false → er.length + bad.length ≤ c1.grpP e.group →
      exec (.repairBrewStart entry true more) s = .next (s.withCtl
        (((c1.rewrote e.group bad.length).emit (.stripeWrite e.group e.strp bad)).lockDrop e.group e.strp))) ∧
    (er.contains e.pos = false → c1.grpP e.group < er.length + bad.length →
      exec (.repairBrewStart entry true more) s = .next (s.withBoth
        (let r := sealRow s.mem c1 e.group e.strp e.row 2 (er ++ bad)
         (r.1, r.2.lockDrop e.group e.strp))))) ∧
  (∀ (s : State) (group : Fin 16), s.c.bgOk = true → s.c.grpReady group = true → s.c.flag (F.RBD_GRP_STAT_cup_active group) = false →
    s.c.rbd.markDue.contains group.val = true →
    exec (.cuppingPassStart group) s = .next (s.withCtl (s.c.cupStart group true))) ∧
  (∀ (s : State) (group : Fin 16), s.c.bgOk = true → s.c.grpReady group = true → s.c.flag (F.RBD_GRP_STAT_cup_active group) = false →
    s.c.rbd.markDue.contains group.val = false → s.c.flag F.RBD_CUP_CFG_en = true → (s.c.progOf group).cupStart = none →
    exec (.cuppingPassStart group) s = .next (s.withCtl (s.c.cupStart group false))) ∧
  (∀ (s : State) (group : Fin 16) (x : Nat), s.c.bgOk = true → s.c.grpReady group = true →
    s.c.flag (F.RBD_GRP_STAT_cup_active group) = false → s.c.rbd.markDue.contains group.val = false → s.c.flag F.RBD_CUP_CFG_en = true →
    (s.c.progOf group).cupStart = some x →
    exec (.cuppingPassStart group) s = .next (s.withCtl
      ((s.c.reachDnt ((x + s.c.get F.RBD_CUP_CFG_period_d * 86400) * 1000000000)).cupStart group false))) ∧
  (∀ (s : State) (group : Fin 16) (looks : List RowLook), s.c.bgOk = true → s.c.grpReady group = true →
    s.c.flag (F.RBD_GRP_STAT_cup_active group) = true → s.c.bgRates.2.1 ≠ 0 → 0 < s.c.rbd.bktCup → s.c.shareTurn 1 group = true →
    s.c.lockFree group (s.c.progOf group).cupCur .cupping = true →
    Completes (.cuppingBrewStart group looks) s (fun t => (t.mem, t.c) = cuppingBrew s.mem s.c group looks ∧ t.pending = s.pending))

/-- Regrind (10_rebuild_cupping_regrind.md, R263 to R268): each row completes with the effect named, from every state in which it acts. Where the spec
leaves a choice, the clauses follow the model's: notes/assumptions 45, 58, 59. -/
def Obligations.RegrindRowsComplete : Prop :=
  (∀ s : State, s.c.get F.RBD_RG_STAT_state = 0 → s.c.rgStartErr = 0 →
    Completes .regrindStart s (fun t =>
      let c1 := (s.c.rgStageCfg).grpInit s.c.rgStage
      t.c.rbd.rgMap = rgExtents (c1.grpDS s.c.rgSrc) (c1.grpDS s.c.rgStage) 0 (c1.nsExtents s.c.rgSrc) ∧ t.c.rbd.rgRecs = [] ∧
      t.c.get F.RBD_RG_STAT_state = 1 ∧ t.c.get F.RBD_RG_STAT_err = 0 ∧ RegsBut [Reg.RBD_RG_STAT] c1 t.c ∧ t.mem = s.mem ∧
      t.pending = s.pending)) ∧
  (∀ s : State, s.c.get F.RBD_RG_STAT_state = 1 → s.c.grpReady s.c.rgStage = true →
    Completes .regrindInitDone s (fun t =>
      let cur := (s.c.grpUnits s.c.rgSrc).foldl (fun a u => max a (u + 1)) 0
      let r := rgRecord s.mem (s.c.setRgCur cur) 0 (if cur = 0 then 3 else 2)
      t.mem = r.1 ∧ t.c = r.2.set F.RBD_RG_STAT_state (if cur = 0 then 3 else 2) ∧ t.pending = s.pending)) ∧
  (∀ (s : State) (bad : List (Fin 16)), s.c.get F.RBD_RG_STAT_state = 2 → s.c.bgOk = true → s.c.bgRates.2.2.1 ≠ 0 → 0 < s.c.rbd.bktRg →
    s.c.markBlocked = false →
    Completes (.regrindCopyBrewStart bad) s (fun t => (t.mem, t.c) = rgCopy s.mem s.c bad ∧ t.pending = s.pending)) ∧
  (∀ s : State, s.c.get F.RBD_RG_STAT_state = 3 →
    Completes .regrindCommit s (fun t =>
      let r := rgRecord s.mem s.c 0 4
      let moved := r.2.rbd.rgMap.map (·.1)
      let c2 := (r.2.rgKeepMaps.rgMoveRecs.rgMoveNs).swapGroups r.2.rgSrc r.2.rgStage
      let c3 := moved.foldl Ctl.useMoved { c2 with rbd := { c2.rbd with rgRecs := [], rgMap := [] } }
      t.mem = r.1 ∧ t.c = moved.foldl Ctl.nsChanged (c3.set F.RBD_RG_STAT_state 5) ∧ t.pending = s.pending)) ∧
  (∀ s : State, (s.c.get F.RBD_RG_STAT_state = 1 ∨ s.c.get F.RBD_RG_STAT_state = 2 ∨ s.c.get F.RBD_RG_STAT_state = 3) →
    (s.c.grpBays s.c.rgSrc ++ s.c.grpBays s.c.rgStage).any (fun b => s.c.memState b != 1) = false →
    exec .regrindAbort s = .next (s.withBoth (rgAbort s.mem s.c 8))) ∧
  (∀ s : State, s.c.get F.RBD_RG_STAT_state = 5 → s.c.car.works.any (fun p => p.2.group == s.c.rgStage) = false →
    s.c.crm.recs.any (fun p => p.2.old.isSome) = false →
    Completes .regrindRetireDone s (fun t =>
      let l := lostDrop s.mem s.c s.c.rgStage
      let r := rgRecord l.1 l.2 0 0
      t.mem = r.1 ∧ t.c = ((r.2.grpDisable r.2.rgStage).set F.RBD_RG_STAT_state 0).reassess ∧ t.pending = s.pending))

/-- The key unit and the TLS records (11_tamp_and_cipher.md, R290, R294, R295): each row completes with the effect named, from every state in which it
acts. Where the spec leaves a choice, the clauses follow the model's: notes/assumptions 30, 35, 55. -/
def Obligations.KeyAndTlsRowsComplete : Prop :=
  (∀ (s : State) (tenant : Fin 4096) (slot : Fin 16), s.c.bar0Open = true → s.c.flag (F.KP_STAT_busy tenant) = false →
    let c1 := ((s.c.set (F.KP_STAT_last_slot tenant) slot).setFlag (F.KP_STAT_busy tenant) true).set (F.KP_RESULT_status tenant) Cs.pending
    let blob := s.c.pageBlob tenant
    c1.dataRefusal [slot.val] = 0 →
    exec (.kpLoad tenant slot) s = .next (s.withCtl
      (match c1.loadCheckKey tenant slot blob with
       | (0, p) =>
         if c1.mirroring then
           ({ c1 with keys := { c1.keys with
                loads := Tab.put c1.keys.loads tenant ⟨slot, blob, blobKey p slot, pktField p 8 4, 1, none⟩ } } : Ctl).emit
             (.peer (.key (.load tenant slot blob)))
         else c1.loadStore tenant ⟨slot, blob, blobKey p slot, pktField p 8 4, 0, none⟩
       | (st, _) => c1.keyEnd tenant st none))) ∧
  (∀ (s : State) (tenant : Fin 4096) (slot : Fin 16), s.c.bar0Open = true → s.c.flag (F.KP_STAT_busy tenant) = false →
    let c1 := ((s.c.set (F.KP_STAT_last_slot tenant) slot).setFlag (F.KP_STAT_busy tenant) true).set (F.KP_RESULT_status tenant) Cs.pending
    c1.dataRefusal [slot.val] = 0 →
    let c2 := (c1.setSlotState tenant slot 2).pskEnd tenant [slot.val]
    let c3 : Ctl := { c2 with keys := { c2.keys with zeros := Tab.put c2.keys.zeros tenant ⟨[slot.val], !c2.mirroring, none⟩ } }
    exec (.kpZeroiseSlot tenant slot) s = .next (s.withCtl
      (if c3.mirroring then c3.emit (.peer (.key (.zeroise tenant [slot.val]))) else c3))) ∧
  (∀ (s : State) (tenant : Fin 4096), s.c.bar0Open = true → s.c.flag (F.KP_STAT_busy tenant) = false →
    let c1 := (s.c.setFlag (F.KP_STAT_busy tenant) true).set (F.KP_RESULT_status tenant) Cs.pending
    c1.dataRefusal (List.range 16) = 0 →
    let c2 := ((List.range 16).foldl (fun c k => c.setSlotState tenant k 2) c1).pskEnd tenant (List.range 16)
    let c3 : Ctl := { c2 with keys := { c2.keys with zeros := Tab.put c2.keys.zeros tenant ⟨List.range 16, !c2.mirroring, none⟩ } }
    exec (.kpZeroisePage tenant) s = .next (s.withCtl
      (if c3.mirroring then c3.emit (.peer (.key (.zeroise tenant (List.range 16)))) else c3))) ∧
  (∀ (s : State) (tenant : Fin 4096) (z : ZeroOp), Tab.at? s.c.keys.zeros tenant = some z → (z.acked = true ∨ s.c.mirroring = false) →
    Completes (.zeroiseComplete tenant) s (fun t =>
      t.c = s.c.zeroiseEnd tenant z ∧
      t.c.keys.mat = z.slots.foldl (fun m k => Tab.del m (keyKey tenant k)) s.c.keys.mat ∧ t.mem = s.mem ∧ t.pending = s.pending)) ∧
  (∀ (s : State) (new : Nat), [0, 1].find? (fun b => s.c.bankState b == 1) = some new →
    Completes .skekRewrapDone s (fun t =>
      let c1 := if s.c.lease then s.c.keys.store.foldl (fun c e => c.storeWrite e.1 (some (c.rewrap new e.2))) s.c else s.c
      let c2 := (c1.bankWord new 11 2).bankWord (1 - new) 11 0
      t.c = ({ c2 with keys := { c2.keys with skek := Tab.del c2.keys.skek (1 - new) } } : Ctl).skekNote ∧ t.mem = s.mem ∧
      t.pending = s.pending)) ∧
  (∀ (s : State) (conn : Nat) (data : List Byte) (sp : Nat) (x : Conn) (n : Nat) (e : CtabE), data.length ≤ 16384 → s.c.conn? conn = some x
    →
    s.c.tlsCluster conn = some n → x.tls = true → Tab.at? s.c.keys.ctab conn = some e → s.c.tlsCause conn = 0 →
    exec (.tlsRecordEncrypt conn data sp) s = .next (s.withCtl
      (let q := x.keepRecord e data
       let c0 := ((s.c.setConn conn q.2).emit (.tlsRecord conn (Config.gcmSeal e.key (tlsNumber e.txGen e.sent) data))).tev .cip 1 n
         (some e.tenant) none data.length
       let c1 := match q.1 with | some t => c0.tlsEntry conn n sp x t data.length | none => c0
       if e.sent + 1 < tlsKeyLimit then c1.setCtab conn { e with sent := e.sent + 1 }
       else (c1.setCtab conn { e with sent := 0, txGen := e.txGen + 1 }).emit (.tlsKeyUpdate conn)))) ∧
  (∀ (s : State) (conn : Nat) (data : List Byte) (update : Bool) (x : Conn) (n : Nat) (e : CtabE), s.c.conn? conn = some x →
    s.c.tlsCluster conn = some n → x.tls = true → Tab.at? s.c.keys.ctab conn = some e → s.c.tlsCause conn = 0 →
    exec (.tlsRecordDecrypt conn data update) s = .next (s.withCtl
      (match Config.gcmOpen e.key (tlsNumber e.rxGen e.rcvd) data with
       | some p => (s.c.tev .cip 1 n (some e.tenant) none p.length).setCtab conn
           (if update then { e with rxGen := e.rxGen + 1, rcvd := 0 } else { e with rcvd := e.rcvd + 1 })
       | none => ((s.c.emit (.tlsAlert conn 20)).emit (.connClose conn)).connLost conn))) ∧
  (∀ (s : State) (conn : Nat) (identity : Nqn) (input : List Byte) (x : Conn) (h : HostEntry), s.c.conn? conn = some x → x.tls = false →
    x.tcp = true → s.c.hostOf identity = some h → 2 ≤ h.psk → s.c.slotState h.tenant h.psk = 1 →
    Completes (.tlsClientHello conn identity true true input) s (fun t =>
      let gen := match Tab.at? s.c.keys.ctab conn with | some e => e.gen + 1 | none => 0
      t.c = (s.c.setConn conn { x with tls := true }).setCtab conn
        ⟨true, gen, h.tenant, h.psk, Config.tlsKeys (Tab.getD s.c.keys.mat (keyKey h.tenant h.psk) []) input, 0, 0, 0, 0⟩ ∧
      t.mem = s.mem ∧ t.pending = s.pending))

/-- The network ports, the frames they answer or drop, flow control and the egress schedulers (12_network_ports.md, R301, R302, R309, R311, R313,
R315, R317): each row completes with the effect named, from every state in which it acts. Where the spec leaves a choice, the clauses follow the
model's: notes/assumptions 19, 27, 57. -/
def Obligations.NetworkRowsComplete : Prop :=
  (∀ (s : State) (np : Fin 24) (lf rf : Bool) (cells : Nat), s.c.npExists np.val = true →
    exec (.netPortDown np lf rf cells) s = .next (s.withCtl
      (let r := if s.c.flag (F.NET_PORT_STAT_up np.val) then s.c.cellsTill np.val cells else (0, s.c)
       ((((r.2.npCnt np.val 3 r.1).setFlag (F.NET_PORT_STAT_local_fault np.val) lf).setFlag (F.NET_PORT_STAT_remote_fault np.val)
         rf).netDown
         np.val)))) ∧
  (∀ (s : State) (np : Fin 24), s.c.npExists np.val = true → s.c.flag (F.NET_PORT_CFG_en np.val) = true → s.c.mode.netOk = true →
    s.c.flag (F.NET_PORT_STAT_up np.val) = false → s.c.power.stop.isNone = true →
    exec (.netPortUp np) s = .next (s.withCtl
      (((((s.c.setFlag (F.NET_PORT_STAT_local_fault np.val) false).setFlag (F.NET_PORT_STAT_remote_fault np.val) false).setFlag
        (F.NET_PORT_STAT_up np.val) true).linkUp np.val).ptpSelect.discoveryChanged))) ∧
  (∀ (s : State) (np : Fin 24) (ip : BitVec 32), s.c.netUp np.val = true → s.c.ownIp4 np.val ip = true →
    exec (.arpRequest np ip) s = .next (s.withCtl ((s.c.frameIn np.val none 0).emit (.arpReply np.val)))) ∧
  (∀ (s : State) (np : Fin 24) (ip : BitVec 32), s.c.netUp np.val = true → s.c.ownIp4 np.val ip = false →
    exec (.arpRequest np ip) s = .next (s.withCtl ((s.c.frameIn np.val none 0).frameNoMatch np.val))) ∧
  (∀ (s : State) (np : Fin 24) (ip : BitVec 128), s.c.netUp np.val = true → s.c.ownIp6 np.val ip = true →
    exec (.neighborSolicitation np ip) s = .next (s.withCtl ((s.c.frameIn np.val none 0).emit (.neighborAdvertisement np.val)))) ∧
  (∀ (s : State) (np : Fin 24) (ip : BitVec 128), s.c.netUp np.val = true → s.c.ownIp6 np.val ip = true →
    exec (.icmpEcho np true ip) s = .next (s.withCtl ((s.c.frameIn np.val none 0).emit (.echoReply np.val)))) ∧
  (∀ (s : State) (np : Fin 24) (ip : BitVec 32), s.c.netUp np.val = true → s.c.ownIp4 np.val ip = true →
    exec (.icmpEcho np false (ip.setWidth 128)) s = .next (s.withCtl ((s.c.frameIn np.val none 0).emit (.echoReply np.val)))) ∧
  (∀ (s : State) (np : Fin 24) (len : Nat) (fcsBad : Bool), s.c.netUp np.val = true →
    (fcsBad = true ∨ len < 64 ∨ s.c.get (F.NET_PORT_MTU_max_frame np.val) < len) →
    exec (.frameDiscard np len fcsBad) s = .next (s.withCtl (s.c.bump (F.NET_PORT_CNT_count np.val 2) 1))) ∧
  (∀ (s : State) (np : Fin 24) (len : Nat), s.c.netUp np.val = true → 64 ≤ len → len ≤ s.c.get (F.NET_PORT_MTU_max_frame np.val) →
    exec (.frameDiscard np len false) s = .next (s.withCtl ((s.c.frameIn np.val none len).bump (F.NET_PORT_CNT_count np.val 12) 1))) ∧
  (∀ (s : State) (np : Fin 24), s.c.netUp np.val = true →
    exec (.pauseFrameReceive np) s = .next (s.withCtl (s.c.bump (F.NET_PORT_CNT_count np.val 6) 1)) ∧
    exec (.receiveBufferOverflow np) s = .next (s.withCtl (s.c.bump (F.NET_PORT_CNT_count np.val 7) 1))) ∧
  (∀ (s : State) (np : Fin 24) (prio : Fin 8) (q : Fin 65536), s.c.netUp np.val = true →
    (s.c.npCnt np.val 4 1).pfcOn np.val prio.val = true →
    exec (.pfcFrameReceive np [(prio, q)]) s = .next (s.withCtl
      (if q.val = 0 then (s.c.npCnt np.val 4 1).pfcResume np.val prio.val else (s.c.npCnt np.val 4 1).pfcPause np.val prio.val q.val))) ∧
  (∀ (s : State) (np : Fin 24) (prio : Fin 8) (x : Nat × Nat), Tab.at? (s.c.np np.val).pauseEnd prio.val = some x →
    exec (.pfcPauseExpire np prio) s = .next (s.withCtl ((s.c.reach x.2).pfcResume np.val prio.val))) ∧
  (∀ (s : State) (np : Fin 24) (prio : Fin 8) (bytes : Nat), s.c.netUp np.val = true → s.c.pfcOn np.val prio.val = true →
    Tab.has (s.c.np np.val).xoff prio.val = false → 1024 * s.c.get (F.NET_PORT_PFC_xoff_kib np.val) < bytes →
    Completes (.pfcXoffSend np prio bytes) s (fun t =>
      let c1 := s.c.setNp np.val { s.c.np np.val with xoff := Tab.put (s.c.np np.val).xoff prio.val s.c.dt }
      t.c = (c1.emit (.pfc np.val prio.val 0xFFFF)).bump (F.NET_PORT_CNT_count np.val 5) 1 ∧ t.mem = s.mem ∧ t.pending = s.pending)) ∧
  (∀ (s : State) (np : Fin 24) (prio : Fin 8) (bytes : Nat), s.c.netUp np.val = true → s.c.pfcOn np.val prio.val = true →
    Tab.has (s.c.np np.val).xoff prio.val = true → bytes ≤ 1024 * s.c.get (F.NET_PORT_PFC_xon_kib np.val) →
    Completes (.pfcXoffSend np prio bytes) s (fun t =>
      let c1 := s.c.setNp np.val { s.c.np np.val with xoff := Tab.del (s.c.np np.val).xoff prio.val }
      t.c = (c1.emit (.pfc np.val prio.val 0)).bump (F.NET_PORT_CNT_count np.val 5) 1 ∧ t.mem = s.mem ∧ t.pending = s.pending)) ∧
  (∀ (s : State) (np : Fin 24) (prio : Fin 8) (x : Nat), Tab.at? (s.c.np np.val).xoff prio.val = some x →
    Completes (.pfcXoffRefresh np prio) s (fun t =>
      let c1 := s.c.reach (x + s.c.quantaNs 0xFFFF / 2)
      t.c = (c1.setNp np.val { c1.np np.val with xoff := Tab.put (c1.np np.val).xoff prio.val c1.dt }).pfcSend np.val prio.val 0xFFFF ∧
      t.mem = s.mem ∧ t.pending = s.pending)) ∧
  (∀ (s : State) (np : Fin 24) (frames : List (Option Nat × Nat)) (k : Nat) (f : ReadyFrame) (o : Bool) (c1 : Ctl), s.c.netUp np.val = true
    →
    (let fs := frames.map (fun p => (⟨p.1, p.2⟩ : ReadyFrame))
     (s.c.tev .net 7 np.val none none (s.c.gateHeld np.val fs)).egressPick np.val fs) = (some (k, f, o), c1) →
    exec (.egressFrameSelect np frames) s = .next (s.withCtl
      (c1.frameGo np.val k f o (decide (8 - s.c.get (F.NET_PORT_CFG_strict np.val) ≤ k))))) ∧
  (∀ s : State,
    Completes .shaperRefill s (fun t =>
      let c1 := s.c.reach ((s.c.dt / 64 + 1) * 64)
      t.c.net.shapers = Tab.mapV c1.net.shapers (fun k x => x.refill (c1.shaperCfg k)) ∧ t.c.regs = c1.regs ∧ t.c.dt = c1.dt ∧ t.mem = s.mem
        ∧
      t.pending = s.pending)) ∧
  (∀ (s : State) (np : Fin 24) (l : PourList), s.c.gclLive np.val = some l →
    let t := s.c.dntNs + (gclAt (s.c.gclParts np.val l) 0 (s.c.gclPhase l)).2
    atOrAfter l.at_ l.cycle t ≠ t → exec (.gateEntryAdvance np) s = .next (s.withCtl ((s.c.reachDnt t).gclShow np.val))) ∧
  (∀ (s : State) (np : Fin 24) (a : Nat), s.c.gclDue np.val = some a →
    exec (.pourListAdopt np) s = .next (s.withBoth (dntRow 2 a (fun m c => (m, c.gclAdopt np.val a)) s.mem s.c))) ∧
  (∀ (s : State) (np : Fin 24) (l : PourList), s.c.gclLive np.val = some l →
    let t := s.c.dntNs + (gclAt (s.c.gclParts np.val l) 0 (s.c.gclPhase l)).2
    atOrAfter l.at_ l.cycle t = t → s.c.cycleNext np.val l t = t →
    exec (.gateEntryAdvance np) s = .next (s.withBoth (dntRow 2 t (fun m c => (m, c.cycleFire np.val t)) s.mem s.c))) ∧
  (∀ (s : State) (np : Fin 24) (l : PourList), s.c.gclLive np.val = some l →
    let t := s.c.dntNs + (gclAt (s.c.gclParts np.val l) 0 (s.c.gclPhase l)).2
    atOrAfter l.at_ l.cycle t = t → s.c.cycleNext np.val l t ≠ t →
    exec (.gateEntryAdvance np) s = .next (s.withCtl (s.c.reachDnt t)))

/-- The transports (12_network_ports.md, R304 to R308): each row completes with the effect named, from every state in which it acts. Where the spec
leaves a choice, the clauses follow the model's: notes/assumptions 24, 25, 26, 57. -/
def Obligations.TransportRowsComplete : Prop :=
  (∀ (s : State) (np : Fin 24) (mac vlan offer r2t k : Nat), s.c.netUp np.val = true → (s.c.frameIn np.val none 0).newConn = some k →
    exec (.roceConnectRequest np mac vlan offer) s = .next (s.withCtl
      (let c1 := s.c.frameIn np.val none 0
       ((c1.setConn k (c1.connFresh false np.val mac vlan (s.c.pathMtu np.val offer) 0)).emit (.connAccept k)).tev .net 9 np.val none none
         1)) ∧
    exec (.tcpSyn np mac vlan r2t) s = .next (s.withCtl
      (let c1 := s.c.frameIn np.val none 0
       ((c1.setConn k (c1.connFresh true np.val mac vlan 0 r2t)).emit (.connAccept k)).tev .net 9 np.val none none 1))) ∧
  (∀ (s : State) (np : Fin 24) (mac vlan offer r2t : Nat), s.c.netUp np.val = true → (s.c.frameIn np.val none 0).newConn = none →
    exec (.roceConnectRequest np mac vlan offer) s = .next (s.withCtl ((s.c.frameIn np.val none 0).emit (.connReject np.val))) ∧
    exec (.tcpSyn np mac vlan r2t) s = .next (s.withCtl ((s.c.frameIn np.val none 0).emit (.tcpReset np.val)))) ∧
  (∀ (s : State) (conn : Nat) (x : Conn), s.c.conn? conn = some x → x.tcp = false →
    exec (.cmDisconnectRequest conn) s = .next (s.withCtl (s.c.connLost conn))) ∧
  (∀ (s : State) (np : Fin 24) (conn mac vlan : Nat) (x : Conn), s.c.netUp np.val = true → s.c.conn? conn = some x → x.tcp = false →
    x.port = np.val →
    exec (.roceSendReceive np conn mac vlan) s = .next (s.withCtl
      (s.c.connFrame conn (x.from_ mac vlan) 0))) ∧
  (∀ (s : State) (np : Fin 24) (conn mac vlan : Nat) (data : List Byte) (x : Conn), s.c.netUp np.val = true → s.c.conn? conn = some x →
    x.tcp = false →
    x.port = np.val →
    exec (.roceReadResponse np conn mac vlan data) s = .next (s.withBoth ((s.c.connFrame conn (x.from_ mac vlan) 0).xferMove s.mem conn 0
      data))) ∧
  (∀ (s : State) (np : Fin 24) (conn mac vlan bytes : Nat) (x : Conn), s.c.netUp np.val = true → s.c.conn? conn = some x → x.tcp = false →
    x.port = np.val →
    exec (.roceAckReceive np conn mac vlan bytes) s = .next (s.withCtl ((s.c.connFrame conn (x.from_ mac vlan) 0).xferMove s.mem conn bytes
      []).2)) ∧
  (∀ (s : State) (np : Fin 24) (conn mac vlan : Nat) (push : Bool) (x : Conn), s.c.netUp np.val = true → s.c.conn? conn = some x →
    x.tcp = false → x.port = np.val →
    let y := x.from_ mac vlan
    let c0 := s.c.connFrame conn y 0
    x.retries < c0.get F.NET_RC_CFG_retry_cnt →
    exec (.roceNakReceive np conn mac vlan false push) s = .next (s.withCtl
      ((((c0.setConn conn { y with retries := x.retries + 1 }).emit (.resendData conn)).recsResend conn y).tev .net 4 x.port
        (c0.connTenant conn) none x.unacked))) ∧
  (∀ (s : State) (np : Fin 24) (conn mac vlan : Nat) (push : Bool) (x : Conn) (f : Xfer), s.c.netUp np.val = true → s.c.conn? conn = some x
    →
    x.tcp = false → x.port = np.val → x.xfers.find? (fun k => k.push == push) = some f →
    let y := x.from_ mac vlan
    exec (.roceNakReceive np conn mac vlan true push) s = .next (s.withCtl
      (((((s.c.connFrame conn y 0).setConn conn { y with xfers := x.xfers.erase f }).xferEnd x.port f 0x41).connLost conn)))) ∧
  (∀ (s : State) (conn : Nat) (x : Conn), s.c.conn? conn = some x → x.tcp = false →
    (x.retries < s.c.get F.NET_RC_CFG_retry_cnt → exec (.roceAckTimeout conn) s = .next (s.withCtl
      ((((s.c.setConn conn { x with retries := x.retries + 1 }).emit (.resendData conn)).recsResend conn x).tev .net 4 x.port
        (s.c.connTenant conn) none x.unacked))) ∧
    (s.c.get F.NET_RC_CFG_retry_cnt ≤ x.retries → exec (.roceAckTimeout conn) s = .next (s.withCtl (s.c.connLost conn)))) ∧
  (∀ (s : State) (conn : Nat) (x : Conn), s.c.conn? conn = some x → x.tcp = true →
    (x.retries + 1 < s.c.get F.NET_TCP_CFG_retries → exec (.tcpRtoExpire conn) s = .next (s.withCtl
      ((((s.c.setConn conn { x with retries := x.retries + 1 }).emit (.resendData conn)).recsResend conn x).tev .net 4 x.port
        (s.c.connTenant conn) none x.unacked))) ∧
    (s.c.get F.NET_TCP_CFG_retries ≤ x.retries + 1 → exec (.tcpRtoExpire conn) s = .next (s.withCtl
      ((s.c.emit (.tcpReset x.port)).connLost conn)))) ∧
  (∀ (s : State) (np : Fin 24) (conn mac vlan acked : Nat) (data : List Byte) (x : Conn), s.c.netUp np.val = true → s.c.conn? conn = some x
    →
    x.tcp = true → x.port = np.val →
    exec (.tcpSegmentReceive np conn mac vlan acked data false false) s = .next (s.withBoth
      ((s.c.connFrame conn (x.from_ mac vlan) data.length).xferMove s.mem conn acked data))) ∧
  (∀ (s : State) (np : Fin 24) (conn mac vlan : Nat) (x : Conn), s.c.netUp np.val = true → s.c.conn? conn = some x → x.tcp = false → x.port
    = np.val →
    let z := x.from_ mac vlan
    let c0 := s.c.connFrame conn z 0
    (∀ y, x.cnpAt = some y → y + 1000 * c0.get F.NET_CC_CFG_gap_us ≤ c0.dt) →
    exec (.ceMarkedReceive np conn mac vlan) s = .next (s.withCtl
      ((((c0.npCnt np.val 8 1).setConn conn { z with cnpAt := some c0.dt }).npCnt np.val 9 1).emit (.cnp conn)))) ∧
  (∀ (s : State) (np : Fin 24) (conn mac vlan : Nat) (x : Conn), s.c.netUp np.val = true → s.c.conn? conn = some x → x.tcp = false → x.port
    = np.val →
    let z := x.from_ mac vlan
    let c0 := s.c.connFrame conn z 0
    let c1 := (c0.npCnt np.val 10 1).tev .net 5 np.val none none 1
    (∀ y, x.cutAt = some y → y + 1000 * c0.get F.NET_CC_CFG_gap_us ≤ c0.dt) →
    exec (.cnpReceive np conn mac vlan) s = .next (s.withCtl (c1.setConn conn { z with
      riseAt := c0.dt, cutAt := some c0.dt, rate := max 100000000 (x.rate * (256 - c0.get F.NET_CC_CFG_dec) / 256) }))) ∧
  (∀ (s : State) (conn : Nat) (x : Conn), s.c.conn? conn = some x → x.tcp = false →
    Completes (.rateIncreaseTimer conn) s (fun t =>
      let c1 := s.c.reach (x.riseAt + 64000)
      t.c = c1.setConn conn { x with
        riseAt := c1.dt, rate := min (s.c.npRate * 1000000000) (x.rate + 100000000 * s.c.get F.NET_CC_CFG_inc_100mbps) } ∧
      t.mem = s.mem ∧ t.pending = s.pending))

/-- The peer link, the heartbeat and the mirror (13_pairing_and_failover.md, R323, R327 to R333): each row completes with the effect named, from every
state in which it acts. Where the spec leaves a choice, the clauses follow the model's: notes/assumptions 4, 53, 58. -/
def Obligations.PairLinkRowsComplete : Prop :=
  (∀ (s : State) (cells : Nat), s.c.awake = true → s.c.flag F.PEER_STAT_link_up = true →
    exec (.linkDown 48 cells) s = .next (s.withBoth
      (let c := (s.c.cellsTill 48 cells).2
       peerDown s.mem { c with pair := { c.pair with laneBad := 0 } }))) ∧
  (∀ s : State, s.c.awake = true → s.c.flag F.PEER_STAT_link_up = false → laneCode s.c.pair.laneBad ≠ 0 →
    exec (.linkUp 48) s = .next (s.withCtl
      (((((s.c.setFlag F.PEER_STAT_link_up true).set F.PEER_STAT_lanes (laneCode s.c.pair.laneBad)).flitReset).linkUp peerLink).sayHello
        false))) ∧
  (∀ (s : State) (cls : Fin 5) (fseq ack credit : Fin 65536), s.c.peerHears = true →
    (1 ≤ cls.val → cls.val ≤ 3 → fseq.val = s.c.pair.rxSeq) →
    Completes (.peerFlitReceive true cls fseq ack credit) s (fun t =>
      let numbered := decide (1 ≤ cls.val) && decide (cls.val ≤ 3)
      t.c = { s.c with pair := { s.c.pair with
        txAck := (ack.val + 1) % 65536
        credit := min 1024 (s.c.pair.credit + credit.val)
        rxSeq := if numbered then (fseq.val + 1) % 65536 else s.c.pair.rxSeq
        rxHeld := if numbered then s.c.pair.rxHeld + 1 else s.c.pair.rxHeld } } ∧ t.mem = s.mem ∧ t.pending = s.pending)) ∧
  (∀ (s : State) (cls : Fin 5) (fseq ack credit : Fin 65536), s.c.peerHears = true →
    exec (.peerFlitReceive false cls fseq ack credit) s = .next (s.withCtl
      ((s.c.faultRecord 0x16 0 0).peerSend (.nak 1 s.c.pair.rxSeq)))) ∧
  (∀ (s : State) (cls : Fin 5) (fseq ack credit : Fin 65536), s.c.peerHears = true → 1 ≤ cls.val → cls.val ≤ 3 →
    fseq.val ≠ s.c.pair.rxSeq →
    exec (.peerFlitReceive true cls fseq ack credit) s = .next (s.withCtl (s.c.peerSend (.nak 1 s.c.pair.rxSeq)))) ∧
  (∀ (s : State) (fseq : Fin 65536) (tag : PeerTag) (resent : Nat), s.c.peerHears = true →
    let c1 := s.c.bump (F.PEER_CNT_count 3) 1
    exec (.peerNakReceive 1 fseq tag resent) s = .next (s.withCtl ((c1.bump (F.PEER_CNT_count 0) resent).peerSend (.resend fseq))) ∧
    exec (.peerNakReceive 2 fseq tag resent) s = .next (s.withBoth (nakEpoch s.mem c1 tag)) ∧
    (∀ k : Nat, exec (.peerNakReceive 3 fseq (.own k) resent) s = .next (s.withCtl (c1.writeRefused k)) ∧
      exec (.peerNakReceive 4 fseq (.own k) resent) s = .next (s.withCtl (c1.writeRefused k)))) ∧
  (∀ (s : State) (lane : Fin 4), s.c.awake = true → s.c.flag F.PEER_STAT_link_up = true →
    laneCode (s.c.pair.laneBad ||| BitVec.ofNat 4 (2 ^ lane.val)) ≠ 0 →
    exec (.peerLaneFail lane) s = .next (s.withCtl
      (let bad := s.c.pair.laneBad ||| BitVec.ofNat 4 (2 ^ lane.val)
       let c1 : Ctl := { s.c with pair := { s.c.pair with laneBad := bad } }
       (((c1.bump (F.PEER_CNT_count 9) 1).set F.PEER_STAT_lanes 1).flitReset).emit (.peer (.retrain (if lanePair bad 0 then 3 else 12))))))
         ∧
  (∀ (s : State) (h : HelloMsg), s.c.peerHears = true →
    Completes (.peerHello h) s (fun t =>
      let c1 := ({ s.c with
        pair := { s.c.pair with hello := some h }
        power := { s.c.power with peerAbsent := false } } : Ctl).set F.PEER_STAT_peer_mode h.mode
      let c2 := if c1.mode = .boot then c1.setFlag F.GLB_START_STAT_peer_found true else c1
      let c3 := if (h.slot == 1) == c2.power.slotId then c2.slotConflict else c2
      let c4 := if h.answer then c3 else c3.sayHello true
      t.c = (if c4.startCase == .join then c4.joinSync else c4) ∧ t.mem = s.mem ∧ t.pending = s.pending)) ∧
  (∀ (s : State) (h : HbMsg), s.c.peerHears = true → s.c.lease = false → h.lease = false →
    Completes (.peerHeartbeat h) s (fun t =>
      t.c.pair.hbPeer = h.num ∧ t.c.pair.hbAt = some s.c.dt ∧ t.c.pair.last = some h ∧ t.c.pair.misses = 0 ∧
      t.c.flag F.PEER_STAT_suspect = false ∧ t.c.get F.PEER_STAT_peer_mode = h.mode % 8 ∧ t.c.flag F.PEER_STAT_endorse_rx = h.endorse ∧
      RegsBut [Reg.PEER_STAT] s.c t.c ∧ t.mem = s.mem ∧ t.pending = s.pending)) ∧
  (∀ s : State, s.c.awake = true →
    Completes .heartbeatTick s (fun t =>
      let c1 := s.c.reach (s.c.pair.tickAt + 1000000)
      let missed := match c1.pair.hbAt with | some x => decide (x ≤ s.c.pair.tickAt) | none => true
      let n := if missed then c1.pair.misses + 1 else 0
      let c2 : Ctl := { c1 with pair := { c1.pair with tickAt := s.c.pair.tickAt + 1000000, misses := n } }
      let c3 := if missed then c2.bump (F.PEER_CNT_count 4) 1 else c2
      let r := if n = 5 then suspectPeer s.mem c3 else (s.mem, c3)
      t.mem = r.1 ∧ t.c = r.2.hbSend ∧ t.pending = s.pending)) ∧
  (∀ (s : State) (tag : PeerTag) (win : Fin 16) (epoch : Fin 65536) (off : Nat) (data : List Byte) (fseq : Fin 65536),
    s.c.peerHears = true → epoch.val = s.c.get F.PEER_WIN_EPOCH_rx → s.c.flag (F.PEER_WIN_OPR_en win) = true →
    off + data.length ≤ 65536 * s.c.get (F.PEER_WIN_OSZ_size win) → s.c.ringWindow win = false →
    exec (.peerWrite tag win epoch off data fseq) s = .next (s.withBoth
      (s.mem.put .carafe (65536 * s.c.get (F.PEER_WIN_OPR_base win) + off) data, s.c.peerSend (.wack tag)))) ∧
  (∀ (s : State) (tag : PeerTag) (win : Fin 16) (epoch : Fin 65536) (off : Nat) (data : List Byte) (fseq : Fin 65536),
    s.c.peerHears = true → epoch.val = s.c.get F.PEER_WIN_EPOCH_rx → s.c.flag (F.PEER_WIN_OPR_en win) = true →
    off + data.length ≤ 65536 * s.c.get (F.PEER_WIN_OSZ_size win) → s.c.ringWindow win = true →
    Completes (.peerWrite tag win epoch off data fseq) s (fun t =>
      let r := mirrorData (data.length / 64 + 1) (s.mem, s.c) (off / 64) data
      t.mem = r.1 ∧ t.c = r.2.peerSend (.wack tag) ∧ t.pending = s.pending)) ∧
  (∀ (s : State) (q : Nat), s.c.peerHears = true →
    exec (.peerWack (.mirror q)) s = .next (s.withCtl
      (({ s.c with pair := { s.c.pair with mirNaks := Tab.del s.c.pair.mirNaks q } } : Ctl).peerPersistent q))) ∧
  (∀ (s : State) (k : Nat), s.c.peerHears = true → exec (.peerWack (.own k)) s = .next (s.withCtl (s.c.writeDone k))) ∧
  (∀ (s : State) (epoch : Fin 65536), s.c.peerHears = true →
    exec (.peerEpochInfo epoch) s = .next (s.withCtl
      (let c1 := s.c.set F.PEER_WIN_EPOCH_tx epoch
       c1.pair.resend.foldl Ctl.writeAgain { c1 with pair := { c1.pair with resend := [] } }))) ∧
  (∀ s : State, s.c.peerHears = true → exec .peerEpochQuery s = .next (s.withCtl s.c.sayEpoch)) ∧
  (∀ (s : State) (txn : Nat) (writes : List (Nat × Word)) (ops : List CfgOp) (atNs : Option Nat), s.c.peerHears = true → s.c.lease = false →
    Completes (.peerConfig txn writes ops atNs) s (fun t =>
      let old := s.c.pair.held.filter (fun h => txn == 0 || h.txn != txn)
      let held := if writes.isEmpty && ops.isEmpty then old else old ++ [(⟨txn, writes, ops, atNs⟩ : HeldSet)]
      t.c = ({ s.c with pair := { s.c.pair with held := held } } : Ctl).peerSend (.configAck txn) ∧ t.c.pair.held = held ∧ t.mem = s.mem ∧
      t.pending = s.pending)) ∧
  (∀ (s : State) (txn k : Nat) (x : Txn), s.c.peerHears = true →
    s.c.mgt.txns.find? (fun p => p.2.state == 4 && p.2.id == txn) = some (k, x) →
    exec (.peerConfigAck txn) s = .next (s.withBoth (commitTell x (commitFinish s.mem s.c k x)))) ∧
  (∀ (s : State) (k : KeyMsg), s.c.peerHears = true → exec (.peerKey k) s = .next (s.withCtl (s.c.peerKey k))) ∧
  (∀ (s : State) (tenant : Fin 4096) (status : Nat), s.c.peerHears = true →
    exec (.peerKeyAck tenant status) s = .next (s.withCtl (s.c.peerKeyAck tenant status))) ∧
  (∀ s : State, s.c.peerHears = true → s.c.lease = false →
    exec .peerFencing s = .next (s.withCtl (s.c.peerFreed false)) ∧ exec .peerHandover s = .next (s.withCtl (s.c.peerFreed true)) ∧
    exec .peerLeave s = .next (s.withCtl s.c.standbyLost)) ∧
  (∀ s : State, s.c.peerHears = true → s.c.lease = true → exec .peerLeave s = .next (s.withBoth (peerLostAll s.mem s.c))) ∧
  (∀ s : State, s.c.flag F.GLB_MODE_STAT_peer_synced = true → s.c.lease = false → s.c.awake = true →
    (s.c.recBy s.c.pair.shadow).isSome = true →
    Completes .shadowApply s (fun t =>
      let q := s.c.pair.shadow
      let r := replayRec (s.mem, s.c) q
      t.mem = r.1 ∧
      t.c = (({ r.2 with pair := { r.2.pair with shadow := q + 1 } } : Ctl).wr Reg.PEER_APPLIED_LO (wd q)).wr Reg.PEER_APPLIED_HI
        (wd (q / 2 ^ 32)) ∧ t.pending = s.pending)) ∧
  (∀ (s : State) (blobs : List (Nat × List Byte)), s.c.pair.syncing = true → s.c.peerHears = true → s.c.lease = true →
    Completes (.mirrorSyncComplete blobs) s (fun t =>
      let c1 := s.c.syncClean.mapRecs (fun r => { r with peer := true })
      let c2 : Ctl := { c1 with car := { c1.car with peerWt := false } }
      let c3 := if c2.mode = .standby then c2.setFlag F.GLB_START_STAT_mirror_synced true else c2
      t.c = ((c3.faultRecord 0x84 0 0).landCheckAll.wtUpdate).reassess ∧ t.mem = s.mem ∧ t.pending = s.pending))

/-- The witness, the lease, takeover and handover (13_pairing_and_failover.md, R336, R338, R341, R343 to R346, R349, R353): each row completes with
the effect named, from every state in which it acts. Where the spec leaves a choice, the clauses follow the model's: notes/assumptions 5, 50, 54. -/
def Obligations.WitnessAndLeaseRowsComplete : Prop :=
  (∀ s : State, s.c.awake = true →
    let c1 := s.c.reach ((s.c.dt / 10000000 + 1) * 10000000)
    (c1.lease = true → c1.power.stop = none → c1.forced = false → exec .witnessTick s = .next (s.withCtl (c1.witSend .renew false))) ∧
    (c1.lease = true → c1.power.stop = none → c1.forced = true → exec .witnessTick s = .next (s.withCtl (c1.witSend .acquire true))) ∧
    (c1.lease = false → exec .witnessTick s = .next (s.withCtl (c1.witSend .status false)))) ∧
  (∀ (s : State) (num : Nat) (r : WitReq), s.c.awake = true → s.c.pair.reqs.find? (fun r => r.num == num && !r.late) = some r →
    r.kind = .renew →
    Completes (.witnessRequestTimeout num) s (fun t =>
      let c1 := s.c.reach (r.sent + 1000000)
      t.c = ({ c1 with pair := { c1.pair with
        reqs := c1.pair.reqs.map (fun x => if x.num = num then { x with late := true } else x) } } : Ctl).bump (F.PEER_CNT_count 8) 1 ∧
      t.mem = s.mem ∧ t.pending = s.pending)) ∧
  (∀ s : State, s.c.awake = true → s.c.flag F.GLB_MODE_STAT_no_witness = false →
    exec .witnessLost s = .next (s.withCtl
      ((((s.c.reach (s.c.pair.witAt + 30000000)).setFlag F.GLB_MODE_STAT_no_witness true).faultRecord 0x15 0 0).faultRecord 0x85 0 0))) ∧
  (∀ (s : State) (req epoch : Nat) (vs : List BaySample) (r : WitReq) (c1 : Ctl), WitAnswers s.c req r c1 → c1.power.stop = none →
    r.kind = .renew → c1.lease = true →
    Completes (.witnessGrant req epoch true vs) s (fun t =>
      t.c = { c1 with pair := { c1.pair with witEnd := some (r.sent + 40000000) } } ∧ t.mem = s.mem ∧ t.pending = s.pending)) ∧
  (∀ (s : State) (req epoch : Nat) (vs : List BaySample) (r : WitReq) (c1 : Ctl), WitAnswers s.c req r c1 → c1.power.stop = none →
    r.kind = .acquire → c1.lease = false → c1.mayAcquire = true →
    Completes (.witnessGrant req epoch true vs) s (fun t =>
      let l := takeLease s.mem c1 epoch 1 (some (r.sent + 40000000)) 0x80
      let d := driveIfMay l.1 l.2 vs
      t.mem = d.1 ∧ t.c = d.2 ∧ t.pending = s.pending)) ∧
  (∀ (s : State) (req value : Nat) (r : WitReq) (c1 : Ctl), WitAnswers s.c req r c1 → r.kind = .acquire →
    exec (.witnessRefuse req 1 value true) s = .next (s.withCtl ((c1.bump (F.PEER_CNT_count 6) 1).refusedHeld value)) ∧
    exec (.witnessRefuse req 2 value true) s = .next (s.withCtl ((c1.bump (F.PEER_CNT_count 6) 1).refusedStale))) ∧
  (∀ (s : State) (req : Nat) (r : WitReq) (c1 : Ctl), WitAnswers s.c req r c1 → c1.mayAcquire = true →
    c1.flag F.PEER_STAT_endorsing = false →
    exec (.witnessState req none true) s = .next (s.withCtl c1.acquire)) ∧
  (∀ (s : State) (x : Nat), s.c.pair.retryAt = some x → ((s.c.reach x).wantsLease || (s.c.reach x).startWants) = true →
    exec .acquireRetryTimer s = .next (s.withCtl (s.c.reach x).acquire)) ∧
  (∀ (s : State) (x : Nat), s.c.leaseEnd = some x → s.c.halted = false →
    exec .leaseExpire s = .next (s.withCtl (s.c.reach x).fence)) ∧
  (∀ (s : State) (vs : List BaySample), s.c.lease = true → s.c.pair.take = some .permission →
    exec (.drivePermission vs) s = .next (s.withBoth (driveOutputs s.mem (s.c.reach s.c.driveAt) vs))) ∧
  (∀ (s : State) (groups : List GroupLook) (looks : List CkLook) (bad : List BadLook) (stored : List Nat) (since : Nat),
    s.c.pair.take = some (.members since) →
    exec (.takeoverServiceEntry groups looks bad stored) s = .next (s.withBoth
      (let waits := s.c.takeWaits
       let c0 := if waits.isEmpty then s.c else s.c.reach (since + 1000000000 * s.c.get F.GLB_START_CFG_member_wait_s)
       let r1 := waits.foldl (fun (a : Mem × Ctl) b => memberMissing a.1 a.2 b) (s.mem, c0)
       let keyed := if r1.2.keys.restored then r1.2 else { r1.2.keysRestore with keys := { r1.2.keysRestore.keys with restored := true } }
       let r2 := replayBuild r1.1 (keyed.pendSettle stored) groups looks
       let r3 := replayBad r2.1 r2.2
       let r4 := if r3.2.pair.handed then r3 else replayRedo r3.1 r3.2 bad
       let us := match r4.2.pair.beganAt with | some t => min 0xFFFFFFFF ((r4.2.dt - t) / 1000) | none => 0
       let c6 := ((r4.2.setFlag F.GLB_START_STAT_members_ready true).setFlag F.GLB_START_STAT_replay_done true).wr Reg.PEER_SWO_SERVE (wd
         us)
       let c8 := ({ c6 with pair := { c6.pair with take := none, freed := false, handed := false, beganAt := none } } : Ctl).reassess
       (r4.1, (c8.setMode c8.serveMode).psApply)))) ∧
  (∀ (s : State) (h : HbMsg), s.c.pair.hand = some .drain → s.c.pair.last = some h → s.c.ioTags = 0 → h.applied = s.c.car.head - 1 →
    s.c.halted = false →
    exec .handoverSyncReached s = .next (s.withCtl s.c.handOut)) ∧
  (∀ (s : State) (x : Nat), s.c.pair.hand = some (.fenced x) →
    exec .handoverSelfReset s = .next (s.withBoth (toReset s.mem (s.c.reach x) (if s.c.trust.leaving then 5 else 6)))) ∧
  (∀ (s : State) (vs : List BaySample) (x : Nat), s.c.pair.forceAt = some x → s.c.mode = .standby → s.c.lease = false →
    s.c.halted = false →
    Completes (.forcedTakeoverWaitEnd vs) s (fun t =>
      let x1 := match s.c.pair.hbAt with | some a => max x (a + 42000000) | none => x
      let l := takeLease s.mem (s.c.reach x1) (s.c.epoch + 1) 3 none 0x82
      let d := driveOutputs l.1 l.2 vs
      t.mem = d.1 ∧ t.c = d.2 ∧ t.pending = s.pending))

/-- The faults that end a device's service (13_pairing_and_failover.md, R342, R355): a device with the lease records the fault, fences itself and
releases the lease; a standby records it, leaves and resets; another device records it. Where the spec leaves a choice, the clauses follow the
model's: notes/assumptions 34, 54. -/
def Obligations.ReleaseFaultRowsComplete : Prop :=
  (∀ (s : State) (i : Instr) (code detail : Nat), s.c.halted = false →
    ([(.lockstepMismatch 0, 0x02, 0), (.lockstepMismatch 1, 0x02, 1), (.watchdogExpire, 0x03, 0), (.hbmStackFailure false, 0x06, 6),
      (.hbmStackFailure true, 0x06, 7), (.clockLoss, 0x0D, 0)] : List (Instr × Nat × Nat)).contains (i, code, detail) = true →
    (s.c.lease = true → exec i s = .next (s.withCtl (((s.c.faultRecord code 2 detail).fence).witSend .release false))) ∧
    (s.c.lease = false → s.c.mode = .standby → s.c.flag F.PEER_CFG_en = true →
      exec i s = .next (s.withBoth (toReset s.mem ((s.c.faultRecord code 1 detail).peerSend .leave) 7))) ∧
    (s.c.lease = false → s.c.mode ≠ .standby → exec i s = .next (s.withCtl (s.c.faultRecord code 1 detail)))) ∧
  (∀ (s : State) (rail : Fin 12), s.c.halted = false → s.c.lease = true →
    exec (.railOutOfTolerance rail) s = .next (s.withBoth
      (releaseFault s.mem (s.c.setBitOf F.GLB_PWR_STAT_rail_ok rail false) 0x0B rail)))

/-- The bay channels (14_bay_power.md, R361 to R368, R374): each row completes with the effect named, from every state in which it acts. Where the
spec leaves a choice, the clauses follow the model's: notes/assumptions 20, 60. -/
def Obligations.BayChannelRowsComplete : Prop :=
  (∀ (s : State) (bay : Fin 24), s.c.bayDie = true → s.c.seat bay = false →
    Completes (.seatAssert bay) s (fun t =>
      let c1 := (s.c.setFlag (F.BAY_CH_STAT_seat bay) true).onCh bay (fun x => { x with debAt := some s.c.dt, seated := false })
      t.c = (if c1.chSt bay = Ch.empty then c1.chTo bay Ch.seating else c1.usableNote bay) ∧ t.mem = s.mem ∧ t.pending = s.pending)) ∧
  (∀ (s : State) (bay : Fin 24) (v : BaySample) (x : Nat), s.c.bayDie = true → (s.c.ch bay).debAt = some x →
    Completes (.seatDebounceDone bay v) s (fun t =>
      let c1 := (s.c.reach (x + 100000000)).onCh bay (fun y => { y with debAt := none, seated := true })
      t.c = ((if c1.chSt bay = Ch.seating then c1.chIdle bay else c1).bayMeas bay v).bayEvent bay 1 0 (c1.chSt bay) v ∧ t.mem = s.mem ∧
      t.pending = s.pending)) ∧
  (∀ (s : State) (bay : Fin 24) (v : BaySample), s.c.bayDie = true → s.c.seat bay = true →
    let c1 := (s.c.setFlag (F.BAY_CH_STAT_seat bay) false).onCh bay (fun x =>
      { x with debAt := none, seated := false, cycle := false, checkAt := none, againAt := none, want := false })
    let c2 : Ctl := { c1 with rbd := { c1.rbd with drives := Tab.del c1.rbd.drives bay, ports := Tab.del c1.rbd.ports bay } }
    ((s.c.chSt bay = Ch.precheck ∨ s.c.chSt bay = Ch.ramp ∨ s.c.chSt bay = Ch.on) →
      exec (.seatDeassert bay v) s = .next (s.withBoth
        (bayMember s.mem (((((c2.bayMeas bay v).gateOff bay).chTo bay Ch.empty).bayEvent bay 2 0 (s.c.chSt bay) v).baysUpNote) bay))) ∧
    (s.c.chSt bay = Ch.keeper → exec (.seatDeassert bay v) s = .next (s.withCtl
      ((c2.bayEvent bay 2 0 Ch.keeper v).usableNote bay))) ∧
    (s.c.chSt bay = Ch.latched → exec (.seatDeassert bay v) s = .next (s.withCtl
      (((c2.setBitOf F.BAY_STAT_latched bay false).set (F.BAY_CH_STAT_cause bay) 0).chTo bay Ch.empty))) ∧
    ((s.c.chSt bay = Ch.seating ∨ s.c.chSt bay = Ch.idle) →
      exec (.seatDeassert bay v) s = .next (s.withCtl (c2.chTo bay Ch.empty).baysUpNote))) ∧
  (∀ (s : State) (b : Nat), s.c.lease = true → s.c.power.stop.isNone = true → s.c.ramping < s.c.get F.BAY_CFG_max_ramp → (List.range
    24).find? s.c.slotFor = some b →
    exec .rampSlotGrant s = .next (s.withCtl ((s.c.onCh b (fun x => { x with want := false })).chTo b Ch.precheck))) ∧
  (∀ (s : State) (bay : Fin 24) (first last : BaySample), s.c.bayDie = true → s.c.chSt bay = Ch.precheck →
    Tab.has s.c.bay.cal bay = false →
    let c1 := (s.c.reach ((s.c.ch bay).since + 1000000)).bayMeas bay last
    (at90 first = true → at90 last = true → Completes (.precheckEnd bay first last) s (fun t =>
      let r := bayLatch s.mem c1 bay 5 last
      t.mem = r.1 ∧ t.c = r.2.baysUpNote ∧ t.pending = s.pending)) ∧
    ((at90 first && at90 last) = false → last.vin < 9000 → exec (.precheckEnd bay first last) s = .next (s.withCtl
      (c1.onCh bay (fun x => { x with since := c1.dt })))) ∧
    ((at90 first && at90 last) = false → 9000 ≤ last.vin → exec (.precheckEnd bay first last) s = .next (s.withCtl
      (((c1.onCh bay (fun x => { x with gate := .driven true })).chTo bay Ch.ramp).bayEvent bay 3 0 Ch.precheck last)))) ∧
  (∀ (s : State) (bay : Fin 24) (v : BaySample), s.c.bayDie = true → s.c.chSt bay = Ch.ramp → at92 v = true → (s.c.ch bay).holdEnd = none →
    exec (.rampComplete bay v) s = .next (s.withCtl
      ((((s.c.bayMeas bay v).chTo bay Ch.on).onCh bay (fun x => { x with cycle := false })).pgCheck bay v).baysUpNote)) ∧
  (∀ (s : State) (bay : Fin 24) (v : BaySample), s.c.bayDie = true →
    (s.c.chSt bay = Ch.ramp ∨ (s.c.chSt bay = Ch.on ∧ s.c.flag (F.BAY_CH_STAT_limit bay) = false)) →
    Completes (.gateFailTimeout bay v) s (fun t =>
      let r := bayLatch s.mem s.c bay 4 v
      t.mem = r.1 ∧ t.c = r.2.baysUpNote ∧ t.pending = s.pending)) ∧
  (∀ (s : State) (bay : Fin 24) (v : BaySample), s.c.bayDie = true → s.c.gateDriven bay = true →
    s.c.get (F.BAY_CH_ILIM_ilim_ma bay) ≤ v.i →
    exec (.currentLimitEnter bay v) s = .next (s.withCtl ((s.c.bayMeas bay v).limitEnter bay v))) ∧
  (∀ (s : State) (bay : Fin 24) (v : BaySample), s.c.bayDie = true → s.c.flag (F.BAY_CH_STAT_limit bay) = true →
    (s.c.ch bay).holdEnd = none → 10 * v.i ≤ 9 * s.c.get (F.BAY_CH_ILIM_ilim_ma bay) →
    exec (.currentLimitRelease bay v) s = .next (s.withCtl
      ((((s.c.bayMeas bay v).timerStop bay).bayEvent bay 6 0 (s.c.chSt bay) v).pgCheck bay v).baysUpNote)) ∧
  (∀ (s : State) (bay : Fin 24) (v : BaySample) (x : Nat), s.c.bayDie = true → (s.c.ch bay).timerAt = some x →
    Completes (.bayFaultTimerExpire bay v) s (fun t =>
      let r := bayLatch s.mem (s.c.reach (x + s.c.get (F.BAY_CH_CFG_ftimer bay) * 100000)) bay 1 v
      t.mem = r.1 ∧ t.c = r.2.baysUpNote ∧ t.pending = s.pending)) ∧
  (∀ (s : State) (bay : Fin 24) (v : BaySample), s.c.bayDie = true → s.c.get (F.BAY_CH_ILIM_fast_ma bay) ≤ v.i →
    (s.c.gateDriven bay || s.c.keeperArmed bay) = true →
    let c1 := (s.c.bump (F.BAY_CH_CNT_fast_trips bay) 1).bayMeas bay v
    ((s.c.keeperArmed bay || (s.c.ch bay).tripped) = true → Completes (.fastTrip bay v) s (fun t =>
      let r := bayLatch s.mem (c1.bayEvent bay 7 0 (s.c.chSt bay) v) bay 3 v
      t.mem = r.1 ∧ t.c = r.2.baysUpNote ∧ t.pending = s.pending)) ∧
    ((s.c.keeperArmed bay || (s.c.ch bay).tripped) = false → Completes (.fastTrip bay v) s (fun t =>
      let c2 := (c1.limitEnter bay v).timerStart bay
      t.c = (c2.onCh bay (fun x => { x with tripped := true, holdEnd := some (c2.dt + 20000) })).bayEvent bay 7 0 (s.c.chSt bay) v ∧
      t.mem = s.mem ∧ t.pending = s.pending))) ∧
  (∀ (s : State) (bay : Fin 24) (x : Nat), s.c.bayDie = true → (s.c.ch bay).holdEnd = some x →
    exec (.fastTripHoldEnd bay) s = .next (s.withCtl ((s.c.reach x).onCh bay (fun y => { y with holdEnd := none })))) ∧
  (∀ (s : State) (bay : Fin 24) (v : BaySample), s.c.bayDie = true → 760 ≤ v.tfet →
    (s.c.gateDriven bay || s.c.chSt bay == Ch.precheck || s.c.keeperArmed bay) = true →
    Completes (.fetTempLimit bay v) s (fun t =>
      let r := bayLatch s.mem s.c bay 2 v
      t.mem = r.1 ∧ t.c = r.2.baysUpNote ∧ t.pending = s.pending)) ∧
  (∀ (s : State) (bay : Fin 24) (avg : Nat) (v : BaySample), s.c.bayDie = true →
    Completes (.ps2SecondCheck bay avg v) s (fun t =>
      let x := s.c.ch bay
      let now := s.c.dt / 1000000000 * 1000000000
      let at_ := if x.ps2At < now then now else now + 1000000000
      let c1 := s.c.reach at_
      let n := if c1.gateDriven bay ∧ !c1.ps2Over bay ∧ 100000 < avg then (if at_ = x.ps2At + 1000000000 then x.ps2 else 0) + 1 else 0
      let c2 := c1.onCh bay (fun y => { y with ps2 := if 3 ≤ n then 0 else n, ps2At := at_ })
      (n < 3 → t.mem = s.mem ∧ t.c = (c2.pgCheck bay v).baysUpNote) ∧
      (3 ≤ n → t.mem = (bayLatch s.mem c2 bay 6 v).1 ∧ t.c = (bayLatch s.mem c2 bay 6 v).2.baysUpNote) ∧ t.pending = s.pending))

/-- Bay power commands, PERST, the off sequence and the bay die (14_bay_power.md, R371 to R373, R375, R377, R380): each row completes with the effect
named, from every state in which it acts. Where the spec leaves a choice, the clauses follow the model's: notes/assumptions 20, 42, 60. -/
def Obligations.BayControlRowsComplete : Prop :=
  (∀ (s : State) (bay : Fin 24) (x : Nat), s.c.bayDie = true → (s.c.ch bay).pgAt = some x →
    Completes (.perstReleaseTimer bay) s (fun t =>
      t.c = (s.c.reach (x + 100000000)).onCh bay (fun y =>
        { y with perst := .high, pgAt := none, perstAt := some (s.c.reach (x + 100000000)).dt }) ∧ t.mem = s.mem ∧ t.pending = s.pending)) ∧
  (∀ (s : State) (bay : Fin 24) (x : Nat), s.c.bayDie = true → (s.c.ch bay).off = some (.shutdown x) →
    exec (.bayShutdownDone bay false) s = .next (s.withCtl (s.c.offPerst bay)) ∧
    exec (.bayShutdownDone bay true) s = .next (s.withCtl ((s.c.reach x).offPerst bay))) ∧
  (∀ (s : State) (bay : Fin 24) (v : BaySample) (x : Nat), s.c.bayDie = true → (s.c.ch bay).off = some (.perst x) →
    Completes (.bayGateOffDelay bay v) s (fun t =>
      let c1 := (s.c.reach x).bayMeas bay v
      let c2 := ((c1.gateOff bay).chTo bay Ch.idle).onCh bay (fun y =>
        { y with checkAt := some (c1.dt + 100000000), againAt := if y.cycle then some (c1.dt + 1000000000) else none })
      t.c = (c2.bayEvent bay 0x0A 0 (s.c.chSt bay) v).baysUpNote ∧ t.mem = s.mem ∧ t.pending = s.pending)) ∧
  (∀ (s : State) (bay : Fin 24) (v : BaySample) (x : Nat), s.c.bayDie = true → (s.c.ch bay).checkAt = some x →
    let c1 := ((s.c.reach x).onCh bay (fun y => { y with checkAt := none })).bayMeas bay v
    (c1.chSt bay = Ch.idle → at90 v = true → exec (.bayOffShortCheck bay v) s = .next (s.withBoth (bayLatch s.mem c1 bay 5 v))) ∧
    (at90 v = false → exec (.bayOffShortCheck bay v) s = .next (s.withCtl c1))) ∧
  (∀ (s : State) (bay : Fin 24) (x : Nat), s.c.bayDie = true → (s.c.ch bay).againAt = some x →
    Completes (.bayCycleRestart bay) s (fun t =>
      t.c = (s.c.reach x).onCh bay (fun y =>
        { y with againAt := none, want := s.c.flag (F.BAY_CH_CFG_en bay), cycle := s.c.flag (F.BAY_CH_CFG_en bay) }) ∧
      t.mem = s.mem ∧ t.pending = s.pending)) ∧
  (∀ (s : State) (bay : Fin 24), s.c.bar0Open = true →
    (s.c.bayRefusal bay 1 = 0 → exec (.bayCmdOn bay) s = .next (s.withCtl (s.c.onCh bay (fun x => { x with want := true })))) ∧
    (s.c.bayRefusal bay 2 = 0 → exec (.bayCmdOff bay) s = .next (s.withCtl (s.c.offStart bay))) ∧
    (s.c.bayRefusal bay 3 = 0 → exec (.bayCmdClear bay) s = .next (s.withCtl
      (((((s.c.setBitOf F.BAY_STAT_latched bay false).set (F.BAY_CH_STAT_cause bay) 0).chIdle bay).usableNote bay).bayEvent bay 9 0
        Ch.latched
        (s.c.bayNow bay)))) ∧
    (s.c.bayRefusal bay 4 = 0 → exec (.bayCmdCycle bay) s = .next (s.withCtl
      ((s.c.onCh bay (fun x => { x with cycle := true })).offStart bay)))) ∧
  (∀ (s : State) (bay : Fin 24), s.c.bar0Open = true →
    (s.c.bayRefusal bay 1 ≠ 0 → exec (.bayCmdOn bay) s = .next (s.withCtl (s.c.setFlag (F.BAY_CH_STAT_cmd_err bay) true))) ∧
    (s.c.bayRefusal bay 2 ≠ 0 → exec (.bayCmdOff bay) s = .next (s.withCtl (s.c.setFlag (F.BAY_CH_STAT_cmd_err bay) true))) ∧
    (s.c.bayRefusal bay 3 ≠ 0 → exec (.bayCmdClear bay) s = .next (s.withCtl (s.c.setFlag (F.BAY_CH_STAT_cmd_err bay) true))) ∧
    (s.c.bayRefusal bay 4 ≠ 0 → exec (.bayCmdCycle bay) s = .next (s.withCtl (s.c.setFlag (F.BAY_CH_STAT_cmd_err bay) true)))) ∧
  (∀ (s : State) (bays : BitVec 24) (c1 : Ctl), s.c.bar0Open = true → s.c.ps2Clears bays.toNat = false →
    s.c.pcrRequest Reg.BAY_PS2_OVR 4 (wd (bays.toNat % 2 ^ 24)) true = (0, c1) →
    exec (.bayPs2OvrWrite 0xB7 bays) s = .next (s.withCtl c1)) ∧
  (∀ (s : State) (bay : Fin 24) (ofs : BitVec 16) (x : Nat) (c3 : Ctl), s.c.testRuns 0x0A30 = true → Tab.at? s.c.bay.cal bay = some x →
    (let c0 := s.c.reach x
     let c1 := if c0.chSt bay = Ch.precheck then c0.onCh bay (fun y => { y with since := c0.dt }) else c0
     ({ c1 with
        bay := { c1.bay with cal := Tab.del c1.bay.cal bay }
        mgt := { c1.mgt with tests := c1.mgt.tests.filter (fun x => !(x.op == 0x0A30 && x.target == bay.val)) } } : Ctl).pcrRequest
       (Reg.BAY_CH_OFS bay) (8 + bay) (ofs.setWidth 32) false) = (0, c3) →
    Completes (.bayCalDone bay ofs) s (fun t =>
      let h := (((s.c.reach x).mgt.tests.find? (fun x => x.op == 0x0A30 && x.target == bay.val)).map (·.handle)).getD 64
      t.c = (c3.bayEvent bay 0x0B 0 (c3.chSt bay) (c3.bayNow bay)).handleEnd h Cs.ok [0, 0] ∧ t.mem = s.mem ∧ t.pending = s.pending)) ∧
  (∀ (s : State) (parts v12 : Bool), s.c.bayDie = true →
    let c1 := s.c.setFlag F.BAY_STAT_v12_ok v12
    ((parts && v12 || c1.flag F.BAY_STAT_die_fault) = true → exec (.bayDieSelfCheck parts v12) s = .next (s.withCtl c1)) ∧
    ((parts && v12 || c1.flag F.BAY_STAT_die_fault) = false → exec (.bayDieSelfCheck parts v12) s = .next (s.withBoth
      (releaseFault s.mem (c1.setFlag F.BAY_STAT_die_fault true) 0x0E 0)))) ∧
  (∀ (s : State) (bay : Fin 24) (gateHigh pgHigh : Bool), s.c.bayDie = true →
    exec (.followerKeeperSample bay gateHigh pgHigh) s = .next (s.withCtl
      (s.c.onCh bay (fun x => { x with
        gate := (match x.gate with | .follower _ => .follower gateHigh | g => g)
        pg := (match x.pg with | .follower _ => .follower pgHigh | p => p) }))))

/-- The Chieb opcodes that read or write registers, and transactions (15_management_and_transactions.md, R385 to R400): each opcode's row completes
with the reply and the effect named, for every request that is served and whose parameters it accepts. Where the spec leaves a choice, the clauses
follow the model's: notes/assumptions 28, 39, 52, 63. -/
def Obligations.ChiebRegisterRowsComplete : Prop :=
  ChiebRuns .identify 0x0000 (fun _ _ => True) (fun _ _ c =>
      [wd (c.get F.GLB_ID_part), wd (c.get F.GLB_ID_rev), wd (if c.power.slotId then 1 else 0),
       c.rd (Reg.FWU_SLOT_VER_LO (c.get F.FWU_STAT_cur_slot)), c.rd (Reg.FWU_SLOT_VER_HI (c.get F.FWU_STAT_cur_slot)), wd c.mode.code])
    (fun _ m c => (m, c)) ∧
  ChiebRuns .status 0x0001 (fun _ _ => True)
    (fun _ _ c => [c.peek Reg.GLB_MODE_STAT, c.peek Reg.GLB_START_STAT, c.peek Reg.GLB_PWR_STAT, c.peek Reg.MGT_TXN_STAT])
    (fun _ m c => (m, c)) ∧
  (∀ (s : State) (src : ChiebSrc) (t : Taken) (m : Mem) (c : Ctl) (e : HandleE), ChiebServed 0x0002 src s t m c →
    Tab.at? c.mgt.handles (t.w 0) = some e → t.pkt.words ≠ [] → e.ended.isSome = true →
    exec (.opQuery src) s = .next (s.withBoth
      (chiebDone t (m, { c with mgt := { c.mgt with handles := Tab.del c.mgt.handles (t.w 0) } }) e.status e.words))) ∧
  (∀ (s : State) (handle : Fin 64) (x : Nat), (Tab.at? s.c.mgt.handles handle).bind (·.ended) = some x →
    Completes (.handleExpire handle) s (fun t =>
      t.c.mgt.handles = Tab.del s.c.mgt.handles handle ∧ t.c.dt = max s.c.dt (x + 60000000000) ∧ t.c.regs = s.c.regs ∧ t.mem = s.mem ∧
      t.pending = s.pending)) ∧
  ChiebRuns .regRead 0x0100
    (fun t _ => 2 ≤ t.pkt.words.length ∧ t.w 0 % 4 = 0 ∧ t.w 1 ≠ 0 ∧ t.w 1 ≤ 16384 ∧ t.w 0 + 4 * t.w 1 ≤ 0x4000000 ∧
      kpDenied t (t.w 0) (t.w 1) = false)
    (fun t _ c => (c.rdRegs (t.w 0) (t.w 1)).1) (fun t m c => (m, (c.rdRegs (t.w 0) (t.w 1)).2)) ∧
  (∀ (s : State) (src : ChiebSrc) (t : Taken) (m : Mem) (c : Ctl), ChiebServed 0x0101 src s t m c → 3 ≤ t.pkt.words.length →
    t.w 1 + 2 = t.pkt.words.length → t.w 0 % 4 = 0 → t.w 0 + 4 * t.w 1 ≤ 0x4000000 → kpDenied t (t.w 0) (t.w 1) = false →
    let r := regPuts t m c (t.w 0) (t.pkt.words.drop 2)
    r.reply = some (Cs.ok, []) →
    exec (.regWrite src) s = .next (s.withBoth (chiebDone t (r.m, r.c) Cs.ok []))) ∧
  (∀ (s : State) (src : ChiebSrc) (t : Taken) (m : Mem) (c : Ctl) (r : Mem × Ctl), ChiebServed 0x0102 src s t m c →
    3 ≤ t.pkt.words.length → t.w 0 % 4 = 0 → t.w 0 < 0x4000000 → kpDenied t (t.w 0) 1 = false →
    regPut t m c (t.w 0) (wd (t.w 2)) (wd (t.w 1)) = (0, r) →
    exec (.regWriteMasked src) s = .next (s.withBoth (chiebDone t r Cs.ok []))) ∧
  (∀ (s : State) (src : ChiebSrc) (t : Taken) (m : Mem) (c : Ctl) (k : Nat), ChiebServed 0x0200 src s t m c →
    Tab.freeKey c.mgt.txns 0 8 = some k →
    exec (.begin src) s = .next (s.withBoth (chiebDone t
      (m, (let c1 := c.setTxn k ⟨c.txnFreeId, t.chan, 1, [], c.dt, 0, 0, 64⟩
           { c1 with mgt := { c1.mgt with nextId := (c.txnFreeId + 1) % 65536 } })) Cs.ok [wd c.txnFreeId]))) ∧
  (∀ (s : State) (src : ChiebSrc) (t : Taken) (m : Mem) (c : Ctl) (k : Nat) (x : Txn), ChiebServed 0x0201 src s t m c →
    c.txnBy t.pkt.txn = some (k, x) → x.state = 1 → c.committing = false → (commitStart m c k x).st = Cs.ok →
    exec (.commit src) s = .next (s.withBoth
      (chiebDone t ((commitStart m c k x).m, (commitStart m c k x).c) Cs.ok []))) ∧
  (∀ (s : State) (src : ChiebSrc) (t : Taken) (m : Mem) (c : Ctl) (k h : Nat) (x : Txn), ChiebServed 0x0202 src s t m c →
    c.txnBy t.pkt.txn = some (k, x) → x.state = 1 → 3 ≤ t.pkt.words.length → t.w 2 < 1000000000 →
    dntOf (t.w 0) (t.w 1) (t.w 2) ≤ c.dntNs + 604800000000000 → c.dntNs < dntOf (t.w 0) (t.w 1) (t.w 2) → c.handleFree = some h →
    exec (.commitAt src) s = .next (s.withBoth (chiebDone t
      (m, (let y : Txn := { x with state := 2, at_ := dntOf (t.w 0) (t.w 1) (t.w 2), order := c.mgt.schedNum, handle := h }
           let c1 := ((c.handleStart h 0x0202).setTxn k y).sendSched y
           { c1 with mgt := { c1.mgt with schedNum := c1.mgt.schedNum + 1 } })) Cs.pending [wd h]))) ∧
  (∀ (s : State) (src : ChiebSrc) (t : Taken) (m : Mem) (c : Ctl) (k : Nat) (x : Txn), ChiebServed 0x0202 src s t m c →
    c.txnBy t.pkt.txn = some (k, x) → x.state = 1 → 3 ≤ t.pkt.words.length → t.w 2 < 1000000000 →
    dntOf (t.w 0) (t.w 1) (t.w 2) ≤ c.dntNs → c.committing = false → (commitStart m c k x).st = Cs.ok →
    exec (.commitAt src) s = .next (s.withBoth
      (chiebDone t ((commitStart m c k x).m, (commitStart m c k x).c) Cs.ok []))) ∧
  (∀ (s : State) (src : ChiebSrc) (t : Taken) (m : Mem) (c : Ctl) (k : Nat) (x : Txn), ChiebServed 0x0203 src s t m c →
    c.txnBy t.pkt.txn = some (k, x) → x.state = 1 →
    exec (.rollback src) s = .next (s.withBoth (chiebDone t (m, c.delTxn k) Cs.ok []))) ∧
  (∀ (s : State) (src : ChiebSrc) (t : Taken) (m : Mem) (c : Ctl) (k : Nat) (x : Txn), ChiebServed 0x0203 src s t m c →
    c.txnBy t.pkt.txn = some (k, x) → (x.state = 2 ∨ x.state = 3) →
    exec (.rollback src) s = .next (s.withBoth (chiebDone t
      (m, (let c1 := (c.delTxn k).handleOpen (if x.handle < 64 then some x.handle else none)
           if (mirrorWords (c.txnWords x)).isEmpty || !c.mirroring || !c.lease then c1 else c1.peerSend (.config x.id [] [] none))) Cs.ok
      []))) ∧
  (∀ (s : State) (src : ChiebSrc) (t : Taken) (m : Mem) (c : Ctl) (k : Nat) (x : Txn), ChiebServed 0x0204 src s t m c →
    t.pkt.words ≠ [] → c.txnBy (t.w 0) = some (k, x) → x.owner = t.chan →
    exec (.txnStatus src) s = .next (s.withBoth (chiebDone t (m, c) Cs.ok
      ([c.txnInfo k, wd (if x.state = 3 then Cs.timeUnsync else 0)] ++ x.entries.flatMap (fun e => [wd e.off, e.val, e.mask]))))) ∧
  ChiebRuns .schedList 0x0B01 (fun _ _ => True)
    (fun _ _ c => (c.mgt.txns.filter (fun p => p.2.state == 2 || p.2.state == 3)).flatMap (fun p => wd p.2.id :: dntWords p.2.at_))
    (fun _ m c => (m, c)) ∧
  (∀ (s : State) (slot : Fin 8) (x : Txn), Tab.at? s.c.mgt.txns slot = some x → x.state = 1 →
    Completes (.txnExpire slot) s (fun t =>
      let c1 := (s.c.reach (x.last + s.c.get F.MGT_TXN_CFG_timeout_s * 1000000000)).delTxn slot
      t.c = (({ c1 with mgt := { c1.mgt with expired := (x.id :: c1.mgt.expired).take 8 } } : Ctl).bump (F.MGT_CNT_count 5) 1) ∧ t.mem =
        s.mem ∧ t.pending = s.pending))

/-- The Chieb opcodes of groups, namespaces, hosts, time and keys (15_management_and_transactions.md, R388; 09_layouts_and_write_path.md;
11_tamp_and_cipher.md, R290, R294, R295): each opcode's row completes with the reply and the effect named, for every request that is served and
whose parameters it accepts. Where the spec leaves a choice, the clauses follow the model's: notes/assumptions 28, 30, 39, 41, 63. -/
def Obligations.ChiebObjectRowsComplete : Prop :=
  ChiebRuns .groupStatus 0x0300 (fun t _ => t.pkt.words ≠ [] ∧ t.w 0 < 16)
    (fun t _ c => ([Reg.GAL_GRP_CFG (t.w 0)] ++ (List.range 4).map (Reg.GAL_GRP_MEM (t.w 0))
      ++ [Reg.GAL_GRP_STRIPES (t.w 0), Reg.GAL_GRP_JRN (t.w 0), Reg.GAL_GRP_UMOFF (t.w 0), Reg.RBD_GRP_STAT (t.w 0)]).map c.peek)
    (fun _ m c => (m, c)) ∧
  (∀ (s : State) (src : ChiebSrc) (t : Taken) (m : Mem) (c c0 : Ctl) (e : Nat), ChiebServed 0x0400 src s t m c → c.lease = true →
    8 ≤ t.pkt.words.length → t.w 0 % 16384 ≠ 0 → t.w 3 ≠ 0 → (t.bytesFrom 4 4).all (· == 0) = false →
    c.mgt.nguid.any (fun p => p.1 != t.w 0 % 16384 && p.2 == t.bytesFrom 4 4) = false → c.nsValid (t.w 0 % 16384) = false →
    c.grpReady (t.w 1 % 16) = true → c.extentPlace (t.w 1 % 16) (t.w 3) = some e →
    c.rgExtend (t.w 1 % 16) (t.w 0 % 16384) (t.w 3) = some c0 →
    exec (.nsCreate src) s = .next (s.withBoth (chiebDone t
      (let ns := t.w 0 % 16384
       let c1 := ((c0.set (F.GAL_NS_MAP0_e ns) e).set (F.GAL_NS_MAP1_c ns) (t.w 3)).set (F.GAL_NS_MAP2_group ns) (t.w 1 % 16)
       let c2 := (c1.setFlag (F.GAL_NS_MAP2_valid ns) true).setFlag (F.TMP_NS_CFG_en ns) (Nat.testBit (t.w 1) 8)
       let op := CfgOp.nsPut ns (t.bytesFrom 4 4) (t.w 2 % 4096) (if Nat.testBit (t.w 1) 12 then 1 else 0)
       (m, ((((c2.wr (Reg.CRM_NS_CFG ns) (Reg.resetWord (Reg.CRM_NS_CFG ns))).cfgOp op).tellStandby
         [Reg.GAL_NS_MAP0 ns, Reg.GAL_NS_MAP1 ns, Reg.GAL_NS_MAP2 ns, Reg.TMP_NS_CFG ns, Reg.CRM_NS_CFG ns] [op]).nsChanged ns))) Cs.ok
      [wd e]))) ∧
  ChiebStarts .nsDelete 0x0401
    (fun t c => c.lease = true ∧ 1 ≤ t.pkt.words.length ∧ c.nsValid (t.w 0) = true ∧ Tab.has c.mgt.nsDel (t.w 0) = false)
    (fun h t m c => nsDelCheck m { c with mgt := { c.mgt with nsDel := Tab.put c.mgt.nsDel (t.w 0) h, nsBusy := c.mgt.nsBusy ++ [t.w 0] } })
      ∧
  ChiebRuns .nsMove 0x0402
    (fun t c => c.lease = true ∧ 2 ≤ t.pkt.words.length ∧ c.nsValid (t.w 0) = true ∧ Tab.has c.mgt.nsDel (t.w 0) = false) (fun _ _ _ => [])
    (fun t m c =>
      let use := (Tab.getD c.car.ns (t.w 0) ⟨0, 0, 0⟩).usage
      let c1 := (c.nsChanged (t.w 0)).useAdd (c.nsTenant (t.w 0)) (t.w 0) (-((use : Nat) : Int))
      let op := CfgOp.nsMove (t.w 0) (t.w 1 % 4096)
      (m, (((((c1.cfgOp op).useAdd (t.w 1 % 4096) (t.w 0) ((use : Nat) : Int)).invalNs (t.w 0)).tellStandby [] [op]).nsChanged (t.w 0)))) ∧
  ChiebRuns .nsInfo 0x0403 (fun t c => c.lease = true ∧ t.pkt.words ≠ [] ∧ c.nsValid (t.w 0) = true)
    (fun t _ c =>
      let x := Tab.getD c.car.ns (t.w 0) ⟨0, 0, 0⟩
      [wd (c.nsGroup (t.w 0)), wd (c.get (F.GAL_NS_MAP0_e (t.w 0))), wd (c.get (F.GAL_NS_MAP1_c (t.w 0))), wd x.tenant, wd (x.usage % 2 ^
        32),
       wd (x.usage / 2 ^ 32)])
    (fun _ m c => (m, c)) ∧
  ChiebRuns .hostAdd 0x0410
    (fun t c => c.lease = true ∧ 57 ≤ t.pkt.words.length ∧ (t.nqnFrom 1).isEmpty = false ∧ t.w 0 / 2 ^ 20 % 16 ≠ 1 ∧
      ((c.mgt.hosts.find? (fun h => h.nqn == t.nqnFrom 1)).isSome = true ∨ c.mgt.hosts.length < 8192))
    (fun _ _ _ => [])
    (fun t m c =>
      let op := CfgOp.hostPut (t.nqnFrom 1) (t.w 0 % 4096) (Nat.testBit (t.w 0) 16) (Nat.testBit (t.w 0) 17) (t.w 0 / 2 ^ 20 % 16)
      let c1 := (c.cfgOp op).tellStandby [] [op]
      let c2 := match c.mgt.hosts.find? (fun h => h.nqn == t.nqnFrom 1) with
        | some h => (if h.tenant = t.w 0 % 4096 then c1 else c1.hostEnd (t.nqnFrom 1))
        | none => c1
      (m, c2)) ∧
  ChiebRuns .hostRemove 0x0411
    (fun t c => c.lease = true ∧ 56 ≤ t.pkt.words.length ∧ c.mgt.hosts.any (fun h => h.nqn == t.nqnFrom 0) = true) (fun _ _ _ => [])
    (fun t m c => (m, ((c.cfgOp (.hostDel (t.nqnFrom 0))).tellStandby [] [.hostDel (t.nqnFrom 0)]).hostEnd (t.nqnFrom 0))) ∧
  ChiebRuns .hostList 0x0412 (fun t c => c.lease = true ∧ t.pkt.words ≠ [] ∧ t.w 0 < 8192)
    (fun t _ c => ((c.mgt.hosts.drop (t.w 0)).take 256).flatMap HostEntry.words) (fun _ m c => (m, c)) ∧
  ChiebRuns .subsysNqn 0x0420 (fun t c => c.lease = true ∧ 56 ≤ t.pkt.words.length ∧ (t.nqnFrom 0).isEmpty = false) (fun _ _ _ => [])
    (fun t m c => (m, (c.cfgOp (.subNqn (t.nqnFrom 0))).tellStandby [] [.subNqn (t.nqnFrom 0)])) ∧
  ChiebRuns .timeStatus 0x0B00 (fun _ _ => True)
    (fun _ _ c => [c.peek Reg.TIM_SYNC_STAT, c.peek Reg.TIM_OFFSET, c.peek Reg.TIM_DNT_LO, c.dntHi, wd (c.dntNs % 1000000000),
      wd (c.dt % 2 ^ 32), wd (c.dt / 2 ^ 32)])
    (fun _ m c => (m, c)) ∧
  ChiebRuns .keyStatus 0x0500 (fun t _ => t.pkt.words.length = 1 ∧ t.w 0 < 4096)
    (fun t _ c => [c.rd (Reg.KP_STAT (t.w 0)), c.rd (Reg.KP_RESULT (t.w 0)), c.rd (Reg.KP_SLOT_STAT (t.w 0) 0),
        c.rd (Reg.KP_SLOT_STAT (t.w 0) 1)] ++ (List.range 16).map (fun k => c.rd (Reg.KP_SLOT_ID (t.w 0) k)) ++ [c.rd (Reg.KP_UNREACHED (t.w
          0))])
    (fun _ m c => (m, c)) ∧
  ChiebRuns .skekInstall 0x0501
    (fun t c =>
      let old := if c.bankState 1 = 2 then 1 else 0
      [Mode.standby, .active, .degraded, .quiesced].contains c.mode = true ∧ t.pkt.words.length = 9 ∧ t.w 8 ≠ 0 ∧
      (c.bankState old = 2 → c.bankId old ≠ t.w 8) ∧ c.flag F.CIP_SKEK_STAT_rewrap = false)
    (fun _ _ _ => [])
    (fun t m c =>
      let key := wordBytes (t.pkt.words.take 8)
      let old := if c.bankState 1 = 2 then 1 else 0
      let new := if c.bankState old = 2 then 1 - old else 0
      let c1 := (List.range 10).foldl (fun (c : Ctl) i => c.bankWord new i (pktField (Config.keyWrap Config.storageKey key) (4 * i) 4)) c
      let c2 := (c1.bankWord new 10 (t.w 8)).bankWord new 11 1
      (m, ({ c2 with keys := { c2.keys with skek := Tab.put c2.keys.skek new key } } : Ctl).skekNote)) ∧
  ChiebStarts .keyLoad 0x0502 (fun t _ => t.pkt.words.length = 22 ∧ t.w 0 < 4096 ∧ t.w 1 < 16)
    (fun h t m c => (m, c.kpLoad (t.w 0) (t.w 1) (wordBytes (t.pkt.words.drop 2)) (some h))) ∧
  ChiebStarts .keyZeroise 0x0503 (fun t _ => t.pkt.words.length = 2 ∧ t.w 0 < 4096 ∧ (t.w 1 / 2 ^ 28 = 2 ∨ t.w 1 / 2 ^ 28 = 3))
    (fun h t m c => (m, c.kpZeroise (t.w 0) (if t.w 1 / 2 ^ 28 = 2 then [t.w 1 % 16] else List.range 16) (some h)))

/-- The Chieb opcodes of firmware, telemetry, pairing and bay power (15_management_and_transactions.md, R388; 17_firmware_and_trust.md;
18_telemetry.md; 13_pairing_and_failover.md, R349, R353, R358; 14_bay_power.md, R373, R374, R379): each opcode's row completes with the reply and
the effect named, for every request that is served and whose parameters it accepts. Where the spec leaves a choice, the clauses follow the
model's: notes/assumptions 28, 39, 43, 48, 54, 63. -/
def Obligations.ChiebServiceRowsComplete : Prop :=
  ChiebRuns .fwStatus 0x0600 (fun t _ => t.pkt.words.length = 0)
    (fun _ _ c => ([Reg.FWU_STAT, Reg.FWU_SVN, Reg.FWU_DL_STAT] ++ (List.range 4).flatMap (fun n =>
      [Reg.FWU_SLOT n, Reg.FWU_SLOT_SVN n, Reg.FWU_SLOT_VER_LO n, Reg.FWU_SLOT_VER_HI n])).map c.peek)
    (fun _ m c => (m, c)) ∧
  (∀ (s : State) (src : ChiebSrc) (t : Taken) (m : Mem) (c c1 : Ctl), ChiebServed 0x0601 src s t m c → t.w 0 % 4096 = 0 →
    t.w 1 % 4096 = 0 → 4096 ≤ t.w 1 → t.w 1 ≤ 61440 → t.pkt.words.length = 2 + t.w 1 / 4 → t.w 0 + t.w 1 ≤ 67108864 → c.mode ≠ .boot →
    c.stageImage (t.w 0) (wordBytes (t.pkt.words.drop 2)) = some c1 →
    exec (.fwDownload src) s = .next (s.withBoth (chiebDone t (m, c1) Cs.ok []))) ∧
  (∀ look : ImgLook, ChiebStarts (fun src => .fwCommit src look) 0x0602
    (fun t c => t.pkt.words.length = 1 ∧ c.fwRefusal (t.w 0 % 4) (t.w 0 / 16 % 8) look = 0)
    (fun h t m c => (m, c.commitBegin ⟨t.w 0 % 4, t.w 0 / 16 % 8, .handle h, 0⟩))) ∧
  ChiebRuns .fwDiscard 0x0603 (fun t _ => t.pkt.words.length = 0) (fun _ _ _ => [])
    (fun _ m c => (m, { c with trust := { c.trust with staged := [] } })) ∧
  (∀ (s : State) (src : ChiebSrc) (t : Taken) (m : Mem) (c : Ctl), ChiebServed 0x0604 src s t m c → t.pkt.words.length = 0 →
    c.flag F.FWU_STAT_trial = true → s.c.trust.leaving = false →
    let r := chiebDone t (m, { c with trust := { c.trust with leaving := true } }) Cs.ok []
    exec (.fwReject src) s = .next (s.withBoth (if r.2.trust.leaving then trialOut r.1 r.2 else r))) ∧
  ChiebRuns .spdmRootSet 0x0605
    (fun t c => t.pkt.words.length = 8 ∧ t.secured = true ∧ (List.range 8).all (fun w => c.pcrRefusal (67 + w) == 0) = true) (fun _ _ _ =>
      [])
    (fun t m c => (m, (List.range 8).foldl (fun (c : Ctl) w => c.pcrStart (Reg.FWU_SPDM_ROOT w) (67 + w) (wd (t.w w)) true) c)) ∧
  (∀ k : Fin 4, ChiebRuns .spdmRootSet 0x0605
    (fun t c => t.src = .mailbox k ∧ t.pkt.words.length = 8 ∧ c.rootZero = true ∧ (List.range 8).all (fun w => c.pcrRefusal (67 + w) == 0) =
      true)
    (fun _ _ _ => [])
    (fun t m c => (m, (List.range 8).foldl (fun (c : Ctl) w => c.pcrStart (Reg.FWU_SPDM_ROOT w) (67 + w) (wd (t.w w)) true) c))) ∧
  ChiebRuns .telSnapshot 0x0700 (fun _ _ => True)
    (fun _ _ c => match c.tel.snap with
      | some x => leWords 672 (snapBytes x (fun _ => true))
      | none => List.replicate 672 0)
    (fun _ m c => (m, c)) ∧
  ChiebRuns .telSweep 0x0701 (fun _ _ => True) (fun _ _ c => leWords 672 (snapBytes (c.takeSnapshot false true c.dntNs c.tel.period) (fun _
    => true)))
    (fun _ m c => (m, c)) ∧
  ChiebRuns .telSamples 0x0702 (fun t _ => t.pkt.words ≠ [] ∧ t.w 0 ≠ 0 ∧ t.w 0 ≤ 2048)
    (fun t m c => (List.range (min (t.w 0) c.samplesHeld)).flatMap (fun i =>
      leWords 8 ((c.memView m).bytes .sram (0x30000 + 32 * ((c.get F.TEL_SMP_TAIL_tail + i) % 4096)) 32)))
    (fun t m c => (m, c.set F.TEL_SMP_TAIL_tail ((c.get F.TEL_SMP_TAIL_tail + min (t.w 0) c.samplesHeld) % 4096))) ∧
  ChiebRuns .pairStatus 0x0800 (fun t _ => t.pkt.words.length = 0)
    (fun _ _ c => [c.peek Reg.PEER_STAT, c.peek Reg.PEER_LEASE, c.peek Reg.PEER_EPOCH, c.peek Reg.GLB_MODE_STAT]) (fun _ m c => (m, c)) ∧
  ChiebStarts .handover 0x0801
    (fun t c => t.pkt.words.length = 0 ∧ c.lease = true ∧ c.flag F.GLB_MODE_STAT_peer_synced = true ∧ c.pair.hand = none ∧ c.halted = false)
    (fun h _ m c => (m, { c with pair := { c.pair with hand := some .drain, handOp := some h } })) ∧
  ChiebRuns .forcedTakeover 0x0802
    (fun t c => t.pkt.words.length = 1 ∧ t.w 0 % 2 = 1 ∧ c.mode = .standby ∧ c.lease = false ∧ c.halted = false ∧
      (c.flag F.PEER_STAT_suspect || !c.flag F.PEER_STAT_link_up) = true ∧
      (c.flag F.GLB_MODE_STAT_no_witness || c.flag F.GLB_MODE_STAT_stale_epoch) = true)
    (fun _ _ _ => [])
    (fun _ m c => (m, { c with pair := { c.pair with
      forceAt := some (match c.pair.hbAt with | some a => a + 42000000 | none => c.dt)
      beganAt := match c.pair.beganAt with | some b => some b | none => some c.dt } })) ∧
  ChiebRuns .bayStatus 0x0900 (fun _ _ => True)
    (fun _ _ c => c.rd Reg.BAY_STAT :: (List.range 24).flatMap (fun b => [c.bayStatWord b, c.rd (Reg.BAY_CH_MEAS0 b), c.rd (Reg.BAY_CH_MEAS1
      b)]))
    (fun _ m c => (m, c)) ∧
  (∀ (s : State) (src : ChiebSrc) (t : Taken) (m : Mem) (c : Ctl), ChiebServed 0x0901 src s t m c → 2 ≤ t.pkt.words.length →
    t.w 1 % 8 ≠ 0 → t.w 1 % 8 ≤ 4 → c.lease = true →
    let r := (List.range 24).foldl (fun (a : Nat × Ctl) b =>
      if Nat.testBit (t.w 0) b then
        (if a.1 = 0 then (a.2.bayCmd b (t.w 1 % 8)).1 else a.1, (a.2.bayCmd b (t.w 1 % 8)).2)
      else a) (0, c)
    r.1 = 0 → exec (.bayPower src) s = .next (s.withBoth (chiebDone t (m, r.2) Cs.ok []))) ∧
  (∀ (s : State) (src : ChiebSrc) (t : Taken) (m : Mem) (c c1 : Ctl), ChiebServed 0x0902 src s t m c → 2 ≤ t.pkt.words.length →
    t.w 1 % 2 = 1 → c.ps2Clears (t.w 0) = false → c.pcrRequest Reg.BAY_PS2_OVR 4 (wd (t.w 0 % 2 ^ 24)) false = (0, c1) →
    exec (.bayPs2Override src) s = .next (s.withBoth (chiebDone t (m, c1) Cs.ok [])))

/-- Self-test and calibration (15_management_and_transactions.md, R405 to R407; 14_bay_power.md, R380): each test's row completes by starting the test
under a handle, for every request that is served in a mode that runs the test's class, whose target is valid, not under test, and meets the test's
condition; TEST_STATUS and TEST_DONE complete with the effect named. Where the spec leaves a choice, the clauses follow the model's:
notes/assumptions 28, 39, 42. -/
def Obligations.TestRowsComplete : Prop :=
  (∀ row op k, [((fun src => Instr.engineKat src), 0x0A10, TestClass.concurrent), ((fun src => .carafeScan src), 0x0A11, .concurrent),
      ((fun src => .hbmScrub src), 0x0A12, .concurrent), ((fun src => .pcrVerify src), 0x0A13, .concurrent),
      ((fun src => .serdesLoop src), 0x0A42, .testOnly)].Mem (row, op, k) →
    ChiebStarts row op (fun t c => testMode k c.mode = 0 ∧ t.pkt.words ≠ [] ∧ t.w 0 % 256 = 0 ∧ c.testOn op 0 = false)
      (fun h _ m c => (m, { c with mgt := { c.mgt with tests := c.mgt.tests ++ [(⟨op, 0, h⟩ : RunTest)] } }))) ∧
  (∀ row op cond, [((fun src => Instr.netPrbs src), 0x0A20, (fun (c : Ctl) x => !c.flag (F.NET_PORT_CFG_en x))),
      ((fun src => .drvEq src), 0x0A21, Ctl.bayUnused)].Mem (row, op, cond) →
    ChiebStarts row op (fun t c => testMode .quiesced c.mode = 0 ∧ t.pkt.words ≠ [] ∧ t.w 0 % 256 < 24 ∧ c.testOn op (t.w 0 % 256) = false ∧
        cond c (t.w 0 % 256) = true)
      (fun h t m c => (m, { c with mgt := { c.mgt with tests := c.mgt.tests ++ [(⟨op, t.w 0 % 256, h⟩ : RunTest)] } }))) ∧
  ChiebStarts .peerPrbs 0x0A22 (fun t c => testMode .quiesced c.mode = 0 ∧ t.pkt.words ≠ [] ∧ t.w 0 % 256 = 0 ∧ c.testOn 0x0A22 0 = false ∧
      c.flag F.PEER_CFG_en = false)
    (fun h _ m c => (m, { c with mgt := { c.mgt with tests := c.mgt.tests ++ [(⟨0x0A22, 0, h⟩ : RunTest)] } })) ∧
  ChiebStarts .hbmMarch 0x0A40 (fun t c => c.mode = .test ∧ t.pkt.words ≠ [] ∧ t.w 0 % 256 = 0 ∧ c.testOn 0x0A40 0 = false)
    (fun h _ m c => ({ m with hbm := [] }, { c with mgt := { c.mgt with tests := c.mgt.tests ++ [(⟨0x0A40, 0, h⟩ : RunTest)] } })) ∧
  ChiebStarts .mramMarch 0x0A41 (fun t c => c.mode = .test ∧ t.pkt.words ≠ [] ∧ t.w 0 % 256 = 0 ∧ c.testOn 0x0A41 0 = false)
    (fun h _ m c => ({ m with carafe := [] },
      ({ c with mgt := { c.mgt with tests := c.mgt.tests ++ [(⟨0x0A41, 0, h⟩ : RunTest)] } } : Ctl).carafeWiped)) ∧
  ChiebStarts .bayCal 0x0A30 (fun t c => testMode .quiesced c.mode = 0 ∧ t.pkt.words ≠ [] ∧ t.w 0 % 256 < 24 ∧
      c.testOn 0x0A30 (t.w 0 % 256) = false ∧ c.calOk (t.w 0 % 256) = true)
    (fun h t m c => (m, { c with
      mgt := { c.mgt with tests := c.mgt.tests ++ [(⟨0x0A30, t.w 0 % 256, h⟩ : RunTest)] }
      bay := { c.bay with cal := Tab.put c.bay.cal (t.w 0 % 256) (c.dt + 10000000) } })) ∧
  ChiebRuns .testStatus 0x0A00 (fun _ _ => True) (fun _ _ c => c.mgt.tests.flatMap (fun t => [wd t.op, wd t.target, wd t.handle]))
    (fun _ m c => (m, c)) ∧
  (∀ (s : State) (op target : Nat) (errors first : Word) (x : RunTest),
    s.c.mgt.tests.find? (fun t => t.op == op && t.target == target) = some x → testEnds op = true → s.c.testRuns op = true →
    exec (.testDone op target errors first) s = .next (s.withCtl
      ((((({ s.c with mgt := { s.c.mgt with tests := s.c.mgt.tests.filter (fun x => !(x.op == op && x.target == target)) } } : Ctl).scrubMet
        s.mem op).testLeaves op target errors.toNat)).handleEnd x.handle Cs.ok [errors, first]))) ∧
  (∀ (s : State) (first : Word), s.c.mgt.tests = [] → s.c.flag F.FWU_STAT_trial = true → s.c.halted = false →
    exec (.testDone 0x0A10 0 0 first) s = .next (s.withCtl { s.c with trust := { s.c.trust with katOk := true } }))

/-- Register access through BAR0, the mailbox, NVMe-MI, the persistent registers and the telemetry sweep (15_management_and_transactions.md, R382,
R383, R389 to R404; 16_service_endpoint.md; 18_telemetry.md, R446, R447; 19_address_map.md): each row completes with the effect named, from every
state in which it acts. Where the spec leaves a choice, the clauses follow the model's: notes/assumptions 29, 43, 44, 46. -/
def Obligations.RegisterAccessRowsComplete : Prop :=
  (∀ (s : State) (off : Fin 0x4000000) (dw : Bool), s.c.eptLive = true →
    (s.c.bar0Bad off dw = false → Completes (.bar0Read off dw) s (fun t =>
      t.c = (s.c.rdReg off).2.emit (.bar0Cpl (s.c.rdReg off).1) ∧ t.mem = s.mem ∧ t.pending = s.pending)) ∧
    (s.c.bar0Bad off dw = true → exec (.bar0Read off dw) s = .next (s.withCtl ((s.c.aerUr true).emit .unsupported)))) ∧
  (∀ (s : State) (off : Fin 0x4000000) (value : Word) (dw : Bool), s.c.eptLive = true → s.c.bar0Bad off dw = false →
    s.c.bar0Writes off = true → s.c.bar0Direct off = true →
    exec (.registerWrite off value dw) s = .next (s.withBoth (wrReg s.mem s.c off value true).2)) ∧
  (∀ (s : State) (off : Fin 0x4000000) (value : Word) (dw : Bool) (k : Nat) (x : Txn), s.c.eptLive = true → s.c.bar0Bad off dw = false →
    s.c.bar0Writes off = true → s.c.bar0Direct off = false → s.c.txnBy (s.c.get F.MGT_TXN_SEL_id) = some (k, x) → x.owner = 0 →
    Completes (.bar0StagingWrite off value dw) s (fun t =>
      let r := s.c.stage k off value 0xFFFFFFFF
      t.c = (if r.1 = 0 then r.2 else r.2.set F.MGT_TXN_STAT_last_status r.1) ∧ t.mem = s.mem ∧ t.pending = s.pending)) ∧
  (∀ (s : State) (off : Fin 0x4000000) (value : Word) (r : RRow) (w : Nat), Reg.find? off = some r → pcrWord off = some w →
    r.hasAcc (· == .rwp) = true → s.c.bar0Takes off true = true → s.c.bar0Direct off = true →
    exec (.persistentRegisterWrite off value) s = .next (s.withBoth (wrReg s.mem s.c off value true).2)) ∧
  (∀ (s : State) (e : PcrWr) (rest : List PcrWr), s.c.mgt.pcrWr = e :: rest →
    Completes .pcrWriteDone s (fun t =>
      t.c = ((({ s.c with mgt := { s.c.mgt with pcrWr := rest } } : Ctl).reach e.at_).pcrLand e).setFlag F.PCR_STAT_busy (!rest.isEmpty) ∧
      t.mem = s.mem ∧ t.pending = s.pending)) ∧
  (∀ s : State,
    Completes .pcrTokenRefill s (fun t =>
      let c1 := s.c.reach ((s.c.dt / 1000000000 + 1) * 1000000000)
      t.c.mgt.pcr = Tab.mapV c1.mgt.pcr (fun w _ => c1.pcrGain w) ∧ t.c.dt = c1.dt ∧ t.c.regs = c1.regs ∧ t.mem = s.mem ∧
      t.pending = s.pending)) ∧
  (∀ (s : State) (writes : List (Nat × List Byte)) (ring : Fin 16), s.c.eptLive = true → s.c.get F.EPT_STAT_dstate ≠ 3 →
    exec (.mailboxDoorbell writes ring) s = .next (s.withBoth
      (doorbell (writes.foldl (fun (m : Mem) w => bar2Write m w.1 w.2) s.mem) s.c ring))) ∧
  (∀ (s : State) (k : Fin 4), s.c.mode ≠ .off → s.c.mode ≠ .reset → s.c.bitOf F.MGT_MB_STAT_busy k = false →
    doorbell s.mem s.c (2 ^ k.val) = ringSlot s.mem (s.c.dmaEvent 66) k) ∧
  (∀ (s : State) (eid : Fin 256) (portId : Byte) (ctrlId : BitVec 16), s.c.miOpen = true →
    (∀ dtyp : Byte, dtyp.toNat ≤ 4 → exec (.miReadDataStructure eid dtyp portId ctrlId) s = .next (s.withCtl
      (s.c.emit (.mi eid (.dataStructure dtyp.toNat (Config.miStructure dtyp.toNat portId.toNat ctrlId.toNat)))))) ∧
    Completes (.miSubsystemHealthPoll eid) s (fun t =>
      t.c = (s.c.tookN 7).emit (.mi eid (.subsystemHealth (tempC s.c.hottest.2)
        ((List.range 7).map (fun i => BitVec.ofNat 8 (Config.freeNat (s.c.fv + i)))))) ∧ t.mem = s.mem ∧ t.pending = s.pending) ∧
    exec (.miControllerHealthPoll eid) s = .next (s.withCtl (s.c.emit (.mi eid (.controllerHealth
      ((s.c.host.assocs.filter (fun p => !p.2.discovery && !p.2.ending)).map (fun p => (s.c.cntlid p.1, p.2.csts)))
      (tempC s.c.hottest.2))))) ∧
    exec (.miConfigurationGet eid 1) s = .next (s.withCtl (s.c.emit (.mi eid (.configuration 1 s.c.mgt.miFreq)))) ∧
    exec (.miConfigurationGet eid 3) s = .next (s.withCtl (s.c.emit (.mi eid (.configuration 3 s.c.mgt.miMtu)))) ∧
    exec (.miConfigurationSet eid 1 1) s = .next (s.withCtl
      (({ s.c with mgt := { s.c.mgt with miFreq := 1 } } : Ctl).emit (.mi eid .done))) ∧
    (∀ value : BitVec 16, 64 ≤ value.toNat → exec (.miConfigurationSet eid 3 value) s = .next (s.withCtl
      (({ s.c with mgt := { s.c.mgt with miMtu := value.toNat } } : Ctl).emit (.mi eid .done))))) ∧
  (∀ (s : State) (eid : Fin 256),
    Completes (.mctpEndpointAssigned eid) s (fun t =>
      t.c.mgt.chans = Tab.del s.c.mgt.chans (8192 + eid) ∧ t.c.regs = s.c.regs ∧ t.mem = s.mem ∧ t.pending = s.pending)) ∧
  (∀ s : State, s.c.flag F.TEL_CFG_en = true → s.c.bitOf F.GLB_PD_STAT_pd_is_on 2 = true →
    s.c.dntDue 5 (s.c.sweepNext s.c.dntNs) = [] →
    Completes .telemetrySweep s (fun t =>
      let x := s.c.sweepNext s.c.dntNs
      let c1 := (s.c.reachDnt x).sweepFire false x x (s.c.sweepPeriod x x)
      t.c = c1 ∧ t.mem = (match c1.tel.snap with | some y => snapPublish s.mem y | none => s.mem) ∧ t.pending = s.pending)) ∧
  (∀ s : State, s.c.flag F.TEL_CFG_en = true → s.c.bitOf F.GLB_PD_STAT_pd_is_on 2 = true →
    let x := s.c.sweepNext s.c.dntNs
    exec .telemetrySweep s = .next (s.withBoth (dntRow 5 x (fun m c =>
      let c1 := c.sweepFire false x x (c.sweepPeriod x x)
      ((match c1.tel.snap with | some y => snapPublish m y | none => m), c1)) s.mem s.c)))

/-- The service endpoint (16_service_endpoint.md, R408 to R421): each row completes with the effect named, from every state in which it acts. Where
the spec leaves a choice, the clauses follow the model's: notes/assumptions 32, 46. -/
def Obligations.EndpointRowsComplete : Prop :=
  (∀ (s : State) (reg : Fin 1024) (be : BitVec 4) (value : Word), s.c.cfgOpen = true →
    exec (.pcieConfigRequest true reg be value) s = .next (s.withCtl ((s.c.cfgWrite (4 * reg.val) be value).emit (.cfgCpl 0))) ∧
    exec (.pcieConfigRequest false reg be value) s = .next (s.withCtl (s.c.emit (.cfgCpl (s.c.cfgRead (4 * reg.val)))))) ∧
  (∀ (s : State) (write : Bool) (reg : Fin 1024) (be : BitVec 4) (value : Word), s.c.cfgReach = true → s.c.cfgOpen = false →
    exec (.pcieConfigRequest write reg be value) s = .next (s.withCtl (s.c.emit .cfgCrs))) ∧
  (∀ s : State, s.c.cfgOpen = true → s.c.get F.EPT_STAT_dstate = 0 →
    exec .pmcsrD3hotEnter s = .next (s.withCtl ((s.c.set F.EPT_STAT_dstate 3).readsDrop.intxUpdate))) ∧
  (∀ s : State, s.c.cfgOpen = true → s.c.get F.EPT_STAT_dstate = 3 →
    exec .pmcsrD0Return s = .next (s.withCtl ((s.c.set F.EPT_STAT_dstate 0).intxUpdate.retryMessages))) ∧
  (∀ s : State, s.c.cfgOpen = true → s.c.ept.bme = true →
    exec .bmeClear s = .next (s.withCtl
      (((({ s.c with ept := { s.c.ept with bme := false } } : Ctl).setFlag F.EPT_STAT_bme false).bump F.EPT_RST_CNT_bme_clr 1).readsDrop)))
        ∧
  (∀ s : State, s.c.cfgOpen = true → s.c.ept.bme = false →
    exec .bmeSet s = .next (s.withCtl ((({ s.c with ept := { s.c.ept with bme := true } } : Ctl).setFlag F.EPT_STAT_bme
      true).retryMessages))) ∧
  (∀ s : State, s.c.cfgOpen = true →
    exec .functionLevelReset s = .next (s.withCtl
      (((s.c.setFlag F.EPT_STAT_flr true).bump F.EPT_RST_CNT_flr 1).readsDrop.intxUpdate))) ∧
  (∀ s : State, s.c.flag F.EPT_STAT_flr = true → s.c.ept.reads = [] → exec .flrDone s = .next (s.withBoth (eptReset s.mem s.c))) ∧
  (∀ s : State, s.c.cfgReach = true →
    exec .perstSlAssert s = .next (s.withBoth
      (let c1 := ((s.c.eptLinkDown.setFlag F.EPT_STAT_perst true).bump F.EPT_RST_CNT_perst 1).readsDrop
       eptReset s.mem { c1 with ept := { c1.ept with d3cold := true } }))) ∧
  (∀ (s : State) (speed : Fin 5) (width : Fin 3), s.c.ept.d3cold = true → s.c.mode ≠ .off → s.c.mode ≠ .reset →
    exec (.perstSlDeassert speed width) s = .next (s.withCtl
      (let c1 := (s.c.setFlag F.EPT_STAT_perst false).eptLinkUp (speed.val + 1) (laneWidth width)
       ({ c1 with ept := { c1.ept with d3cold := false, crsUntil := max c1.ept.crsUntil (c1.dt + 100000000) } } : Ctl).intxUpdate))) ∧
  (∀ (s : State) (speed : Fin 5) (width : Fin 3), s.c.cfgReach = true →
    let r := eptReset s.mem (((s.c.bump F.EPT_RST_CNT_link 1).eptLinkUp (speed.val + 1) (laneWidth width)).readsDrop)
    exec (.hotReset speed width) s = .next (s.withBoth r) ∧ exec (.endpointLinkDown speed width) s = .next (s.withBoth r)) ∧
  (∀ (s : State) (tag : Fin 1024) (data : List Byte) (r : EpRead), s.c.cfgReach = true → Tab.at? s.c.ept.reads tag.val = some r →
    s.c.farStatus r.chan = 0 → r.misfit data.length = false →
    exec (.completionReceive tag .ok data) s = .next (s.withBoth (readData s.mem s.c tag r (data.take r.need)))) ∧
  (∀ (s : State) (tag : Fin 1024) (data : List Byte) (r : EpRead), s.c.cfgReach = true → Tab.at? s.c.ept.reads tag.val = some r →
    s.c.farStatus r.chan ≠ 9 →
    exec (.completionReceive tag .unsupported data) s = .next (s.withBoth
      (readDrop s.mem (s.c.farFail r.chan 7) tag { r with left := 0 } 0 true)) ∧
    exec (.completionReceive tag .abort data) s = .next (s.withBoth
      (readDrop s.mem (s.c.farFail r.chan 7) tag { r with left := 0 } 0 true)) ∧
    exec (.completionReceive tag .poisoned data) s = .next (s.withBoth
      (readDrop s.mem ((s.c.aerFree .poisoned false).farFail r.chan 7) tag { r with left := 0 } data.length false))) ∧
  (∀ (s : State) (tag : Fin 1024) (r : EpRead), Tab.at? s.c.ept.reads tag.val = some r →
    (s.c.reach (r.sent + 900000)).farStatus r.chan ≠ 9 →
    exec (.completionTimeout tag) s = .next (s.withBoth
      (readClose s.mem (((s.c.reach (r.sent + 900000)).aerFree .cplTimeout false).farFail r.chan 8) tag r.chan))) ∧
  (∀ (s : State) (e : AerErr) (advisory : Bool) (hdr : List Word), s.c.cfgReach = true →
    exec (.aerError e advisory hdr) s = .next (s.withCtl (s.c.aerLog e advisory hdr))) ∧
  (∀ (s : State) (entry : Fin 6), s.c.eptLive = true → s.c.bar0Open = true → s.c.get F.EPT_STAT_dstate ≠ 3 →
    exec (.msixUnmask entry) s = .next (s.withCtl
      ((s.c.wr (Reg.EPT_MSIX entry 3) (setBits (s.c.rd (Reg.EPT_MSIX entry 3)) 0 0 0)).retryMessages)))

/-- Firmware commits, activation and the trial (17_firmware_and_trust.md, R430 to R436): each row completes with the effect named, from every state in
which it acts. Where the spec leaves a choice, the clauses follow the model's: notes/assumptions 36, 48. -/
def Obligations.FirmwareRowsComplete : Prop :=
  (∀ (s : State) (x : FwCommit), s.c.trust.commit = some x → s.c.halted = false → x.phase = 1 →
    exec .fwSlotWritten s = .next (s.withCtl ((s.c.slotValid x.slot).commitEnd { x with phase := 1 }))) ∧
  (∀ (s : State) (x : FwCommit), s.c.trust.commit = some x → x.phase = 2 → s.c.pairedActive = false → s.c.actModeOk = true →
    s.c.halted = false →
    Completes .activationWithoutReset s (fun t =>
      let c1 := s.c.report .fwStart (fun a => !a.discovery)
      let c2 := if c1.mode = .idleLow then (c1.setMode c1.serveMode).pdReconcile else c1
      let c3 := c2.setMode .activating
      t.c.trust.commit = none ∧ t.c.trust.busyAct = true ∧ t.c.trust.act = some ⟨c2.mode, x.slot, c3.dt + 120000000, false, x.who⟩ ∧
      t.c.mode = .activating ∧ t.mem = s.mem ∧ t.pending = s.pending)) ∧
  (∀ (s : State) (a : Activation), s.c.trust.act = some a → a.over_ = false →
    Completes .activationDrainDeadline s (fun t => t.c.trust.act = some { a with over_ := true } ∧ t.mem = s.mem ∧ t.pending = s.pending)) ∧
  (∀ (s : State) (look : ImgLook) (a : Activation), s.c.trust.act = some a → s.c.halted = false → (a.over_ = true ∨ s.c.bst.brews = []) →
    s.c.slotCheck a.slot look = 0 →
    exec (.activationImageRunning look) s = .next (s.withBoth
      (let c1 := s.c.bootCtl (fun c =>
        ((c.set F.FWU_STAT_prev_slot (c.get F.FWU_STAT_cur_slot)).set F.FWU_STAT_cur_slot a.slot).setFlag F.FWU_STAT_trial true)
       let c2 := (((((c1.imageRuns a.slot).unstage).actBack a).fwAnswer a.who 0).sayHello false).startReady
       if c2.mode = .activating then (s.mem, c2) else adminResume s.mem c2))) ∧
  (∀ (s : State) (look : ImgLook) (a : Activation), s.c.trust.act = some a → s.c.halted = false → (a.over_ = true ∨ s.c.bst.brews = []) →
    s.c.slotCheck a.slot look ≠ 0 →
    exec (.activationImageRunning look) s = .next (s.withBoth
      (let c1 : Ctl := { s.c with trust := { s.c.trust with busyAct := false } }
       let c2 := ((c1.actBack a).fwAnswer a.who (s.c.slotCheck a.slot look)).startReady
       if c2.mode = .activating then (s.mem, c2) else adminResume s.mem c2))) ∧
  (∀ (s : State) (x : FwCommit), s.c.trust.commit = some x → x.phase = 2 → s.c.pairedActive = true → s.c.halted = false →
    Completes .pairedActivation s (fun t =>
      let c1 : Ctl := { s.c.pend x.slot with trust := { (s.c.pend x.slot).trust with commit := none, busyAct := true } }
      let c2 := ((c1.unstage).fwAnswer x.who 0).report .fwStart (fun a => !a.discovery)
      t.c = (if c2.flag F.GLB_MODE_STAT_peer_synced && c2.pair.hand.isNone then
        { c2 with pair := { c2.pair with hand := some .drain, handOp := none } } else c2) ∧ t.mem = s.mem ∧ t.pending = s.pending)) ∧
  (∀ (s : State) (bs : List Byte), s.c.flag F.FWU_STAT_trial = true → s.c.trust.katOk = true → s.c.trust.badSeen = false → s.c.power.stop =
    none →
    (s.c.mode = .standby ∨ s.c.mode = .active ∨ s.c.mode = .degraded) →
    let c1 := s.c.reach (s.c.trust.imageAt + 1000000000 * s.c.get F.FWU_TRIAL_CFG_settle_s)
    let c2 := c1.bootCtl (fun c => c.setFlag F.FWU_STAT_trial false)
    let c3 : Ctl := { c2 with trust := { c2.trust with busyAct := false, leaving := false } }
    Tab.at? c3.trust.images (c3.get F.FWU_STAT_cur_slot) = some bs →
    exec .trialConfirm s = .next (s.withCtl
      ((List.range 4).foldl (fun (c : Ctl) k => if Nat.testBit (imgRevoke bs) k && k != imgKey bs then c.setBitOf F.FWU_KEYS_revoked k true
        else c)
        (c3.pcrOwn F.FWU_SVN_svn (max (c3.get F.FWU_SVN_svn) (imgFloor bs)))))) ∧
  (∀ s : State, s.c.flag F.FWU_STAT_trial = true → s.c.awake = true → s.c.power.stop = none →
    exec .trialWindowExpire s = .next (s.withBoth (trialOut s.mem (s.c.reach s.c.trialEnd))))

/-- SPDM and its sessions (17_firmware_and_trust.md, R437 to R443): each row completes with the response and the effect named, from every state in
which it is answered. Where the spec leaves a choice, the clauses follow the model's: notes/assumptions 38. -/
def Obligations.SpdmRowsComplete : Prop :=
  (∀ (s : State) (who : Fin 257), s.c.spdmOpen who = true →
    exec (.spdmGetVersion who) s = .next (s.withCtl ((s.c.setSpdmPeer who ⟨true, false, false, none⟩).spdmSay who (.version 0x13))) ∧
    ((s.c.spdmPeer who).ver = true → exec (.spdmGetCapabilities who 0x13) s = .next (s.withCtl
      ((s.c.setSpdmPeer who { s.c.spdmPeer who with caps := true }).spdmSay who .capabilities))) ∧
    (∀ algs : SpdmAlgs, (s.c.spdmPeer who).caps = true → algsFit algs = true →
      exec (.spdmNegotiateAlgorithms who algs) s = .next (s.withCtl
        ((s.c.setSpdmPeer who { s.c.spdmPeer who with algs := true }).spdmSay who .algorithms)))) ∧
  (∀ (s : State) (who : Fin 257), s.c.spdmOpen who = true → (s.c.spdmPeer who).algs = true →
    exec (.spdmGetDigests who) s = .next (s.withCtl (s.c.spdmSay who (.digests (Config.sha256 Config.certChain)))) ∧
    (∀ off len : BitVec 16, exec (.spdmGetCertificate who 0 off len) s = .next (s.withCtl (s.c.spdmSay who
      (if Config.certChain.length ≤ off.toNat then .error SpdmErr.invalidRequest
       else .certificate ((Config.certChain.drop off.toNat).take len.toNat)
         (Config.certChain.length - off.toNat - ((Config.certChain.drop off.toNat).take len.toNat).length))))) ∧
    (∀ transcript : List Byte, exec (.spdmChallenge who 0 transcript) s = .next (s.withCtl
      (s.c.signBegin who (s.c.spdmPeer who) ⟨.challenge, false, transcript, [], none⟩))) ∧
    (∀ transcript : List Byte, exec (.spdmGetMeasurements who 0 false transcript) s = .next (s.withCtl
        (s.c.spdmSay who (.measurementCount s.c.measBlocks.length))) ∧
      (s.c.measBlocks ≠ [] → exec (.spdmGetMeasurements who 255 true transcript) s = .next (s.withCtl
        (s.c.signBegin who (s.c.spdmPeer who) ⟨.measurements, false, transcript, s.c.measBlocks, none⟩))) ∧
      (s.c.measBlocks ≠ [] → exec (.spdmGetMeasurements who 255 false transcript) s = .next (s.withCtl
        (s.c.spdmSay who (.measurements s.c.measBlocks none))))) ∧
    (∀ (transcript : List Byte) (k : Nat), s.c.spdmRoot.all (· == 0) = false →
      Tab.freeKey s.c.trust.sessions 0 (s.c.trust.sessions.length + 1) = some k →
      exec (.spdmKeyExchange who transcript) s = .next (s.withCtl
        (({ s.c with trust := { s.c.trust with sessions := Tab.put s.c.trust.sessions k ⟨who, false, false, 0, s.c.dt⟩ } } : Ctl).signBegin
          who
          (s.c.spdmPeer who) ⟨.keyExchange, false, transcript, [], some k⟩)))) ∧
  (∀ (s : State) (who : Fin 257) (x : SpdmPend), (s.c.spdmPeer who).pend = some x → s.c.mode ≠ .off → s.c.mode ≠ .reset →
    exec (.spdmSignatureDone who) s = .next (s.withCtl
      (s.c.setSpdmPeer who { s.c.spdmPeer who with pend := some { x with ready := true } }))) ∧
  (∀ (s : State) (who : Fin 257) (x : SpdmPend), s.c.spdmOpen who = true → (s.c.spdmPeer who).pend = some x → x.ready = true →
    exec (.spdmRespondIfReady who) s = .next (s.withCtl
      ((s.c.setSpdmPeer who { s.c.spdmPeer who with pend := none }).signedRsp who x))) ∧
  (∀ (s : State) (who : Fin 257) (session : Nat) (x : SpdmSess), s.c.spdmOpen who = true → Tab.at? s.c.trust.sessions session = some x →
    x.peer = who.val → x.done = false → x.keyed = true → s.c.spdmRoot.all (· == 0) = false →
    exec (.spdmFinish who session s.c.spdmRoot true) s = .next (s.withCtl
      ((s.c.updSession session (fun y => { y with done := true, at_ := s.c.dt })).spdmSay who (.finishRsp session)))) ∧
  (∀ (s : State) (session : Nat) (x : SpdmSess), s.c.liveSession session = some x → s.c.spdmOpen x.peer = true →
    let c1 := s.c.updSession session (fun y => { y with at_ := s.c.dt })
    exec (.spdmHeartbeat session) s = .next (s.withCtl (c1.spdmSay x.peer (.heartbeatAck session))) ∧
    exec (.spdmKeyUpdate session) s = .next (s.withCtl
      ((c1.updSession session (fun y => { y with keyGen := y.keyGen + 1 })).spdmSay x.peer (.keyUpdateAck session))) ∧
    exec (.spdmEndSession session) s = .next (s.withCtl ((c1.spdmSay x.peer (.endSessionAck session)).endSession session)) ∧
    (∀ bytes : List Byte, x.peer = 0 → exec (.securedMessage session bytes) s = .next (s.withBoth
      (chiebTake s.mem c1 ⟨s.c.chanOf (.session session), .session session, pktOf bytes, true, 0, 0⟩ bytes true))))

/-- A step takes the command at the front of the queue: it answers what the command's meaning answers on the state with the rest of the queue (the
model's queue: notes/assumptions/1.md). -/
def Obligations.StepRunsFrontCommand : Prop :=
  ∀ (i : Instr) (q : List Instr) (s : State), step (s.withPending (i :: q)) = exec i (s.withPending q)

/-- With no command waiting the block idles (the model's choice, notes/assumptions/1.md). -/
def Obligations.EmptyQueueIdles : Prop := ∀ s : State, s.pending = [] → step s = .next s

/-- Every command answers a next state in every state, and leaves the queue as it is. -/
def Obligations.EveryCommandAnswers : Prop := ∀ (i : Instr) (s : State), ∃ t, exec i s = .next t ∧ t.pending = s.pending

/-- The state after reset: no command waits, nothing was sent, the device is in BOOT without the lease and synchronised to nothing, every register
reads its reset value, and no association, queue, tag, brew, pool buffer, Crema entry, journal record, transaction, key, fault record, bay event,
connection or telemetry value exists. -/
def Obligations.ResetLeavesSpecValues : Prop :=
  State.reset.pending = [] ∧ State.reset.c.out = [] ∧ (∀ o, State.reset.c.rd o = Reg.resetWord o) ∧
  State.reset.c.mode = .boot ∧ State.reset.c.lease = false ∧ State.reset.c.get F.GLB_ID_part = 0x7240 ∧
  State.reset.c.get F.GLB_START_TIME_standby_ms = 0xFFFF ∧ State.reset.c.get F.TEL_SEQ_seq = 0 ∧ State.reset.c.get F.TIM_SYNC_STAT_state = 0
    ∧
  (let c := State.reset.c
   c.host.assocs = [] ∧ c.host.queues = [] ∧ c.host.tags = [] ∧ c.bst.brews = [] ∧ c.swc.bufs = [] ∧ c.crm.entries = [] ∧ c.car.recs = [] ∧
   c.mgt.txns = [] ∧ c.mgt.handles = [] ∧ c.keys.mat = [] ∧ c.pair.faults = [] ∧ c.bay.events = [] ∧ c.net.conns = [] ∧ c.tel.cnt = [])

/-- The memories after reset list nothing, which is their canonical form (what an unlisted byte reads as: notes/assumptions/3.md). -/
def Obligations.ResetMemoryCanonical : Prop :=
  State.reset.memOk = true ∧ ∀ (r : MemSel) (a : Nat), State.reset.mem.byte r a = 0

/-- Every step keeps the canonical form of every memory: addresses strictly rising, no entry equal to what an unlisted address reads as. -/
def Obligations.StepsKeepMemoryCanonical : Prop := ∀ s t : State, s.memOk = true → step s = .next t → t.memOk = true

/-- Admin commands of hosts (05_host_command_path.md, R80 to R106), on a connection that carries no I/O queue, change the host path, the completions
sent, the event samples and the refusal counters alone. (On an I/O queue such an opcode takes a context, and a start of the queue's commands may
follow.) -/
def Obligations.AdminRowsChangeHostPathOnly : Prop :=
  let fr (conn : Nat) (row : Instr) : Prop := ∀ s t, s.c.openQueue conn = none → exec row s = .next t →
    t.mem = s.mem ∧ t.pending = s.pending ∧ RegsWithin [(0x200000, 0x400000), regAt Reg.TEL_SMP_STAT] s.c t.c ∧
    t.c = { s.c with regs := t.c.regs, out := t.c.out, fv := t.c.fv, tel := t.c.tel, host := t.c.host }
  (∀ x, fr x.conn (.nvmePropertyGet x)) ∧ (∀ x, fr x.conn (.propertySetCcEnClear x)) ∧ (∀ x, fr x.conn (.propertySetCcEnSet x)) ∧
  (∀ x, fr x.conn (.propertySetShutdown x)) ∧ (∀ x, fr x.conn (.nvmeGetLogPage x)) ∧ (∀ x, fr x.conn (.nvmeIdentify x)) ∧
  (∀ x, fr x.conn (.nvmeGetFeatures x)) ∧ (∀ x, fr x.conn (.setFeaturesNumberOfQueues x)) ∧
  (∀ x, fr x.conn (.setFeaturesAsyncEventConfig x)) ∧ (∀ x, fr x.conn (.setFeaturesApst x)) ∧
  (∀ x, fr x.conn (.setFeaturesKeepAliveTimer x)) ∧ (∀ x, fr x.conn (.setFeaturesHostBehavior x)) ∧
  (∀ x, fr x.conn (.setFeaturesOrderedQueues x)) ∧ (∀ x, fr x.conn (.setFeaturesNotChangeable x)) ∧
  (∀ x, fr x.conn (.nvmeAsyncEventRequest x)) ∧ (∀ x, fr x.conn (.nvmeDeviceSelfTest x)) ∧ (∀ x, fr x.conn (.nvmeKeepAlive x)) ∧
  (∀ x, fr x.conn (.chiebReplyC2h x)) ∧ (∀ n k, fr n (.nvmeDisconnect n k)) ∧ (∀ n k, fr n (.invalidCommandOpcode n k))

/-- A device that is off, in reset, fenced or stopped serves no host (03_modes_and_startup.md, Table 3.1; 02_package_and_power.md, R35): a host's
capsule then changes nothing. -/
def Obligations.HaltedDeviceServesNoHost : Prop :=
  let idle (row : Instr) : Prop := ∀ s : State, s.c.halted = true → exec row s = .next s
  (∀ x, idle (.nvmeConnectAdmin x)) ∧ (∀ x, idle (.nvmeConnectIo x)) ∧ (∀ x, idle (.nvmePropertyGet x)) ∧ (∀ x, idle (.propertySetCcEnClear
    x)) ∧
  (∀ x, idle (.propertySetCcEnSet x)) ∧ (∀ x, idle (.propertySetShutdown x)) ∧ (∀ n k, idle (.nvmeDisconnect n k)) ∧
  (∀ x, idle (.nvmeGetLogPage x)) ∧ (∀ x, idle (.nvmeIdentify x)) ∧ (∀ x, idle (.nvmeAbort x)) ∧ (∀ x, idle (.nvmeGetFeatures x)) ∧
  (∀ x, idle (.setFeaturesPowerManagement x)) ∧ (∀ x, idle (.setFeaturesNumberOfQueues x)) ∧ (∀ x, idle (.setFeaturesAsyncEventConfig x)) ∧
  (∀ x, idle (.setFeaturesApst x)) ∧ (∀ x, idle (.setFeaturesKeepAliveTimer x)) ∧ (∀ x, idle (.setFeaturesHostBehavior x)) ∧
  (∀ x, idle (.setFeaturesOrderedQueues x)) ∧ (∀ x, idle (.setFeaturesCremaHints x)) ∧ (∀ x, idle (.setFeaturesNotChangeable x)) ∧
  (∀ x, idle (.nvmeAsyncEventRequest x)) ∧ (∀ x, idle (.nvmeFirmwareImageDownload x)) ∧ (∀ x l, idle (.nvmeFirmwareCommit x l)) ∧
  (∀ x, idle (.nvmeDeviceSelfTest x)) ∧ (∀ x, idle (.nvmeKeepAlive x)) ∧ (∀ n k, idle (.invalidCommandOpcode n k)) ∧ (∀ k, idle
    (.keepAliveTimeout k))

/-- A Set Features D1h for a queue that holds any tag not FREE completes with Command Sequence Error, and every queue keeps its flag (R101). -/
def Obligations.OrderedFlagNeedsFreeTags : Prop :=
  ∀ (s : State) (x : AdminCmd) (k tag n : Nat) (a : Assoc) (q : HostQueue),
    AdminServed s.c (AdminOp.setFeatures.on x) k tag a → getBits x.cdw10 7 0 = 0xD1 → getBit x.cdw10 31 = false →
    s.c.flag F.HCP_CFG_ordered_en = true → getBits x.cdw11 31 17 = 0 → s.c.queueBy k (getBits x.cdw11 15 0) = some (n, q) →
    (∃ p ∈ s.c.host.tags, p.2.kind.host = true ∧ p.2.assoc = k ∧ p.2.qid = getBits x.cdw11 15 0) →
    Completes (.setFeaturesOrderedQueues x) s (fun t =>
      t.c.out = .cqe x.conn x.cid St.sequence 0 0 :: s.c.out ∧ t.c.host.queues = s.c.host.queues)

/-- BEGIN (R391). With fewer than 8 transactions, a served BEGIN opens one: it belongs to the request's channel, its id is the first from the next id
on, in ascending order modulo 65,536, that is neither 0 nor in use, and the reply carries the id. With all 8 places taken it is refused with
TXN_FULL and nothing is opened. -/
def Obligations.BeginAssignsIds : Prop :=
  (∀ (s : State) (src : ChiebSrc) (t : Taken) (m : Mem) (c : Ctl), ChiebServed 0x0200 src s t m c → c.mgt.txns.length < 8 →
    ∃ k j x c1, k < 8 ∧ Tab.has c.mgt.txns k = false ∧ x.id = (c.mgt.nextId + j) % 65536 ∧ x.id ≠ 0 ∧ c.txnBy x.id = none ∧
      (∀ i < j, (c.mgt.nextId + i) % 65536 = 0 ∨ (c.txnBy ((c.mgt.nextId + i) % 65536)).isSome = true) ∧
      x.owner = t.chan ∧ x.state = 1 ∧ x.entries = [] ∧ c1.mgt.txns = Tab.put c.mgt.txns k x ∧ c1.mgt.nextId = (x.id + 1) % 65536 ∧
      exec (.begin src) s = .next (s.withBoth (chiebDone t (m, c1) Cs.ok [wd x.id]))) ∧
  (∀ (s : State) (src : ChiebSrc) (t : Taken) (m : Mem) (c : Ctl), ChiebServed 0x0200 src s t m c → (∀ k < 8, Tab.has c.mgt.txns k = true) →
    exec (.begin src) s = .next (s.withBoth (chiebDone t (m, c) Cs.txnFull [])))

/-- HBM addresses and ports (R144): a channel may reach bytes of HBM from 0 to 0xB_FFFF_FFFF and none beyond; the address A lies behind port 6·s + ((A
>> 22) mod 6) + 20, s being 0 below 0x6_0000_0000 and 1 from there; and in every configuration each buffer of a pool is aligned to its own size,
which is at most 4 MiB, and lies wholly behind one port. -/
def Obligations.BuffersLieBehindOnePort : Prop :=
  (∀ (n : Nat) (wr : Bool) (a len : Nat), a < 2 ^ 60 → (dmaAddrOk n wr a len = true ↔ a + len ≤ 0xBFFFFFFFF + 1)) ∧
  (∀ a : Nat, a < 0x600000000 → hbmPort a = 6 * 0 + (a >>> 22) % 6 + 20) ∧
  (∀ a : Nat, 0x600000000 ≤ a → a ≤ 0xBFFFFFFFF → hbmPort a = 6 * 1 + (a >>> 22) % 6 + 20) ∧
  (∀ (c : Ctl) (p i b : Nat), p < 5 → b < poolSize p →
    let a := 256 * (c.poolBase p + i * poolUnits p)
    poolSize p ≤ 4194304 ∧ a % poolSize p = 0 ∧ hbmPort (a + b) = hbmPort a)

/-- A device waits under the second case of R56 and the peer link goes down (R56, R57): it requests the lease, presenting its stored epoch. The device
has never declared its peer lost, which only a holder of the lease does (R350). -/
def Obligations.WaitingDeviceRequestsLease : Prop :=
  ∀ (s : State) (cells : Nat), s.c.mode = .standby → s.c.power.stop = none → s.c.lease = false → s.c.flag F.PEER_STAT_link_up = true →
    s.c.flag F.PEER_STAT_lost = false → s.c.pair.waits = true →
    Completes (.linkDown 48 cells) s (fun t =>
      t.c.flag F.PEER_STAT_link_up = false ∧ t.c.flag F.GLB_START_STAT_lease_req = true ∧ t.c.pair.asked = true ∧ t.c.pair.waits = false ∧
      (∃ n, t.c.out.head? = some (.witness .acquire false s.c.epoch n)) ∧ t.c.mode = .standby ∧ t.c.lease = false ∧ t.mem = s.mem)

/-- A change of mode (03_modes_and_startup.md, R46, R47) outside a safe stop, in which the mode stays as it is (R48): the mode becomes the new one and
the mode register keeps the one before. -/
def Obligations.ModeChangeKeepsPrevious : Prop :=
  ∀ (c : Ctl) (m : Mode), c.power.stop = none → c.mode ≠ m →
    (c.setMode m).mode = m ∧ (c.setMode m).get F.GLB_MODE_STAT_prev_mode = c.mode.code

/-- Events on the endpoint (16_service_endpoint.md, R422) disturb no storage service: bus-master enable, function-level reset, PERST_SL, hot reset,
link-down, the D3 states, AER errors and configuration requests leave the mode, the lease, hosts, network ports, members, bays, the peer,
Barista's brews, keys, time and every memory but the mailbox as they are. -/
def Obligations.EndpointEventsLeaveStorage : Prop :=
  EndpointOnly .bmeClear ∧ EndpointOnly .bmeSet ∧ EndpointOnly .functionLevelReset ∧ EndpointOnly .flrDone ∧ EndpointOnly .perstSlAssert ∧
  (∀ a b, EndpointOnly (.perstSlDeassert a b)) ∧ (∀ a b, EndpointOnly (.hotReset a b)) ∧ (∀ a b, EndpointOnly (.endpointLinkDown a b)) ∧
  EndpointOnly .pmcsrD3hotEnter ∧ EndpointOnly .pmcsrD0Return ∧ (∀ e a h, EndpointOnly (.aerError e a h)) ∧ (∀ n, EndpointOnly (.msixUnmask
    n)) ∧
  (∀ w r b v, EndpointOnly (.pcieConfigRequest w r b v))

/-- Tags (09_layouts_and_write_path.md, R203, R204): CHK accepts a block with the tag that GEN makes for its LBA and a generation that is not 0; it
refuses the tag of generation 0, the tag of an LBA with other low 32 bits, and the tag of a block with another CRC. -/
def Obligations.TagsRoundTrip : Prop :=
  ∀ (blk : List Byte) (b gen : Nat), gen < 2 ^ 32 →
    (gen ≠ 0 → chkTag blk (tagOf blk b gen) b = true) ∧ (gen = 0 → chkTag blk (tagOf blk b gen) b = false) ∧
    (∀ b1, b1 % 2 ^ 32 ≠ b % 2 ^ 32 → chkTag blk (tagOf blk b gen) b1 = false) ∧
    (∀ blk1, crc64 blk1 ≠ crc64 blk → chkTag blk1 (tagOf blk b gen) b = false)

/-- Frames of a network port (12_network_ports.md, R301 to R312) change the connections, the shapers, what is sent, the event samples, the time passed
with what DMA channels take of it, and the registers of the ports alone; so do the cycle start of a Pour list and the adoption of one when nothing
of an earlier rank is due (R72). -/
def Obligations.PortRowsChangeNetworkOnly : Prop :=
  let upd (c d : Ctl) : Ctl := { c with
    regs := d.regs, out := d.out, fv := d.fv, tel := d.tel, net := d.net, time := { c.time with dt := d.time.dt, dnt := d.time.dnt }
    bst := { c.bst with chans := d.bst.chans } }
  let ws := [(0x1000000, 0x1400000), regAt Reg.TEL_SMP_STAT]
  let fr (row : Instr) : Prop := Frames row ws upd
  (∀ a b, fr (.arpRequest a b)) ∧ (∀ a b, fr (.neighborSolicitation a b)) ∧ (∀ a b d, fr (.icmpEcho a b d)) ∧ (∀ a b d, fr (.frameDiscard a
    b d)) ∧
  (∀ a, fr (.pauseFrameReceive a)) ∧ (∀ a b, fr (.pfcFrameReceive a b)) ∧ (∀ a b, fr (.pfcPauseExpire a b)) ∧ (∀ a b d, fr (.pfcXoffSend a b
    d)) ∧
  (∀ a b, fr (.pfcXoffRefresh a b)) ∧ (∀ a, fr (.receiveBufferOverflow a)) ∧ fr .shaperRefill ∧
  (∀ a b d e, fr (.roceSendReceive a b d e)) ∧ (∀ a b d e, fr (.ceMarkedReceive a b d e)) ∧ (∀ a b d e, fr (.cnpReceive a b d e)) ∧
  (∀ a, fr (.rateIncreaseTimer a)) ∧ (∀ a b d e, fr (.tcpSyn a b d e)) ∧ (∀ a b, fr (.egressFrameSelect a b)) ∧
  (∀ a b d e, fr (.roceConnectRequest a b d e)) ∧
  (∀ (np : Fin 24) (s t : State), (∀ a, s.c.gclDue np = some a → s.c.dntDue 2 a = []) → exec (.pourListAdopt np) s = .next t →
    t.mem = s.mem ∧ t.pending = s.pending ∧ t.c = upd s.c t.c ∧ RegsWithin ws s.c t.c) ∧
  (∀ (np : Fin 24) (s t : State), (∀ l, s.c.gclLive np = some l →
      s.c.dntDue 2 (s.c.dntNs + (gclAt (s.c.gclParts np l) 0 (s.c.gclPhase l)).2) = []) → exec (.gateEntryAdvance np) s = .next t →
    t.mem = s.mem ∧ t.pending = s.pending ∧ t.c = upd s.c t.c ∧ RegsWithin ws s.c t.c)

/-- Network time (04_network_time.md, R63 to R75): losing or regaining a reference changes the time state, what DMA channels take of the time passed,
TIM registers and the gates of the Pour lists alone; so does a boundary of the time of day when nothing of an earlier rank is due (R72). -/
def Obligations.TimeRowsChangeTimeOnly : Prop :=
  let upd (c d : Ctl) : Ctl := { c with regs := d.regs, out := d.out, time := d.time, bst := { c.bst with chans := d.bst.chans } }
  let ws := [(0x100000, 0x200000), (0x1000000, 0x1400000)]
  let fr (row : Instr) : Prop := Frames row ws upd
  fr .syncLostExpire ∧ (∀ a, fr (.timSyncLostWrite a)) ∧ fr .syncTimeout ∧ fr .ref10mOutOfTolerance ∧ fr .ref10mInWithinTolerance ∧
  (∀ a, fr (.ppsEdge a)) ∧ (∀ a b d e f g h i j k l, fr (.ptpAnnounce a b d e f g h i j k l)) ∧ (∀ a, fr (.announceTimeout a)) ∧
  (∀ a b d e f, fr (.ptpDelayResp a b d e f)) ∧ (∀ a b d, fr (.ptpPdelayReq a b d)) ∧
  (∀ s t : State, s.c.dntDue 3 (s.c.todNext s.c.dntNs) = [] → exec .todBoundary s = .next t →
    t.mem = s.mem ∧ t.pending = s.pending ∧ t.c = upd s.c t.c ∧ RegsWithin ws s.c t.c)

/-- Bay channels (14_bay_power.md, R361 to R379): insertion, ramp, current limit and the commands of a channel change the channels, the drives' power
states, time with what DMA channels take of it, and the registers of BAY, with GLB_START_STAT, alone. -/
def Obligations.BayRowsChangeBaysOnly : Prop :=
  let fr (row : Instr) : Prop := Frames row [(0x1500000, 0x1600000), regAt Reg.GLB_START_STAT] (fun c d =>
    { c with regs := d.regs, time := { c.time with dt := d.time.dt, dnt := d.time.dnt }, rbd := d.rbd, bay := d.bay
             bst := { c.bst with chans := d.bst.chans } })
  (∀ a, fr (.seatAssert a)) ∧ (∀ a v, fr (.seatDebounceDone a v)) ∧ fr .rampSlotGrant ∧ (∀ a v, fr (.rampComplete a v)) ∧
  (∀ a v, fr (.currentLimitEnter a v)) ∧ (∀ a v, fr (.currentLimitRelease a v)) ∧ (∀ a, fr (.fastTripHoldEnd a)) ∧ (∀ a, fr
    (.perstReleaseTimer a)) ∧
  (∀ a b, fr (.bayShutdownDone a b)) ∧ (∀ a v, fr (.bayGateOffDelay a v)) ∧ (∀ a, fr (.bayCycleRestart a)) ∧ (∀ a, fr (.bayCmdOn a)) ∧
  (∀ a, fr (.bayCmdOff a)) ∧ (∀ a, fr (.bayCmdClear a)) ∧ (∀ a, fr (.bayCmdCycle a)) ∧ (∀ a b d, fr (.followerKeeperSample a b d))

/-- SPDM requests (17_firmware_and_trust.md, R440 to R443) change the sessions and what is sent, and no register. -/
def Obligations.SpdmRowsChangeTrustOnly : Prop :=
  let fr (row : Instr) : Prop := Frames row [] (fun c d => { c with out := d.out, trust := d.trust })
  (∀ a, fr (.spdmGetVersion a)) ∧ (∀ a b, fr (.spdmGetCapabilities a b)) ∧ (∀ a b, fr (.spdmNegotiateAlgorithms a b)) ∧ (∀ a, fr
    (.spdmGetDigests a)) ∧
  (∀ a b d e, fr (.spdmGetCertificate a b d e)) ∧ (∀ a b d, fr (.spdmChallenge a b d)) ∧ (∀ a b d e, fr (.spdmGetMeasurements a b d e)) ∧
  (∀ a b, fr (.spdmKeyExchange a b)) ∧ (∀ a b d e, fr (.spdmFinish a b d e)) ∧ (∀ a, fr (.spdmSignatureDone a)) ∧ (∀ a, fr
    (.spdmRespondIfReady a)) ∧
  (∀ a, fr (.spdmHeartbeat a)) ∧ (∀ a, fr (.spdmKeyUpdate a)) ∧ (∀ a, fr (.spdmEndSession a))

/-- Operations of the management cores on pool buffers (07_switch_core_and_buffers.md, R161 to R164) change the buffers, the BPM registers, the fault
record with its interrupt, and the event samples alone: no host, brew, record or memory. -/
def Obligations.BufferRowsChangePoolsOnly : Prop :=
  let fr (row : Instr) : Prop := Frames row
    [(0x700000, 0x800000), (0x1400000, 0x1500000), (0x1800000, 0x1900000), regAt Reg.TEL_SMP_STAT] (fun c d =>
    { c with regs := d.regs, out := d.out, fv := d.fv, tel := d.tel, ept := d.ept, swc := d.swc, pair := d.pair, trust := d.trust })
  (∀ a b d e f, fr (.bpmMgtAlloc a b d e f)) ∧ (∀ a b, fr (.bpmMgtRef a b)) ∧ (∀ a b, fr (.bpmMgtDeref a b)) ∧ (∀ a b, fr (.bpmMgtFree a b))

/-- Recipe loading and the control of DMA channels (06_barista_and_dma.md, R121, R140, R141) change Barista and its registers alone; Crema's
invalidations (08_read_path_and_crema.md, R189) change Crema and CRM_STAT alone; the end of its initialisation (R193) changes Crema, its registers
and what dropping the entries' references changes: buffers, the BPM registers, a fault record with its interrupt, and the event samples. -/
def Obligations.EngineControlChangesItsBlockOnly : Prop :=
  let bst (row : Instr) : Prop := Frames row [(0x400000, 0x600000)] (fun c d => { c with regs := d.regs, bst := d.bst })
  let crm (row : Instr) : Prop := Frames row [regAt Reg.CRM_STAT] (fun c d => { c with regs := d.regs, crm := d.crm })
  (∀ a b, bst (.bstLoadDataWrite a b)) ∧ (∀ a b d e, bst (.bstInstall a b d e)) ∧ (∀ a, bst (.bstRetire a)) ∧ (∀ a, bst (.dmaStop a)) ∧
  (∀ a, bst (.dmaClrErr a)) ∧ (∀ a b, bst (.dmaShadowArm a b)) ∧ (∀ a b d e, bst (.dmaShadowWrite a b d e)) ∧
  (∀ a, crm (.crmInvalidateNs a)) ∧ crm .crmInvalidateAll ∧
  Frames .crmInitDone
    [(0x700000, 0x800000), (0x800000, 0xA00000), (0x1400000, 0x1500000), (0x1800000, 0x1900000), regAt Reg.TEL_SMP_STAT] (fun c d =>
    { c with regs := d.regs, out := d.out, fv := d.fv, tel := d.tel, ept := d.ept, swc := d.swc, crm := d.crm, pair := d.pair, trust :=
      d.trust })

/-- Commands that store bytes store only those: CRC GEN its tags in the aux buffer (09_layouts_and_write_path.md, R203), a DMA step move its bytes in
the destination buffer (06_barista_and_dma.md, R142), and a WRITE of the peer into another window than the ring's its data in the Carafe
(13_pairing_and_failover.md, R331, R332); every other byte of every memory reads as before. -/
def Obligations.StoringRowsStoreOnlyThere : Prop :=
  (∀ (s : State) (tag n : Nat) (i : Issued) (y : BrewSlot), s.memOk = true → StepAccepted s.c tag Cls.crc 0x01 false i n → i.auxSlot = some
    y →
    Completes (.crcGen tag) s (fun t =>
      StoresOnly .hbm (ptrByte y.ptr) (16 * ((s.c.stepIssued tag i).crcRange tag i).2.2) s.mem t.mem)) ∧
  (∀ (s : State) (tag n : Nat) (ue : Bool) (i : Issued) (y : BrewSlot), s.memOk = true → StepAccepted s.c tag Cls.dma 0x01 false i n →
    i.brew.slot? i.step.dst = some y →
    Completes (.dmaStepMove tag ue) s (fun t => StoresOnly .hbm (ptrByte y.ptr + i.step.arg1) i.step.len s.mem t.mem)) ∧
  (∀ (s : State) (tag : PeerTag) (win : Fin 16) (epoch : Fin 65536) (off : Nat) (data : List Byte) (fseq : Fin 65536), s.memOk = true →
    s.c.ringWindow win = false →
    Completes (.peerWrite tag win epoch off data fseq) s (fun t =>
      StoresOnly .carafe (65536 * s.c.get (F.PEER_WIN_OPR_base win) + off) data.length s.mem t.mem))

/-- A row that is not among those that may store leaves every memory as it is. -/
def Obligations.OtherRowsStoreNothing : Prop := ∀ (i : Instr) (s t : State), mayStore i = false → exec i s = .next t → t.mem = s.mem

/-- Steps (06_barista_and_dma.md, Table 6.2): reading the eight words of a step whose fields fit their widths gives that step back, so no bit of a
field is dropped or shared. The write recipe of Table 9.6 (09_layouts_and_write_path.md, R215) for commands of 1, 2, 256 and 512 blocks, and the
one for pieces of zeros, pass every check of a recipe load (R121). Slots and limits of these recipes are the model's choice
(notes/assumptions/75.md). -/
def Obligations.StepWordsRoundTrip : Prop :=
  (∀ x : Step, x.eng < 64 → x.isel < 4 → x.inst < 256 → x.op < 256 → x.next < 256 → x.b0t < 256 → x.b1t < 256 → x.failt < 256 →
    x.b0s < 256 → x.b1s < 256 → x.b0m < 16 → x.b1m < 16 → x.src < 16 → x.dst < 16 → x.aux < 16 → x.out < 16 →
    x.arg0 < 2 ^ 32 → x.arg1 < 2 ^ 32 → x.len < 2 ^ 24 → x.arg2 < 2 ^ 16 → x.chk < 2 ^ 16 →
    x.words.length = 8 ∧ stepOf x.words = x) ∧
  (∀ n ∈ [1, 2, 256, 512], recipeErrs (writeRecipe n) = []) ∧
  recipeErrs zeroRecipe = []
end

