-- ==== Sys2Proof/Laws/Bits.lean ====
section
/-! SUPPORT. Fields of words: a field set is read back cut to its width, and every other field stays. -/

namespace Sys2Proof.Machine

/-- Bit `i` of a field of a word. -/
theorem testBit_getBits (w : Word) (hi lo i : Nat) : Nat.testBit (getBits w hi lo) i = (decide (i < hi + 1 - lo) && w.getLsbD (lo + i)) := by
  simp [getBits, Nat.testBit_mod_two_pow, Nat.testBit_div_two_pow, BitVec.getLsbD, Nat.add_comm]

/-- Bit `i` of a field's mask. -/
theorem testBit_mask (k lo i : Nat) : Nat.testBit ((2 ^ k - 1) * 2 ^ lo) i = (decide (lo ≤ i) && decide (i - lo < k)) := by
  rw [Nat.mul_comm, Nat.testBit_two_pow_mul, Nat.testBit_two_pow_sub_one]

/-- Bit `i` of a word whose field is set. -/
theorem getLsbD_setBits (w : Word) (hi lo v i : Nat) (h : lo ≤ hi) (h32 : hi < 32) :
    (setBits w hi lo v).getLsbD i = if lo ≤ i ∧ i ≤ hi then Nat.testBit v (i - lo) else w.getLsbD i := by
  simp only [setBits, fieldMask, BitVec.getLsbD_or, BitVec.getLsbD_and, BitVec.getLsbD_not, BitVec.getLsbD_ofNat, testBit_mask]
  rw [Nat.mul_comm (v % _), Nat.testBit_two_pow_mul, Nat.testBit_mod_two_pow]
  by_cases h1 : lo ≤ i ∧ i ≤ hi
  · have h2 : i - lo < hi + 1 - lo := by omega
    have h3 : i < 32 := by omega
    simp [h1, h2, h3]
  · rw [if_neg h1]
    by_cases h3 : i < 32
    · by_cases h4 : lo ≤ i
      · have h5 : ¬ i - lo < hi + 1 - lo := by omega
        simp [h3, h4, h5]
      · simp [h3, h4]
    · have : w.getLsbD i = false := BitVec.getLsbD_of_ge w i (by omega)
      simp [h3, this]

/-- A field set is read back, cut to its width. -/
theorem getBits_setBits_same (w : Word) (hi lo v : Nat) (h : lo ≤ hi) (h32 : hi < 32) :
    getBits (setBits w hi lo v) hi lo = v % 2 ^ (hi + 1 - lo) := by
  apply Nat.eq_of_testBit_eq
  intro i
  rw [testBit_getBits, Nat.testBit_mod_two_pow, getLsbD_setBits w hi lo v _ h h32]
  by_cases h1 : i < hi + 1 - lo
  · have h2 : lo ≤ lo + i ∧ lo + i ≤ hi := by omega
    simp [h1, h2]
  · simp [h1]

/-- A field set leaves a field beside it. -/
theorem getBits_setBits_other (w : Word) (hi lo v hi2 lo2 : Nat) (h : lo ≤ hi) (h32 : hi < 32) (hd : hi2 < lo ∨ hi < lo2) :
    getBits (setBits w hi lo v) hi2 lo2 = getBits w hi2 lo2 := by
  apply Nat.eq_of_testBit_eq
  intro i
  rw [testBit_getBits, testBit_getBits, getLsbD_setBits w hi lo v _ h h32]
  by_cases h1 : i < hi2 + 1 - lo2
  · have h2 : ¬ (lo ≤ lo2 + i ∧ lo2 + i ≤ hi) := by omega
    simp [h1, h2]
  · simp [h1]

/-- A field is below its width. -/
theorem getBits_lt (w : Word) (hi lo : Nat) : getBits w hi lo < 2 ^ (hi + 1 - lo) := Nat.mod_lt _ (Nat.two_pow_pos _)

end Sys2Proof.Machine
end

