-- ==== Sys2Proof/Laws/Chieb.lean ====
section
/-! SUPPORT. What a Chieb row does once its request is served: the statements about the opcodes cite these lemmas in place of unfolding the
checks of R385. -/

namespace Sys2Proof.Machine

/-- A served request passes checks 5 to 7 of R385. -/
theorem chiebExec_served {op : Nat} {src : ChiebSrc} {s : State} {t : Taken} {m : Mem} {c : Ctl} (hs : ChiebServed op src s t m c)
    (h : Taken → Mem → Ctl → CRes) :
    chiebExec m c t h = match (h t m c).reply with
      | some (st, ws) => chiebDone t ((h t m c).m, (h t m c).c) st ws
      | none => ((h t m c).m, (h t m c).c) := by
  obtain ⟨-, -, -, h4, h5, h6⟩ := hs
  have h7 : ¬(t.pkt.txn ≠ 0 ∧ c.txnStatus t.chan t.pkt.txn ≠ 0) := by
    rintro ⟨a, b⟩
    rcases h6 with h6 | h6
    · exact a h6
    · exact b h6
  unfold chiebExec
  simp only [h4, h5, Bool.not_true, Bool.false_eq_true, if_false, if_neg h7]
  cases (h t m c).reply <;> rfl

/-- A row whose request is served executes it. -/
theorem chiebRow_served {op : Nat} {src : ChiebSrc} {s : State} {t : Taken} {m : Mem} {c : Ctl} (hs : ChiebServed op src s t m c)
    (h : Taken → Mem → Ctl → CRes) :
    chiebRow op src h s = .next (s.withBoth (chiebExec m c t h)) := by
  obtain ⟨h1, h2, h3, -⟩ := hs
  have hr : chiebRun op src h s.mem s.c = chiebExec m c t h := by
    cases src with
    | sideband e bs =>
      obtain ⟨a, b, d⟩ := h1
      unfold chiebRun
      simp only [a, b, d]
      simp only [ne_eq, not_true_eq_false, Bool.false_eq_true, or_self, if_false]
      have h2' : (if (s.c.mgt.taken.any fun t => t.src == ChiebSrc.sideband e bs) = true then (s.mem, s.c)
          else if (s.c.mgt.taken.any fun t => t.chan == 8192 + e && t.pkt.seq != (pktOf (bs.drop 2)).seq) = true then (s.mem, s.c)
          else chiebTake s.mem s.c ⟨8192 + e, .sideband e bs, pktOf (bs.drop 2), false, 0, 0⟩ (bs.drop 2) true) = (m, c) := by
        rw [h2]
        unfold chiebArrive
        by_cases p : (s.c.mgt.taken.any fun t => t.src == ChiebSrc.sideband e bs) = true
        · simp [p]
        · by_cases q : (s.c.mgt.taken.any fun t => t.chan == 8192 + e && t.pkt.seq != (pktOf (bs.drop 2)).seq) = true
          · simp only [p, q, if_true, Bool.or_true]; simp
          · simp only [p, q, Bool.or_self]; simp
      rw [h2']
      simp only [h3]
    | mailbox k =>
      have h2' : (m, c) = (s.mem, s.c) := h2
      cases h2'
      simp only [chiebRun, h3]
    | inband k =>
      have h2' : (m, c) = (s.mem, s.c) := h2
      cases h2'
      simp only [chiebRun, h3]
    | session k =>
      have h2' : (m, c) = (s.mem, s.c) := h2
      cases h2'
      simp only [chiebRun, h3]
  show onAll (fun m c => chiebRun op src h m c) s = _
  rw [← hr]
  rfl

/-- A row whose request is served and answered. -/
theorem chiebRow_reply {op : Nat} {src : ChiebSrc} {s : State} {t : Taken} {m : Mem} {c : Ctl} (hs : ChiebServed op src s t m c)
    {h : Taken → Mem → Ctl → CRes} {r : Mem × Ctl} {st : Nat} {ws : List Word} (hh : h t m c = ⟨some (st, ws), r.1, r.2⟩) :
    chiebRow op src h s = .next (s.withBoth (chiebDone t r st ws)) := by
  rw [chiebRow_served hs h, chiebExec_served hs h, hh]

/-- A row of a long opcode whose request is served and started under handle `k`. -/
theorem chiebRow_long {op : Nat} {src : ChiebSrc} {s : State} {t : Taken} {m : Mem} {c : Ctl} (hs : ChiebServed op src s t m c)
    {h : Taken → Mem → Ctl → CRes} {f : Nat → Mem → Ctl → Mem × Ctl} {k : Nat} (hk : c.handleFree = some k)
    (hh : h t m c = longOp op m c f) :
    chiebRow op src h s = .next (s.withBoth (chiebDone t (f k m (c.handleStart k op)) Cs.pending [wd k])) := by
  rw [chiebRow_served hs h, chiebExec_served hs h, hh]
  unfold longOp
  rw [hk]

end Sys2Proof.Machine
end

