-- ==== Sys2Proof/Laws/Memory.lean ====
section
/-! SUPPORT. Byte memory: what a write does to every read, and that every memory operation keeps the canonical form. -/

namespace Sys2Proof.Machine

/-- A cell list above a bound is canonical above every lower one. -/
theorem cellsAbove_le (m : List Host.Cell) (a b : Nat) (h : cellsAbove (some b) m = true) (hab : a ≤ b) : cellsAbove (some a) m = true := by
  cases m with
  | nil => rfl
  | cons e m =>
    obtain ⟨k, x⟩ := e
    simp only [cellsAbove, Bool.and_eq_true, decide_eq_true_eq] at h ⊢
    exact ⟨⟨by omega, h.1.2⟩, h.2⟩

/-- Above a bound is canonical. -/
theorem cellsAbove_none (m : List Host.Cell) (a : Nat) (h : cellsAbove (some a) m = true) : cellsAbove none m = true := by
  cases m with
  | nil => rfl
  | cons e m =>
    obtain ⟨k, x⟩ := e
    simp only [cellsAbove, Bool.and_eq_true] at h ⊢
    exact ⟨⟨trivial, h.1.2⟩, h.2⟩

/-- Below a canonical list's bound every address reads 0. -/
theorem cellRead_below (m : List Host.Cell) (a b : Nat) (h : cellsAbove (some b) m = true) (hab : a ≤ b) : cellRead m a = 0 := by
  induction m generalizing b with
  | nil => rfl
  | cons e m ih =>
    obtain ⟨k, x⟩ := e
    simp only [cellsAbove, Bool.and_eq_true, decide_eq_true_eq] at h
    simp only [cellRead]
    rw [if_neg (by omega)]
    exact ih k h.2 (by omega)

/-- One byte written keeps the canonical form above a bound. -/
theorem cellWrite_above (m : List Host.Cell) (lo : Option Nat) (a : Nat) (b : Byte) (h : cellsAbove lo m = true)
    (hlo : ∀ l, lo = some l → l < a) : cellsAbove lo (cellWrite m a b) = true := by
  induction m generalizing lo with
  | nil =>
    simp only [cellWrite]
    by_cases hb : b = 0
    · rw [if_pos hb]; rfl
    · rw [if_neg hb]
      have hb' : (b != 0) = true := by simpa using hb
      cases lo with
      | none => simp only [cellsAbove, hb', Bool.and_self]
      | some l => simp only [cellsAbove, hb', hlo l rfl, decide_true, Bool.and_self]
  | cons e m ih =>
    obtain ⟨k, x⟩ := e
    have h0 := h
    simp only [cellsAbove, Bool.and_eq_true] at h
    simp only [cellWrite]
    by_cases h1 : a < k
    · rw [if_pos h1]
      by_cases hb : b = 0
      · rw [if_pos hb]; exact h0
      · rw [if_neg hb]
        simp only [cellsAbove, Bool.and_eq_true, decide_eq_true_eq]
        refine ⟨⟨?_, by simpa using hb⟩, ⟨⟨h1, h.1.2⟩, h.2⟩⟩
        cases lo with
        | none => rfl
        | some l => simp [hlo l rfl]
    · rw [if_neg h1]
      by_cases h2 : a = k
      · subst h2
        rw [if_pos rfl]
        by_cases hb : b = 0
        · rw [if_pos hb]
          cases lo with
          | none => exact cellsAbove_none _ _ h.2
          | some l => exact cellsAbove_le _ _ _ h.2 (by have := hlo l rfl; omega)
        · rw [if_neg hb]
          simp only [cellsAbove, Bool.and_eq_true]
          exact ⟨⟨h.1.1, by simpa using hb⟩, h.2⟩
      · rw [if_neg h2]
        simp only [cellsAbove, Bool.and_eq_true]
        refine ⟨h.1, ih (some k) h.2 ?_⟩
        intro l hl
        cases hl
        omega

/-- One byte written keeps the canonical form. -/
theorem cellWrite_wf (m : List Host.Cell) (a : Nat) (b : Byte) (h : cellsWf m = true) : cellsWf (cellWrite m a b) = true :=
  cellWrite_above m none a b h (by intro l hl; cases hl)

/-- Bytes written keep the canonical form. -/
theorem cellsWrite_wf (bs : List Byte) (m : List Host.Cell) (a : Nat) (h : cellsWf m = true) : cellsWf (cellsWrite m a bs) = true := by
  induction bs generalizing m a with
  | nil => exact h
  | cons b bs ih => exact ih _ _ (cellWrite_wf m a b h)

/-- A byte written is read back, and every other address reads as before. -/
theorem cellRead_write (m : List Host.Cell) (lo : Option Nat) (a k : Nat) (b : Byte) (h : cellsAbove lo m = true) :
    cellRead (cellWrite m a b) k = if k = a then b else cellRead m k := by
  induction m generalizing lo with
  | nil =>
    simp only [cellWrite]
    by_cases hb : b = 0
    · rw [if_pos hb]
      by_cases hk : k = a
      · rw [if_pos hk, hb]; rfl
      · rw [if_neg hk]
    · rw [if_neg hb]
      simp only [cellRead]
      by_cases hk : k = a
      · simp [hk]
      · simp [hk, Ne.symm hk]
  | cons e m ih =>
    obtain ⟨j, x⟩ := e
    have h0 := h
    simp only [cellsAbove, Bool.and_eq_true] at h
    simp only [cellWrite]
    by_cases h1 : a < j
    · rw [if_pos h1]
      by_cases hb : b = 0
      · rw [if_pos hb]
        by_cases hk : k = a
        · subst hk
          simp only [if_true, hb, cellRead]
          rw [if_neg (by omega)]
          exact cellRead_below m k j h.2 (by omega)
        · simp [hk]
      · rw [if_neg hb]
        simp only [cellRead]
        by_cases hk : k = a
        · simp [hk]
        · simp [hk, Ne.symm hk]
    · rw [if_neg h1]
      by_cases h2 : a = j
      · subst h2
        rw [if_pos rfl]
        by_cases hb : b = 0
        · rw [if_pos hb]
          by_cases hk : k = a
          · subst hk
            simp only [if_true, hb]
            exact cellRead_below m k k h.2 (Nat.le_refl _)
          · simp [hk, cellRead, Ne.symm hk]
        · rw [if_neg hb]
          simp only [cellRead]
          by_cases hk : k = a
          · simp [hk]
          · simp [hk, Ne.symm hk]
      · rw [if_neg h2]
        simp only [cellRead, ih (some j) h.2]
        by_cases hk : j = k
        · subst hk
          simp [Ne.symm h2]
        · simp [hk]

/-- Bytes written leave every address outside them as it was. -/
theorem cellRead_cellsWrite_other (bs : List Byte) (m : List Host.Cell) (a k : Nat) (h : cellsWf m = true) (hk : k < a ∨ a + bs.length ≤ k) :
    cellRead (cellsWrite m a bs) k = cellRead m k := by
  induction bs generalizing m a with
  | nil => rfl
  | cons b bs ih =>
    simp only [List.length_cons] at hk
    rw [cellsWrite, ih _ _ (cellWrite_wf m a b h) (by omega), cellRead_write m none a k b h, if_neg (by omega)]

/-- Bytes written are read back. -/
theorem cellRead_cellsWrite (bs : List Byte) (m : List Host.Cell) (a i : Nat) (h : cellsWf m = true) (hi : i < bs.length) :
    cellRead (cellsWrite m a bs) (a + i) = bs.getD i 0 := by
  induction bs generalizing m a i with
  | nil => simp at hi
  | cons b bs ih =>
    cases i with
    | zero =>
      rw [cellsWrite, cellRead_cellsWrite_other bs _ _ _ (cellWrite_wf m a b h) (by omega), cellRead_write m none a _ b h]
      simp
    | succ i =>
      rw [cellsWrite]
      have h2 : a + (i + 1) = (a + 1) + i := by omega
      rw [h2, ih _ _ _ (cellWrite_wf m a b h) (by simpa using hi)]
      simp

/-! ### The four memories -/

theorem Mem.wf_sel (m : Mem) (s : MemSel) (h : Memory.wf m = true) : cellsWf (m.sel s) = true := by
  simp only [Memory.wf, Bool.and_eq_true] at h
  cases s with
  | hbm => exact h.1.1.1
  | carafe => exact h.1.1.2
  | sram => exact h.1.2
  | bar2 => exact h.2

/-- A memory replaced by a canonical one keeps the form. -/
theorem Mem.wf_setSel (m : Mem) (s : MemSel) (x : List Host.Cell) (h : Memory.wf m = true) (hx : cellsWf x = true) :
    Memory.wf (m.setSel s x) = true := by
  simp only [Memory.wf, Bool.and_eq_true] at h
  cases s <;> simp [Mem.setSel, Memory.wf, h, hx]

/-- Words made correctable keep every byte. -/
@[simp] theorem Mem.sel_ueClear (m : Mem) (s r : MemSel) (a n : Nat) : (m.ueClear s a n).sel r = m.sel r := by
  cases s <;> cases r <;> rfl

/-- Words made correctable keep the canonical form. -/
theorem Mem.wf_ueClear (m : Mem) (s : MemSel) (a n : Nat) (h : Memory.wf m = true) : Memory.wf (m.ueClear s a n) = true := by
  cases s <;> exact h

/-- Every write keeps the canonical form of every memory. -/
theorem Mem.wf_put (m : Mem) (s : MemSel) (a : Nat) (bs : List Byte) (h : Memory.wf m = true) : Memory.wf (m.put s a bs) = true :=
  Mem.wf_ueClear _ s a _ (Mem.wf_setSel m s _ h (cellsWrite_wf bs _ a (Mem.wf_sel m s h)))

@[simp] theorem Mem.sel_setSel (m : Mem) (s : MemSel) (x : List Host.Cell) : (m.setSel s x).sel s = x := by cases s <;> rfl

theorem Mem.sel_setSel_other (m : Mem) (s r : MemSel) (x : List Host.Cell) (h : r ≠ s) : (m.setSel s x).sel r = m.sel r := by
  cases s <;> cases r <;> first | rfl | exact absurd rfl h

/-- A write to one memory leaves every byte of the others. -/
theorem Mem.byte_put_space (m : Mem) (s r : MemSel) (a k : Nat) (bs : List Byte) (h : r ≠ s) : (m.put s a bs).byte r k = m.byte r k := by
  simp [Mem.put, Mem.byte, Mem.sel_setSel_other m s r _ h]

/-- A write leaves every address of its memory outside the bytes written. -/
theorem Mem.byte_put_other (m : Mem) (s : MemSel) (a k : Nat) (bs : List Byte) (h : Memory.wf m = true) (hk : k < a ∨ a + bs.length ≤ k) :
    (m.put s a bs).byte s k = m.byte s k := by
  simp only [Mem.put, Mem.byte, Mem.sel_ueClear, Mem.sel_setSel]
  exact cellRead_cellsWrite_other bs _ a k (Mem.wf_sel m s h) hk

/-- The bytes written are read back. -/
theorem Mem.byte_put (m : Mem) (s : MemSel) (a i : Nat) (bs : List Byte) (h : Memory.wf m = true) (hi : i < bs.length) :
    (m.put s a bs).byte s (a + i) = bs.getD i 0 := by
  simp only [Mem.put, Mem.byte, Mem.sel_ueClear, Mem.sel_setSel]
  exact cellRead_cellsWrite bs _ a i (Mem.wf_sel m s h) hi

end Sys2Proof.Machine
end

