-- ==== Sys2Proof/Laws/Tab.lean ====
section
/-! SUPPORT. What look-up, write, update and removal of a sparse table do to each other. -/

namespace Sys2Proof

variable {α : Type}

@[simp] theorem Tab.at?_nil (k : Nat) : Tab.at? ([] : Tab α) k = none := rfl

/-- A write is read back under its number and changes no other. -/
theorem Tab.at?_put (t : Tab α) (k j : Nat) (x : α) : Tab.at? (Tab.put t k x) j = if k = j then some x else Tab.at? t j := by
  induction t with
  | nil => simp [Tab.put, Tab.at?]
  | cons e t ih =>
    obtain ⟨a, y⟩ := e
    simp only [Tab.put]
    by_cases h1 : k < a
    · simp only [h1, if_true, Tab.at?]
    · by_cases h2 : a = k
      · subst h2
        simp only [h1, if_false, if_true, Tab.at?]
        by_cases h3 : a = j <;> simp [h3]
      · simp only [h1, h2, if_false, Tab.at?, ih]
        by_cases h3 : a = j
        · subst h3
          simp [Ne.symm h2]
        · simp [h3]

@[simp] theorem Tab.at?_put_same (t : Tab α) (k : Nat) (x : α) : Tab.at? (Tab.put t k x) k = some x := by simp [Tab.at?_put]

theorem Tab.at?_put_other (t : Tab α) {k j : Nat} (x : α) (h : k ≠ j) : Tab.at? (Tab.put t k x) j = Tab.at? t j := by
  simp [Tab.at?_put, h]

/-- A removal leaves nothing under its number and changes no other. -/
theorem Tab.at?_del (t : Tab α) (k j : Nat) : Tab.at? (Tab.del t k) j = if k = j then none else Tab.at? t j := by
  induction t with
  | nil => simp [Tab.del, Tab.at?]
  | cons e t ih =>
    obtain ⟨a, y⟩ := e
    simp only [Tab.del] at ih ⊢
    by_cases h1 : a = k
    · subst h1
      simp only [List.filter_cons, bne_self_eq_false, Bool.false_eq_true, if_false, ih, Tab.at?]
      by_cases h2 : a = j <;> simp [h2]
    · have hb : (a != k) = true := by simp [h1]
      simp only [List.filter_cons, hb, if_true, Tab.at?, ih]
      by_cases h2 : a = j
      · subst h2
        simp [Ne.symm h1]
      · simp [h2]

@[simp] theorem Tab.at?_del_same (t : Tab α) (k : Nat) : Tab.at? (Tab.del t k) k = none := by simp [Tab.at?_del]

/-- An update changes what stands under its number, if anything does. -/
theorem Tab.at?_upd (t : Tab α) (k j : Nat) (f : α → α) : Tab.at? (Tab.upd t k f) j = if k = j then (Tab.at? t k).map f else Tab.at? t j := by
  unfold Tab.upd
  cases h : Tab.at? t k with
  | none =>
    by_cases h2 : k = j
    · subst h2; simp [h]
    · simp [h2]
  | some x =>
    by_cases h2 : k = j
    · subst h2; simp
    · simp [Tab.at?_put, h2]

/-- A map over every value is seen under every number. -/
theorem Tab.at?_mapV (t : Tab α) (f : Nat → α → α) (k : Nat) : Tab.at? (Tab.mapV t f) k = (Tab.at? t k).map (f k) := by
  induction t with
  | nil => rfl
  | cons e t ih =>
    obtain ⟨a, y⟩ := e
    simp only [Tab.mapV] at ih ⊢
    simp only [List.map_cons, Tab.at?, ih]
    by_cases h : a = k
    · subst h; simp
    · simp [h]

theorem Tab.getD_put (t : Tab α) (k j : Nat) (x d : α) : Tab.getD (Tab.put t k x) j d = if k = j then x else Tab.getD t j d := by
  simp only [Tab.getD, Tab.at?_put]
  by_cases h : k = j <;> simp [h]

@[simp] theorem Tab.getD_put_same (t : Tab α) (k : Nat) (x d : α) : Tab.getD (Tab.put t k x) k d = x := by simp [Tab.getD_put]

theorem Tab.has_put (t : Tab α) (k j : Nat) (x : α) : Tab.has (Tab.put t k x) j = (decide (k = j) || Tab.has t j) := by
  simp only [Tab.has, Tab.at?_put]
  by_cases h : k = j <;> simp [h]

theorem Tab.has_del (t : Tab α) (k j : Nat) : Tab.has (Tab.del t k) j = (decide (k ≠ j) && Tab.has t j) := by
  simp only [Tab.has, Tab.at?_del]
  by_cases h : k = j <;> simp [h]

/-- The number that `freeKey` gives is free and in range. -/
theorem Tab.freeKey_spec (t : Tab α) : ∀ (n i k : Nat), Tab.freeKey t i n = some k → Tab.has t k = false ∧ i ≤ k ∧ k < i + n
  | 0, i, k, h => by simp [Tab.freeKey] at h
  | n + 1, i, k, h => by
    simp only [Tab.freeKey] at h
    by_cases hh : Tab.has t i = true
    · rw [if_pos hh] at h
      have := Tab.freeKey_spec t n (i + 1) k h
      exact ⟨this.1, by omega, by omega⟩
    · rw [if_neg hh] at h
      cases h
      simp only [Bool.not_eq_true] at hh
      exact ⟨hh, Nat.le_refl _, by omega⟩

/-- With none given, every number in range is taken. -/
theorem Tab.freeKey_none (t : Tab α) : ∀ (n i k : Nat), Tab.freeKey t i n = none → i ≤ k → k < i + n → Tab.has t k = true
  | 0, i, k, _, h1, h2 => by omega
  | n + 1, i, k, h, h1, h2 => by
    simp only [Tab.freeKey] at h
    by_cases hh : Tab.has t i = true
    · rw [if_pos hh] at h
      by_cases hk : i = k
      · subst hk; exact hh
      · exact Tab.freeKey_none t n (i + 1) k h (by omega) (by omega)
    · rw [if_neg hh] at h
      cases h

end Sys2Proof
end

