-- ==== Sys2Proof/Laws/Reg.lean ====
section
/-! SUPPORT. Registers: a word or field written is read back, and every other register and field stays. -/

namespace Sys2Proof.Machine

/-- A field that lies in its word. -/
abbrev Fld.Ok (f : Fld) : Prop := f.lo ≤ f.hi ∧ f.hi < 32

theorem Ctl.rd_wr (c : Ctl) (o p : Nat) (w : Word) : (c.wr o w).rd p = if o = p then w else c.rd p := by
  simp only [Ctl.rd, Ctl.wr, Tab.at?_put]
  by_cases h : o = p <;> simp [h]

@[simp] theorem Ctl.rd_wr_same (c : Ctl) (o : Nat) (w : Word) : (c.wr o w).rd o = w := by simp [Ctl.rd_wr]

theorem Ctl.rd_wr_other (c : Ctl) {o p : Nat} (w : Word) (h : o ≠ p) : (c.wr o w).rd p = c.rd p := by simp [Ctl.rd_wr, h]

theorem Ctl.get_wr_other (c : Ctl) {o : Nat} (f : Fld) (w : Word) (h : o ≠ f.off) : (c.wr o w).get f = c.get f := by
  simp [Ctl.get, Ctl.rd_wr, h]

/-- A field set is read back, cut to its width. -/
theorem Ctl.get_set_same (c : Ctl) (f : Fld) (v : Nat) (h : f.Ok) : (c.set f v).get f = v % 2 ^ (f.hi + 1 - f.lo) := by
  simp only [Ctl.get, Ctl.set, Ctl.rd_wr_same]
  exact getBits_setBits_same _ _ _ _ h.1 h.2

/-- A value that fits its field is read back. -/
theorem Ctl.get_set_val (c : Ctl) (f : Fld) (v : Nat) (h : f.Ok) (hv : v < 2 ^ (f.hi + 1 - f.lo)) : (c.set f v).get f = v := by
  rw [Ctl.get_set_same c f v h, Nat.mod_eq_of_lt hv]

/-- A field set leaves the fields of other registers. -/
theorem Ctl.get_set_off (c : Ctl) (f g : Fld) (v : Nat) (h : f.off ≠ g.off) : (c.set f v).get g = c.get g := by
  simp [Ctl.get, Ctl.set, Ctl.rd_wr, h]

/-- A field set leaves the fields beside it. -/
theorem Ctl.get_set_beside (c : Ctl) (f g : Fld) (v : Nat) (h : f.Ok) (hd : g.hi < f.lo ∨ f.hi < g.lo) : (c.set f v).get g = c.get g := by
  by_cases ho : f.off = g.off
  · simp only [Ctl.get, Ctl.set, ← ho, Ctl.rd_wr_same]
    exact getBits_setBits_other _ _ _ _ _ _ h.1 h.2 hd
  · exact Ctl.get_set_off c f g v ho

theorem Ctl.rd_set_other (c : Ctl) (f : Fld) (v p : Nat) (h : f.off ≠ p) : (c.set f v).rd p = c.rd p := by
  simp [Ctl.set, Ctl.rd_wr, h]

/-- A flag set is read back. -/
theorem Ctl.flag_setFlag_same (c : Ctl) (f : Fld) (b : Bool) (h : f.Ok) : (c.setFlag f b).flag f = b := by
  simp only [Ctl.flag, Ctl.setFlag, Ctl.get_set_same c f _ h]
  have hk : 1 < 2 ^ (f.hi + 1 - f.lo) := Nat.one_lt_two_pow (by have := h.1; omega)
  cases b with
  | false => simp
  | true => simp [Nat.mod_eq_of_lt hk]

theorem Ctl.flag_set_off (c : Ctl) (f g : Fld) (v : Nat) (h : f.off ≠ g.off) : (c.set f v).flag g = c.flag g := by
  simp [Ctl.flag, Ctl.get_set_off c f g v h]

theorem Ctl.flag_set_beside (c : Ctl) (f g : Fld) (v : Nat) (h : f.Ok) (hd : g.hi < f.lo ∨ f.hi < g.lo) : (c.set f v).flag g = c.flag g := by
  simp [Ctl.flag, Ctl.get_set_beside c f g v h hd]

/-- A field that is raised is read back: the sum, or the largest value. -/
theorem Ctl.get_bump_same (c : Ctl) (f : Fld) (n : Nat) (h : f.Ok) : (c.bump f n).get f = min (c.get f + n) f.max := by
  rw [Ctl.bump, Ctl.get_set_same c f _ h]
  apply Nat.mod_eq_of_lt
  have : f.max < 2 ^ (f.hi + 1 - f.lo) := Nat.sub_lt (Nat.two_pow_pos _) Nat.one_pos
  omega

theorem Ctl.get_bump_off (c : Ctl) (f g : Fld) (n : Nat) (h : f.off ≠ g.off) : (c.bump f n).get g = c.get g := Ctl.get_set_off c f g _ h

/-- A field is at most its largest value. -/
theorem Ctl.get_le_max (c : Ctl) (f : Fld) : c.get f ≤ f.max := by
  have := getBits_lt (c.rd f.off) f.hi f.lo
  simp only [Ctl.get, Fld.max]
  omega

end Sys2Proof.Machine
end

