-- ==== Sys2Proof/Laws/State.lean ====
section
/-! SUPPORT. What each update of the state leaves and gives, one lemma per field per update, and the same for the whole state. -/

namespace Sys2Proof.Machine

/-! ### `Ctl.wr` -/

@[simp] theorem Ctl.wr_regs (c : Ctl) (o : Nat) (w : Word) : (c.wr o w).regs = Tab.put c.regs o w := rfl
@[simp] theorem Ctl.wr_out (c : Ctl) (o : Nat) (w : Word) : (c.wr o w).out = c.out := rfl
@[simp] theorem Ctl.wr_fv (c : Ctl) (o : Nat) (w : Word) : (c.wr o w).fv = c.fv := rfl
@[simp] theorem Ctl.wr_tel (c : Ctl) (o : Nat) (w : Word) : (c.wr o w).tel = c.tel := rfl
@[simp] theorem Ctl.wr_ept (c : Ctl) (o : Nat) (w : Word) : (c.wr o w).ept = c.ept := rfl
@[simp] theorem Ctl.wr_power (c : Ctl) (o : Nat) (w : Word) : (c.wr o w).power = c.power := rfl
@[simp] theorem Ctl.wr_time (c : Ctl) (o : Nat) (w : Word) : (c.wr o w).time = c.time := rfl
@[simp] theorem Ctl.wr_host (c : Ctl) (o : Nat) (w : Word) : (c.wr o w).host = c.host := rfl
@[simp] theorem Ctl.wr_bst (c : Ctl) (o : Nat) (w : Word) : (c.wr o w).bst = c.bst := rfl
@[simp] theorem Ctl.wr_swc (c : Ctl) (o : Nat) (w : Word) : (c.wr o w).swc = c.swc := rfl
@[simp] theorem Ctl.wr_crm (c : Ctl) (o : Nat) (w : Word) : (c.wr o w).crm = c.crm := rfl
@[simp] theorem Ctl.wr_car (c : Ctl) (o : Nat) (w : Word) : (c.wr o w).car = c.car := rfl
@[simp] theorem Ctl.wr_rbd (c : Ctl) (o : Nat) (w : Word) : (c.wr o w).rbd = c.rbd := rfl
@[simp] theorem Ctl.wr_mgt (c : Ctl) (o : Nat) (w : Word) : (c.wr o w).mgt = c.mgt := rfl
@[simp] theorem Ctl.wr_keys (c : Ctl) (o : Nat) (w : Word) : (c.wr o w).keys = c.keys := rfl
@[simp] theorem Ctl.wr_pair (c : Ctl) (o : Nat) (w : Word) : (c.wr o w).pair = c.pair := rfl
@[simp] theorem Ctl.wr_bay (c : Ctl) (o : Nat) (w : Word) : (c.wr o w).bay = c.bay := rfl
@[simp] theorem Ctl.wr_net (c : Ctl) (o : Nat) (w : Word) : (c.wr o w).net = c.net := rfl
@[simp] theorem Ctl.wr_trust (c : Ctl) (o : Nat) (w : Word) : (c.wr o w).trust = c.trust := rfl

/-! ### `Ctl.set` -/

@[simp] theorem Ctl.set_regs (c : Ctl) (f : Fld) (v : Nat) : (c.set f v).regs = Tab.put c.regs f.off (setBits (c.rd f.off) f.hi f.lo v) := rfl
@[simp] theorem Ctl.set_out (c : Ctl) (f : Fld) (v : Nat) : (c.set f v).out = c.out := rfl
@[simp] theorem Ctl.set_fv (c : Ctl) (f : Fld) (v : Nat) : (c.set f v).fv = c.fv := rfl
@[simp] theorem Ctl.set_tel (c : Ctl) (f : Fld) (v : Nat) : (c.set f v).tel = c.tel := rfl
@[simp] theorem Ctl.set_ept (c : Ctl) (f : Fld) (v : Nat) : (c.set f v).ept = c.ept := rfl
@[simp] theorem Ctl.set_power (c : Ctl) (f : Fld) (v : Nat) : (c.set f v).power = c.power := rfl
@[simp] theorem Ctl.set_time (c : Ctl) (f : Fld) (v : Nat) : (c.set f v).time = c.time := rfl
@[simp] theorem Ctl.set_host (c : Ctl) (f : Fld) (v : Nat) : (c.set f v).host = c.host := rfl
@[simp] theorem Ctl.set_bst (c : Ctl) (f : Fld) (v : Nat) : (c.set f v).bst = c.bst := rfl
@[simp] theorem Ctl.set_swc (c : Ctl) (f : Fld) (v : Nat) : (c.set f v).swc = c.swc := rfl
@[simp] theorem Ctl.set_crm (c : Ctl) (f : Fld) (v : Nat) : (c.set f v).crm = c.crm := rfl
@[simp] theorem Ctl.set_car (c : Ctl) (f : Fld) (v : Nat) : (c.set f v).car = c.car := rfl
@[simp] theorem Ctl.set_rbd (c : Ctl) (f : Fld) (v : Nat) : (c.set f v).rbd = c.rbd := rfl
@[simp] theorem Ctl.set_mgt (c : Ctl) (f : Fld) (v : Nat) : (c.set f v).mgt = c.mgt := rfl
@[simp] theorem Ctl.set_keys (c : Ctl) (f : Fld) (v : Nat) : (c.set f v).keys = c.keys := rfl
@[simp] theorem Ctl.set_pair (c : Ctl) (f : Fld) (v : Nat) : (c.set f v).pair = c.pair := rfl
@[simp] theorem Ctl.set_bay (c : Ctl) (f : Fld) (v : Nat) : (c.set f v).bay = c.bay := rfl
@[simp] theorem Ctl.set_net (c : Ctl) (f : Fld) (v : Nat) : (c.set f v).net = c.net := rfl
@[simp] theorem Ctl.set_trust (c : Ctl) (f : Fld) (v : Nat) : (c.set f v).trust = c.trust := rfl

/-! ### `Ctl.setFlag` -/

@[simp] theorem Ctl.setFlag_regs (c : Ctl) (f : Fld) (b : Bool) : (c.setFlag f b).regs = Tab.put c.regs f.off (setBits (c.rd f.off) f.hi f.lo (if b then 1 else 0)) := rfl
@[simp] theorem Ctl.setFlag_out (c : Ctl) (f : Fld) (b : Bool) : (c.setFlag f b).out = c.out := rfl
@[simp] theorem Ctl.setFlag_fv (c : Ctl) (f : Fld) (b : Bool) : (c.setFlag f b).fv = c.fv := rfl
@[simp] theorem Ctl.setFlag_tel (c : Ctl) (f : Fld) (b : Bool) : (c.setFlag f b).tel = c.tel := rfl
@[simp] theorem Ctl.setFlag_ept (c : Ctl) (f : Fld) (b : Bool) : (c.setFlag f b).ept = c.ept := rfl
@[simp] theorem Ctl.setFlag_power (c : Ctl) (f : Fld) (b : Bool) : (c.setFlag f b).power = c.power := rfl
@[simp] theorem Ctl.setFlag_time (c : Ctl) (f : Fld) (b : Bool) : (c.setFlag f b).time = c.time := rfl
@[simp] theorem Ctl.setFlag_host (c : Ctl) (f : Fld) (b : Bool) : (c.setFlag f b).host = c.host := rfl
@[simp] theorem Ctl.setFlag_bst (c : Ctl) (f : Fld) (b : Bool) : (c.setFlag f b).bst = c.bst := rfl
@[simp] theorem Ctl.setFlag_swc (c : Ctl) (f : Fld) (b : Bool) : (c.setFlag f b).swc = c.swc := rfl
@[simp] theorem Ctl.setFlag_crm (c : Ctl) (f : Fld) (b : Bool) : (c.setFlag f b).crm = c.crm := rfl
@[simp] theorem Ctl.setFlag_car (c : Ctl) (f : Fld) (b : Bool) : (c.setFlag f b).car = c.car := rfl
@[simp] theorem Ctl.setFlag_rbd (c : Ctl) (f : Fld) (b : Bool) : (c.setFlag f b).rbd = c.rbd := rfl
@[simp] theorem Ctl.setFlag_mgt (c : Ctl) (f : Fld) (b : Bool) : (c.setFlag f b).mgt = c.mgt := rfl
@[simp] theorem Ctl.setFlag_keys (c : Ctl) (f : Fld) (b : Bool) : (c.setFlag f b).keys = c.keys := rfl
@[simp] theorem Ctl.setFlag_pair (c : Ctl) (f : Fld) (b : Bool) : (c.setFlag f b).pair = c.pair := rfl
@[simp] theorem Ctl.setFlag_bay (c : Ctl) (f : Fld) (b : Bool) : (c.setFlag f b).bay = c.bay := rfl
@[simp] theorem Ctl.setFlag_net (c : Ctl) (f : Fld) (b : Bool) : (c.setFlag f b).net = c.net := rfl
@[simp] theorem Ctl.setFlag_trust (c : Ctl) (f : Fld) (b : Bool) : (c.setFlag f b).trust = c.trust := rfl

/-! ### `Ctl.bump` -/

@[simp] theorem Ctl.bump_regs (c : Ctl) (f : Fld) (n : Nat) : (c.bump f n).regs = Tab.put c.regs f.off (setBits (c.rd f.off) f.hi f.lo (min (c.get f + n) f.max)) := rfl
@[simp] theorem Ctl.bump_out (c : Ctl) (f : Fld) (n : Nat) : (c.bump f n).out = c.out := rfl
@[simp] theorem Ctl.bump_fv (c : Ctl) (f : Fld) (n : Nat) : (c.bump f n).fv = c.fv := rfl
@[simp] theorem Ctl.bump_tel (c : Ctl) (f : Fld) (n : Nat) : (c.bump f n).tel = c.tel := rfl
@[simp] theorem Ctl.bump_ept (c : Ctl) (f : Fld) (n : Nat) : (c.bump f n).ept = c.ept := rfl
@[simp] theorem Ctl.bump_power (c : Ctl) (f : Fld) (n : Nat) : (c.bump f n).power = c.power := rfl
@[simp] theorem Ctl.bump_time (c : Ctl) (f : Fld) (n : Nat) : (c.bump f n).time = c.time := rfl
@[simp] theorem Ctl.bump_host (c : Ctl) (f : Fld) (n : Nat) : (c.bump f n).host = c.host := rfl
@[simp] theorem Ctl.bump_bst (c : Ctl) (f : Fld) (n : Nat) : (c.bump f n).bst = c.bst := rfl
@[simp] theorem Ctl.bump_swc (c : Ctl) (f : Fld) (n : Nat) : (c.bump f n).swc = c.swc := rfl
@[simp] theorem Ctl.bump_crm (c : Ctl) (f : Fld) (n : Nat) : (c.bump f n).crm = c.crm := rfl
@[simp] theorem Ctl.bump_car (c : Ctl) (f : Fld) (n : Nat) : (c.bump f n).car = c.car := rfl
@[simp] theorem Ctl.bump_rbd (c : Ctl) (f : Fld) (n : Nat) : (c.bump f n).rbd = c.rbd := rfl
@[simp] theorem Ctl.bump_mgt (c : Ctl) (f : Fld) (n : Nat) : (c.bump f n).mgt = c.mgt := rfl
@[simp] theorem Ctl.bump_keys (c : Ctl) (f : Fld) (n : Nat) : (c.bump f n).keys = c.keys := rfl
@[simp] theorem Ctl.bump_pair (c : Ctl) (f : Fld) (n : Nat) : (c.bump f n).pair = c.pair := rfl
@[simp] theorem Ctl.bump_bay (c : Ctl) (f : Fld) (n : Nat) : (c.bump f n).bay = c.bay := rfl
@[simp] theorem Ctl.bump_net (c : Ctl) (f : Fld) (n : Nat) : (c.bump f n).net = c.net := rfl
@[simp] theorem Ctl.bump_trust (c : Ctl) (f : Fld) (n : Nat) : (c.bump f n).trust = c.trust := rfl

/-! ### `Ctl.setBitOf` -/

@[simp] theorem Ctl.setBitOf_out (c : Ctl) (f : Fld) (i : Nat) (b : Bool) : (c.setBitOf f i b).out = c.out := rfl
@[simp] theorem Ctl.setBitOf_fv (c : Ctl) (f : Fld) (i : Nat) (b : Bool) : (c.setBitOf f i b).fv = c.fv := rfl
@[simp] theorem Ctl.setBitOf_tel (c : Ctl) (f : Fld) (i : Nat) (b : Bool) : (c.setBitOf f i b).tel = c.tel := rfl
@[simp] theorem Ctl.setBitOf_ept (c : Ctl) (f : Fld) (i : Nat) (b : Bool) : (c.setBitOf f i b).ept = c.ept := rfl
@[simp] theorem Ctl.setBitOf_power (c : Ctl) (f : Fld) (i : Nat) (b : Bool) : (c.setBitOf f i b).power = c.power := rfl
@[simp] theorem Ctl.setBitOf_time (c : Ctl) (f : Fld) (i : Nat) (b : Bool) : (c.setBitOf f i b).time = c.time := rfl
@[simp] theorem Ctl.setBitOf_host (c : Ctl) (f : Fld) (i : Nat) (b : Bool) : (c.setBitOf f i b).host = c.host := rfl
@[simp] theorem Ctl.setBitOf_bst (c : Ctl) (f : Fld) (i : Nat) (b : Bool) : (c.setBitOf f i b).bst = c.bst := rfl
@[simp] theorem Ctl.setBitOf_swc (c : Ctl) (f : Fld) (i : Nat) (b : Bool) : (c.setBitOf f i b).swc = c.swc := rfl
@[simp] theorem Ctl.setBitOf_crm (c : Ctl) (f : Fld) (i : Nat) (b : Bool) : (c.setBitOf f i b).crm = c.crm := rfl
@[simp] theorem Ctl.setBitOf_car (c : Ctl) (f : Fld) (i : Nat) (b : Bool) : (c.setBitOf f i b).car = c.car := rfl
@[simp] theorem Ctl.setBitOf_rbd (c : Ctl) (f : Fld) (i : Nat) (b : Bool) : (c.setBitOf f i b).rbd = c.rbd := rfl
@[simp] theorem Ctl.setBitOf_mgt (c : Ctl) (f : Fld) (i : Nat) (b : Bool) : (c.setBitOf f i b).mgt = c.mgt := rfl
@[simp] theorem Ctl.setBitOf_keys (c : Ctl) (f : Fld) (i : Nat) (b : Bool) : (c.setBitOf f i b).keys = c.keys := rfl
@[simp] theorem Ctl.setBitOf_pair (c : Ctl) (f : Fld) (i : Nat) (b : Bool) : (c.setBitOf f i b).pair = c.pair := rfl
@[simp] theorem Ctl.setBitOf_bay (c : Ctl) (f : Fld) (i : Nat) (b : Bool) : (c.setBitOf f i b).bay = c.bay := rfl
@[simp] theorem Ctl.setBitOf_net (c : Ctl) (f : Fld) (i : Nat) (b : Bool) : (c.setBitOf f i b).net = c.net := rfl
@[simp] theorem Ctl.setBitOf_trust (c : Ctl) (f : Fld) (i : Nat) (b : Bool) : (c.setBitOf f i b).trust = c.trust := rfl

/-! ### `Ctl.emit` -/

@[simp] theorem Ctl.emit_regs (c : Ctl) (o : Output) : (c.emit o).regs = c.regs := rfl
@[simp] theorem Ctl.emit_out (c : Ctl) (o : Output) : (c.emit o).out = o :: c.out := rfl
@[simp] theorem Ctl.emit_fv (c : Ctl) (o : Output) : (c.emit o).fv = c.fv := rfl
@[simp] theorem Ctl.emit_tel (c : Ctl) (o : Output) : (c.emit o).tel = c.tel := rfl
@[simp] theorem Ctl.emit_ept (c : Ctl) (o : Output) : (c.emit o).ept = c.ept := rfl
@[simp] theorem Ctl.emit_power (c : Ctl) (o : Output) : (c.emit o).power = c.power := rfl
@[simp] theorem Ctl.emit_time (c : Ctl) (o : Output) : (c.emit o).time = c.time := rfl
@[simp] theorem Ctl.emit_host (c : Ctl) (o : Output) : (c.emit o).host = c.host := rfl
@[simp] theorem Ctl.emit_bst (c : Ctl) (o : Output) : (c.emit o).bst = c.bst := rfl
@[simp] theorem Ctl.emit_swc (c : Ctl) (o : Output) : (c.emit o).swc = c.swc := rfl
@[simp] theorem Ctl.emit_crm (c : Ctl) (o : Output) : (c.emit o).crm = c.crm := rfl
@[simp] theorem Ctl.emit_car (c : Ctl) (o : Output) : (c.emit o).car = c.car := rfl
@[simp] theorem Ctl.emit_rbd (c : Ctl) (o : Output) : (c.emit o).rbd = c.rbd := rfl
@[simp] theorem Ctl.emit_mgt (c : Ctl) (o : Output) : (c.emit o).mgt = c.mgt := rfl
@[simp] theorem Ctl.emit_keys (c : Ctl) (o : Output) : (c.emit o).keys = c.keys := rfl
@[simp] theorem Ctl.emit_pair (c : Ctl) (o : Output) : (c.emit o).pair = c.pair := rfl
@[simp] theorem Ctl.emit_bay (c : Ctl) (o : Output) : (c.emit o).bay = c.bay := rfl
@[simp] theorem Ctl.emit_net (c : Ctl) (o : Output) : (c.emit o).net = c.net := rfl
@[simp] theorem Ctl.emit_trust (c : Ctl) (o : Output) : (c.emit o).trust = c.trust := rfl
@[simp] theorem Ctl.emit_rd (c : Ctl) (o : Output) (p : Nat) : (c.emit o).rd p = c.rd p := rfl
@[simp] theorem Ctl.emit_get (c : Ctl) (o : Output) (g : Fld) : (c.emit o).get g = c.get g := rfl
@[simp] theorem Ctl.emit_flag (c : Ctl) (o : Output) (g : Fld) : (c.emit o).flag g = c.flag g := rfl

/-! ### `Ctl.tookFree` -/

@[simp] theorem Ctl.tookFree_regs (c : Ctl) : (c.tookFree).regs = c.regs := rfl
@[simp] theorem Ctl.tookFree_out (c : Ctl) : (c.tookFree).out = c.out := rfl
@[simp] theorem Ctl.tookFree_fv (c : Ctl) : (c.tookFree).fv = c.fv + 1 := rfl
@[simp] theorem Ctl.tookFree_tel (c : Ctl) : (c.tookFree).tel = c.tel := rfl
@[simp] theorem Ctl.tookFree_ept (c : Ctl) : (c.tookFree).ept = c.ept := rfl
@[simp] theorem Ctl.tookFree_power (c : Ctl) : (c.tookFree).power = c.power := rfl
@[simp] theorem Ctl.tookFree_time (c : Ctl) : (c.tookFree).time = c.time := rfl
@[simp] theorem Ctl.tookFree_host (c : Ctl) : (c.tookFree).host = c.host := rfl
@[simp] theorem Ctl.tookFree_bst (c : Ctl) : (c.tookFree).bst = c.bst := rfl
@[simp] theorem Ctl.tookFree_swc (c : Ctl) : (c.tookFree).swc = c.swc := rfl
@[simp] theorem Ctl.tookFree_crm (c : Ctl) : (c.tookFree).crm = c.crm := rfl
@[simp] theorem Ctl.tookFree_car (c : Ctl) : (c.tookFree).car = c.car := rfl
@[simp] theorem Ctl.tookFree_rbd (c : Ctl) : (c.tookFree).rbd = c.rbd := rfl
@[simp] theorem Ctl.tookFree_mgt (c : Ctl) : (c.tookFree).mgt = c.mgt := rfl
@[simp] theorem Ctl.tookFree_keys (c : Ctl) : (c.tookFree).keys = c.keys := rfl
@[simp] theorem Ctl.tookFree_pair (c : Ctl) : (c.tookFree).pair = c.pair := rfl
@[simp] theorem Ctl.tookFree_bay (c : Ctl) : (c.tookFree).bay = c.bay := rfl
@[simp] theorem Ctl.tookFree_net (c : Ctl) : (c.tookFree).net = c.net := rfl
@[simp] theorem Ctl.tookFree_trust (c : Ctl) : (c.tookFree).trust = c.trust := rfl
@[simp] theorem Ctl.tookFree_rd (c : Ctl) (p : Nat) : (c.tookFree).rd p = c.rd p := rfl
@[simp] theorem Ctl.tookFree_get (c : Ctl) (g : Fld) : (c.tookFree).get g = c.get g := rfl
@[simp] theorem Ctl.tookFree_flag (c : Ctl) (g : Fld) : (c.tookFree).flag g = c.flag g := rfl

/-! ### `Ctl.tookN` -/

@[simp] theorem Ctl.tookN_regs (c : Ctl) (n : Nat) : (c.tookN n).regs = c.regs := rfl
@[simp] theorem Ctl.tookN_out (c : Ctl) (n : Nat) : (c.tookN n).out = c.out := rfl
@[simp] theorem Ctl.tookN_fv (c : Ctl) (n : Nat) : (c.tookN n).fv = c.fv + n := rfl
@[simp] theorem Ctl.tookN_tel (c : Ctl) (n : Nat) : (c.tookN n).tel = c.tel := rfl
@[simp] theorem Ctl.tookN_ept (c : Ctl) (n : Nat) : (c.tookN n).ept = c.ept := rfl
@[simp] theorem Ctl.tookN_power (c : Ctl) (n : Nat) : (c.tookN n).power = c.power := rfl
@[simp] theorem Ctl.tookN_time (c : Ctl) (n : Nat) : (c.tookN n).time = c.time := rfl
@[simp] theorem Ctl.tookN_host (c : Ctl) (n : Nat) : (c.tookN n).host = c.host := rfl
@[simp] theorem Ctl.tookN_bst (c : Ctl) (n : Nat) : (c.tookN n).bst = c.bst := rfl
@[simp] theorem Ctl.tookN_swc (c : Ctl) (n : Nat) : (c.tookN n).swc = c.swc := rfl
@[simp] theorem Ctl.tookN_crm (c : Ctl) (n : Nat) : (c.tookN n).crm = c.crm := rfl
@[simp] theorem Ctl.tookN_car (c : Ctl) (n : Nat) : (c.tookN n).car = c.car := rfl
@[simp] theorem Ctl.tookN_rbd (c : Ctl) (n : Nat) : (c.tookN n).rbd = c.rbd := rfl
@[simp] theorem Ctl.tookN_mgt (c : Ctl) (n : Nat) : (c.tookN n).mgt = c.mgt := rfl
@[simp] theorem Ctl.tookN_keys (c : Ctl) (n : Nat) : (c.tookN n).keys = c.keys := rfl
@[simp] theorem Ctl.tookN_pair (c : Ctl) (n : Nat) : (c.tookN n).pair = c.pair := rfl
@[simp] theorem Ctl.tookN_bay (c : Ctl) (n : Nat) : (c.tookN n).bay = c.bay := rfl
@[simp] theorem Ctl.tookN_net (c : Ctl) (n : Nat) : (c.tookN n).net = c.net := rfl
@[simp] theorem Ctl.tookN_trust (c : Ctl) (n : Nat) : (c.tookN n).trust = c.trust := rfl
@[simp] theorem Ctl.tookN_rd (c : Ctl) (n : Nat) (p : Nat) : (c.tookN n).rd p = c.rd p := rfl
@[simp] theorem Ctl.tookN_get (c : Ctl) (n : Nat) (g : Fld) : (c.tookN n).get g = c.get g := rfl
@[simp] theorem Ctl.tookN_flag (c : Ctl) (n : Nat) (g : Fld) : (c.tookN n).flag g = c.flag g := rfl

/-! ### `Ctl.pass` -/

@[simp] theorem Ctl.pass_regs (c : Ctl) (d : Nat) : (c.pass d).regs = c.regs := rfl
@[simp] theorem Ctl.pass_out (c : Ctl) (d : Nat) : (c.pass d).out = c.out := rfl
@[simp] theorem Ctl.pass_fv (c : Ctl) (d : Nat) : (c.pass d).fv = c.fv := rfl
@[simp] theorem Ctl.pass_tel (c : Ctl) (d : Nat) : (c.pass d).tel = c.tel := rfl
@[simp] theorem Ctl.pass_ept (c : Ctl) (d : Nat) : (c.pass d).ept = c.ept := rfl
@[simp] theorem Ctl.pass_power (c : Ctl) (d : Nat) : (c.pass d).power = c.power := rfl
@[simp] theorem Ctl.pass_host (c : Ctl) (d : Nat) : (c.pass d).host = c.host := rfl
/-- Of the sequencer, time moves only what channels in WAIT have counted (R136, events 64 and 68). -/
theorem Ctl.pass_bst (c : Ctl) (d : Nat) : (c.pass d).bst = { c.bst with chans := (c.pass d).bst.chans } := rfl
@[simp] theorem Ctl.pass_swc (c : Ctl) (d : Nat) : (c.pass d).swc = c.swc := rfl
@[simp] theorem Ctl.pass_crm (c : Ctl) (d : Nat) : (c.pass d).crm = c.crm := rfl
@[simp] theorem Ctl.pass_car (c : Ctl) (d : Nat) : (c.pass d).car = c.car := rfl
@[simp] theorem Ctl.pass_rbd (c : Ctl) (d : Nat) : (c.pass d).rbd = c.rbd := rfl
@[simp] theorem Ctl.pass_mgt (c : Ctl) (d : Nat) : (c.pass d).mgt = c.mgt := rfl
@[simp] theorem Ctl.pass_keys (c : Ctl) (d : Nat) : (c.pass d).keys = c.keys := rfl
@[simp] theorem Ctl.pass_pair (c : Ctl) (d : Nat) : (c.pass d).pair = c.pair := rfl
@[simp] theorem Ctl.pass_bay (c : Ctl) (d : Nat) : (c.pass d).bay = c.bay := rfl
@[simp] theorem Ctl.pass_net (c : Ctl) (d : Nat) : (c.pass d).net = c.net := rfl
@[simp] theorem Ctl.pass_trust (c : Ctl) (d : Nat) : (c.pass d).trust = c.trust := rfl
@[simp] theorem Ctl.pass_rd (c : Ctl) (d : Nat) (p : Nat) : (c.pass d).rd p = c.rd p := rfl
@[simp] theorem Ctl.pass_get (c : Ctl) (d : Nat) (g : Fld) : (c.pass d).get g = c.get g := rfl
@[simp] theorem Ctl.pass_flag (c : Ctl) (d : Nat) (g : Fld) : (c.pass d).flag g = c.flag g := rfl

/-! ### `Ctl.reach` -/

@[simp] theorem Ctl.reach_regs (c : Ctl) (t : Nat) : (c.reach t).regs = c.regs := by unfold Ctl.reach; split <;> rfl
@[simp] theorem Ctl.reach_out (c : Ctl) (t : Nat) : (c.reach t).out = c.out := by unfold Ctl.reach; split <;> rfl
@[simp] theorem Ctl.reach_fv (c : Ctl) (t : Nat) : (c.reach t).fv = c.fv := by unfold Ctl.reach; split <;> rfl
@[simp] theorem Ctl.reach_tel (c : Ctl) (t : Nat) : (c.reach t).tel = c.tel := by unfold Ctl.reach; split <;> rfl
@[simp] theorem Ctl.reach_ept (c : Ctl) (t : Nat) : (c.reach t).ept = c.ept := by unfold Ctl.reach; split <;> rfl
@[simp] theorem Ctl.reach_power (c : Ctl) (t : Nat) : (c.reach t).power = c.power := by unfold Ctl.reach; split <;> rfl
@[simp] theorem Ctl.reach_host (c : Ctl) (t : Nat) : (c.reach t).host = c.host := by unfold Ctl.reach; split <;> rfl
theorem Ctl.reach_bst (c : Ctl) (t : Nat) : (c.reach t).bst = { c.bst with chans := (c.reach t).bst.chans } := by unfold Ctl.reach; split <;> rfl
@[simp] theorem Ctl.reach_swc (c : Ctl) (t : Nat) : (c.reach t).swc = c.swc := by unfold Ctl.reach; split <;> rfl
@[simp] theorem Ctl.reach_crm (c : Ctl) (t : Nat) : (c.reach t).crm = c.crm := by unfold Ctl.reach; split <;> rfl
@[simp] theorem Ctl.reach_car (c : Ctl) (t : Nat) : (c.reach t).car = c.car := by unfold Ctl.reach; split <;> rfl
@[simp] theorem Ctl.reach_rbd (c : Ctl) (t : Nat) : (c.reach t).rbd = c.rbd := by unfold Ctl.reach; split <;> rfl
@[simp] theorem Ctl.reach_mgt (c : Ctl) (t : Nat) : (c.reach t).mgt = c.mgt := by unfold Ctl.reach; split <;> rfl
@[simp] theorem Ctl.reach_keys (c : Ctl) (t : Nat) : (c.reach t).keys = c.keys := by unfold Ctl.reach; split <;> rfl
@[simp] theorem Ctl.reach_pair (c : Ctl) (t : Nat) : (c.reach t).pair = c.pair := by unfold Ctl.reach; split <;> rfl
@[simp] theorem Ctl.reach_bay (c : Ctl) (t : Nat) : (c.reach t).bay = c.bay := by unfold Ctl.reach; split <;> rfl
@[simp] theorem Ctl.reach_net (c : Ctl) (t : Nat) : (c.reach t).net = c.net := by unfold Ctl.reach; split <;> rfl
@[simp] theorem Ctl.reach_trust (c : Ctl) (t : Nat) : (c.reach t).trust = c.trust := by unfold Ctl.reach; split <;> rfl
@[simp] theorem Ctl.reach_rd (c : Ctl) (t : Nat) (p : Nat) : (c.reach t).rd p = c.rd p := by unfold Ctl.reach; split <;> rfl
@[simp] theorem Ctl.reach_get (c : Ctl) (t : Nat) (g : Fld) : (c.reach t).get g = c.get g := by unfold Ctl.reach; split <;> rfl
@[simp] theorem Ctl.reach_flag (c : Ctl) (t : Nat) (g : Fld) : (c.reach t).flag g = c.flag g := by unfold Ctl.reach; split <;> rfl

/-! ### DT -/

@[simp] theorem Ctl.pass_dt (c : Ctl) (d : Nat) : (c.pass d).time.dt = (c.time.dt + d) % 2 ^ 64 := rfl

/-- A timed event's command leaves DT at the event's instant or later. -/
theorem Ctl.reach_dt (c : Ctl) (t : Nat) (h : t < 2 ^ 64) : (c.reach t).time.dt = max c.time.dt t := by
  unfold Ctl.reach
  split
  · simp only [Ctl.pass_dt]
    rw [Nat.mod_eq_of_lt (by omega)]
    omega
  · omega

/-- A timed event whose instant has passed moves no time. -/
theorem Ctl.reach_past (c : Ctl) (t : Nat) (h : t ≤ c.time.dt) : c.reach t = c := by
  unfold Ctl.reach
  rw [if_neg (by omega)]

/-! ### Registers that no update of a block's own fields touches -/

theorem Ctl.rd_congr {c d : Ctl} (h : c.regs = d.regs) (o : Nat) : c.rd o = d.rd o := by simp [Ctl.rd, h]

theorem Ctl.get_congr {c d : Ctl} (h : c.regs = d.regs) (f : Fld) : c.get f = d.get f := by simp [Ctl.get, Ctl.rd_congr h]

theorem Ctl.flag_congr {c d : Ctl} (h : c.regs = d.regs) (f : Fld) : c.flag f = d.flag f := by simp [Ctl.flag, Ctl.get_congr h]

/-! ### The control area's copies (R209) -/

/-- The newest content of the control area after a write is what was written, under the next sequence number. -/
theorem Ctl.ctlPut_new (c : Ctl) (f : CtlCopy → CtlCopy) : (c.ctlPut f).ctlNew = { f c.ctlNew with seq := c.ctlNew.seq + 1 } := by
  unfold Ctl.ctlPut Ctl.ctlNew
  by_cases h : c.power.ctlA.seq < c.power.ctlB.seq
  · simp only [h, if_true]
    rw [if_neg (show ¬(c.power.ctlB.seq + 1 < c.power.ctlB.seq) by omega)]
  · simp [h]

@[simp] theorem Ctl.ctlPut_regs (c : Ctl) (f : CtlCopy → CtlCopy) : (c.ctlPut f).regs = c.regs := rfl
@[simp] theorem Ctl.ctlPut_get (c : Ctl) (f : CtlCopy → CtlCopy) (g : Fld) : (c.ctlPut f).get g = c.get g := rfl

/-! ### The whole state -/

@[simp] theorem State.withPending_pending (s : State) (q : List Instr) : (s.withPending q).pending = q := rfl
@[simp] theorem State.withPending_mem (s : State) (q : List Instr) : (s.withPending q).mem = s.mem := rfl
@[simp] theorem State.withPending_c (s : State) (q : List Instr) : (s.withPending q).c = s.c := rfl

@[simp] theorem State.withCtl_pending (s : State) (c : Ctl) : (s.withCtl c).pending = s.pending := rfl
@[simp] theorem State.withCtl_mem (s : State) (c : Ctl) : (s.withCtl c).mem = s.mem := rfl
@[simp] theorem State.withCtl_c (s : State) (c : Ctl) : (s.withCtl c).c = c := rfl
@[simp] theorem State.withBoth_pending (s : State) (r : Mem × Ctl) : (s.withBoth r).pending = s.pending := rfl
@[simp] theorem State.withBoth_mem (s : State) (r : Mem × Ctl) : (s.withBoth r).mem = r.1 := rfl
@[simp] theorem State.withBoth_c (s : State) (r : Mem × Ctl) : (s.withBoth r).c = r.2 := rfl

/-- A command over the registers and blocks completes with what its effect gives, the memories and the queue as they were. -/
theorem completes_onCtl {i : Instr} {s : State} {P : State → Prop} {f : Mem → Ctl → Ctl} (he : exec i s = onCtl f s) {c : Ctl}
    (hc : f s.mem s.c = c) (hp : P (s.withCtl c)) : Completes i s P := by
  subst hc
  exact ⟨_, he, hp⟩

/-- A command over everything but the queue completes with what its effect gives. -/
theorem completes_onAll {i : Instr} {s : State} {P : State → Prop} {f : Mem → Ctl → Mem × Ctl} (he : exec i s = onAll f s) {r : Mem × Ctl}
    (hc : f s.mem s.c = r) (hp : P (s.withBoth r)) : Completes i s P := by
  subst hc
  exact ⟨_, he, hp⟩

/-- All a command over the registers and blocks does: the memories and the queue stay. -/
theorem onCtl_next {f : Mem → Ctl → Ctl} {s t : State} (h : onCtl f s = .next t) :
    t.c = f s.mem s.c ∧ t.mem = s.mem ∧ t.pending = s.pending := by
  cases h; exact ⟨rfl, rfl, rfl⟩

/-- All a command over everything but the queue does. -/
theorem onAll_next {f : Mem → Ctl → Mem × Ctl} {s t : State} (h : onAll f s = .next t) :
    t.c = (f s.mem s.c).2 ∧ t.mem = (f s.mem s.c).1 ∧ t.pending = s.pending := by
  cases h; exact ⟨rfl, rfl, rfl⟩

/-- A step with a command in front is that command's effect with the queue's rest. -/
theorem step_front (s : State) (i : Instr) (q : List Instr) (h : s.pending = i :: q) : step s = exec i (s.withPending q) := by
  simp [step, h]

end Sys2Proof.Machine
end

