-- ==== Sys2Proof/Laws/Modes.lean ====
section
/-! SUPPORT. The mode: what leaves it, what a change of mode and a reset give. -/

namespace Sys2Proof.Machine

/-- The registers of the mode hold it whatever else moves. -/
theorem Ctl.mode_congr {c d : Ctl} (h : c.rd Reg.GLB_MODE_STAT = d.rd Reg.GLB_MODE_STAT) : c.mode = d.mode := by
  unfold Ctl.mode Ctl.get
  rw [show F.GLB_MODE_STAT_mode.off = Reg.GLB_MODE_STAT from rfl, h]

theorem Ctl.mode_wr_off (c : Ctl) (o : Nat) (w : Word) (h : o ≠ Reg.GLB_MODE_STAT) : (c.wr o w).mode = c.mode :=
  Ctl.mode_congr (Ctl.rd_wr_other c w h)

theorem Ctl.mode_set_off (c : Ctl) (f : Fld) (v : Nat) (h : f.off ≠ Reg.GLB_MODE_STAT) : (c.set f v).mode = c.mode :=
  Ctl.mode_wr_off c _ _ h

theorem Ctl.mode_bump_off (c : Ctl) (f : Fld) (v : Nat) (h : f.off ≠ Reg.GLB_MODE_STAT) : (c.bump f v).mode = c.mode :=
  Ctl.mode_set_off c f _ h

theorem Ctl.mode_setFlag_off (c : Ctl) (f : Fld) (b : Bool) (h : f.off ≠ Reg.GLB_MODE_STAT) : (c.setFlag f b).mode = c.mode :=
  Ctl.mode_set_off c f _ h

/-- A code written to the mode field is the mode. -/
theorem Ctl.mode_set (c : Ctl) (v : Nat) (h : v < 16) : (c.set F.GLB_MODE_STAT_mode v).mode = Mode.ofCode v := by
  unfold Ctl.mode
  rw [Ctl.get_set_same c _ v (by decide), show F.GLB_MODE_STAT_mode.hi + 1 - F.GLB_MODE_STAT_mode.lo = 4 from rfl, Nat.mod_eq_of_lt (by omega)]

theorem Mode.ofCode_code (m : Mode) : Mode.ofCode m.code = m := by cases m <;> rfl

theorem Mode.code_lt (m : Mode) : m.code < 16 := by cases m <;> decide

/-- A device that holds in a safe stop starts nothing. -/
theorem Ctl.halted_stop (c : Ctl) (h : c.power.stop.isSome = true) : c.halted = true := by simp [Ctl.halted, h]

/-- A device in OFF, RESET or FENCED starts nothing. -/
theorem Ctl.halted_mode (c : Ctl) (h : c.mode = .off ∨ c.mode = .reset ∨ c.mode = .fenced) : c.halted = true := by
  rcases h with h | h | h <;> simp [Ctl.halted, h]

/-! ### What interrupts and events leave -/

/-- The mode's register. -/
abbrev Ctl.msw (c : Ctl) : Word := c.rd Reg.GLB_MODE_STAT

theorem Ctl.msw_set_off (c : Ctl) (f : Fld) (v : Nat) (h : f.off ≠ Reg.GLB_MODE_STAT) : (c.set f v).msw = c.msw := Ctl.rd_set_other c f v _ h

theorem Ctl.msw_setFlag_off (c : Ctl) (f : Fld) (b : Bool) (h : f.off ≠ Reg.GLB_MODE_STAT) : (c.setFlag f b).msw = c.msw := Ctl.rd_set_other c f _ _ h

theorem Ctl.msw_setBitOf_off (c : Ctl) (f : Fld) (i : Nat) (b : Bool) (h : f.off ≠ Reg.GLB_MODE_STAT) : (c.setBitOf f i b).msw = c.msw :=
  Ctl.rd_set_other c f _ _ h

theorem Ctl.msw_wr_off (c : Ctl) (o : Nat) (w : Word) (h : o ≠ Reg.GLB_MODE_STAT) : (c.wr o w).msw = c.msw := Ctl.rd_wr_other c w h

theorem Ctl.msw_emit (c : Ctl) (o : Output) : (c.emit o).msw = c.msw := rfl

/-- A fold of updates that each leave the register leaves it. -/
theorem Ctl.msw_foldl {α : Type} (f : Ctl → α → Ctl) (h : ∀ c a, (f c a).msw = c.msw) : ∀ (l : List α) (c : Ctl), (l.foldl f c).msw = c.msw
  | [], _ => rfl
  | a :: l, c => by rw [List.foldl_cons, Ctl.msw_foldl f h l, h]

theorem Ctl.intxUpdate_msw (c : Ctl) : c.intxUpdate.msw = c.msw := by
  simp only [Ctl.intxUpdate]
  split
  · exact Ctl.msw_set_off _ _ _ (by decide)
  · rw [Ctl.msw_emit, Ctl.msw_setFlag_off _ _ _ (by decide), Ctl.msw_set_off _ _ _ (by decide)]

theorem Ctl.sendMessage_msw (c : Ctl) (b : Nat) : (c.sendMessage b).msw = c.msw := by
  simp only [Ctl.sendMessage]
  split
  · split
    · exact Ctl.msw_setBitOf_off _ _ _ _ (by decide)
    · exact Ctl.msw_setBitOf_off _ _ _ _ (by decide)
  · split
    · split <;> rfl
    · rfl

theorem Ctl.wakeEvent_msw (c : Ctl) (b : Nat) : (c.wakeEvent b).msw = c.msw := by
  simp only [Ctl.wakeEvent]
  split
  · split
    · rw [Ctl.msw_setFlag_off _ _ _ (by decide)]; rfl
    · rfl
  · rfl

/-- A source that rises leaves the mode. -/
theorem Ctl.intSet_msw (c : Ctl) (b : Nat) : (c.intSet b).msw = c.msw := by
  simp only [Ctl.intSet]
  split
  · rfl
  · rw [Ctl.intxUpdate_msw]
    split
    · rw [Ctl.sendMessage_msw, Ctl.wakeEvent_msw, Ctl.msw_setBitOf_off _ _ _ _ (by decide)]
    · rw [Ctl.wakeEvent_msw, Ctl.msw_setBitOf_off _ _ _ _ (by decide)]

/-- A successful completion leaves every register. -/
theorem Ctl.complete_ok_regs (c : Ctl) (conn cid : Nat) (ten : Option Nat) (dw0 dw1 : Nat) :
    (c.complete conn cid ten St.ok dw0 dw1).regs = c.regs := by
  unfold Ctl.complete Ctl.post
  split <;> rfl

theorem Ctl.reportTo_regs (c : Ctl) (k : Nat) (a : Assoc) (v : Aen) : (c.reportTo k a v).regs = c.regs := by
  simp only [Ctl.reportTo]
  split
  · rfl
  · split
    · rfl
    · split
      · rfl
      · exact Ctl.complete_ok_regs _ _ _ _ _ _

/-- An event reported to hosts leaves every register. -/
theorem Ctl.report_regs (c : Ctl) (v : Aen) (p : Assoc → Bool) : (c.report v p).regs = c.regs := by
  unfold Ctl.report
  generalize c.host.assocs = l
  induction l generalizing c with
  | nil => rfl
  | cons x l ih =>
    rw [List.foldl_cons, ih]
    split
    · exact Ctl.reportTo_regs _ _ _ _
    · rfl

theorem Ctl.anaUpdate_msw (c : Ctl) : c.anaUpdate.msw = c.msw := by
  unfold Ctl.anaUpdate
  generalize (List.range 16).foldl (fun a g => if c.anaInaccessible g then a + 2 ^ g else a) 0 = w
  by_cases h : w = c.get F.HCP_ANA_GRP_inacc
  · rw [if_pos h]
  · rw [if_neg h]
    show Ctl.rd _ _ = _
    rw [Ctl.rd_congr (Ctl.report_regs _ _ _), Ctl.rd_wr_other _ _ (by decide), Ctl.rd_set_other _ _ _ _ (by decide)]
    rfl

/-- A fault recorded leaves the mode (the release of the lease is another operation). -/
theorem Ctl.faultRecord_msw (c : Ctl) (code outcome detail : Nat) : (c.faultRecord code outcome detail).msw = c.msw := by
  have aux : ∀ d : Ctl, ((((d.setFlag F.PEER_FAULT_STAT_pend true).set F.PEER_FAULT_STAT_code code).emit (.coreIrq 0)).intSet 1).msw = d.msw := by
    intro d
    rw [Ctl.intSet_msw, Ctl.msw_emit, Ctl.msw_set_off _ _ _ (by decide), Ctl.msw_setFlag_off _ _ _ (by decide)]
  have ⟨d, h, e⟩ : ∃ d : Ctl, c.faultRecord code outcome detail
      = (((d.setFlag F.PEER_FAULT_STAT_pend true).set F.PEER_FAULT_STAT_code code).emit (.coreIrq 0)).intSet 1 ∧ d.regs = c.regs :=
    ⟨_, rfl, rfl⟩
  rw [h, aux d]
  exact Ctl.rd_congr e _

/-- In a safe stop and its hold the mode stays (R48). -/
theorem Ctl.setMode_stop (c : Ctl) (m : Mode) (h : c.power.stop.isSome = true) : c.setMode m = c := by
  simp only [Ctl.setMode, h, or_true, if_true]

/-- After a change of mode outside a safe stop the device is in that mode. -/
theorem Ctl.setMode_mode (c : Ctl) (m : Mode) (hs : c.power.stop = none) : (c.setMode m).mode = m := by
  simp only [Ctl.setMode]
  split
  · next h =>
    rcases h with h | h
    · exact h
    · simp [hs] at h
  · have key : ∀ d : Ctl, (d.set F.GLB_MODE_STAT_mode m.code).mode = m := fun d => by
      rw [Ctl.mode_set _ _ (Mode.code_lt m), Mode.ofCode_code]
    have st : ∀ (d : Ctl) (f : Fld) (p : Prop) [Decidable p] (v : Nat), f.off ≠ Reg.GLB_MODE_STAT → (if p then d.set f v else d).msw = d.msw := by
      intro d f p _ v h
      split
      · exact Ctl.msw_set_off _ _ _ h
      · rfl
    refine (Ctl.mode_congr ?_).trans (key ((if c.mode.msiOk && !m.msiOk then c.flushMessages else c).set F.GLB_MODE_STAT_prev_mode c.mode.code))
    show Ctl.msw _ = Ctl.msw _
    rw [Ctl.anaUpdate_msw]
    show Ctl.msw (if _ then _ else _) = _
    rw [st _ _ _ _ (by decide), st _ _ _ _ (by decide), Ctl.intSet_msw, Ctl.intxUpdate_msw]

/-! ### A reset -/

/-- After a reset the device is in RESET. -/
theorem Ctl.resetFrom_mode (c : Ctl) (vaon lost : Bool) : (c.resetFrom vaon lost).mode = .reset := by
  have h : (c.resetFrom vaon lost).rd Reg.GLB_MODE_STAT = setBits (Reg.resetWord Reg.GLB_MODE_STAT) 3 0 1 := by
    simp [Ctl.rd, Ctl.resetFrom]
  unfold Ctl.mode Ctl.get
  rw [show F.GLB_MODE_STAT_mode.off = Reg.GLB_MODE_STAT from rfl, h, show F.GLB_MODE_STAT_mode.hi = 3 from rfl,
    show F.GLB_MODE_STAT_mode.lo = 0 from rfl, getBits_setBits_same _ 3 0 1 (by decide) (by decide)]
  rfl

/-- All a reset with the rails up does to the mode, the cause, DT and the memories. -/
theorem toReset_all (m : Mem) (c : Ctl) (cause : Nat) (h : cause < 16) :
    (toReset m c cause).1 = m.afterReset ∧ (toReset m c cause).2.mode = .reset ∧ (toReset m c cause).2.get F.GLB_RST_STAT_cause = cause ∧
    (toReset m c cause).2.time = Time.reset := by
  refine ⟨rfl, ?_, ?_, rfl⟩
  · simp only [toReset]
    rw [Ctl.mode_set_off _ _ _ (by decide), Ctl.mode_bump_off _ _ _ (by decide), Ctl.resetFrom_mode]
  · simp only [toReset]
    exact Ctl.get_set_val _ _ _ (by decide) (show cause < 2 ^ 4 by omega)

end Sys2Proof.Machine
end

