-- ==== Sys2Proof/Laws/Telemetry.lean ====
section
/-! SUPPORT. A telemetry event changes the counters, the sample ring's registers and the free-value counter, and nothing else. -/

namespace Sys2Proof.Machine

/-- Two states that agree but for telemetry, registers and the free-value counter. -/
def Ctl.TelAlike (c d : Ctl) : Prop := d = { c with tel := d.tel, regs := d.regs, fv := d.fv }

theorem Ctl.TelAlike.refl (c : Ctl) : c.TelAlike c := rfl

theorem Ctl.TelAlike.trans {c d e : Ctl} (h1 : c.TelAlike d) (h2 : d.TelAlike e) : c.TelAlike e := by
  unfold Ctl.TelAlike at *
  rw [h2, h1]

theorem Ctl.TelAlike.took {c d : Ctl} (h : c.TelAlike d) : c.TelAlike d.tookFree := h.trans rfl

theorem Ctl.sampleRecord_alike (c : Ctl) (x : Sample) : c.TelAlike (c.sampleRecord x) := by
  unfold Ctl.sampleRecord
  dsimp only
  split <;> rfl

theorem Ctl.samplesFrom_alike (n inst : Nat) (ctx : Option (Nat × Nat × Nat)) (e k : Nat) :
    ∀ (i : Nat) (c : Ctl), c.TelAlike (Ctl.samplesFrom n inst ctx e i k c) := by
  induction k with
  | zero => intro i c; rfl
  | succ k ih => intro i c; exact (Ctl.TelAlike.took (Ctl.sampleRecord_alike _ _)).trans (ih _ _)

theorem Ctl.telAdd_alike (c : Ctl) (n inst : Nat) (ctx : Option (Nat × Nat × Nat)) (amt : Nat) : c.TelAlike (c.telAdd n inst ctx amt) := by
  unfold Ctl.telAdd
  dsimp only
  split
  · rfl
  · exact Ctl.TelAlike.trans (by rfl) (Ctl.samplesFrom_alike _ _ _ _ _ _ _)

theorem Ctl.telFold_alike (ev inst : Nat) (ten : Option Nat) (ctx : Option (Nat × Nat × Nat)) (amt k : Nat) :
    ∀ (n : Nat) (c : Ctl), c.TelAlike (Ctl.telFold ev inst ten ctx amt n k c) := by
  induction k with
  | zero => intro n c; rfl
  | succ k ih =>
    intro n c
    unfold Ctl.telFold
    refine Ctl.TelAlike.trans ?_ (ih _ _)
    split
    · exact Ctl.telAdd_alike _ _ _ _ _
    · rfl

/-- An event changes telemetry alone (R444, R451). -/
theorem Ctl.tev_alike (c : Ctl) (b : TelBlk) (ev inst : Nat) (ten : Option Nat) (ctx : Option (Nat × Nat × Nat)) (amt : Nat) :
    c.TelAlike (c.tev b ev inst ten ctx amt) := by
  unfold Ctl.tev
  split
  · exact Ctl.telFold_alike _ _ _ _ _ _ _ _
  · rfl

section
variable (c : Ctl) (b : TelBlk) (ev inst : Nat) (ten : Option Nat) (ctx : Option (Nat × Nat × Nat)) (amt : Nat)

@[simp] theorem Ctl.tev_out : (c.tev b ev inst ten ctx amt).out = c.out := by rw [c.tev_alike b ev inst ten ctx amt]
@[simp] theorem Ctl.tev_ept : (c.tev b ev inst ten ctx amt).ept = c.ept := by rw [c.tev_alike b ev inst ten ctx amt]
@[simp] theorem Ctl.tev_power : (c.tev b ev inst ten ctx amt).power = c.power := by rw [c.tev_alike b ev inst ten ctx amt]
@[simp] theorem Ctl.tev_time : (c.tev b ev inst ten ctx amt).time = c.time := by rw [c.tev_alike b ev inst ten ctx amt]
@[simp] theorem Ctl.tev_host : (c.tev b ev inst ten ctx amt).host = c.host := by rw [c.tev_alike b ev inst ten ctx amt]
@[simp] theorem Ctl.tev_bst : (c.tev b ev inst ten ctx amt).bst = c.bst := by rw [c.tev_alike b ev inst ten ctx amt]
@[simp] theorem Ctl.tev_swc : (c.tev b ev inst ten ctx amt).swc = c.swc := by rw [c.tev_alike b ev inst ten ctx amt]
@[simp] theorem Ctl.tev_crm : (c.tev b ev inst ten ctx amt).crm = c.crm := by rw [c.tev_alike b ev inst ten ctx amt]
@[simp] theorem Ctl.tev_car : (c.tev b ev inst ten ctx amt).car = c.car := by rw [c.tev_alike b ev inst ten ctx amt]
@[simp] theorem Ctl.tev_rbd : (c.tev b ev inst ten ctx amt).rbd = c.rbd := by rw [c.tev_alike b ev inst ten ctx amt]
@[simp] theorem Ctl.tev_mgt : (c.tev b ev inst ten ctx amt).mgt = c.mgt := by rw [c.tev_alike b ev inst ten ctx amt]
@[simp] theorem Ctl.tev_keys : (c.tev b ev inst ten ctx amt).keys = c.keys := by rw [c.tev_alike b ev inst ten ctx amt]
@[simp] theorem Ctl.tev_pair : (c.tev b ev inst ten ctx amt).pair = c.pair := by rw [c.tev_alike b ev inst ten ctx amt]
@[simp] theorem Ctl.tev_bay : (c.tev b ev inst ten ctx amt).bay = c.bay := by rw [c.tev_alike b ev inst ten ctx amt]
@[simp] theorem Ctl.tev_net : (c.tev b ev inst ten ctx amt).net = c.net := by rw [c.tev_alike b ev inst ten ctx amt]
@[simp] theorem Ctl.tev_trust : (c.tev b ev inst ten ctx amt).trust = c.trust := by rw [c.tev_alike b ev inst ten ctx amt]

end

end Sys2Proof.Machine
end

