-- ==== Sys2Proof/WellFormed.lean ====
section
/-! DEFINITION. Well-formed commands: every operand lies in the range that the spec gives it. -/

namespace Sys2Proof

/-! ### Numbers -/

/-- A 20-bit brew tag (R85). -/
def tagWf (t : Nat) : Bool := decide (t < 1048576)

/-- A connection number (R304). -/
def connWf (k : Nat) : Bool := decide (k < 266496)

/-- A recipe number (R121). -/
def rcpWf (r : Nat) : Bool := decide (r < 2048)

/-- A BAR0 offset of a word (R456). -/
def offWf (o : Nat) : Bool := decide (o < 0x4000000) && o % 4 == 0

/-- An SPDM session id. -/
def sessWf (k : Nat) : Bool := decide (k < 2 ^ 32)

/-- An engine class of Table 6.3 and an instance number of at most 8 bits. -/
def engWf (cls inst : Nat) : Bool := decide (cls < 32) && decide (inst < 256)

/-- An NQN: at most 223 bytes, none of them NUL (R77). -/
def nqnWf (n : Nqn) : Bool := decide (n.length ≤ 223) && n.all (fun b => b != 0)

/-! ### Compound operands -/

def Sgl.wf (x : Sgl) : Bool := decide (x.addr < 2 ^ 64) && decide (x.len < 2 ^ 32) && decide (x.key < 2 ^ 32)

def IoCmd.wf (x : IoCmd) : Bool :=
  connWf x.conn && decide (x.cid < 65536) && decide (x.nsid < 2 ^ 32) && decide (x.slba < 2 ^ 64) && decide (x.nlb < 65536)
    && decide (x.prinfo < 16) && x.sgls.all Sgl.wf && x.ranges.all (fun r => decide (r.1 < 2 ^ 64) && decide (r.2 < 2 ^ 32))

def AdminCmd.wf (x : AdminCmd) : Bool := connWf x.conn && decide (x.cid < 65536) && decide (x.nsid < 2 ^ 32)

def ConnectCmd.wf (x : ConnectCmd) : Bool :=
  connWf x.conn && decide (x.cid < 65536) && decide (x.recfmt < 65536) && decide (x.qid < 65536) && decide (x.sqsize < 65536)
    && decide (x.kato < 2 ^ 32) && decide (x.cntlid < 65536) && nqnWf x.hostNqn && nqnWf x.subNqn

def PoisonDest.wf : PoisonDest → Bool
  | .engine tag => tagWf tag
  | .hbm words => words.all (fun w => decide (w < 6442450944))
  | .net _ conn => connWf conn

def DriveLabel.wf (x : DriveLabel) : Bool := decide (x.group < 16) && decide (x.layout < 3) && decide (x.pos < 24) && nqnWf x.nqn

def HelloMsg.wf (x : HelloMsg) : Bool :=
  decide (x.mode < 16) && decide (x.slot < 2) && decide (x.epoch < 2 ^ 32) && decide (x.image < 2 ^ 64)

def HbMsg.wf (x : HbMsg) : Bool :=
  decide (x.mode < 16) && decide (x.epoch < 2 ^ 32) && decide (x.bays.length ≤ 24) && decide (x.members.length ≤ 24)
    && x.commit.all (fun t => decide (t < 65536))

def CfgOp.wf : CfgOp → Bool
  | .hostPut nqn t _ _ psk => nqnWf nqn && decide (t < 4096) && decide (psk < 16)
  | .hostDel nqn => nqnWf nqn
  | .subNqn nqn => nqnWf nqn
  | .nsPut n g t k => decide (n < 16384) && g.length == 16 && decide (t < 4096) && decide (k < 2)
  | .nsDel n => decide (n < 16384)
  | .nsMove n t => decide (n < 16384) && decide (t < 4096)

def PeerTag.wf : PeerTag → Bool
  | .mirror seq => decide (seq < 2 ^ 64)
  | .own k => decide (k < 2 ^ 64)

def KeyMsg.wf : KeyMsg → Bool
  | .load t k _ => decide (t < 4096) && decide (k < 16)
  | .install t k => decide (t < 4096) && decide (k < 16)
  | .discard t k => decide (t < 4096) && decide (k < 16)
  | .zeroise t ks => decide (t < 4096) && ks.all (fun k => decide (k < 16))

def BaySample.wf (x : BaySample) : Bool :=
  decide (x.vin < 65536) && decide (x.vsrc < 65536) && decide (x.i < 65536) && decide (x.tfet < 1024)

def ChiebSrc.wf : ChiebSrc → Bool
  | .mailbox _ => true
  | .inband k => decide (k < 4096)
  | .sideband e _ => decide (e < 256)
  | .session k => sessWf k

def RowLook.wf (x : RowLook) : Bool :=
  decide (x.row < 64) && x.bad.all (fun p => decide (p < 24)) && x.sealed.all (fun p => decide (p < 24)) && x.mism.all (fun p => decide (p < 24))
    && x.fits.all (fun p => decide (p < 24)) && x.copies.all (fun y => decide (y.pos < 3))

def BadLook.wf (x : BadLook) : Bool :=
  decide (x.group < 16) && decide (x.strp < 2 ^ 32) && decide (x.row < 64) && decide (x.strip < 24)

def CkLook.wf (x : CkLook) : Bool :=
  decide (x.group < 16) && x.usage.all (fun p => decide (p.1 < 16384)) && x.units.all (fun u => decide (u.1 < 2 ^ 40) && decide (u.2.2 ≤ 16))

def GroupLook.wf (x : GroupLook) : Bool :=
  decide (x.group < 16) && decide (x.state < 8) && x.spare.all (fun p => decide (p < 24))
    && x.targets.all (fun p => decide (p.1 < 24))

/-- Whether a command's operands are in range. -/
def Instr.wf : Instr → Bool
  | .firstRailRise => true
  | .powerOnResetRelease _ _ _ => true
  | .imageLoaded looks => decide (looks.length ≤ 4)
  | .hbmInitDone => true
  | .carafeScanDone _ _ => true
  | .peerAbsentTimeout => true
  | .standbyEnter => true
  | .memberWaitExpire => true
  | .driveLinkTrained _ lanes _ => decide (1 ≤ lanes) && decide (lanes ≤ 4)
  | .driveReady _ cap _ _ label states => decide (cap < 2 ^ 48) && label.all DriveLabel.wf && decide (states.length ≤ 32) && states.all (fun p => decide (p.2 < 2 ^ 32))
  | .journalReplay groups looks bad ckBad => groups.all GroupLook.wf && looks.all CkLook.wf && bad.all BadLook.wf && ckBad.all (fun p => decide (p.1 < 16))
  | .networkPortsUp _ => true
  | .mirrorSyncComplete blobs => blobs.all (fun p => decide (p.1 < 4096))
  | .mirrorSyncAbandon => true
  | .serviceEntry => true
  | .grstNAssert _ => true
  | .pwrfailAccept => true
  | .pwrfailGlitch _ => true
  | .pwrfailRestart => true
  | .railOutOfTolerance _ => true
  | .thermalWarning _ _ => true
  | .thermalThrottleStart _ _ => true
  | .throttleStep _ _ => true
  | .thermalTrip _ _ => true
  | .lifeRecord mean => decide (mean ≤ 215)
  | .glbPdCtrlWrite _ => true
  | .domainTransitionDone => true
  | .d07DrainDone => true
  | .d07DrainTimeout => true
  | .modeReqQuiesce _ => true
  | .quiesceDone => true
  | .modeReqResume _ => true
  | .modeReqReset _ => true
  | .modeReqRecovery _ => true
  | .modeReqTest _ => true
  | .modeReqUnknown _ _ => true
  | .ptpSync _ domain _ identity seq _ _ _ _ _ _ => decide (domain < 256) && decide (identity < 2 ^ 80) && decide (seq < 65536)
  | .ptpFollowUp _ domain _ identity seq _ _ _ => decide (domain < 256) && decide (identity < 2 ^ 80) && decide (seq < 65536)
  | .ptpAnnounce _ domain _ prio1 cls accuracy variance prio2 identity hops _ => decide (domain < 256) && decide (prio1 < 256) && decide (cls < 256) && decide (accuracy < 256) && decide (variance < 65536)
      && decide (prio2 < 256) && decide (identity < 2 ^ 64) && decide (hops < 65536)
  | .ptpDelayResp _ domain _ _ _ => decide (domain < 256)
  | .ptpPdelayReq _ domain _ => decide (domain < 256)
  | .announceTimeout _ => true
  | .syncTimeout => true
  | .syncLostExpire => true
  | .timSyncLostWrite _ => true
  | .ppsEdge _ => true
  | .ref10mOutOfTolerance => true
  | .todBoundary => true
  | .scheduledCommitFire => true
  | .nvmeConnectAdmin cmd => cmd.wf
  | .nvmeConnectIo cmd => cmd.wf
  | .connectTimeout conn => connWf conn
  | .nvmePropertyGet cmd => cmd.wf
  | .propertySetCcEnClear cmd => cmd.wf
  | .propertySetCcEnSet cmd => cmd.wf
  | .propertySetShutdown cmd => cmd.wf
  | .shutdownComplete _ => true
  | .nvmeDisconnect conn cid => connWf conn && decide (cid < 65536)
  | .nvmeGetLogPage cmd => cmd.wf
  | .nvmeIdentify cmd => cmd.wf
  | .nvmeAbort cmd => cmd.wf
  | .nvmeGetFeatures cmd => cmd.wf
  | .setFeaturesPowerManagement cmd => cmd.wf
  | .setFeaturesNumberOfQueues cmd => cmd.wf
  | .setFeaturesAsyncEventConfig cmd => cmd.wf
  | .setFeaturesApst cmd => cmd.wf
  | .setFeaturesKeepAliveTimer cmd => cmd.wf
  | .setFeaturesHostBehavior cmd => cmd.wf
  | .setFeaturesOrderedQueues cmd => cmd.wf
  | .setFeaturesCremaHints cmd => cmd.wf
  | .setFeaturesNotChangeable cmd => cmd.wf
  | .nvmeAsyncEventRequest cmd => cmd.wf
  | .nvmeFirmwareImageDownload cmd => cmd.wf
  | .nvmeFirmwareCommit cmd _ => cmd.wf
  | .nvmeDeviceSelfTest cmd => cmd.wf
  | .selfTestDone _ => true
  | .nvmeKeepAlive cmd => cmd.wf
  | .keepAliveTimeout _ => true
  | .chiebRequestC1h cmd => cmd.wf
  | .chiebReplyC2h cmd => cmd.wf
  | .invalidCommandOpcode conn cid => connWf conn && decide (cid < 65536)
  | .nvmeFlush cmd => cmd.wf
  | .nvmeRead cmd => cmd.wf
  | .nvmeWrite cmd => cmd.wf
  | .nvmeWriteZeroes cmd => cmd.wf
  | .nvmeDatasetManagement cmd => cmd.wf
  | .capsuleIntakeResume => true
  | .apstIdleTimer _ => true
  | .stepEnd tag => tagWf tag
  | .tokenArrive tag step code media _ => tagWf tag && decide (step < 256) && decide (code < 256) && media.all (fun x => decide (x < 2 ^ 48))
  | .evtWaitToken tag => tagWf tag
  | .evtWaitTimeout tag => tagWf tag
  | .evtDelay tag => tagWf tag
  | .evtDelayExpire tag => tagWf tag
  | .stepTimerExpire tag => tagWf tag
  | .bpmAlloc tag _ _ => tagWf tag
  | .bpmRef tag _ => tagWf tag
  | .bpmDrop tag _ => tagWf tag
  | .bpmReleaseAll tag _ => tagWf tag
  | .dmaStepMove tag _ => tagWf tag
  | .dmaStepMoveSwap tag _ => tagWf tag
  | .dmaStepRun tag => tagWf tag
  | .dqeRead tag => tagWf tag
  | .dqeWrite tag => tagWf tag
  | .cipXtsEnc tag => tagWf tag
  | .cipXtsDec tag => tagWf tag
  | .tmpcEncode tag _ => tagWf tag
  | .tmpdDecode tag => tagWf tag
  | .galEncode tag => tagWf tag
  | .galUpdate tag => tagWf tag
  | .galDecode tag => tagWf tag
  | .crcGen tag => tagWf tag
  | .crcChk tag => tagWf tag
  | .crmVerdict tag => tagWf tag
  | .crmInsert tag => tagWf tag
  | .crmFill tag => tagWf tag
  | .crmCommit tag => tagWf tag
  | .crmInval tag => tagWf tag
  | .xptPush tag => tagWf tag
  | .xptPull tag => tagWf tag
  | .hcpComplete tag => tagWf tag
  | .hcpFail tag => tagWf tag
  | .carReserve tag => tagWf tag
  | .carIndex tag => tagWf tag
  | .carLand tag => tagWf tag
  | .carafeHeaderPersistent seq => decide (seq < 2 ^ 64)
  | .carVoid tag => tagWf tag
  | .carRead tag fixed => tagWf tag && decide (fixed < 2 ^ 16)
  | .carGather tag fixed => tagWf tag && decide (fixed < 2 ^ 16)
  | .carIntent tag => tagWf tag
  | .carDone tag => tagWf tag
  | .peerWriteStep tag => tagWf tag
  | .peerSyncStep tag => tagWf tag
  | .swcEnq tag => tagWf tag
  | .queueEntryAppend _ _ _ cell0 cells last flow sp _ => decide (cell0 < 16384) && decide (1 ≤ cells) && decide (cells ≤ 16384) && decide (1 ≤ last) && decide (last ≤ 256) && decide (flow < 2 ^ 20) && decide (sp < 4)
  | .queueEntrySent entry corrected _ => decide (entry < 2 ^ 20) && decide (corrected < 2 ^ 32)
  | .cellPoisoned dest => dest.wf
  | .linkDown _ cells => decide (cells < 2 ^ 32)
  | .linkUp _ => true
  | .portHoldExpire _ => true
  | .bpmMgtAlloc _ size _ _ _ => decide (size < 2 ^ 23)
  | .bpmMgtRef _ _ => true
  | .bpmMgtDeref _ _ => true
  | .bpmMgtFree _ _ => true
  | .bstLoadDataWrite _ _ => true
  | .bstInstall rcp last prio _ => rcpWf rcp && decide (last < 256) && decide (prio < 4)
  | .bstRetire rcp => rcpWf rcp
  | .engineDisable cls inst => engWf cls inst
  | .engineDisableAck cls inst => engWf cls inst
  | .engineEnable cls inst => engWf cls inst
  | .dmaStart _ => true
  | .dmaStop _ => true
  | .dmaStoppingDone _ => true
  | .dmaClrErr _ => true
  | .dmaShadowArm _ _ => true
  | .dmaShadowWrite _ _ _ _ => true
  | .dmaMove _ _ => true
  | .dmaMoveSwap _ _ => true
  | .dmaLoop _ => true
  | .dmaWait _ => true
  | .dmaWaitSatisfied _ => true
  | .dmaWaitTimeout _ => true
  | .dmaSignal _ => true
  | .dmaLink _ => true
  | .dmaEnd _ => true
  | .dmaInstructionComplete _ => true
  | .crmInvalidateNs _ => true
  | .crmInvalidateAll => true
  | .crmSweepDone => true
  | .crmInitDone => true
  | .crmLimitEvict _ => true
  | .sketchDecay => true
  | .gatherDeadlineExpire _ => true
  | .flushBrewStart _ => true
  | .checkpointTimer _ => true
  | .carafeFault _ lines => lines.all (fun p => decide (p.1 < 2 ^ 64) && decide (p.2 < 2 ^ 32))
  | .groupInitDone _ _ => true
  | .memberLinkFailTimeout _ => true
  | .memberCommandTimeout _ => true
  | .memberResetTimeout _ => true
  | .driveCriticalWarning _ => true
  | .rbdFailMember _ => true
  | .rbdDesignateHotspare _ => true
  | .rbdReleaseHotspare _ => true
  | .rbdUseLabelledDrive _ => true
  | .budgetRefill => true
  | .rebuildBrewStart _ bad => bad.all (fun p => decide (p.1 < 64) && decide (p.2 < 24))
  | .stripeLockGrant _ strp => decide (strp < 2 ^ 32)
  | .progressRecordWrite _ => true
  | .repairBrewStart _ _ more => more.all (fun p => decide (p < 24))
  | .cuppingPassStart _ => true
  | .cuppingBrewStart _ looks => looks.all RowLook.wf
  | .regrindStart => true
  | .regrindInitDone => true
  | .regrindCopyBrewStart _ => true
  | .regrindCommit => true
  | .regrindAbort => true
  | .regrindRetireDone => true
  | .kpLoad _ _ => true
  | .kpZeroiseSlot _ _ => true
  | .kpZeroisePage _ => true
  | .zeroiseComplete _ => true
  | .keyStatus src => src.wf
  | .skekInstall src => src.wf
  | .skekRewrapDone => true
  | .keyLoad src => src.wf
  | .keyZeroise src => src.wf
  | .tlsRecordEncrypt conn data sp => connWf conn && decide (data.length ≤ 16384) && decide (sp < 4)
  | .tlsRecordDecrypt conn _ _ => connWf conn
  | .netPortDown _ _ _ cells => decide (cells < 2 ^ 32)
  | .netPortUp _ => true
  | .arpRequest _ _ => true
  | .neighborSolicitation _ _ => true
  | .icmpEcho _ _ _ => true
  | .frameDiscard _ len _ => decide (len ≤ 9216)
  | .pauseFrameReceive _ => true
  | .pfcFrameReceive _ _ => true
  | .pfcPauseExpire _ _ => true
  | .pfcXoffSend _ _ _ => true
  | .pfcXoffRefresh _ _ => true
  | .receiveBufferOverflow _ => true
  | .roceConnectRequest _ mac vlan offer => decide (mac < 2 ^ 48) && decide (vlan < 4096) && decide (offer < 65536)
  | .roceSendReceive _ conn mac vlan => connWf conn && decide (mac < 2 ^ 48) && decide (vlan < 4096)
  | .roceReadResponse _ conn mac vlan _ => connWf conn && decide (mac < 2 ^ 48) && decide (vlan < 4096)
  | .roceAckReceive _ conn mac vlan _ => connWf conn && decide (mac < 2 ^ 48) && decide (vlan < 4096)
  | .roceNakReceive _ conn mac vlan _ _ => connWf conn && decide (mac < 2 ^ 48) && decide (vlan < 4096)
  | .roceAckTimeout conn => connWf conn
  | .ceMarkedReceive _ conn mac vlan => connWf conn && decide (mac < 2 ^ 48) && decide (vlan < 4096)
  | .cnpReceive _ conn mac vlan => connWf conn && decide (mac < 2 ^ 48) && decide (vlan < 4096)
  | .rateIncreaseTimer conn => connWf conn
  | .tcpSyn _ mac vlan r2t => decide (mac < 2 ^ 48) && decide (vlan < 4096) && decide (0 < r2t) && decide (r2t < 2 ^ 32)
  | .tcpSegmentReceive _ conn mac vlan _ _ _ _ => connWf conn && decide (mac < 2 ^ 48) && decide (vlan < 4096)
  | .tcpRtoExpire conn => connWf conn
  | .tlsClientHello conn _ _ _ _ => connWf conn
  | .egressFrameSelect _ frames => frames.all (fun f => f.1.all connWf && decide (f.2 ≤ 9216))
  | .shaperRefill => true
  | .gateEntryAdvance _ => true
  | .pourListAdopt _ => true
  | .peerFlitReceive _ _ _ _ _ => true
  | .peerNakReceive _ _ tag _ => tag.wf
  | .peerLaneFail _ => true
  | .peerHello h => h.wf
  | .peerHeartbeat h => h.wf
  | .heartbeatTick => true
  | .peerWrite tag _ _ _ data _ => tag.wf && decide (data.length ≤ 1048576)
  | .peerWack tag => tag.wf
  | .peerEpochInfo _ => true
  | .peerEpochQuery => true
  | .peerConfig txn writes ops _ => decide (txn < 65536) && writes.all (fun p => offWf p.1) && ops.all CfgOp.wf
  | .peerConfigAck txn => decide (txn < 65536)
  | .peerKey k => k.wf
  | .peerKeyAck _ code => decide (code < 65536)
  | .peerFencing => true
  | .peerHandover => true
  | .peerLeave => true
  | .shadowApply => true
  | .witnessTick => true
  | .witnessRequestTimeout num => decide (num < 2 ^ 32)
  | .witnessLost => true
  | .witnessGrant req epoch _ vs => decide (req < 2 ^ 32) && decide (epoch < 2 ^ 32) && vs.all BaySample.wf
  | .witnessRefuse req cause value _ => decide (req < 2 ^ 32) && decide (cause < 256) && decide (value < 2 ^ 32)
  | .witnessState req _ _ => decide (req < 2 ^ 32)
  | .acquireRetryTimer => true
  | .leaseExpire => true
  | .drivePermission vs => vs.all BaySample.wf
  | .takeoverServiceEntry groups looks bad stored => groups.all GroupLook.wf && looks.all CkLook.wf && bad.all BadLook.wf && stored.all (fun t => decide (t < 4096))
  | .pairStatus src => src.wf
  | .handover src => src.wf
  | .handoverSyncReached => true
  | .handoverSelfReset => true
  | .forcedTakeover src => src.wf
  | .forcedTakeoverWaitEnd vs => vs.all BaySample.wf
  | .lockstepMismatch _ => true
  | .watchdogExpire => true
  | .hbmStackFailure _ => true
  | .clockLoss => true
  | .bayDieSelfCheck _ _ => true
  | .seatAssert _ => true
  | .seatDebounceDone _ v => v.wf
  | .seatDeassert _ v => v.wf
  | .rampSlotGrant => true
  | .precheckEnd _ first last => first.wf && last.wf
  | .rampComplete _ v => v.wf
  | .gateFailTimeout _ v => v.wf
  | .currentLimitEnter _ v => v.wf
  | .currentLimitRelease _ v => v.wf
  | .bayFaultTimerExpire _ v => v.wf
  | .fastTrip _ v => v.wf
  | .fastTripHoldEnd _ => true
  | .fetTempLimit _ v => v.wf
  | .perstReleaseTimer _ => true
  | .bayShutdownDone _ _ => true
  | .bayGateOffDelay _ v => v.wf
  | .bayOffShortCheck _ v => v.wf
  | .bayCycleRestart _ => true
  | .ps2SecondCheck _ _ v => v.wf
  | .bayCmdOn _ => true
  | .bayCmdOff _ => true
  | .bayCmdClear _ => true
  | .bayCmdCycle _ => true
  | .bayStatus src => src.wf
  | .bayPower src => src.wf
  | .bayPs2Override src => src.wf
  | .bayPs2OvrWrite _ _ => true
  | .bayCal src => src.wf
  | .bayCalDone _ _ => true
  | .mailboxDoorbell writes _ => writes.all (fun p => decide (p.1 + p.2.length ≤ 0x100000))
  | .miReadDataStructure _ _ _ _ => true
  | .miSubsystemHealthPoll _ => true
  | .miControllerHealthPoll _ => true
  | .miConfigurationGet _ _ => true
  | .miConfigurationSet _ _ _ => true
  | .identify src => src.wf
  | .status src => src.wf
  | .opQuery src => src.wf
  | .handleExpire _ => true
  | .regRead src => src.wf
  | .regWrite src => src.wf
  | .regWriteMasked src => src.wf
  | .begin src => src.wf
  | .commit src => src.wf
  | .commitAt src => src.wf
  | .rollback src => src.wf
  | .txnStatus src => src.wf
  | .txnExpire _ => true
  | .bar0StagingWrite off _ _ => off.val % 4 == 0
  | .groupStatus src => src.wf
  | .nsCreate src => src.wf
  | .nsDelete src => src.wf
  | .nsMove src => src.wf
  | .nsInfo src => src.wf
  | .hostAdd src => src.wf
  | .hostRemove src => src.wf
  | .hostList src => src.wf
  | .subsysNqn src => src.wf
  | .timeStatus src => src.wf
  | .schedList src => src.wf
  | .persistentRegisterWrite off _ => off.val % 4 == 0
  | .pcrWriteDone => true
  | .pcrTokenRefill => true
  | .testStatus src => src.wf
  | .engineKat src => src.wf
  | .carafeScan src => src.wf
  | .hbmScrub src => src.wf
  | .pcrVerify src => src.wf
  | .netPrbs src => src.wf
  | .drvEq src => src.wf
  | .peerPrbs src => src.wf
  | .hbmMarch src => src.wf
  | .mramMarch src => src.wf
  | .serdesLoop src => src.wf
  | .testDone op target _ _ => decide (op < 65536) && decide (target < 256)
  | .pcieConfigRequest _ _ _ _ => true
  | .pmcsrD3hotEnter => true
  | .pmcsrD0Return => true
  | .bmeClear => true
  | .bmeSet => true
  | .functionLevelReset => true
  | .flrDone => true
  | .perstSlAssert => true
  | .perstSlDeassert _ _ => true
  | .hotReset _ _ => true
  | .endpointLinkDown _ _ => true
  | .completionReceive _ _ _ => true
  | .completionTimeout _ => true
  | .aerError _ _ hdr => decide (hdr.length ≤ 4)
  | .msixUnmask _ => true
  | .fwStatus src => src.wf
  | .fwDownload src => src.wf
  | .fwCommit src _ => src.wf
  | .fwSlotWritten => true
  | .fwDiscard src => src.wf
  | .fwReject src => src.wf
  | .spdmRootSet src => src.wf
  | .activationWithoutReset => true
  | .activationDrainDeadline => true
  | .activationImageRunning _ => true
  | .pairedActivation => true
  | .trialConfirm => true
  | .trialWindowExpire => true
  | .spdmGetVersion _ => true
  | .spdmGetCapabilities _ _ => true
  | .spdmNegotiateAlgorithms _ _ => true
  | .spdmGetDigests _ => true
  | .spdmGetCertificate _ _ _ _ => true
  | .spdmChallenge _ _ _ => true
  | .spdmGetMeasurements _ _ _ _ => true
  | .spdmKeyExchange _ _ => true
  | .spdmFinish _ session _ _ => sessWf session
  | .spdmSignatureDone _ => true
  | .spdmRespondIfReady _ => true
  | .spdmHeartbeat session => sessWf session
  | .spdmKeyUpdate session => sessWf session
  | .spdmEndSession session => sessWf session
  | .securedMessage session _ => sessWf session
  | .telemetrySweep => true
  | .telSnapshot src => src.wf
  | .telSweep src => src.wf
  | .telSamples src => src.wf
  | .registerWrite _ _ _ => true
  | .railsRemoved => true
  | .ref10mInWithinTolerance => true
  | .followerKeeperSample _ _ _ => true
  | .targetFormatDone _ => true
  | .bar0Read _ _ => true
  | .mctpEndpointAssigned _ => true
  | .cmDisconnectRequest conn => connWf conn

end Sys2Proof
end

