-- ==== Sys2Proof/Tests/Slice0.lean ====
section
/-! SUPPORT. The model's own tests: terms that WellFormed refuses, values the spec's worked examples give, and for every obligation
with hypotheses the states that meet them, one conjunct for each clause. -/

namespace Sys2Proof.Tests
open Sys2Proof.Machine
set_option Elab.async false

/-! ### States for the tests -/

/-- A register block with the named fields written. -/
def rg (fs : List (Fld × Nat)) (c : Ctl) : Ctl := fs.foldl (fun d p => d.set p.1 p.2) c

/-- A device in a mode, with the named fields written. -/
def md (m : Mode) (fs : List (Fld × Nat)) : Ctl := rg fs (Ctl.reset.set F.GLB_MODE_STAT_mode m.code)

/-- The reset state with the given device. -/
def st (c : Ctl) : State := { State.reset with c := c }

/-- A device with the given power record. -/
def pw (p : Power) (c : Ctl) : Ctl := { c with power := p }

/-- A device with the given time keeper. -/
def tm (p : Time) (c : Ctl) : Ctl := { c with time := p }

/-- A device with the given pair record. -/
def pr (p : Pair) (c : Ctl) : Ctl := { c with pair := p }

/-- An answering HELLO of a peer in a mode. -/
def hello (mode : Nat) : HelloMsg := { mode := mode, slot := 0, epoch := 0, image := 0, answer := true }

/-- A device with the given rebuild record. -/
def rb (p : Rebuild) (c : Ctl) : Ctl := { c with rbd := p }


/-- A device that follows PTP on port 2 and has heard one Announce. -/
def ptpC : Ctl :=
  { rg [(F.TIM_PTP_CFG_en, 1), (F.TIM_PTP_CFG_port_pri, 2), (F.TIM_PTP_CFG_domain, 0), (F.NET_PORT_STAT_exists 2, 1), (F.NET_PORT_CFG_en 2, 1), (F.NET_PORT_STAT_up 2, 1)] Ctl.reset with
    time := { Time.reset with announces := [(2, ⟨128, 248, 254, 65535, 128, 77, 0, 0, 0⟩)] } }

/-- A transaction scheduled for time 5. -/
def schedTx : Txn := { id := 1, owner := 0, state := 2, entries := [], last := 0, at_ := 5, order := 0, handle := 64 }


/-- A Connect of the admin queue. -/
def ccmd : ConnectCmd := { conn := 1, cid := 0, recfmt := 0, qid := 0, sqsize := 31, kato := 1000, cntlid := 0xFFFF, hostNqn := [1], subNqn := [7] }

/-- An association of tenant 5. -/
def assocA : Assoc := Assoc.fresh ccmd 5 false 0

/-- An admin command with three words. -/
def acmd (w10 w11 w12 : Word) : AdminCmd := { conn := 1, cid := 3, nsid := 1, cdw10 := w10, cdw11 := w11, cdw12 := w12, cdw13 := 0, cdw14 := 0, cdw15 := 0, data := [] }

/-- An I/O queue on connection 2. -/
def queueA : HostQueue := { assoc := 0, qid := 1, size := 32, conn := 2, ordered := false, ending := false, tcp := false }

/-- An I/O command on connection 2. -/
def iocmd : IoCmd := { conn := 2, cid := 9, nsid := 1, slba := 0, nlb := 0, prinfo := 0, sgls := [], badSeg := false, data := [], ranges := [], ad := false, rsvd := false }

/-- A tag of that command in a state. -/
def tagA (s : TagState) : TagE := { state := s, kind := .read, assoc := 0, qid := 1, cid := 9, cmd := some iocmd, forced := false, seq := 0, sent := false, adm := none }

/-- An active device with port 2 up, two RoCE connections and a TCP one. -/
def netC : Ctl :=
  { md .active [(F.NET_PORT_STAT_exists 2, 1), (F.NET_PORT_CFG_en 2, 1), (F.NET_PORT_STAT_up 2, 1)] with
    net := { Net.reset with conns := [(1, Ctl.reset.connFresh false 2 8 0 1024 1), (2, Ctl.reset.connFresh false 2 8 0 1024 1), (3, Ctl.reset.connFresh true 2 9 0 1024 1)] }
    mgt := { Mgmt.reset with nqn := [7], hosts := [⟨[1], 5, false, true, 0⟩] } }

/-- That device with an association and its queue. -/
def hostA (a : Assoc) : Ctl :=
  { rg [(F.GAL_NS_MAP2_valid 1, 1)] netC with
    host := { HostPath.reset with assocs := [(0, a)], queues := [(2, queueA)] }
    car := { Journal.reset with ns := [(1, ⟨5, 0, 0⟩)] } }

/-- The same with tag 4 taken. -/
def hostT (t : TagState) : Ctl := { hostA assocA with host := { (hostA assocA).host with tags := [(4, tagA t)] } }


theorem stage_empty (c : Ctl) (off : Nat) (bs : List Byte) (h : c.trust.staged = []) : (c.stageImage off bs).isSome = true := by
  unfold Ctl.stageImage
  simp only [h, ite_self]
  rw [if_neg (by simp [Tab.has, Tab.at?])]
  rfl

/-- The device when a Firmware Image Download of 4,096 bytes runs. -/
def begunFd : Ctl := (hostA assocA).begun (AdminOp.fwDownload.on { acmd 0x3FF 0x400 0 with data := List.replicate 4096 0 }) 0 0 assocA

theorem staged_ok : (begunFd.stageImage 4096 (List.replicate 4096 0)).isSome = true := stage_empty _ _ _ rfl


/-- A brew at its first step. -/
def brew0 : Brew :=
  { rcp := 0, ver := 1, cur := 0, prio := 1, failing := false, final := 0, finalCls := 0, durable := false, retry := 0, slots := [], tokens := [], ctx := [],
    state := .current, result := none, wait := none, fresh := true, run := 0, chkBad := [], unitBad := [], hcp := none, held := false, ueSeen := false }

/-- The eight words of a step. -/
def stepWs (eng op : Nat) (w0 w3 w4 w5 : Nat) (arg2 : Nat) : List Word :=
  let ws := [BitVec.ofNat 32 (eng * 0x4000000 + op * 256 + w0), 0, 0, BitVec.ofNat 32 w3, BitVec.ofNat 32 w4, BitVec.ofNat 32 w5, 0]
  ws ++ [BitVec.ofNat 32 (arg2 * 65536 + stepCrc ws)]

/-- A device whose tag 0 runs a brew at the given step. -/
def brewC (c : Ctl) (ws : List Word) (b : Brew) : Ctl :=
  { c with
    bst := { Barista.reset with
      steps := [(0, ws)], dir := [(0, ⟨true, ⟨1, 1, 0, 0, 0, 1⟩, []⟩)], brews := [(0, b)], lanes := [(0, { Lane.idle with cur := some 0 })] }
    host := { c.host with tags := [(0, tagA .running)] } }

/-- The same at a step of an engine and an operation. -/
def stepC (eng op : Nat) : Ctl := brewC (hostA assocA) (stepWs eng op 0 0 0 0 0) brew0

/-- The step that tag 0 issues. -/
def issued (c : Ctl) (eng op : Nat) : Issued := (c.issuable 0 eng op).getD ⟨brew0, stepOf [], 0⟩

/-- The step that tag 0 issues there. -/
def iss (eng op : Nat) : Issued := issued (stepC eng op) eng op

/-- A journal record of one block. -/
def jrec (seq : Nat) (landed : Bool) : JRec :=
  { typ := Rt.data, seq := seq, nsid := 1, group := 0, loc := 0, count := 1, udelta := 0, tenant := 5, dt := 0, mirrored := false, allocs := [], unit0 := 0,
    line := 0, lines := 66, data := [], entries := [], names := [], buf := 0, tagBuf := 0, owner := some 0, landed := landed, durable := false, peer := false,
    settled := false, void := false, badAt := [], torn := false, left := [] }

/-- What a flush brew works on. -/
def workA : FlushWork :=
  { slot := none, group := 0, strp := 0, recs := [], srcs := [], recons := [], buf := 0, tagBuf := 0, recon := [], intent := some 9, tried := 0, forms := [],
    stage := false }

/-- A device that recorded a lookup miss. -/
def recC (c : Ctl) : Ctl := { c with crm := { c.crm with recs := [(0, ⟨1, 0, 0, [], none⟩)] } }

/-- A Crema entry being filled. -/
def fillE : CrmEntry := { valid := false, nsid := 1, gi := 0, ptr := 0, grain := 0, ref := false, fillTag := 0, nsEpoch := 0, tAdm := 0 }

/-- A device whose brew fills that entry. -/
def fillC : Ctl :=
  let c := brewC (rg [(F.BPM_POOL_CFG_en 0, 1), (F.BPM_POOL_CFG_count 0, 4), (F.BPM_POOL_BASE_base 0, 0)] (hostA assocA)) (stepWs Cls.crm 4 0 0 0 0 0) { brew0 with slots := [(0, ⟨0, true, false⟩)] }
  { c with crm := { c.crm with entries := [(8, fillE)] }, swc := { Switch.reset with bufs := [(0, ⟨.owned, false, 1, 1⟩)] } }

/-- A device that asks for a verdict. -/
def admC : Ctl := recC (rg [(F.CRM_CFG_en, 1), (F.CRM_CFG_admit_thr, 0), (F.CRM_NS_CFG_mgmt_mode 1, 0)] (stepC Cls.crm 1))

theorem adm_gen (c : Ctl) (ns gi : Nat) (he : c.flag F.CRM_CFG_en = true) (hm : c.crmMode ns = 0) (ht : c.get F.CRM_CFG_admit_thr = 0) :
    (c.crmVerdict ns gi).1 = true := by simp [Ctl.crmVerdict, he, hm, ht]

theorem adm_ok : (((st admC).c.stepIssued 0 (iss Cls.crm 1)).crmVerdict 1 0).1 = true :=
  adm_gen _ _ _ (by decide +kernel) (by decide +kernel) (by decide +kernel)


/-- Memory with words stored. -/
def memW (sel : MemSel) (a : Nat) (ws : List Word) : Mem := State.reset.mem.put sel a (ws.flatMap (fun w => leBytes 4 w.toNat))

/-- The reset state with the given memory and device. -/
def stm (m : Mem) (c : Ctl) : State := { State.reset with mem := m, c := c }

/-- The eight words of a DMA instruction. -/
def insW (op w1 w2 : Nat) : List Word := [BitVec.ofNat 32 (0x80000000 + op * 0x1000000), BitVec.ofNat 32 w1, BitVec.ofNat 32 w2, 0, 0, 0, 0, 0]

/-- A device with a running channel. -/
def dmaC (n : Nat) (x : DmaChan) : Ctl := { md .active [(F.DMA_CH_STAT_state n, 1)] with bst := { Barista.reset with chans := [(n, x)] } }

/-- A device with a waiting channel. -/
def waitC (k : Nat) : Ctl := { md .active [(F.DMA_CH_STAT_state 200, 2)] with bst := { Barista.reset with chans := [(200, { DmaChan.idle with wait := some (64, 2, k, some 7) })] } }


/-- A device that owns one buffer. -/
def poolC : Ctl :=
  { rg [(F.BPM_POOL_CFG_en 0, 1), (F.BPM_POOL_CFG_count 0, 4), (F.BPM_POOL_BASE_base 0, 0)] (md .active []) with
    swc := { Switch.reset with bufs := [(0, ⟨.owned, true, 0, 0⟩)] } }

/-- A queue entry of one cell. -/
def qe : QEntry := { input := 0, port := 0, sub := 0, ptr := 0, cell0 := 0, cells := 1, last := 1, flow := 0, sp := 0, start := 0, link := some 2, owner := none }

/-- A recipe of one step. -/
def recipe1 : RcpDir := ⟨true, ⟨1, 1, 0, 0, 0, 0⟩, []⟩

/-- A device with that recipe installed. -/
def recipes (r : Nat) (c : Ctl) : Ctl := { c with bst := { c.bst with dir := [(r, recipe1)] } }

theorem bg_started (c : Ctl) (k : TagKind) (r tag : Nat) (id : Word) (d : RcpDir) (h0 : c.bgOk = true) (h1 : c.bgTag = some tag) (h2 : Tab.at? c.bst.dir r = some d)
    (hv : d.valid = true) : ∃ c1, c.bgStart k r id = .started tag c1 := by
  have h3 : ∀ e : TagE, Tab.at? ((c.setTag tag e).tookN 7).bst.dir r = some d := fun e => h2
  simp only [Ctl.bgStart, h0, h1, if_true, Ctl.startBrew, h3, hv, Bool.not_true, Bool.false_eq_true, if_false]
  exact ⟨_, rfl⟩

/-- A gather slot to be redone. -/
def slotA : GSlot := { group := 0, strp := 0, recs := [], dead := none, redo := [1], flush := none, born := 0 }

/-- A device with a slot to flush. -/
def flushC : Ctl := recipes (Config.recipeOf 5) { md .active [(F.GLB_MODE_STAT_lease, 1)] with car := { Journal.reset with slots := [(3, slotA)] } }

/-- An active device with one queue entry on a raised link. -/
def qeC : Ctl := { md .active [(F.SWC_LINK_STAT_down 2, 0), (F.GLB_START_STAT_hbm_ok, 1)] with swc := { Switch.reset with entries := [(0, qe)] } }

/-- A synchronised device with one landed record. -/
def synC : Ctl := { md .active [(F.GLB_MODE_STAT_peer_synced, 1)] with car := { Journal.reset with recs := [jrec 1 true] } }


/-- An active device with group 0 serving and a rebuild record. -/
def rbC (r : Rebuild) (fs : List (Fld × Nat)) : Ctl := { md .active ([(F.GLB_MODE_STAT_lease, 1), (F.GAL_GRP_CFG_en 0, 1), (F.GAL_GRP_CFG_state 0, 2), (F.RBD_BSET0_rbd_10mbs 0, 5), (F.RBD_BSET0_cup_100mbs 0, 5), (F.RBD_BSET1_rg_10mbs 0, 5)] ++ fs) with rbd := r }

/-- A drive of 1000 blocks. -/
def driveA (l : Option DriveLabel) : Drive := ⟨true, 1000, true, true, l, [], 0⟩

/-- A device in the first stage of a Regrind. -/
def rgC (r : Rebuild) (fs : List (Fld × Nat)) : Ctl :=
  rbC { r with drives := (List.range 4).map (fun b => (b, ⟨true, 4194304, true, true, none, [], 0⟩)), ports := (List.range 4).map (fun b => (b, true)) }
    ([(F.GAL_GRP_MEM_bays 0 0, 0x20), (F.RBD_RG_MEM_bays 0, 0x3FFFFC62), (F.RBD_RG_MEM_bays 1, 0x3FFFFFFF), (F.RBD_RG_MEM_bays 2, 0x3FFFFFFF), (F.RBD_RG_MEM_bays 3, 0x3FFFFFFF), (F.RBD_RG_CFG_stage, 1), (F.RBD_RG_CFG_layout, 0), (F.GAL_GRP_CFG_layout 0, 0), (F.GAL_GRP_CFG_layout 1, 0), (F.CAR_UMAP_BASE_base, 1000), (F.RBD_MEM_STAT_state 0, 1),
      (F.RBD_MEM_STAT_state 1, 1)] ++ fs)

/-- A device whose group 0 is a MIRROR2 over bays 0 and 1 with one repair queued. -/
def repG : Ctl := rbC { Rebuild.reset with repairs := [⟨0, 0, 0, 0⟩] } [(F.GAL_GRP_STRIPES_value 0, 1000), (F.GAL_GRP_JRN_value 0, 10), (F.GAL_GRP_CFG_layout 0, 0), (F.GAL_GRP_MEM_bays 0 0, 0x20), (F.RBD_MEM_STAT_state 0, 1), (F.RBD_MEM_STAT_state 1, 1)]


/-- A TCP connection. -/
def connT (tls : Bool) : Conn := { Ctl.reset.connFresh true 2 9 0 1024 1 with tls := tls }

/-- A CTAB entry. -/
def ctabA : CtabE := ⟨true, 0, 5, 2, [], 0, 0, 0, 0⟩

/-- A device with a TLS connection. -/
def tlsC : Ctl := { md .active [] with net := { Net.reset with conns := [(3, connT true)] }, keys := { Keys.reset with ctab := [(3, ctabA)] } }

/-- A device that expects a ClientHello. -/
def helloC : Ctl :=
  { (md .active []).setSlotState 5 2 1 with net := { Net.reset with conns := [(3, connT false)] }, mgt := { Mgmt.reset with hosts := [⟨[1], 5, true, false, 2⟩] } }


/-- The network device with the named fields written. -/
def upC (fs : List (Fld × Nat)) : Ctl := rg fs netC

/-- The same with a port record. -/
def npC (p : NetPort) (fs : List (Fld × Nat)) : Ctl := { upC fs with net := { netC.net with ports := [(2, p)] } }

/-- An idle port record. -/
def npI : NetPort := { cycAt := none, pauseEnd := [], xoff := [], deficit := [], turn := 0, gained := false, served := [], oper := none, adopt := none }

/-- A connection with transfers. -/
def connX (xs : List Xfer) : Conn := { Ctl.reset.connFresh false 2 8 0 1024 1 with xfers := xs }

/-- A push of 4096 bytes. -/
def xferA : Xfer := { tag := 0, tok := 0, sealed := 0, push := true, ptr := 0, addr := 0, off := 0, len := 4096, moved := 0, poison := 0 }

/-- The network device with connection 1 given. -/
def connC (x : Conn) : Ctl := { netC with net := { netC.net with conns := [(1, x)] } }

theorem pick_some {α β γ δ : Type} (p : Option (α × β × γ) × δ) (h : p.1.isSome = true) : ∃ k f o c, p = (some (k, f, o), c) := by
  obtain ⟨_ | ⟨k, f, o⟩, c⟩ := p
  · cases h
  · exact ⟨k, f, o, c, rfl⟩

theorem eg_ok : ∃ (s : State) (np : Fin 24) (frames : List (Option Nat × Nat)) (k : Nat) (f : ReadyFrame) (o : Bool) (c1 : Ctl), s.c.netUp np.val = true ∧
    (let fs := frames.map (fun p => (⟨p.1, p.2⟩ : ReadyFrame)); (s.c.tev .net 7 np.val none none (s.c.gateHeld np.val fs)).egressPick np.val fs) =
      (some (k, f, o), c1) := by
  obtain ⟨k, f, o, c1, e⟩ := pick_some (((upC []).tev .net 7 2 none none ((upC []).gateHeld 2 [⟨none, 64⟩])).egressPick 2 [⟨none, 64⟩]) (by decide +kernel)
  exact ⟨st (upC []), 2, [(none, 64)], k, f, o, c1, by decide +kernel, e⟩

theorem free_none (c : Ctl) (n : Nat) : ∀ i, (∀ j, i ≤ j → j < i + n → c.connUsed j = true) → c.freeConn i n = none := by
  induction n with
  | zero => intro i _; rfl
  | succ n ih =>
    intro i h
    rw [Ctl.freeConn, if_pos (h i (Nat.le_refl i) (by omega))]
    exact ih (i + 1) (fun j h1 h2 => h j (by omega) (by omega))

theorem has_range (x : Conn) (k : Nat) : ∀ ks : List Nat, k ∈ ks → Tab.has (ks.map (fun i => (i, x))) k = true := by
  intro ks
  induction ks with
  | nil => intro h; cases h
  | cons a t ih =>
    intro h
    by_cases e : a = k
    · simp [Tab.has, Tab.at?, e]
    · simp only [List.map_cons, Tab.has, Tab.at?, e, if_false]
      exact ih ((List.mem_cons.mp h).resolve_left (fun h1 => e h1.symm))

/-- The network device with its first connections taken. -/
def fullC (n : Nat) : Ctl := { netC with net := { netC.net with conns := (List.range n).map (fun i => (i, connX [])) } }

theorem used_of (c : Ctl) (k : Nat) (h : Tab.has c.net.conns k = true) : c.connUsed k = true := by simp [Ctl.connUsed, h]

theorem frame_net (c : Ctl) (np : Nat) : (c.frameIn np none 0).net = c.net := by
  simp [Ctl.frameIn, Ctl.npCnt, Ctl.bump]

theorem new_none_of (c : Ctl) (x : Conn) (np : Nat) (h : c.net.conns = (List.range connTotal).map (fun i => (i, x))) :
    (c.frameIn np none 0).newConn = none := by
  refine free_none _ _ 0 (fun j _ hj => used_of _ _ ?_)
  rw [frame_net, h]
  refine has_range _ j _ (List.mem_range.mpr (Nat.lt_of_lt_of_le hj ?_))
  rw [Nat.zero_add]
  exact Nat.min_le_left _ _

theorem fullC_conns (n : Nat) : (st (fullC n)).c.net.conns = (List.range n).map (fun i => (i, connX [])) := rfl

theorem fullC_up (n : Nat) : (st (fullC n)).c.netUp 2 = true := by
  have h : netC.netUp 2 = true := by decide +kernel
  exact h

theorem new_none : ∃ (s : State) (np : Fin 24), s.c.netUp np.val = true ∧ (s.c.frameIn np.val none 0).newConn = none :=
  ⟨st (fullC connTotal), 2, fullC_up _, new_none_of _ _ _ (fullC_conns _)⟩


/-- A heartbeat with an applied number. -/
def hb (applied : Nat) : HbMsg :=
  { num := 1, mode := 4, lease := false, epoch := 0, head := 0, applied := applied, echo := 0, endorse := false, commit := [], bays := [], members := [], synced := false }

/-- A standby with its link up. -/
def peC (fs : List (Fld × Nat)) : Ctl := md .standby ([(F.PEER_STAT_link_up, 1)] ++ fs)

/-- A lease holder with its link up. -/
def leC (fs : List (Fld × Nat)) : Ctl := md .active ([(F.PEER_STAT_link_up, 1), (F.GLB_MODE_STAT_lease, 1)] ++ fs)

/-- A device waiting for the answer to request 7. -/
def witC (m : Mode) (k : WitKind) (fs : List (Fld × Nat)) : Ctl := pr { Pair.reset with reqs := [⟨k, 7, 0, false⟩] } (md m fs)

/-- The device after that answer. -/
def answered (c : Ctl) : Ctl := { c.witHeard with pair := { c.witHeard.pair with reqs := c.witHeard.pair.reqs.filter (fun x => x.num != 7) } }

/-- The fields of a synchronised pair. -/
def acqF : List (Fld × Nat) := [(F.GLB_MODE_STAT_peer_synced, 1), (F.PEER_CFG_en, 1), (F.PEER_STAT_endorsing, 0)]


/-- A device with a drive seated in bay 1. -/
def bay1 (x : Bay) (fs : List (Fld × Nat)) : Ctl := { md .active ([(F.BAY_CH_STAT_seat 1, 1)] ++ fs) with bay := { Bays.reset with ch := [(1, x)] } }

/-- A bay measurement. -/
def smp (vin vsrc i tfet : Nat) : BaySample := ⟨vin, vsrc, i, tfet⟩

/-- A device calibrating bay 1. -/
def calC : Ctl := { md .active [] with bay := { Bays.reset with cal := [(1, 5)] }, mgt := { Mgmt.reset with tests := [⟨0x0A30, 1, 3⟩] } }

/-- The device when the calibration ends. -/
def calD : Ctl :=
  let c1 := calC.reach 5
  { c1 with
    bay := { c1.bay with cal := Tab.del c1.bay.cal 1 }
    mgt := { c1.mgt with tests := c1.mgt.tests.filter (fun x => !(x.op == 0x0A30 && x.target == 1)) } }


/-- A Chieb request taken from mailbox 0. -/
def chT (op txn : Nat) (ws : List Word) : Taken := ⟨0, .mailbox 0, ⟨op, txn, 1, ws⟩, true, 0, 0⟩

/-- A device that took such a request. -/
def chC (c : Ctl) (op txn : Nat) (ws : List Word) : Ctl := { c with mgt := { c.mgt with taken := [chT op txn ws] } }

/-- A device with a transaction in a state. -/
def txC (st : Nat) : Ctl := { md .standby [] with mgt := { Mgmt.reset with txns := [(0, { schedTx with state := st, id := 1 })] } }

/-- An active lease holder. -/
def act (fs : List (Fld × Nat)) : Ctl := md .active ([(F.GLB_MODE_STAT_lease, 1)] ++ fs)


/-- The words of NS_CREATE. -/
def nsWs : List Word := [2, 0, 5, 1, 1, 0, 0, 0]

/-- A lease holder with namespace 1. -/
def nsqC : Ctl := { act [] with car := { Journal.reset with ns := [(1, ⟨5, 0, 0⟩)] }, regs := (act [(F.GAL_NS_MAP2_valid 1, 1)]).regs }

/-- A lease holder with group 0 serving. -/
def grpC : Ctl := act [(F.GAL_GRP_CFG_en 0, 1), (F.GAL_GRP_CFG_state 0, 2), (F.GAL_GRP_STRIPES_value 0, 1000), (F.GAL_GRP_JRN_value 0, 10), (F.GAL_GRP_CFG_layout 0, 0)]

/-- A word and an empty NQN. -/
def nqnWs (w : Word) : List Word := w :: List.replicate 55 0

/-- The words of a 4096-byte FW_DOWNLOAD. -/
def dlWs : List Word := [0, 4096] ++ List.replicate 1024 0

theorem dl_len : (chT 0x601 0 dlWs).pkt.words.length = 2 + (chT 0x601 0 dlWs).w 1 / 4 := by
  show ([0, 4096] ++ List.replicate 1024 (0 : Word)).length = 2 + 4096 / 4
  rw [List.length_append, List.length_replicate]
  rfl

/-- A component entry of an image. -/
def imgEntry (i : Nat) : List Byte := leBytes 4 (i + 1) ++ leBytes 4 (32768 + 4096 * i) ++ leBytes 4 4096 ++ List.replicate 52 0

/-- The header of an image. -/
def imgHead : List Byte :=
  leBytes 4 0x46424B49 ++ leBytes 2 1 ++ leBytes 2 7 ++ leBytes 4 61440 ++ List.replicate 244 0 ++ (List.range 7).flatMap imgEntry

/-- An image of seven components. -/
def imgA : List Byte := imgHead ++ List.replicate 60736 0

theorem imgA_len : imgA.length = 61440 := by
  have h : imgHead.length = 704 := by decide +kernel
  rw [imgA, List.length_append, h, List.length_replicate]

theorem imgA_form : imgForm imgA = true := by
  unfold imgForm
  rw [imgA_len]
  decide +kernel

/-- A device with that image in slot 1. -/
def fwC : Ctl :=
  { act [(F.FWU_SLOT_state 1, 2), (F.FWU_KEYS_programmed, 1)] with trust := { Trust.reset with images := [(1, imgA)] } }

/-- The same with FW_COMMIT taken. -/
def fwD : Ctl := chC fwC 0x602 0 [0x21]

theorem fw_check (c : Ctl) (bs : List Byte) (h : imgForm bs = true) (hk : c.keyFits (imgKey bs) ⟨true, true, true⟩ = true)
    (hr : (decide (c.get F.GLB_ID_rev < imgMinRev bs)) = false) (hs : decide (imgSvn bs < c.get F.FWU_SVN_svn) = false) :
    c.imgCheck bs ⟨true, true, true⟩ = 0 := by
  have hr1 := of_decide_eq_false hr
  have hs1 := of_decide_eq_false hs
  simp [Ctl.imgCheck, h, hk, hr1, hs1]

theorem fw_ok : fwD.fwRefusal 1 2 ⟨true, true, true⟩ = 0 := by
  have h1 : Tab.at? fwD.trust.images 1 = some imgA := rfl
  have h2 : fwD.trust.commit = none := rfl
  have h3 : (fwD.mode == .boot) = false := by decide +kernel
  have h4 : fwD.get (F.FWU_SLOT_state 1) = 2 := by decide +kernel
  have h5 := fw_check fwD imgA imgA_form (by decide +kernel) (by decide +kernel) (by decide +kernel)
  simp [Ctl.fwRefusal, h2, h3, h4, Ctl.slotCheck, h1, h5]


/-- The device with its endpoint at D0. -/
def eptC (c : Ctl) : Ctl := { c with ept := { Ept.reset with d3cold := false, crsUntil := 0 } }

/-- A device in TEST. -/
def tstC : Ctl := md .test [(F.NET_PORT_CFG_en 23, 0)]

/-- The offset of a persistent register. -/
def pcrOff : Fin 0x4000000 := ⟨Reg.GLB_START_CFG, by decide⟩


/-- A device activating the image in slot 1. -/
def actC : Ctl := { fwC with trust := { Trust.reset with images := [(1, imgA)], act := some ⟨.active, 1, 5, true, .nobody⟩ } }

theorem act_ok : actC.slotCheck 1 ⟨true, true, true⟩ = 0 := by
  have h1 : Tab.at? actC.trust.images 1 = some imgA := rfl
  have h5 := fw_check actC imgA imgA_form (by decide +kernel) (by decide +kernel) (by decide +kernel)
  simp [Ctl.slotCheck, h1, h5]

/-- A device in a trial. -/
def triC : Ctl := { md .active [(F.FWU_STAT_trial, 1), (F.FWU_STAT_cur_slot, 1)] with trust := { Trust.reset with katOk := true, images := [(1, [1])] } }

/-- A signature that is ready. -/
def pendA : SpdmPend := { kind := .challenge, ready := true, data := [], blocks := [], session := none }

/-- A device with a stored SPDM root. -/
def rootC : Ctl := (md .active []).wr (Reg.FWU_SPDM_ROOT 0) 1


/-- A brew at a step with a slot bound. -/
def slotC (eng op : Nat) : Ctl := brewC (hostA assocA) (stepWs eng op 0 0 0 0 0) { brew0 with slots := [(0, ⟨0, true, false⟩)] }

/-! ### WellFormed -/

/-- A capsule of which every field is in range. -/
def okConnect : ConnectCmd := { ccmd with conn := 266495, qid := 65535, kato := 2 ^ 32 - 1 }

/-- A measurement of which every field is in range. -/
def okSample : BaySample := ⟨65535, 65535, 65535, 1023⟩

/-- Numbers at the greatest value each operand may have. -/
theorem test_wf_accepts :
    [.stepEnd 1048575, .connectTimeout 266495, .bstRetire 2047, .engineDisable 31 255, .spdmHeartbeat (2 ^ 32 - 1), .lifeRecord 215,
      .nvmeConnectAdmin okConnect, .nvmeRead { iocmd with sgls := [⟨.keyed, 2 ^ 64 - 1, 2 ^ 32 - 1, 2 ^ 32 - 1⟩], ranges := [(2 ^ 64 - 1, 2 ^ 32 - 1)] },
      .nvmeFlush { iocmd with nlb := 65535, prinfo := 15 }, .driveReady 1 (2 ^ 48 - 1) true true (some ⟨15, 2, 23, [1]⟩) [(true, 0)],
      .peerHello { hello 15 with slot := 1, epoch := 2 ^ 32 - 1, image := 2 ^ 64 - 1 }, .seatDebounceDone 1 okSample,
      .bayStatus (.inband 4095), .driveLinkTrained 1 4 true, .witnessLost].all Instr.wf = true := by decide +kernel

/-- A term refused by each check on numbers. -/
theorem test_wf_refuses_numbers :
    [Instr.stepEnd 1048576, .connectTimeout 266496, .bstRetire 2048, .engineDisable 32 0, .engineDisable 0 256, .spdmHeartbeat (2 ^ 32),
      .lifeRecord 216, .driveLinkTrained 1 0 true, .driveLinkTrained 1 5 true, .driveReady 1 (2 ^ 48) true true none [], .carVoid 1048576,
      .carafeHeaderPersistent (2 ^ 64), .tokenArrive 0 256 0 none [], .tokenArrive 0 0 256 none [], .tokenArrive 0 0 0 (some (2 ^ 48)) [],
      .nvmeDisconnect 0 65536, .bstInstall 0 256 0 true, .bstInstall 0 0 4 true, .stripeLockGrant 0 (2 ^ 32), .peerConfigAck 65536,
      .peerKeyAck 0 65536, .witnessRequestTimeout (2 ^ 32), .frameDiscard 2 9217 false, .testDone 65536 0 0 0, .testDone 0 256 0 0].all
      (fun i => !i.wf) = true := by decide +kernel

/-- A term refused by each check on a compound operand. -/
theorem test_wf_refuses_compounds :
    [Instr.nvmeConnectAdmin { okConnect with conn := 266496 }, .nvmeConnectAdmin { okConnect with cid := 65536 },
      .nvmeConnectAdmin { okConnect with recfmt := 65536 }, .nvmeConnectAdmin { okConnect with qid := 65536 },
      .nvmeConnectAdmin { okConnect with sqsize := 65536 }, .nvmeConnectAdmin { okConnect with kato := 2 ^ 32 },
      .nvmeConnectAdmin { okConnect with cntlid := 65536 }, .nvmeConnectAdmin { okConnect with hostNqn := [1, 0] },
      .nvmeConnectIo { okConnect with subNqn := List.replicate 224 1 }, .nvmeIdentify { acmd 0 0 0 with cid := 65536 },
      .nvmeIdentify { acmd 0 0 0 with nsid := 2 ^ 32 }, .nvmeRead { iocmd with cid := 65536 }, .nvmeRead { iocmd with nsid := 2 ^ 32 },
      .nvmeRead { iocmd with slba := 2 ^ 64 }, .nvmeRead { iocmd with nlb := 65536 }, .nvmeRead { iocmd with prinfo := 16 },
      .nvmeRead { iocmd with sgls := [⟨.keyed, 2 ^ 64, 0, 0⟩] }, .nvmeRead { iocmd with sgls := [⟨.keyed, 0, 2 ^ 32, 0⟩] },
      .nvmeRead { iocmd with sgls := [⟨.keyed, 0, 0, 2 ^ 32⟩] }, .nvmeDatasetManagement { iocmd with ranges := [(2 ^ 64, 0)] },
      .nvmeDatasetManagement { iocmd with ranges := [(0, 2 ^ 32)] }, .cellPoisoned (.engine 1048576), .cellPoisoned (.hbm [6442450944]),
      .cellPoisoned (.net 2 266496), .driveReady 1 0 true true (some ⟨16, 0, 0, []⟩) [], .driveReady 1 0 true true (some ⟨0, 3, 0, []⟩) [],
      .driveReady 1 0 true true (some ⟨0, 0, 24, []⟩) [], .peerHello (hello 16), .peerHello { hello 0 with slot := 2 },
      .peerHello { hello 0 with epoch := 2 ^ 32 }, .peerHello { hello 0 with image := 2 ^ 64 }, .peerHeartbeat { hb 0 with mode := 16 },
      .peerHeartbeat { hb 0 with bays := List.replicate 25 0 }, .peerHeartbeat { hb 0 with members := List.replicate 25 0 },
      .peerHeartbeat { hb 0 with commit := [65536] }, .peerHeartbeat { hb 0 with epoch := 2 ^ 32 }].all (fun i => !i.wf) = true := by
  decide +kernel

/-- The same for messages of the pair, measurements, sources and what a scan finds. -/
theorem test_wf_refuses_messages :
    [Instr.peerConfig 65536 [] [] none, .peerConfig 0 [(2, 0)] [] none, .peerConfig 0 [(0x4000000, 0)] [] none,
      .peerConfig 0 [] [.hostPut [] 4096 false false 0] none, .peerConfig 0 [] [.hostPut [] 0 false false 16] none,
      .peerConfig 0 [] [.hostDel [0]] none, .peerConfig 0 [] [.subNqn [0]] none, .peerConfig 0 [] [.nsPut 16384 (List.replicate 16 0) 0 0] none,
      .peerConfig 0 [] [.nsPut 0 [] 0 0] none, .peerConfig 0 [] [.nsPut 0 (List.replicate 16 0) 4096 0] none,
      .peerConfig 0 [] [.nsPut 0 (List.replicate 16 0) 0 2] none, .peerConfig 0 [] [.nsDel 16384] none, .peerConfig 0 [] [.nsMove 16384 0] none,
      .peerConfig 0 [] [.nsMove 0 4096] none, .peerWack (.mirror (2 ^ 64)), .peerWack (.own (2 ^ 64)), .peerKey (.load 4096 0 []),
      .peerKey (.install 0 16), .peerKey (.discard 4096 0), .peerKey (.zeroise 0 [16]), .fastTrip 0 { okSample with vin := 65536 },
      .fastTrip 0 { okSample with vsrc := 65536 }, .fastTrip 0 { okSample with i := 65536 }, .fastTrip 0 { okSample with tfet := 1024 },
      .bayStatus (.inband 4096), .bayStatus (.sideband 256 []), .bayStatus (.session (2 ^ 32)),
      .cuppingBrewStart 0 [⟨64, [], [], [], none, []⟩], .cuppingBrewStart 0 [⟨0, [24], [], [], none, []⟩], .cuppingBrewStart 0 [⟨0, [], [24], [], none, []⟩],
      .cuppingBrewStart 0 [⟨0, [], [], [24], none, []⟩], .cuppingBrewStart 0 [⟨0, [], [], [], some 24, []⟩],
      .cuppingBrewStart 0 [⟨0, [], [], [], none, [⟨3, true, 0, 0⟩]⟩],
      .journalReplay [⟨16, 0, false, 0, none, [], 0, none⟩] [] [] [], .journalReplay [⟨0, 8, false, 0, none, [], 0, none⟩] [] [] [],
      .journalReplay [⟨0, 0, false, 0, some 24, [], 0, none⟩] [] [] [], .journalReplay [⟨0, 0, false, 0, none, [(24, 0, 0, true)], 0, none⟩] [] [] [],
      .journalReplay [] [⟨16, 0, [], [], []⟩] [] [], .journalReplay [] [⟨0, 0, [(16384, 0)], [], []⟩] [] [],
      .journalReplay [] [⟨0, 0, [], [(0, none, 17)], []⟩] [] [], .journalReplay [] [] [⟨0, 2 ^ 32, 0, 0⟩] [], .journalReplay [] [] [⟨0, 0, 64, 0⟩] [],
      .journalReplay [] [] [] [(16, true)]].all (fun i => !i.wf) = true := by decide +kernel

/-- The same for the rows that bound an operand themselves. -/
theorem test_wf_refuses_rows :
    [Instr.imageLoaded (List.replicate 5 ⟨true, true, true⟩), .mirrorSyncComplete [(4096, [])], .ptpDelayResp 2 256 true 0 0, .ptpPdelayReq 2 256 true,
      .queueEntryAppend 2 false 0 16384 1 1 0 0 false, .queueEntryAppend 2 false 0 0 0 1 0 0 false, .queueEntryAppend 2 false 0 0 16385 1 0 0 false,
      .queueEntryAppend 2 false 0 0 1 0 0 0 false, .queueEntryAppend 2 false 0 0 1 257 0 0 false, .queueEntryAppend 2 false 0 0 1 1 (2 ^ 20) 0 false,
      .queueEntryAppend 2 false 0 0 1 1 0 4 false, .queueEntrySent (2 ^ 20) 0 false, .queueEntrySent 0 (2 ^ 32) false,
      .netPortDown 0 false false (2 ^ 32), .linkDown 24 (2 ^ 32), .carRead 0 (2 ^ 16), .carGather 0 (2 ^ 16)].all (fun i => !i.wf) = true := by
  decide +kernel

/-- The rest of them. -/
theorem test_wf_refuses_more_rows :
    [Instr.bpmMgtAlloc 0 (2 ^ 23) false false false, .carafeFault none [(2 ^ 64, 0)], .carafeFault none [(0, 2 ^ 32)], .rebuildBrewStart 0 [(64, 0)], .rebuildBrewStart 0 [(0, 24)],
      .repairBrewStart 0 false [24], .roceConnectRequest 2 (2 ^ 48) 0 0, .roceConnectRequest 2 0 4096 0, .roceConnectRequest 2 0 0 65536,
      .roceSendReceive 2 0 (2 ^ 48) 0, .ceMarkedReceive 2 0 0 4096,
      .cnpReceive 2 266496 0 0, .tcpSyn 2 (2 ^ 48) 0 1, .tcpSyn 2 0 4096 1, .tcpSyn 2 0 0 0, .egressFrameSelect 2 [(some 266496, 0)], .egressFrameSelect 2 [(none, 9217)],
      .mailboxDoorbell [(0x100000, [1])] 1, .bar0StagingWrite ⟨2, by decide⟩ 0 false, .persistentRegisterWrite ⟨2, by decide⟩ 0,
      .aerError .receiver false [0, 0, 0, 0, 0], .witnessState (2 ^ 32) none true, .takeoverServiceEntry [] [] [] [4096]].all (fun i => !i.wf) = true := by
  decide +kernel

/-- A record of more than 16,384 bytes (R297). -/
theorem test_wf_refuses_lengths : (Instr.tlsRecordEncrypt 0 (List.replicate 16385 0) 0).wf = false := by
  simp only [Instr.wf, List.length_replicate]
  rfl

/-! ### Worked examples of the spec -/

/-- R198: the three check values, and the row of the example after it. -/
theorem test_rs_coefficients : gfCoef 0 19 = 0x01 ∧ gfCoef 1 0 = 0xA6 ∧ gfCoef 1 1 = 0x46 := by decide +kernel

theorem test_rs_row : gfParity 1 0 [[0x05], [0x01]] = [0x04] ∧ gfParity 1 1 [[0x05], [0x01]] = [0x42] := by decide +kernel

/-- R201: the usable blocks and the stripes of the example catalogue shelf. -/
theorem test_group_size : usable false 7812500000 = 7812499744 ∧ 7812499744 / stripBlocks 2 = 488281234 := by decide +kernel

/-- R202: its journal area, and the units of its unit map (R232). -/
theorem test_journal_area : journalStripes 320 488281234 = 983 ∧ umapUnits 320 488281234 983 = 292 := by decide +kernel

/-- The group of that shelf: RS, d = 20, p = 4, strips of 16 blocks, 983 journal stripes, member at position k in bay k. -/
def shelfC : Ctl :=
  (List.range 24).foldl (fun (c : Ctl) k => c.setBayAt 0 k k)
    (rg [(F.GAL_GRP_CFG_layout 0, 2), (F.GAL_GRP_CFG_d 0, 20), (F.GAL_GRP_CFG_p 0, 4), (F.GAL_GRP_CFG_strip 0, 2), (F.GAL_GRP_JRN_value 0, 983),
      (F.GAL_NS_MAP2_group 1, 0), (F.GAL_NS_MAP0_e 1, 1000000)] Ctl.reset)

/-- R200, R201: where its namespace's LBA 1,234,567 lies. -/
theorem test_locate : shelfC.nsBlock 1 1234567 = 321234567 ∧ shelfC.stripeOf 0 321234567 = 1004841 ∧
    shelfC.locate 0 321234567 = (9, 16077719) ∧ (List.range 4).map (shelfC.parPos 0 1004841) = [5, 6, 7, 8] := by decide +kernel

/-- R108: the nine pieces of the 512-block write. -/
theorem test_write_pieces : pieces 512 1000 512 =
    [(1000, 24), (1024, 64), (1088, 64), (1152, 64), (1216, 64), (1280, 64), (1344, 64), (1408, 64), (1472, 40)] := by decide +kernel

/-- R117: the encoded step of the example. -/
theorem test_step_word :
    let x := stepOf [0x00000100, 0x0314141C, 0x06070000, 0xFFFF0000, 0x000007D0, 0, 0, 0x00010000]
    (x.eng, x.isel, x.op, x.next, x.b0t, x.b1t, x.failt) = (0, 0, 1, 3, 20, 20, 28) ∧ (x.b0s, x.b1s, x.b0m, x.b1m) = (6, 7, 0, 0) ∧
      (x.src, x.dst, x.aux, x.out) = (15, 15, 15, 15) ∧ x.arg0 = 2000 ∧ x.arg2 = 1 := by decide +kernel

/-- The example's DMA channel 258. -/
theorem test_dma_registers : Reg.DMA_CH_CTRL 258 = 0x40C080 := by decide +kernel

/-- R272: the descriptor of the example, in slot 15 of unit 4,096. -/
theorem test_tamp_descriptor :
    let d : List Byte := [0x48, 0x0F, 0x09, 0x10, 0x1E, 0x0F, 0xA1, 0x0F, 0x55, 0x5A, 0x5B, 0x5A, 0x31, 0x2A, 0x00, 0x00]
    descLens d = [3912, 4105, 3870, 4001] ∧ classify d 65551 = .compressed 4 := by decide +kernel

/-- The unit's usage in that example. -/
theorem test_tamp_usage : storedBlocks 15888 * 4096 + 16 = 16400 := by decide +kernel

/-- R450: TEL_RATE_0 of the example. -/
theorem test_tel_rate :
    telRate { Tel.reset with
      snap := some ⟨0, 2, 0, 0, 999999950, 0, 0, [], [(0, 912704118000)]⟩
      prev := some ⟨0, 1, 0, 0, 0, 0, 0, [], [(0, 731204118000)]⟩ } 0 = 181500009 := by
  decide +kernel

/-- R75: at tod 68,400 entry 38 is in use, which is bits [27:24] of TIM_TOD_4. -/
theorem test_tod_entry :
    let c := rg [(F.TIM_SYNC_STAT_unsync, 0)] Ctl.reset
    (((c.wr (Reg.TIM_TOD 4) 0x02000000).reach (68400 * 1000000000)).todSet, ((c.wr (Reg.TIM_TOD 4) 0x20000000).reach (68400 * 1000000000)).todSet) =
      (2, 0) := by decide +kernel

/-- R313, R314: the first refill of tenant 17's shaper after its change to 20,000 Mb/s. -/
theorem test_shaper_refill :
    (Shaper.refill ⟨true, 40000, 4194304, 1000000, 0⟩ ⟨true, 20000, 1048576, 1048576, 0⟩).tok = 1000160 ∧
      (Shaper.refill ⟨true, 40000, 4194304, 2600000, 0⟩ ⟨true, 20000, 1048576, 1048576, 0⟩).tok = 1048576 := by decide +kernel

/-! ### Witnesses of the obligations

Each theorem shows, for the obligation it names and clause by clause, a state and operands that meet the hypotheses together. -/

theorem witness_power_rows_complete_1 :
    (∃ (s : State), s.c.mode = .off) ∧
    (∃ (s : State), s.c.mode = .reset) ∧
    (∃ (s : State), s.c.mode ≠ .off) ∧
    (∃ (s : State), s.c.mode ≠ .off ∧ s.c.mode ≠ .reset ∧ s.c.power.stop = none) ∧
    (∃ (s : State) (ns : Nat), s.c.mode ≠ .off ∧ s.c.mode ≠ .reset ∧ 100 ≤ ns ∧ ns < 2000) ∧
    (∃ (s : State) (ns : Nat), s.c.mode ≠ .off ∧ s.c.mode ≠ .reset ∧ 100 ≤ ns ∧ ns < 2000) :=
  ⟨⟨st (md .off []), by decide +kernel⟩,
   ⟨st (md .reset []), by decide +kernel⟩,
   ⟨st (md .active []), by decide +kernel⟩,
   ⟨st (md .active []), by decide +kernel⟩,
   ⟨st (md .active []), 100, by decide +kernel⟩,
   ⟨st (md .active []), 1999, by decide +kernel⟩⟩

theorem witness_power_rows_complete_2 :
    (∃ (s : State), s.c.power.stop = some .pwrfail) ∧
    (∃ (s : State) (ns : Nat), 10000 ≤ ns ∧ s.c.mode ≠ .off ∧ s.c.mode ≠ .reset ∧ s.c.power.stop ≠ some .thermal) ∧
    (∃ (s : State), s.c.mode ≠ .off ∧ s.c.mode ≠ .reset ∧ s.c.power.stop = none) :=
  ⟨⟨st (pw { Power.reset with stop := some .pwrfail } (md .boot [])), by decide +kernel⟩,
   ⟨st (md .boot []), 10000, by decide +kernel⟩,
   ⟨st (md .standby []), by decide +kernel⟩⟩

theorem witness_start_up_rows_complete_1 :
    (∃ (s : State), s.c.mode = .boot ∧ s.c.flag F.GLB_START_STAT_image_ok = false ∧ s.c.power.stop = none) ∧
    (∃ (s : State), s.c.starting = true ∧ s.c.flag F.GLB_START_STAT_hbm_ok = false) ∧
    (∃ (s : State), s.c.starting = true ∧ s.c.power.scanned = false) ∧
    (∃ (s : State), s.c.mode = .boot ∧ s.c.starting = true ∧ s.c.pair.hello = none ∧ s.c.power.peerAbsent = false) ∧
    (∃ (s : State), s.c.mode = .boot ∧ s.c.starting = true ∧ s.c.flag F.GLB_START_STAT_hbm_ok = true ∧ s.c.power.scanned = true ∧ (s.c.pair.hello.isSome || s.c.power.peerAbsent) = true ∧ ((s.c.setMode .standby).setFlag F.GLB_MODE_STAT_busy false).startCase = .wait) ∧
    (∃ (s : State), s.c.mode = .boot ∧ s.c.starting = true ∧ s.c.flag F.GLB_START_STAT_hbm_ok = true ∧ s.c.power.scanned = true ∧ (s.c.pair.hello.isSome || s.c.power.peerAbsent) = true ∧ ((s.c.setMode .standby).setFlag F.GLB_MODE_STAT_busy false).startCase = .request) :=
  ⟨⟨st (md .boot []), by decide +kernel⟩,
   ⟨st (md .boot [(F.GLB_START_STAT_image_ok, 1)]), by decide +kernel⟩,
   ⟨st (md .boot [(F.GLB_START_STAT_image_ok, 1)]), by decide +kernel⟩,
   ⟨st (md .boot [(F.GLB_START_STAT_image_ok, 1)]), by decide +kernel⟩,
   ⟨st (pr { Pair.reset with hello := some (hello 4) } (pw { Power.reset with scanned := true, slotId := true } (md .boot [(F.GLB_START_STAT_image_ok, 1), (F.GLB_START_STAT_hbm_ok, 1), (F.PEER_CFG_en, 1), (F.PEER_STAT_link_up, 1)]))), by decide +kernel⟩,
   ⟨st (pw { Power.reset with scanned := true, peerAbsent := true } (md .boot [(F.GLB_START_STAT_image_ok, 1), (F.GLB_START_STAT_hbm_ok, 1)])), by decide +kernel⟩⟩

theorem witness_start_up_rows_complete_2 :
    (∃ (s : State), s.c.mode = .boot ∧ s.c.starting = true ∧ s.c.flag F.GLB_START_STAT_hbm_ok = true ∧ s.c.power.scanned = true ∧ (s.c.pair.hello.isSome || s.c.power.peerAbsent) = true ∧ ((s.c.setMode .standby).setFlag F.GLB_MODE_STAT_busy false).startCase = .join) ∧
    (∃ (s : State), s.c.lease = true ∧ s.c.mode = .standby ∧ s.c.pair.take = none ∧ s.c.flag F.GLB_START_STAT_members_ready = false ∧ s.c.halted = false) ∧
    (∃ (s : State) (bay : Fin 24), s.c.portRuns bay = true) ∧
    (∃ (s : State) (bay : Fin 24), s.c.portRuns bay = true) ∧
    (∃ (s : State) (bay : Fin 24) (cap : Nat) (meta16 : Bool) (meta0 : Bool) (label : Option DriveLabel) (states : List (Bool × Nat)) (c1 : Ctl), c1 = { s.c with rbd := { s.c.rbd with drives := Tab.put s.c.rbd.drives bay ⟨true, cap, meta16, meta0, label, states, 0⟩, resetAt := Tab.del s.c.rbd.resetAt bay } } ∧ s.c.portRuns bay = true ∧ Tab.at? s.c.rbd.ports bay = some true ∧ c1.posOfBay bay = none) ∧
    (∃ (s : State), s.c.lease = true ∧ s.c.mode = .standby ∧ s.c.flag F.GLB_START_STAT_members_ready = true ∧ s.c.flag F.GLB_START_STAT_replay_done = false) :=
  ⟨⟨st (pr { Pair.reset with hello := some (hello 5) } (pw { Power.reset with scanned := true } (md .boot [(F.GLB_START_STAT_image_ok, 1), (F.GLB_START_STAT_hbm_ok, 1), (F.PEER_CFG_en, 1), (F.PEER_STAT_link_up, 1)]))), by decide +kernel⟩,
   ⟨st (md .standby [(F.GLB_MODE_STAT_lease, 1)]), by decide +kernel⟩,
   ⟨st (md .test [(F.GLB_PD_STAT_pd_is_on, 0xFFFFF)]), 3, by decide +kernel⟩,
   ⟨st (md .test [(F.GLB_PD_STAT_pd_is_on, 0xFFFFF), (F.BAY_CH_STAT_state 3, Ch.on)]), 3, by decide +kernel⟩,
   ⟨st (rb { Rebuild.reset with ports := [(3, true)] } (md .test [(F.GLB_PD_STAT_pd_is_on, 0xFFFFF)])), 3, 1000, true, false, none, [], { md .test [(F.GLB_PD_STAT_pd_is_on, 0xFFFFF)] with rbd := { Rebuild.reset with ports := [(3, true)], drives := [(3, ⟨true, 1000, true, false, none, [], 0⟩)] } }, by decide +kernel⟩,
   ⟨st (md .standby [(F.GLB_MODE_STAT_lease, 1), (F.GLB_START_STAT_members_ready, 1)]), by decide +kernel⟩⟩

theorem witness_start_up_rows_complete_3 :
    (∃ (s : State), s.c.mode.netOk = true ∧ s.c.flag F.GLB_START_STAT_hbm_ok = true ∧ s.c.flag F.GLB_START_STAT_net_up = false ∧ s.c.halted = false) ∧
    (∃ (s : State), s.c.lease = true ∧ s.c.mode = .standby ∧ s.c.flag F.GLB_START_STAT_replay_done = true ∧ s.c.pair.take = none ∧ s.c.flag F.GLB_START_STAT_mirror_synced = false) ∧
    (∃ (s : State), s.c.lease = true ∧ s.c.mode = .standby ∧ s.c.pair.take = none ∧ s.c.halted = false ∧ s.c.flag F.GLB_START_STAT_members_ready = true ∧ s.c.flag F.GLB_START_STAT_replay_done = true ∧ s.c.flag F.GLB_START_STAT_net_up = true ∧ ((s.c.flag F.GLB_START_STAT_peer_found = false ∨ s.c.flag F.GLB_START_STAT_mirror_synced = true ∨ s.c.power.mirrorAbandoned = true))) ∧
    (∃ (s : State), s.c.starting = true ∧ s.c.power.scanned = false) ∧
    (∃ (s : State) (bay : Fin 24), s.c.portRuns bay = true ∧ Tab.at? s.c.rbd.ports bay ≠ some true) :=
  ⟨⟨st (md .standby [(F.GLB_START_STAT_hbm_ok, 1)]), by decide +kernel⟩,
   ⟨st (md .standby [(F.GLB_MODE_STAT_lease, 1), (F.GLB_START_STAT_replay_done, 1)]), by decide +kernel⟩,
   ⟨st (md .standby [(F.GLB_MODE_STAT_lease, 1), (F.GLB_START_STAT_members_ready, 1), (F.GLB_START_STAT_replay_done, 1), (F.GLB_START_STAT_net_up, 1)]), by decide +kernel⟩,
   ⟨st (md .boot [(F.GLB_START_STAT_image_ok, 1)]), by decide +kernel⟩,
   ⟨st (md .test [(F.GLB_PD_STAT_pd_is_on, 0xFFFFF)]), 3, by decide +kernel⟩⟩

theorem witness_thermal_rows_complete :
    (∃ (s : State) (sensor : Fin 24), s.c.sensorOn sensor = true) ∧
    (∃ (s : State) (sensor : Fin 24) (temp : Fin 1024), s.c.sensorOn sensor = true ∧ (s.c.tempRead sensor temp).flag F.GLB_THERM_CFG_throttle_en = true ∧ 580 ≤ (s.c.tempRead sensor temp).hottest.2) ∧
    (∃ (s : State) (sensor : Fin 24) (temp : Fin 1024), s.c.sensorOn sensor = true ∧ (s.c.tempRead sensor temp).flag F.GLB_THERM_STAT_throttle = true) ∧
    (∃ (s : State) (sensor : Fin 24) (temp : Fin 1024), s.c.sensorOn sensor = true ∧ 620 ≤ temp.val ∧ s.c.power.thermN = false) :=
  ⟨⟨st (md .active [(F.GLB_PD_STAT_pd_is_on, 1)]), 3, by decide +kernel⟩,
   ⟨st (md .active [(F.GLB_PD_STAT_pd_is_on, 1), (F.GLB_THERM_CFG_throttle_en, 1)]), 0, 580, by decide +kernel⟩,
   ⟨st (md .active [(F.GLB_PD_STAT_pd_is_on, 0xFFFFF), (F.GLB_THERM_STAT_throttle, 1)]), 23, 500, by decide +kernel⟩,
   ⟨st (md .active [(F.GLB_PD_STAT_pd_is_on, 1)]), 0, 620, by decide +kernel⟩⟩

theorem witness_mode_and_domain_rows_complete_1 :
    (∃ (s : State), s.c.power.stop = none ∧ s.c.bar0Open = true ∧ s.c.flag F.GLB_PD_STAT_busy = false) ∧
    (∃ (s : State), s.c.power.stop = none ∧ s.c.bar0Open = true ∧ s.c.flag F.GLB_PD_STAT_busy = true ∧ s.c.mode.pdOk = true) ∧
    (∃ (s : State) (d : Nat) (q : List (Nat × Bool)), s.c.power.stop = none ∧ s.c.mode ≠ .off ∧ s.c.mode ≠ .reset ∧ s.c.mode ≠ .boot ∧ s.c.power.pdQueue = (d, true) :: q) ∧
    (∃ (s : State) (d : Nat) (q : List (Nat × Bool)), s.c.power.stop = none ∧ s.c.mode ≠ .off ∧ s.c.mode ≠ .reset ∧ s.c.mode ≠ .boot ∧ s.c.power.pdQueue = (d, false) :: q ∧ s.c.bst.drain = [] ∧ s.c.power.drainEnd = none) ∧
    (∃ (s : State), s.c.power.drainEnd.isSome = true ∧ s.c.stackBFree = true) ∧
    (∃ (s : State) (x : Nat), s.c.power.drainEnd = some x ∧ s.c.stackBFree = false ∧ s.c.bitOf F.GLB_PD_CTRL_pd_on 7 = false) :=
  ⟨⟨st (md .active [(F.GLB_PD_STAT_busy, 0)]), by decide +kernel⟩,
   ⟨st (md .active [(F.GLB_PD_STAT_busy, 1)]), by decide +kernel⟩,
   ⟨st (pw { Power.reset with pdQueue := [(7, true)] } (md .active [])), 7, [], by decide +kernel⟩,
   ⟨st (pw { Power.reset with pdQueue := [(7, false)] } (md .active [])), 7, [], by decide +kernel⟩,
   ⟨st (pw { Power.reset with drainEnd := some 5 } (md .active [])), by decide +kernel⟩,
   ⟨st { pw { Power.reset with drainEnd := some 5 } (md .active [(F.GLB_PD_CTRL_pd_on, 0xFFF7F)]) with swc := { Switch.reset with bufs := [(stackBAddr, ⟨.owned, false, 1, 1⟩)] } }, 5, by decide +kernel⟩⟩

theorem witness_mode_and_domain_rows_complete_2 :
    (∃ (s : State) (x : Nat), s.c.power.drainEnd = some x ∧ s.c.stackBFree = false ∧ s.c.bitOf F.GLB_PD_CTRL_pd_on 7 = true ∧ s.c.mode = .idleLow ∧ s.c.get F.HCP_PS_STAT_eff_ps = 3) ∧
    (∃ (s : State), s.c.power.stop = none ∧ s.c.leaseOver = false ∧ s.c.flag F.GLB_MODE_STAT_busy = false ∧ ((s.c.mode = .active ∨ s.c.mode = .degraded))) ∧
    (∃ (s : State), s.c.power.stop = none ∧ s.c.leaseOver = false ∧ s.c.flag F.GLB_MODE_STAT_busy = false ∧ s.c.mode = .quiesced) ∧
    (∃ (s : State), s.c.power.stop = none ∧ s.c.mode ≠ .off ∧ s.c.mode ≠ .reset ∧ s.c.leaseOver = false ∧ s.c.flag F.GLB_MODE_STAT_busy = false) ∧
    (∃ (s : State), s.c.power.stop = none ∧ s.c.mode ≠ .off ∧ s.c.mode ≠ .reset ∧ s.c.leaseOver = false ∧ s.c.flag F.GLB_MODE_STAT_busy = false) ∧
    (∃ (s : State), s.c.power.stop = none ∧ s.c.mode = .standby ∧ s.c.leaseOver = false ∧ s.c.flag F.GLB_MODE_STAT_busy = false) :=
  ⟨⟨st { pw { Power.reset with drainEnd := some 5 } (md .idleLow [(F.HCP_PS_STAT_eff_ps, 3), (F.GLB_PD_CTRL_pd_on, 0xFFFFF)]) with swc := { Switch.reset with bufs := [(stackBAddr, ⟨.owned, false, 1, 1⟩)] } }, 5, by decide +kernel⟩,
   ⟨st (md .active [(F.GLB_MODE_STAT_busy, 0)]), by decide +kernel⟩,
   ⟨st (md .quiesced [(F.GLB_MODE_STAT_busy, 0)]), by decide +kernel⟩,
   ⟨st (md .active [(F.GLB_MODE_STAT_busy, 0)]), by decide +kernel⟩,
   ⟨st (md .active [(F.GLB_MODE_STAT_busy, 0)]), by decide +kernel⟩,
   ⟨st (md .standby [(F.GLB_MODE_STAT_busy, 0)]), by decide +kernel⟩⟩

theorem witness_mode_and_domain_rows_complete_3 :
    (∃ (s : State), s.c.power.stop = none ∧ s.c.mode ≠ .off ∧ s.c.mode ≠ .reset ∧ s.c.leaseOver = false) ∧
    (∃ (s : State), s.c.power.quiescing = true ∧ s.c.ioBrews = false ∧ s.c.halted = false) ∧
    (∃ (s : State) (x : Nat), s.c.power.drainEnd = some x ∧ s.c.stackBFree = false ∧ s.c.bitOf F.GLB_PD_CTRL_pd_on 7 = true ∧ ¬(s.c.mode = .idleLow ∧ s.c.get F.HCP_PS_STAT_eff_ps = 3)) ∧
    (∃ (s : State), s.c.power.stop = none ∧ s.c.leaseOver = false ∧ s.c.flag F.GLB_MODE_STAT_busy = false ∧ s.c.mode = .idleLow) ∧
    (∃ (s : State), s.c.power.stop = none ∧ s.c.mode ≠ .off ∧ s.c.mode ≠ .reset ∧ s.c.leaseOver = true) :=
  ⟨⟨st (md .standby []), by decide +kernel⟩,
   ⟨st (pw { Power.reset with quiescing := true } (md .active [])), by decide +kernel⟩,
   ⟨st { pw { Power.reset with drainEnd := some 5 } (md .active [(F.GLB_PD_CTRL_pd_on, 0xFFFFF)]) with swc := { Switch.reset with bufs := [(stackBAddr, ⟨.owned, false, 1, 1⟩)] } }, 5, by decide +kernel⟩,
   ⟨st (md .idleLow [(F.GLB_MODE_STAT_busy, 0)]), by decide +kernel⟩,
   ⟨st (pr { Pair.reset with witEnd := some 0 } (md .active [(F.GLB_MODE_STAT_lease, 1)])), by decide +kernel⟩⟩

theorem witness_time_rows_complete_1 :
    (∃ (s : State) (np : Fin 24) (domain : Nat) (ether : Bool) (identity : Nat) (logInt : Int) (dtNs : Nat), (s.c.pass dtNs).ptpFrom np domain ether identity = true ∧ -7 ≤ logInt ∧ logInt ≤ 1) ∧
    (∃ (s : State) (np : Fin 24) (domain : Nat) (ether : Bool) (identity : Nat) (logInt : Int) (dtNs : Nat), (s.c.pass dtNs).ptpFrom np domain ether identity = true ∧ -7 ≤ logInt ∧ logInt ≤ 1 ∧ s.c.get F.TIM_PTP_CFG_profile ≠ 2) ∧
    (∃ (s : State) (np : Fin 24) (domain : Nat) (ether : Bool) (identity : Nat) (logInt : Int) (dtNs : Nat), (s.c.pass dtNs).ptpFrom np domain ether identity = true ∧ -7 ≤ logInt ∧ logInt ≤ 1 ∧ s.c.get F.TIM_PTP_CFG_profile ≠ 2) ∧
    (∃ (s : State) (np : Fin 24) (domain : Nat) (ether : Bool) (identity : Nat) (seq : Nat) (corr0 : Int) (rx : Nat), s.c.time.wait = some ⟨np.val, seq, rx, corr0⟩ ∧ s.c.ptpFrom np domain ether identity = true) ∧
    (∃ (s : State) (np : Fin 24) (domain : Nat) (ether : Bool), s.c.ptpHears np domain ether = true ∧ Tab.at? s.c.time.announces np = none) ∧
    (∃ (s : State) (np : Fin 24) (domain : Nat) (ether : Bool) (t1 : Int) (t2 : Int) (t3 : Int), s.c.ptpHears np domain ether = true ∧ s.c.get F.TIM_PTP_CFG_profile ≠ 2 ∧ s.c.ptpPort = some np.val ∧ s.c.time.lastSync = some (t1, t2) ∧ s.c.time.delayReq = some t3) :=
  ⟨⟨st ptpC, 2, 0, false, 77, 0, 0, by decide +kernel⟩,
   ⟨st ptpC, 2, 0, false, 77, 1, 0, by decide +kernel⟩,
   ⟨st ptpC, 2, 0, false, 77, -7, 0, by decide +kernel⟩,
   ⟨st { ptpC with time := { ptpC.time with wait := some ⟨2, 9, 5, 0⟩ } }, 2, 0, false, 77, 9, 0, 5, by decide +kernel⟩,
   ⟨st { ptpC with time := Time.reset }, 2, 0, false, by decide +kernel⟩,
   ⟨st { ptpC with time := { ptpC.time with lastSync := some (1, 2), delayReq := some 3 } }, 2, 0, false, 1, 2, 3, by decide +kernel⟩⟩

theorem witness_time_rows_complete_2 :
    (∃ (s : State) (np : Fin 24) (domain : Nat) (ether : Bool), s.c.get F.TIM_PTP_CFG_profile = 2 ∧ s.c.ptpHears np domain ether = true) ∧
    (∃ (s : State), (s.c.sync = Sync.acquiring ∨ s.c.sync = Sync.locked)) ∧
    (∃ (s : State), s.c.sync = Sync.holdover ∧ s.c.ppsHolds = false) ∧
    (∃ (s : State) (limit : Fin 4096), s.c.bar0Open = true ∧ 1 ≤ limit.val ∧ limit.val ≤ 3600 ∧ s.c.sync ≠ Sync.holdover) ∧
    (∃ (s : State) (limit : Fin 4096), s.c.bar0Open = true ∧ 1 ≤ limit.val ∧ limit.val ≤ 3600 ∧ s.c.sync ≠ Sync.holdover) ∧
    (∃ (s : State) (dtNs : Nat), s.c.flag F.TIM_REF_CFG_pps_en = true ∧ (s.c.reach dtNs).lostCount.ppsPhase ≤ 65536000) :=
  ⟨⟨st (rg [(F.TIM_PTP_CFG_profile, 2)] ptpC), 2, 0, true, by decide +kernel⟩,
   ⟨st (md .active [(F.TIM_SYNC_STAT_state, Sync.locked)]), by decide +kernel⟩,
   ⟨st (md .active [(F.TIM_SYNC_STAT_state, Sync.holdover)]), by decide +kernel⟩,
   ⟨st (md .active []), 1, by decide +kernel⟩,
   ⟨st (md .active []), 3600, by decide +kernel⟩,
   ⟨st (tm { Time.reset with dnt := 65536000 } (md .active [(F.TIM_REF_CFG_pps_en, 1)])), 0, by decide +kernel⟩⟩

theorem witness_time_rows_complete_3 :
    (∃ (s : State) (dtNs : Nat), s.c.flag F.TIM_REF_CFG_pps_en = true ∧ 65536000 < (s.c.reach dtNs).lostCount.ppsPhase) ∧
    (∃ (s : State), s.c.dntDue 3 (s.c.todNext s.c.dntNs) = []) ∧
    (∃ (s : State) (e : Sched), schedFirst (s.c.scheds [2]) = some e ∧ s.c.committing = false ∧ (s.c.reachDnt e.time).unsync = false) :=
  ⟨⟨st (tm { Time.reset with dnt := 65536001 } (md .active [(F.TIM_REF_CFG_pps_en, 1)])), 0, by decide +kernel⟩,
   ⟨st ptpC, by decide +kernel⟩,
   ⟨st { Ctl.reset with mgt := { Mgmt.reset with txns := [(0, schedTx)] }, regs := (rg [(F.TIM_SYNC_STAT_unsync, 0)] Ctl.reset).regs }, .own 0 schedTx, rfl, by decide +kernel, by decide +kernel⟩⟩

theorem witness_admin_queue_rows_complete_1 :
    (∃ (s : State) (x : ConnectCmd) (h : HostEntry), s.c.ioOpen x.conn = true ∧ s.c.mode ≠ .activating ∧ s.c.connAssoc x.conn = none ∧ x.recfmt = 0 ∧ x.subNqn ≠ discoveryNqn ∧ x.subNqn = s.c.mgt.nqn ∧ x.qid = 0 ∧ x.cntlid = 0xFFFF ∧ x.sqsize = 31 ∧ 1000 ≤ x.kato ∧ x.kato ≤ 600000 ∧ s.c.hostAdmitted x.hostNqn ((s.c.conn? x.conn).any (·.tcp)) ((s.c.conn? x.conn).any (·.tls)) = some h) ∧
    (∃ (s : State) (x : ConnectCmd) (h : HostEntry), s.c.ioOpen x.conn = true ∧ s.c.mode ≠ .activating ∧ s.c.connAssoc x.conn = none ∧ x.recfmt = 0 ∧ x.subNqn ≠ discoveryNqn ∧ x.subNqn = s.c.mgt.nqn ∧ x.qid = 0 ∧ x.cntlid = 0xFFFF ∧ x.sqsize = 31 ∧ 1000 ≤ x.kato ∧ x.kato ≤ 600000 ∧ s.c.hostAdmitted x.hostNqn ((s.c.conn? x.conn).any (·.tcp)) ((s.c.conn? x.conn).any (·.tls)) = some h) ∧
    (∃ (s : State) (x : ConnectCmd) (k : Nat) (a : Assoc), s.c.ioOpen x.conn = true ∧ s.c.mode ≠ .activating ∧ s.c.connAssoc x.conn = none ∧ x.recfmt = 0 ∧ x.subNqn = s.c.mgt.nqn ∧ s.c.host.assocs.find? (fun p => s.c.cntlid p.1 == x.cntlid && !p.2.ending && !p.2.discovery && p.2.hostNqn == x.hostNqn) = some (k, a) ∧ 1 ≤ x.qid ∧ x.qid ≤ a.maxQid ∧ s.c.host.queues.any (fun q => q.2.assoc == k && q.2.qid == x.qid) = false ∧ 1 ≤ x.sqsize ∧ x.sqsize ≤ 4095 ∧ s.c.host.queues.length < 262144) ∧
    (∃ (s : State) (x : ConnectCmd) (k : Nat) (a : Assoc), s.c.ioOpen x.conn = true ∧ s.c.mode ≠ .activating ∧ s.c.connAssoc x.conn = none ∧ x.recfmt = 0 ∧ x.subNqn = s.c.mgt.nqn ∧ s.c.host.assocs.find? (fun p => s.c.cntlid p.1 == x.cntlid && !p.2.ending && !p.2.discovery && p.2.hostNqn == x.hostNqn) = some (k, a) ∧ 1 ≤ x.qid ∧ x.qid ≤ a.maxQid ∧ s.c.host.queues.any (fun q => q.2.assoc == k && q.2.qid == x.qid) = false ∧ 1 ≤ x.sqsize ∧ x.sqsize ≤ 4095 ∧ s.c.host.queues.length < 262144) ∧
    (∃ (s : State) (conn : Nat) (n : Conn), s.c.conn? conn = some n ∧ n.used = false) ∧
    (∃ (s : State) (x : AdminCmd) (k : Nat) (tag : Nat) (a : Assoc), AdminServed s.c (AdminOp.propertyGet.on x) k tag a ∧ x.cdw11 = 0x1C) :=
  ⟨⟨st netC, ccmd, ⟨[1], 5, false, true, 0⟩, by decide +kernel⟩,
   ⟨st netC, { ccmd with kato := 600000 }, ⟨[1], 5, false, true, 0⟩, by decide +kernel⟩,
   ⟨st { hostA assocA with host := { (hostA assocA).host with queues := [] } }, { ccmd with qid := 1, cntlid := 1, conn := 3, sqsize := 1 }, 0, assocA, by decide +kernel⟩,
   ⟨st (hostA assocA), { ccmd with qid := 1024, cntlid := 1, conn := 3, sqsize := 4095 }, 0, assocA, by decide +kernel⟩,
   ⟨st netC, 2, Ctl.reset.connFresh false 2 8 0 1024 1, by decide +kernel⟩,
   ⟨st (hostA assocA), acmd 0 0x1C 0, 0, 0, assocA, by decide +kernel⟩⟩

theorem witness_admin_queue_rows_complete_2 :
    (∃ (s : State) (x : AdminCmd) (k : Nat) (tag : Nat) (a : Assoc), AdminServed s.c (AdminOp.propertyGet.on x) k tag a ∧ x.cdw11 = 0x00) ∧
    (∃ (s : State) (x : AdminCmd) (k : Nat) (tag : Nat) (a : Assoc), AdminServed s.c (AdminOp.propertySet.on x) k tag a ∧ x.cdw11 = 0x14 ∧ ccEn a.cc = false ∧ ccEn x.cdw12 = true ∧ ccShn x.cdw12 = 0) ∧
    (∃ (s : State) (x : AdminCmd) (k : Nat) (tag : Nat) (a : Assoc), AdminServed s.c (AdminOp.propertySet.on x) k tag a ∧ x.cdw11 = 0x14 ∧ ccEn a.cc = true ∧ ccEn x.cdw12 = false) ∧
    (∃ (s : State) (x : AdminCmd) (k : Nat) (tag : Nat) (a : Assoc), AdminServed s.c (AdminOp.propertySet.on x) k tag a ∧ x.cdw11 = 0x14 ∧ ccEn a.cc = ccEn x.cdw12 ∧ ccShn x.cdw12 ≠ 0 ∧ a.shst = 0) ∧
    (∃ (s : State) (k : Fin 4096) (a : Assoc), s.c.assoc? k = some a ∧ a.shst = 1 ∧ a.ending = false ∧ s.c.halted = false ∧ s.c.shutdownBusy k = false) ∧
    (∃ (s : State) (k : Fin 4096) (a : Assoc), s.c.assoc? k = some a ∧ a.shst = 1 ∧ a.ending = false ∧ s.c.halted = false ∧ s.c.shutdownBusy k = true) :=
  ⟨⟨st (hostA assocA), acmd 0 0 0, 0, 0, assocA, by decide +kernel⟩,
   ⟨st (hostA assocA), acmd 0 0x14 1, 0, 0, assocA, by decide +kernel⟩,
   ⟨st (hostA { assocA with cc := 1 }), acmd 0 0x14 0, 0, 0, { assocA with cc := 1 }, by decide +kernel⟩,
   ⟨st (hostA { assocA with cc := 1 }), acmd 0 0x14 0x4001, 0, 0, { assocA with cc := 1 }, by decide +kernel⟩,
   ⟨st (hostA { assocA with shst := 1 }), 0, { assocA with shst := 1 }, by decide +kernel⟩,
   ⟨st { hostT .running with host := { (hostT .running).host with assocs := [(0, { assocA with shst := 1 })] } }, 0, { assocA with shst := 1 }, by decide +kernel⟩⟩

theorem witness_admin_queue_rows_complete_3 :
    (∃ (s : State) (conn : Nat) (cid : Nat) (tag : Nat) (q : HostQueue), s.c.ioOpen conn = true ∧ s.c.openQueue conn = some q ∧ s.c.fetchStopped = false ∧ s.c.mode ≠ .activating ∧ s.c.mustWait q.assoc conn = false ∧ s.c.freeTag = some tag ∧ s.c.cidUsed q.assoc q.qid cid = false ∧ q.ordered = false ∧ s.c.host.tags.any (fun p => p.2.state == .waiting || p.2.state == .aborted) = false) ∧
    (∃ (s : State) (x : AdminCmd) (k : Nat) (tag : Nat) (a : Assoc), AdminServed s.c (AdminOp.keepAlive.on x) k tag a) ∧
    (∃ (s : State) (k : Fin 4096) (a : Assoc), s.c.assoc? k = some a ∧ a.ending = false ∧ s.c.halted = false) ∧
    (∃ (s : State) (conn : Nat) (cid : Nat) (k : Nat) (tag : Nat) (a : Assoc), AdminServed s.c (AdminOp.invalid.plain conn cid) k tag a) ∧
    (∃ (s : State) (x : AdminCmd) (k : Nat) (tag : Nat) (n : Nat) (a : Assoc) (e : TagE), AdminServed s.c (AdminOp.abort.on x) k tag a ∧ getBits x.cdw10 15 0 ≠ 0 ∧ s.c.tagOf k (getBits x.cdw10 15 0) (getBits x.cdw10 31 16) = some (n, e) ∧ e.state = .completing) ∧
    (∃ (s : State) (x : AdminCmd) (k : Nat) (tag : Nat) (n : Nat) (a : Assoc) (e : TagE), AdminServed s.c (AdminOp.abort.on x) k tag a ∧ getBits x.cdw10 15 0 ≠ 0 ∧ s.c.tagOf k (getBits x.cdw10 15 0) (getBits x.cdw10 31 16) = some (n, e) ∧ ((e.state = .waiting ∨ e.state = .running))) :=
  ⟨⟨st (hostA assocA), 2, 3, 0, queueA, by decide +kernel⟩,
   ⟨st (hostA assocA), acmd 0 0 0, 0, 0, assocA, by decide +kernel⟩,
   ⟨st (hostA assocA), 0, assocA, by decide +kernel⟩,
   ⟨st (hostA assocA), 1, 3, 0, 0, assocA, by decide +kernel⟩,
   ⟨st (hostT .completing), acmd 0x90001 0 0, 0, 0, 4, assocA, tagA .completing, by decide +kernel⟩,
   ⟨st (hostT .waiting), acmd 0x90001 0 0, 0, 0, 4, assocA, tagA .waiting, by decide +kernel⟩⟩

theorem witness_admin_queue_rows_complete_4 :
    (∃ (s : State) (x : AdminCmd) (k : Nat) (tag : Nat) (n : Nat) (a : Assoc) (e : TagE), AdminServed s.c (AdminOp.abort.on x) k tag a ∧ getBits x.cdw10 15 0 ≠ 0 ∧ s.c.tagOf k (getBits x.cdw10 15 0) (getBits x.cdw10 31 16) = some (n, e) ∧ ((e.state = .waiting ∨ e.state = .running))) ∧
    (∃ (s : State) (x : ConnectCmd), s.c.ioOpen x.conn = true ∧ s.c.mode ≠ .activating ∧ s.c.connAssoc x.conn = none ∧ x.recfmt = 0 ∧ x.subNqn = discoveryNqn ∧ x.qid = 0 ∧ x.cntlid = 0xFFFF ∧ x.sqsize = 31 ∧ 1000 ≤ x.kato ∧ x.kato ≤ 600000) :=
  ⟨⟨st (hostT .running), acmd 0x90001 0 0, 0, 0, 4, assocA, tagA .running, by decide +kernel⟩,
   ⟨st netC, { ccmd with subNqn := discoveryNqn }, by decide +kernel⟩⟩

theorem witness_feature_rows_complete_1 :
    (∃ (s : State) (x : AdminCmd) (k : Nat) (tag : Nat) (a : Assoc), AdminServed s.c (AdminOp.getFeatures.on x) k tag a ∧ getBits x.cdw10 7 0 = 0x02 ∧ getBits x.cdw10 10 8 = 0) ∧
    (∃ (s : State) (x : AdminCmd) (k : Nat) (tag : Nat) (a : Assoc), AdminServed s.c (AdminOp.getFeatures.on x) k tag a ∧ getBits x.cdw10 7 0 = 0x04 ∧ getBits x.cdw10 10 8 = 0) ∧
    (∃ (s : State) (x : AdminCmd) (k : Nat) (tag : Nat) (a : Assoc), AdminServed s.c (AdminOp.setFeatures.on x) k tag a ∧ getBits x.cdw10 7 0 = 0x02 ∧ getBit x.cdw10 31 = false ∧ getBits x.cdw11 4 0 ≤ 3 ∧ getBits x.cdw11 31 8 = 0) ∧
    (∃ (s : State) (x : AdminCmd) (k : Nat) (tag : Nat) (a : Assoc), AdminServed s.c (AdminOp.setFeatures.on x) k tag a ∧ getBits x.cdw10 7 0 = 0x07 ∧ getBit x.cdw10 31 = false) ∧
    (∃ (s : State) (x : AdminCmd) (k : Nat) (tag : Nat) (a : Assoc), AdminServed s.c (AdminOp.setFeatures.on x) k tag a ∧ getBits x.cdw10 7 0 = 0x0B ∧ getBit x.cdw10 31 = false) ∧
    (∃ (s : State) (x : AdminCmd) (k : Nat) (tag : Nat) (a : Assoc), AdminServed s.c (AdminOp.setFeatures.on x) k tag a ∧ getBits x.cdw10 7 0 = 0x0C ∧ getBit x.cdw10 31 = false ∧ ((∀ e ∈ apstEntries x.data, e.1 ≤ 3)) ∧ getBits x.cdw11 31 1 = 0) :=
  ⟨⟨st (hostA assocA), acmd 0x02 0 0, 0, 0, assocA, by decide +kernel⟩,
   ⟨st (hostA assocA), acmd 0x04 0 0, 0, 0, assocA, by decide +kernel⟩,
   ⟨st (hostA assocA), acmd 0x02 3 0, 0, 0, assocA, by decide +kernel⟩,
   ⟨st (hostA assocA), acmd 0x07 0 0, 0, 0, assocA, by decide +kernel⟩,
   ⟨st (hostA assocA), acmd 0x0B 0 0, 0, 0, assocA, by decide +kernel⟩,
   ⟨st (hostA assocA), { acmd 0x0C 1 0 with data := List.replicate 256 0 }, 0, 0, assocA, by decide +kernel⟩⟩

theorem witness_feature_rows_complete_2 :
    (∃ (s : State) (x : AdminCmd) (k : Nat) (tag : Nat) (a : Assoc), AdminServed s.c (AdminOp.setFeatures.on x) k tag a ∧ getBits x.cdw10 7 0 = 0x0F ∧ getBit x.cdw10 31 = false ∧ 1000 ≤ x.cdw11.toNat ∧ x.cdw11.toNat ≤ 600000) ∧
    (∃ (s : State) (x : AdminCmd) (k : Nat) (tag : Nat) (a : Assoc), AdminServed s.c (AdminOp.setFeatures.on x) k tag a ∧ getBits x.cdw10 7 0 = 0x0F ∧ getBit x.cdw10 31 = false ∧ 1000 ≤ x.cdw11.toNat ∧ x.cdw11.toNat ≤ 600000) ∧
    (∃ (s : State) (x : AdminCmd) (k : Nat) (tag : Nat) (a : Assoc) (acre : Bool), AdminServed s.c (AdminOp.setFeatures.on x) k tag a ∧ getBits x.cdw10 7 0 = 0x16 ∧ getBit x.cdw10 31 = false ∧ x.data = BitVec.ofNat 8 (if acre then 1 else 0) :: List.replicate 511 0) ∧
    (∃ (s : State) (x : AdminCmd) (k : Nat) (tag : Nat) (a : Assoc) (acre : Bool), AdminServed s.c (AdminOp.setFeatures.on x) k tag a ∧ getBits x.cdw10 7 0 = 0x16 ∧ getBit x.cdw10 31 = false ∧ x.data = BitVec.ofNat 8 (if acre then 1 else 0) :: List.replicate 511 0) ∧
    (∃ (s : State) (x : AdminCmd) (k : Nat) (tag : Nat) (n : Nat) (a : Assoc) (q : HostQueue), AdminServed s.c (AdminOp.setFeatures.on x) k tag a ∧ getBits x.cdw10 7 0 = 0xD1 ∧ getBit x.cdw10 31 = false ∧ s.c.flag F.HCP_CFG_ordered_en = true ∧ getBits x.cdw11 31 17 = 0 ∧ s.c.queueBy k (getBits x.cdw11 15 0) = some (n, q) ∧ getBits x.cdw11 15 0 ≠ 0 ∧ s.c.host.tags.any (fun p => p.2.kind.host && p.2.assoc == k && p.2.qid == getBits x.cdw11 15 0) = false) ∧
    (∃ (s : State) (x : AdminCmd) (k : Nat) (tag : Nat) (a : Assoc), AdminServed s.c (AdminOp.setFeatures.on x) k tag a ∧ getBits x.cdw10 7 0 = 0xD3 ∧ getBit x.cdw10 31 = false ∧ s.c.nsAttached x.nsid a.tenant = true ∧ getBits x.cdw11 31 2 = 0 ∧ getBits x.cdw11 1 0 ≤ 2) :=
  ⟨⟨st (hostA assocA), acmd 0x0F 1000 0, 0, 0, assocA, by decide +kernel⟩,
   ⟨st (hostA assocA), acmd 0x0F 600000 0, 0, 0, assocA, by decide +kernel⟩,
   ⟨st (hostA assocA), { acmd 0x16 0 0 with data := 1 :: List.replicate 511 0 }, 0, 0, assocA, true, by decide +kernel⟩,
   ⟨st (hostA assocA), { acmd 0x16 0 0 with data := 0 :: List.replicate 511 0 }, 0, 0, assocA, false, by decide +kernel⟩,
   ⟨st (rg [(F.HCP_CFG_ordered_en, 1)] (hostA assocA)), acmd 0xD1 0x10001 0, 0, 0, 2, assocA, queueA, by decide +kernel⟩,
   ⟨st (hostA assocA), acmd 0xD3 2 0, 0, 0, assocA, by decide +kernel⟩⟩

theorem witness_feature_rows_complete_3 :
    ∃ (s : State) (x : AdminCmd) (k : Nat) (tag : Nat) (a : Assoc), AdminServed s.c (AdminOp.setFeatures.on x) k tag a ∧ ((getBits x.cdw10 7 0 = 0x04 ∨ getBits x.cdw10 7 0 = 0xD2)) ∧ getBit x.cdw10 31 = false :=
  ⟨st (hostA assocA), acmd 0xD2 0 0, 0, 0, assocA, by decide +kernel⟩

theorem witness_admin_service_rows_complete_1 :
    (∃ (s : State) (x : AdminCmd) (k : Nat) (tag : Nat) (a : Assoc), AdminServed s.c (AdminOp.asyncEvent.on x) k tag a ∧ a.aers.length < 8 ∧ a.events = []) ∧
    (∃ (s : State) (x : AdminCmd) (k : Nat) (tag : Nat) (a : Assoc) (e : AsyncEvent) (es : List AsyncEvent), AdminServed s.c (AdminOp.asyncEvent.on x) k tag a ∧ a.aers.length < 8 ∧ a.events = e :: es) ∧
    (∃ (s : State) (x : AdminCmd) (k : Nat) (tag : Nat) (a : Assoc), AdminServed s.c (AdminOp.identify.on x) k tag a ∧ getBits x.cdw10 7 0 = 0x01) ∧
    (∃ (s : State) (x : AdminCmd) (k : Nat) (tag : Nat) (a : Assoc), AdminServed s.c (AdminOp.identify.on x) k tag a ∧ getBits x.cdw10 7 0 = 0x02 ∧ x.nsid ≠ 0xFFFFFFFF) ∧
    (∃ (s : State) (x : AdminCmd) (k : Nat) (tag : Nat) (free : Nat) (a : Assoc) (p : Page), AdminServed s.c (AdminOp.getLogPage.on x) k tag a ∧ getBits x.cdw10 7 0 ≠ 0x70 ∧ (s.c.begun (AdminOp.getLogPage.on x) k tag a).logPage k (a.alive s.c.dt) x = .ok (p, free) ∧ x.cdw12 = 0 ∧ x.cdw13 = 0 ∧ getBit x.cdw10 15 = true ∧ 4 * (getBits x.cdw10 31 16 + 65536 * getBits x.cdw11 15 0 + 1) ≤ 2097152) ∧
    (∃ (s : State) (x : AdminCmd) (k : Nat) (tag : Nat) (a : Assoc) (c1 : Ctl), AdminServed s.c (AdminOp.fwDownload.on x) k tag a ∧ 4 * (x.cdw10.toNat + 1) ≤ 2097152 ∧ (4 * (x.cdw10.toNat + 1)) % 4096 = 0 ∧ (4 * x.cdw11.toNat) % 4096 = 0 ∧ 4 * x.cdw11.toNat + 4 * (x.cdw10.toNat + 1) ≤ 67108864 ∧ x.data.length = 4 * (x.cdw10.toNat + 1) ∧ (s.c.begun (AdminOp.fwDownload.on x) k tag a).stageImage (4 * x.cdw11.toNat) x.data = some c1) :=
  ⟨⟨st (hostA { assocA with aers := [0, 1, 2, 4, 5, 6, 7] }), acmd 0 0 0, 0, 0, { assocA with aers := [0, 1, 2, 4, 5, 6, 7] }, by decide +kernel⟩,
   ⟨st (hostA { assocA with events := [⟨1, 0, 2⟩] }), acmd 0 0 0, 0, 0, { assocA with events := [⟨1, 0, 2⟩] }, ⟨1, 0, 2⟩, [], by decide +kernel⟩,
   ⟨st (hostA assocA), acmd 1 0 0, 0, 0, assocA, by decide +kernel⟩,
   ⟨st (hostA assocA), acmd 2 0 0, 0, 0, assocA, by decide +kernel⟩,
   ⟨st (hostA assocA), acmd 0x8001 0 0, 0, 0, 0, assocA, pageErrors _, by decide +kernel, by decide +kernel, rfl, by decide +kernel, by decide +kernel, by decide +kernel⟩,
   ⟨st (hostA assocA), { acmd 0x3FF 0x400 0 with data := List.replicate 4096 0 }, 0, 0, assocA, ((begunFd.stageImage 4096 (List.replicate 4096 0)).get staged_ok), by decide +kernel, by decide, by decide, by decide, by decide, List.length_replicate, (Option.some_get staged_ok).symm⟩⟩

theorem witness_admin_service_rows_complete_2 :
    (∃ (s : State) (x : AdminCmd) (look : ImgLook) (k : Nat) (tag : Nat) (a : Assoc), AdminServed s.c ⟨.fwCommit, x, look⟩ k tag a ∧ (s.c.begun ⟨.fwCommit, x, look⟩ k tag a).nvFwRefusal (s.c.fsSlot (getBits x.cdw10 2 0)) (getBits x.cdw10 5 3) look = 0) ∧
    (∃ (s : State) (x : AdminCmd) (k : Nat) (tag : Nat) (a : Assoc), AdminServed s.c (AdminOp.selfTest.on x) k tag a ∧ ((getBits x.cdw10 3 0 = 1 ∨ getBits x.cdw10 3 0 = 2)) ∧ ((x.nsid = 0 ∨ x.nsid = 0xFFFFFFFF ∨ s.c.nsAttached x.nsid a.tenant = true)) ∧ s.c.host.test = none) ∧
    (∃ (s : State) (d : DevTest) (a : Assoc), s.c.halted = false ∧ s.c.mode ≠ .idleLow ∧ s.c.host.test = some d ∧ s.c.assoc? d.assoc = some a) ∧
    (∃ (s : State) (x : AdminCmd) (k : Nat) (tag : Nat) (a : Assoc), AdminServed s.c (AdminOp.chiebRequest.on x) k tag a ∧ s.c.flag F.HCP_CFG_inband_en = true ∧ s.c.inband a = true) ∧
    (∃ (s : State) (x : AdminCmd) (k : Nat) (tag : Nat) (a : Assoc) (bs : List Byte), AdminServed s.c (AdminOp.chiebReply.on x) k tag a ∧ s.c.flag F.HCP_CFG_inband_en = true ∧ s.c.inband a = true ∧ a.chieb = some bs) ∧
    (∃ (s : State) (k : Fin 4096) (a : Assoc), s.c.assoc? k = some a ∧ a.ending = false ∧ a.apstEn = true ∧ (a.apst.getD a.ps (0, 0)).2 ≠ 0 ∧ (a.apst.getD a.ps (0, 0)).1 ≠ a.ps ∧ s.c.halted = false ∧ s.c.mode ≠ .degraded ∧ s.c.host.tags.any (fun p => p.2.kind.io && p.2.assoc == k.val) = false) :=
  ⟨⟨st (rg [(F.FWU_KEYS_programmed, 1), (F.FWU_SLOT_key_idx 0, 0)] (hostA assocA)), acmd 0x11 0 0, ⟨true, true, true⟩, 0, 0, assocA, by decide +kernel⟩,
   ⟨st (hostA assocA), acmd 1 0 0, 0, 0, assocA, by decide +kernel⟩,
   ⟨st { hostA assocA with host := { (hostA assocA).host with test := some ⟨0, false, 1, []⟩ } }, ⟨0, false, 1, []⟩, assocA, by decide +kernel⟩,
   ⟨st (rg [(F.HCP_CFG_inband_en, 1)] (hostA assocA)), acmd 0 0 0, 0, 0, assocA, by decide +kernel⟩,
   ⟨st (rg [(F.HCP_CFG_inband_en, 1)] (hostA { assocA with chieb := some [1] })), acmd 0 0 0, 0, 0, { assocA with chieb := some [1] }, [1], by decide +kernel⟩,
   ⟨st (hostA { assocA with apstEn := true, apst := [(2, 100)] }), 0, { assocA with apstEn := true, apst := [(2, 100)] }, by decide +kernel⟩⟩

theorem witness_admin_service_rows_complete_3 :
    ∃ (s : State) (x : AdminCmd) (k : Nat) (tag : Nat) (a : Assoc), AdminServed s.c (AdminOp.getLogPage.on x) k tag a ∧ getBits x.cdw10 7 0 = 0x70 ∧ a.discovery = true ∧ x.cdw12 = 0 ∧ x.cdw13 = 0 ∧ getBit x.cdw10 15 = true ∧ 4 * (getBits x.cdw10 31 16 + 65536 * getBits x.cdw11 15 0 + 1) ≤ 2097152 :=
  ⟨st (hostA { assocA with discovery := true }), acmd 0x8070 0 0, 0, 0, { assocA with discovery := true }, by decide +kernel⟩

theorem witness_io_capsule_rows_complete :
    (∃ (s : State) (x : IoCmd) (q : HostQueue), s.c.ioOpen x.conn = true ∧ s.c.openQueue x.conn = some q ∧ s.c.cidUsed q.assoc q.qid x.cid = false ∧ s.c.fetchStopped = false ∧ s.c.mustWait q.assoc x.conn = false) ∧
    (∃ (s : State) (k : Nat) (j : Nat) (e : IntakeEntry), s.c.halted = false ∧ turnNext s.c.host.served ((s.c.host.intake.filter s.c.servable).map (fun e => e.conn)) = some k ∧ s.c.host.intake.findIdx? (fun e => e.conn == k) = some j ∧ s.c.host.intake[j]? = some e) ∧
    (∃ (s : State) (k : Nat) (j : Nat) (kind : TagKind) (x : IoCmd) (q : HostQueue), s.c.halted = false ∧ turnNext s.c.host.served ((s.c.host.intake.filter s.c.servable).map (fun e => e.conn)) = some k ∧ s.c.host.intake.findIdx? (fun e => e.conn == k) = some j ∧ s.c.host.intake[j]? = some ⟨k, .io kind x⟩ ∧ Tab.at? s.c.host.queues k = some q) :=
  ⟨⟨st (hostA assocA), iocmd, queueA, by decide +kernel⟩,
   ⟨st { hostA assocA with host := { (hostA assocA).host with intake := [⟨2, .io .read iocmd⟩] } }, 2, 0, ⟨2, .io .read iocmd⟩, by decide +kernel⟩,
   ⟨st { hostA assocA with host := { (hostA assocA).host with intake := [⟨2, .io .read iocmd⟩] } }, 2, 0, .read, iocmd, queueA, by decide +kernel⟩⟩

theorem witness_brew_rows_complete_1 :
    (∃ (s : State) (tag : Nat) (i : Issued), s.c.issuable tag Cls.evt 0x01 = some i ∧ s.c.abortedFresh tag i.brew = false ∧ s.c.stepIntact i.brew = true ∧ i.fault (s.c.pickInst tag i.brew i.step) false = none) ∧
    (∃ (s : State) (tag : Nat) (i : Issued), s.c.issuable tag Cls.evt 0x02 = some i ∧ s.c.abortedFresh tag i.brew = false ∧ s.c.stepIntact i.brew = true ∧ i.fault (s.c.pickInst tag i.brew i.step) false = none) ∧
    (∃ (s : State) (tag : Nat) (step : Nat) (b : Brew) (x : Nat), s.c.brew? tag = some b ∧ b.wait = some (some step, x)) ∧
    (∃ (s : State) (tag : Nat) (b : Brew) (x : Nat), s.c.brew? tag = some b ∧ b.wait = some (none, x)) ∧
    (∃ (s : State) (tag : Nat) (cls : Nat) (inst : Nat) (b : Brew), s.c.brew? tag = some b ∧ b.result = some (0, cls, inst) ∧ s.c.stepIntact b = true ∧ b.failing = false ∧ s.c.forcedOut tag b = false ∧ (s.c.brewStep b b.cur).last = false) ∧
    (∃ (s : State) (tag : Nat) (cls : Nat) (inst : Nat) (b : Brew), s.c.brew? tag = some b ∧ b.result = some (0, cls, inst) ∧ s.c.stepIntact b = true ∧ b.failing = false ∧ s.c.forcedOut tag b = false ∧ (s.c.brewStep b b.cur).last = true) :=
  ⟨⟨st (stepC Cls.evt 1), 0, iss Cls.evt 1, by decide +kernel⟩,
   ⟨st (stepC Cls.evt 2), 0, iss Cls.evt 2, by decide +kernel⟩,
   ⟨st (brewC Ctl.reset [] { brew0 with wait := some (some 2, 5) }), 0, 2, { brew0 with wait := some (some 2, 5) }, 5, by decide +kernel⟩,
   ⟨st (brewC Ctl.reset [] { brew0 with wait := some (none, 5) }), 0, { brew0 with wait := some (none, 5) }, 5, by decide +kernel⟩,
   ⟨st (brewC Ctl.reset (stepWs 3 1 0 0 0 0 0) { brew0 with result := some (0, 3, 0) }), 0, 3, 0, { brew0 with result := some (0, 3, 0) }, by decide +kernel⟩,
   ⟨st (brewC Ctl.reset (stepWs 3 1 0x40 0 0 0 0) { brew0 with result := some (0, 3, 0) }), 0, 3, 0, { brew0 with result := some (0, 3, 0) }, by decide +kernel⟩⟩

theorem witness_brew_rows_complete_2 :
    (∃ (s : State) (tag : Nat) (n : Nat) (b : Brew), s.c.brew? tag = some b ∧ (s.c.brewStep b b.cur).eng ≠ Cls.evt ∧ (s.c.issuable tag (s.c.brewStep b b.cur).eng (s.c.brewStep b b.cur).op).isSome = true ∧ s.c.abortedFresh tag b = false ∧ s.c.stepIntact b = true ∧ s.c.pickInst tag b (s.c.brewStep b b.cur) = some n ∧ (((s.c.laneIssue tag b.prio).tev .bst 0 (laneOf tag) none (s.c.ctxOf tag) 1).pass 100000 |>.engineOff (s.c.brewStep b b.cur).eng n |>.engineDrained (s.c.brewStep b b.cur).eng n).movable (s.c.brewStep b b.cur) = false) ∧
    (∃ (s : State) (tag : Nat) (n : Nat) (b : Brew), s.c.brew? tag = some b ∧ (s.c.brewStep b b.cur).eng ≠ Cls.evt ∧ (s.c.issuable tag (s.c.brewStep b b.cur).eng (s.c.brewStep b b.cur).op).isSome = true ∧ s.c.abortedFresh tag b = false ∧ s.c.stepIntact b = true ∧ s.c.pickInst tag b (s.c.brewStep b b.cur) = some n ∧ (((s.c.laneIssue tag b.prio).tev .bst 0 (laneOf tag) none (s.c.ctxOf tag) 1).pass 100000 |>.engineOff (s.c.brewStep b b.cur).eng n |>.engineDrained (s.c.brewStep b b.cur).eng n).movable (s.c.brewStep b b.cur) = true) ∧
    (∃ (s : State) (tag : Nat) (step : Nat) (b : Brew) (k : Token), s.c.brew? tag = some b ∧ ownArrival (s.c.brewStep b step) = false ∧ b.tokens.find? (fun t => t.step == step && !t.arrived) = some k ∧ s.c.moveChan tag k.id = none ∧ k.io = none ∧ k.fate = none) ∧
    (∃ (s : State) (tag : Nat) (i : Issued) (n : Nat), StepAccepted s.c tag Cls.hcp 0x01 false i n ∧ i.step.arg2 = 0xFFFF) ∧
    (∀ p ∈ [(Cls.hcp, 2), (Cls.bpm, 1), (Cls.bpm, 2), (Cls.bpm, 3), (Cls.dma, 1), (Cls.dma, 2)], StepAccepted (st (stepC p.1 p.2)).c 0 p.1 p.2 false (iss p.1 p.2) 0) :=
  ⟨⟨st (brewC (hostA assocA) (stepWs Cls.dqe 1 0 0 0 0 0) brew0), 0, 0, brew0, by decide +kernel⟩,
   ⟨st (stepC Cls.crc 1), 0, 0, brew0, by decide +kernel⟩,
   ⟨st (brewC Ctl.reset (stepWs Cls.dqe 1 0x20 0 0 0 0) { brew0 with tokens := [⟨0, 0, none, false, [], none⟩] }), 0, 0, { brew0 with tokens := [⟨0, 0, none, false, [], none⟩] }, ⟨0, 0, none, false, [], none⟩, by decide +kernel⟩,
   ⟨st (brewC (hostA assocA) (stepWs Cls.hcp 1 0 0 0 0 0xFFFF) brew0), 0, issued (brewC (hostA assocA) (stepWs Cls.hcp 1 0 0 0 0 0xFFFF) brew0) Cls.hcp 1, 0, by decide +kernel⟩,
   by decide +kernel⟩

theorem witness_data_step_rows_complete :
    (∃ (s : State) (tag : Nat) (i : Issued) (n : Nat), StepAccepted s.c tag Cls.bpm 0x0F true i n ∧ i.brew.tokens.all (fun t => t.arrived) = true) ∧
    (∃ (s : State) (tag : Nat) (i : Issued) (n : Nat), StepAccepted s.c tag Cls.dma 0x10 false i n ∧ i.step.tok = true) ∧
    (∃ (s : State) (tag : Nat) (n : Nat) (i : Issued), Tab.at? s.c.car.works tag = none ∧ s.c.issuable tag Cls.dqe 0x01 = some i ∧ s.c.abortedFresh tag i.brew = false ∧ s.c.stepIntact i.brew = true ∧ s.c.dqeInst tag false i = some n ∧ i.brew.poisoned i.step = false ∧ (i.step.tok && decide (4 ≤ i.brew.tokens.length)) = false) ∧
    (∃ (s : State) (tag : Nat) (n : Nat) (i : Issued), Tab.at? s.c.car.works tag = none ∧ s.c.issuable tag Cls.dqe 0x02 = some i ∧ s.c.abortedFresh tag i.brew = false ∧ s.c.stepIntact i.brew = true ∧ s.c.dqeInst tag true i = some n ∧ i.brew.poisoned i.step = false ∧ (i.step.tok && decide (4 ≤ i.brew.tokens.length)) = false) ∧
    (∀ p ∈ [(Cls.cip, 1), (Cls.cip, 2), (Cls.tmpd, 1), (Cls.gal, 1), (Cls.gal, 2), (Cls.gal, 3), (Cls.crc, 1), (Cls.crc, 2)], StepAccepted (st (stepC p.1 p.2)).c 0 p.1 p.2 false (iss p.1 p.2) 0) ∧
    (∃ (s : State) (tag : Nat) (segs : Option (List (List Byte))) (i : Issued) (n : Nat), StepAccepted s.c tag Cls.tmpc 0x01 false i n ∧ encodeFits tag segs s.mem s.c i = true) :=
  ⟨⟨st (stepC Cls.bpm 0xF), 0, iss Cls.bpm 0xF, 0, by decide +kernel⟩,
   ⟨st (brewC (hostA assocA) (stepWs Cls.dma 0x10 0x20 0 0 0 0) brew0), 0, issued (brewC (hostA assocA) (stepWs Cls.dma 0x10 0x20 0 0 0 0) brew0) Cls.dma 0x10, 0, by decide +kernel⟩,
   ⟨st (stepC Cls.dqe 1), 0, 0, iss Cls.dqe 1, by decide +kernel⟩,
   ⟨st (stepC Cls.dqe 2), 0, 0, iss Cls.dqe 2, by decide +kernel⟩,
   by decide +kernel,
   ⟨st (stepC Cls.tmpc 1), 0, none, iss Cls.tmpc 1, 0, by decide +kernel⟩⟩

theorem witness_path_step_rows_complete_1 :
    (∃ (s : State) (tag : Nat) (i : Issued) (n : Nat) (gi : Nat) (x : Option Nat) (r : LookupRec), StepAccepted s.c tag Cls.crm 0x01 false i n ∧ (s.c.stepIssued tag i).stepGrain tag { i with inst := n } = some (r, gi, x) ∧ (s.c.stepIssued tag i).recGrains r ≤ 4 ∧ ((s.c.stepIssued tag i).crmVerdict r.nsid gi).1 = true) ∧
    (∀ p ∈ [(Cls.crm, 2), (Cls.crm, 3), (Cls.xpt, 1), (Cls.xpt, 2), (Cls.car, 4), (Cls.car, 5), (Cls.car, 8), (Cls.peer, 1), (Cls.peer, 2), (Cls.swc, 1)], StepAccepted (st (stepC p.1 p.2)).c 0 p.1 p.2 false (iss p.1 p.2) 0) ∧
    (∃ (s : State) (tag : Nat) (k : Nat) (n : Nat) (i : Issued) (e : CrmEntry) (b : BrewSlot) (c1 : Ctl), StepAccepted s.c tag Cls.crm 0x04 false i n ∧ (s.c.stepIssued tag i).fillOf tag = some (k, e) ∧ i.brew.slot? i.step.src = some b ∧ (s.c.stepIssued tag i).bufDo b.ptr (.ref 1) crmReq false = (.done, c1)) ∧
    (∃ (s : State) (tag : Nat) (n : Nat) (i : Issued) (r : LookupRec), StepAccepted s.c tag Cls.crm 0x05 false i n ∧ (s.c.stepIssued tag i).rec? tag = some r ∧ i.step.arg1 / 2 ^ 31 % 2 = 0) ∧
    (∃ (s : State) (tag : Nat) (n : Nat) (i : Issued), StepAccepted s.c tag Cls.car 0x01 false i n ∧ reserveHold tag s.mem s.c i = false) ∧
    (∃ (s : State) (tag : Nat) (n : Nat) (i : Issued), StepAccepted s.c tag Cls.car 0x02 false i n ∧ s.c.indexFull (s.c.unlanded tag) = false) :=
  ⟨⟨st admC, 0, iss Cls.crm 1, 0, 0, none, ⟨1, 0, 0, [], none⟩, by decide +kernel, by decide +kernel, by decide +kernel, adm_ok⟩,
   by decide +kernel,
   ⟨st fillC, 0, 8, 0, issued fillC Cls.crm 4, fillE, ⟨0, true, false⟩, ((fillC.stepIssued 0 (issued fillC Cls.crm 4)).bufDo 0 (.ref 1) crmReq false).2, by decide +kernel, by decide +kernel, by decide +kernel, Prod.ext (by decide +kernel) rfl⟩,
   ⟨st (recC (stepC Cls.crm 5)), 0, 0, iss Cls.crm 5, ⟨1, 0, 0, [], none⟩, by decide +kernel⟩,
   ⟨st (stepC Cls.car 1), 0, 0, iss Cls.car 1, by decide +kernel⟩,
   ⟨st (stepC Cls.car 2), 0, 0, iss Cls.car 2, by decide +kernel⟩⟩

theorem witness_path_step_rows_complete_2 :
    (∃ (s : State) (tag : Nat) (n : Nat) (i : Issued), StepAccepted s.c tag Cls.car 0x03 false i n ∧ s.c.car.failed = false ∧ (s.c.ownRecs tag).isEmpty = false) ∧
    (∃ (s : State) (seq : Nat) (r : JRec), s.c.recBy seq = some r ∧ r.landed = true ∧ r.owner = none) ∧
    (∃ (s : State) (tag : Nat) (n : Nat) (i : Issued) (w : FlushWork), StepAccepted s.c tag Cls.car 0x06 false i n ∧ s.c.workOf tag i = some w ∧ s.c.ringUsed + 70 * s.c.grpDS w.group + 64 ≤ ringLines) ∧
    (∃ (s : State) (tag : Nat) (n : Nat) (i : Issued) (w : FlushWork), StepAccepted s.c tag Cls.car 0x07 false i n ∧ Tab.at? s.c.car.works tag = some w ∧ w.intent.isSome = true) :=
  ⟨⟨st { stepC Cls.car 3 with car := { Journal.reset with recs := [jrec 1 true] } }, 0, 0, iss Cls.car 3, by decide +kernel⟩,
   ⟨st { Ctl.reset with car := { Journal.reset with recs := [{ jrec 1 true with owner := none }] } }, 1, { jrec 1 true with owner := none }, by decide +kernel⟩,
   ⟨st { stepC Cls.car 6 with car := { Journal.reset with works := [(0, workA)] } }, 0, 0, iss Cls.car 6, workA, by decide +kernel⟩,
   ⟨st { stepC Cls.car 7 with car := { Journal.reset with works := [(0, workA)], failed := true } }, 0, 0, iss Cls.car 7, workA, by decide +kernel⟩⟩

theorem witness_barista_management_rows_complete :
    (∃ (s : State), s.c.stepInstalled (s.c.get F.BST_LOAD_ADDR_addr) = false ∧ s.c.bst.loadIdx < 7) ∧
    (∃ (s : State) (rcp : Nat) (last : Nat), s.c.loadCheck rcp (s.c.get F.BST_LOAD_BASE_base) last true = none) ∧
    (∃ (s : State), s.c.bar0Open = true) ∧
    (∃ (s : State) (cls : Nat) (inst : Nat), s.c.bar0Open = true ∧ engineControlled cls inst = true ∧ s.c.engineOn cls inst = true) ∧
    (∃ (s : State) (cls : Nat) (inst : Nat), s.c.bst.drain.contains (engineKey cls inst) = true ∧ s.c.bst.reEn.contains (engineKey cls inst) = false) ∧
    (∃ (s : State) (cls : Nat) (inst : Nat), s.c.bar0Open = true ∧ engineControlled cls inst = true ∧ s.c.bitOf F.GLB_PD_STAT_pd_is_on (engineDomain cls inst) = true ∧ s.c.bst.drain.contains (engineKey cls inst) = false) :=
  ⟨⟨st (md .active []), by decide +kernel⟩,
   ⟨st { md .test [] with bst := { Barista.reset with steps := [(0, stepWs Cls.bpm 0xF 0xC0 0 0 0 0)] } }, 5, 0, by decide +kernel⟩,
   ⟨st (md .active []), by decide +kernel⟩,
   ⟨st (md .active []), Cls.cip, 0, by decide +kernel⟩,
   ⟨st { md .active [] with bst := { Barista.reset with drain := [engineKey Cls.cip 0] } }, Cls.cip, 0, by decide +kernel⟩,
   ⟨st (md .active [(F.GLB_PD_STAT_pd_is_on, 0xFFFFF)]), Cls.cip, 0, by decide +kernel⟩⟩

theorem witness_dma_control_rows_complete_1 :
    (∃ (s : State) (ch : Fin 272), s.c.bar0Open = true ∧ 192 ≤ ch.val ∧ s.c.chState ch = 0) ∧
    (∃ (s : State) (ch : Fin 272), s.c.bar0Open = true ∧ ((s.c.chState ch = 1 ∨ s.c.chState ch = 2))) ∧
    (∃ (s : State) (ch : Fin 272), s.c.bar0Open = true ∧ ((s.c.chState ch = 1 ∨ s.c.chState ch = 2))) ∧
    (∃ (s : State) (ch : Fin 272), s.c.bar0Open = true ∧ s.c.chState ch = 4) ∧
    (∃ (s : State), s.c.bar0Open = true) ∧
    (∃ (s : State), s.c.bar0Open = true) :=
  ⟨⟨st (md .active []), 192, by decide +kernel⟩,
   ⟨st (md .active [(F.DMA_CH_STAT_state 0, 1)]), 0, by decide +kernel⟩,
   ⟨st (md .active [(F.DMA_CH_STAT_state 271, 2)]), 271, by decide +kernel⟩,
   ⟨st (md .active [(F.DMA_CH_STAT_state 3, 4)]), 3, by decide +kernel⟩,
   ⟨st (md .active []), by decide +kernel⟩,
   ⟨st (md .active []), by decide +kernel⟩⟩

theorem witness_dma_control_rows_complete_2 :
    (∃ (s : State) (v : Word), s.c.bar0Open = true ∧ getBits v 7 0 ≠ 0) ∧
    (∃ (s : State) (ch : Fin 272), s.c.chState ch = 3 ∧ s.c.chBusy ch = false ∧ (s.c.chan ch).flight = [] ∧ (s.c.chan ch).brew = none ∧ (dmaFetchOk ch (s.c.chan ch).pc && insOwn (wordAt (dmaFetch (s.c.memView s.mem) (s.c.chan ch).pc) 0)) = false) :=
  ⟨⟨st (md .active []), 1, by decide +kernel⟩,
   ⟨st (md .active [(F.DMA_CH_STAT_state 200, 3)]), 200, by decide +kernel⟩⟩

theorem witness_dma_program_rows_complete_1 :
    (∃ (s : State) (ch : Fin 272) (ws : List Word), InsReady s.mem s.c ch 1 ws) ∧
    (∃ (s : State) (ch : Fin 272) (ws : List Word), InsReady s.mem s.c ch 2 ws) ∧
    (∃ (s : State) (ch : Fin 272) (ws : List Word), InsReady s.mem s.c ch 3 ws ∧ getBit (wordAt ws 1) 16 = false ∧ (s.c.chan ch).ctr0 = some 1 ∧ getBits (wordAt ws 1) 15 0 ≠ 0 ∧ getBits (wordAt ws 2) 7 0 ≠ 0) ∧
    (∃ (s : State) (ch : Fin 272) (ws : List Word), InsReady s.mem s.c ch 4 ws ∧ getBits (wordAt ws 1) 7 0 < 64 ∧ s.c.waitMet (getBits (wordAt ws 1) 7 0) (getBits (wordAt ws 1) 23 8) 0 = false ∧ (wordAt ws 2) = 0) ∧
    (∃ (s : State) (ch : Fin 272) (ev : Nat) (count : Nat) (k : Nat) (u : Option Nat), s.c.chState ch = 2 ∧ s.c.halted = false ∧ (s.c.chan ch).wait = some (ev, count, k, u) ∧ s.c.waitMet ev count k = true) ∧
    (∃ (s : State) (ch : Fin 272) (ev : Nat) (count : Nat) (k : Nat) (u : Nat), s.c.chState ch = 2 ∧ s.c.halted = false ∧ (s.c.chan ch).wait = some (ev, count, k, some u) ∧ s.c.waitMet ev count k = false) :=
  ⟨⟨stm (memW .hbm 0 (insW 1 0 0)) (dmaC 200 DmaChan.idle), 200, insW 1 0 0, by decide +kernel⟩,
   ⟨stm (memW .hbm 0 (insW 2 0 0)) (dmaC 200 DmaChan.idle), 200, insW 2 0 0, by decide +kernel⟩,
   ⟨stm (memW .hbm 0 (insW 3 1 1)) (dmaC 200 { DmaChan.idle with ctr0 := some 1 }), 200, insW 3 1 1, by decide +kernel⟩,
   ⟨stm (memW .hbm 0 (insW 4 0x100 0)) (dmaC 200 DmaChan.idle), 200, insW 4 0x100 0, by decide +kernel⟩,
   ⟨st (waitC 2), 200, 64, 2, 2, some 7, by decide +kernel⟩,
   ⟨st (waitC 1), 200, 64, 2, 1, 7, by decide +kernel⟩⟩

theorem witness_dma_program_rows_complete_2 :
    (∃ (s : State) (ch : Fin 272) (ws : List Word), InsReady s.mem s.c ch 5 ws ∧ getBits (wordAt ws 1) 7 0 < 64) ∧
    (∃ (s : State) (ch : Fin 272) (ws : List Word), InsReady s.mem s.c ch 6 ws) ∧
    (∃ (s : State) (ch : Fin 272) (ws : List Word), InsReady s.mem s.c ch 7 ws ∧ getBit (wordAt ws 1) 0 = false) ∧
    (∃ (s : State) (ch : Fin 272), ((s.c.chState ch = 1 ∨ s.c.chState ch = 2)) ∧ s.c.halted = false) :=
  ⟨⟨stm (memW .hbm 0 (insW 5 63 0)) (dmaC 200 DmaChan.idle), 200, insW 5 63 0, by decide +kernel⟩,
   ⟨stm (memW .hbm 0 (insW 6 0 0)) (dmaC 200 DmaChan.idle), 200, insW 6 0 0, by decide +kernel⟩,
   ⟨stm (memW .hbm 0 (insW 7 0 0)) (dmaC 200 DmaChan.idle), 200, insW 7 0 0, by decide +kernel⟩,
   ⟨st (md .active [(F.DMA_CH_STAT_state 0, 1)]), 0, by decide +kernel⟩⟩

theorem witness_switch_and_buffer_rows_complete_1 :
    (∃ (s : State) (np : Fin 24) (pull : Bool) (ptr : Word) (cell0 : Nat) (cells : Nat) (last : Nat) (flow : Nat) (sp : Nat) (ue : Bool) (c1 : Ctl) (e : QEntry), s.c.xptEntry np.val pull ptr cell0 cells last flow sp = e ∧ ((∀ l, e.link = some l → s.c.linkExpired l = false)) ∧ s.c.qeUsed < qeTotal ∧ s.c.bufDo ptr (.ref 1) (swReq (s.c.linkPort np.val flow)) ue = (.done, c1)) ∧
    (∃ (s : State) (entry : Nat) (e : QEntry), Tab.at? s.c.swc.entries entry = some e ∧ s.c.swRuns = true ∧ s.c.qeEligible entry e = true) ∧
    (∃ (s : State) (link : Fin 49) (cells : Nat) (c1 : Ctl), 24 ≤ link.val ∧ link.val < 48 ∧ s.c.awake = true ∧ (s.c.cellsTill link cells).2 = c1 ∧ Tab.at? c1.rbd.ports (link.val - 24) = some true) ∧
    (∃ (s : State) (link : Fin 49) (cells : Nat) (c1 : Ctl), 24 ≤ link.val ∧ link.val < 48 ∧ s.c.awake = true ∧ (s.c.cellsTill link cells).2 = c1 ∧ Tab.at? c1.rbd.ports (link.val - 24) = some true) ∧
    (∃ (s : State) (link : Fin 49), 24 ≤ link.val ∧ link.val < 48 ∧ s.c.awake = true ∧ Tab.has s.c.rbd.downAt (link.val - 24) = true) ∧
    (∃ (s : State) (link : Fin 49) (x : Nat), Tab.at? s.c.swc.holds link.val = some x ∧ s.c.flag (F.SWC_LINK_STAT_holding link) = true) :=
  ⟨⟨st poolC, 23, false, 0, 0, 1, 0, 0, 0, false, (poolC.bufDo 0 (.ref 1) (swReq (poolC.linkPort 23 0)) false).2, poolC.xptEntry 23 false 0 0 1 0 0 0, rfl, by decide +kernel, by decide +kernel, Prod.ext (by decide +kernel) rfl⟩,
   ⟨st qeC, 0, qe, by decide +kernel⟩,
   ⟨st { md .active [] with rbd := { Rebuild.reset with ports := [(0, true)] } }, 24, 0, { md .active [] with rbd := { Rebuild.reset with ports := [(0, true)] } }, by decide, by decide, by decide +kernel, rfl, by decide +kernel⟩,
   ⟨st { md .active [] with rbd := { Rebuild.reset with ports := [(23, true)] } }, 47, 0, { md .active [] with rbd := { Rebuild.reset with ports := [(23, true)] } }, by decide, by decide, by decide +kernel, rfl, by decide +kernel⟩,
   ⟨st { md .active [] with rbd := { Rebuild.reset with downAt := [(0, 5)] } }, 24, by decide +kernel⟩,
   ⟨st { md .active [(F.SWC_LINK_STAT_holding 48, 1)] with swc := { Switch.reset with holds := [(48, 9)] } }, 48, 9, by decide +kernel⟩⟩

theorem witness_switch_and_buffer_rows_complete_2 :
    (∃ (s : State) (core : Fin 2) (size : Nat) (noFallback : Bool) (ue : Bool) (race : Bool) (w : Word) (c1 : Ctl), 1 ≤ size ∧ size ≤ 4194304 ∧ s.c.alloc size noFallback (coreReq core.val) ue race = (some w, c1)) ∧
    (∃ (s : State) (core : Fin 2) (ue : Bool), s.c.bufCheck (s.c.rd Reg.BPM_MGT_PTR) (.ref 1) (coreReq core.val) ue = none ∧ (s.c.bufAt (ptrAddr (s.c.rd Reg.BPM_MGT_PTR))).refs < 65535) ∧
    (∃ (s : State) (core : Fin 2) (ue : Bool), s.c.bufCheck (s.c.rd Reg.BPM_MGT_PTR) .deref (coreReq core.val) ue = none) ∧
    (∃ (s : State) (core : Fin 2) (ue : Bool), s.c.bufCheck (s.c.rd Reg.BPM_MGT_PTR) .free (coreReq core.val) ue = none) ∧
    (∃ (s : State) (entry : Nat) (e : QEntry), s.c.swc.entries = [(entry, e)] ∧ e.cells = 1 ∧ s.c.swRuns = true ∧ s.c.qeEligible entry e = true) :=
  ⟨⟨st poolC, 0, 1, false, false, false, ((poolC.alloc 1 false (coreReq 0) false false).1).get (by decide +kernel), (poolC.alloc 1 false (coreReq 0) false false).2, by decide +kernel, by decide +kernel, Prod.ext (Option.some_get _).symm rfl⟩,
   ⟨st poolC, 0, false, by decide +kernel⟩,
   ⟨st { poolC with swc := { Switch.reset with bufs := [(0, ⟨.owned, true, 0, 1⟩)] } }, 0, false, by decide +kernel⟩,
   ⟨st poolC, 0, false, by decide +kernel⟩,
   ⟨st qeC, 0, qe, by decide +kernel⟩⟩

theorem witness_crema_and_journal_rows_complete_1 :
    (∃ (s : State), s.c.bar0Open = true ∧ s.c.flag F.CRM_STAT_sweep = false) ∧
    (∃ (s : State), s.c.bar0Open = true ∧ s.c.flag F.CRM_STAT_sweep = false) ∧
    (∃ (s : State), s.c.flag F.CRM_STAT_sweep = true ∧ s.c.crm.held = none) ∧
    (∃ (s : State), s.c.flag F.CRM_STAT_init = true) ∧
    (∃ (s : State) (pool : Fin 3), s.c.get (F.CRM_LIMIT_limit (pool.val + 1)) < s.c.get (F.CRM_USE_use (pool.val + 1))) ∧
    (∃ (s : State) (pool : Fin 3), s.c.get (F.CRM_LIMIT_limit (pool.val + 1)) < s.c.get (F.CRM_USE_use (pool.val + 1))) :=
  ⟨⟨st (md .active []), by decide +kernel⟩,
   ⟨st (md .active []), by decide +kernel⟩,
   ⟨st (md .active [(F.CRM_STAT_sweep, 1)]), by decide +kernel⟩,
   ⟨st (md .active [(F.CRM_STAT_init, 1)]), by decide +kernel⟩,
   ⟨st (md .active [(F.CRM_LIMIT_limit 1, 0), (F.CRM_USE_use 1, 1)]), 0, by decide +kernel⟩,
   ⟨st (md .active [(F.CRM_LIMIT_limit 3, 0), (F.CRM_USE_use 3, 1)]), 2, by decide +kernel⟩⟩

theorem witness_crema_and_journal_rows_complete_2 :
    (∃ (s : State) (x : Nat), nextInstant s.c.dntNs s.c.crm.lastDecay (s.c.get F.CRM_DECAY_period_s * 1000000000) = x ∧ s.c.dntDue 4 x = []) ∧
    (∃ (s : State) (slot : Fin 8192) (x : Nat), (Tab.at? s.c.car.slots slot).bind (·.dead) = some x) ∧
    (∃ (s : State) (slot : Fin 8192) (g : GSlot) (tag : Nat) (c1 : Ctl), Tab.at? s.c.car.slots slot = some g ∧ s.c.flushDue g = true ∧ s.c.bgStart .stripeFlush (Config.recipeOf 5) (devId (s.c.nsOfStripe g.group g.strp)) = .started tag c1) ∧
    (∃ (s : State) (g : Fin 16), s.c.grpReady g = true ∧ s.c.bgOk = true ∧ s.c.get F.CAR_STAT_fill_pct < s.c.get F.CAR_PRESS_hi_pct) ∧
    (∃ (s : State) (die : Option Bool) (lines : List (Nat × Nat)) (c1 : Ctl), s.c.halted = false ∧ ((die.isSome = true ∨ lines.any (fun x => s.c.car.recs.any (fun r => r.seq == x.1 && r.landed && decide (x.2 < r.size))) = true)) ∧ (s.c.mapRecs (fun r => r.spoil die lines)).bump F.CAR_ERR_STAT_ue (lines.filter (fun x => s.c.car.recs.any (fun r => r.seq == x.1 && r.landed && decide (x.2 < r.size)))).length = c1 ∧ c1.flag F.GLB_MODE_STAT_peer_synced = true) :=
  ⟨⟨st (md .active []), nextInstant (md .active []).dntNs (md .active []).crm.lastDecay ((md .active []).get F.CRM_DECAY_period_s * 1000000000), rfl, by decide +kernel⟩,
   ⟨st { Ctl.reset with car := { Journal.reset with slots := [(8191, { slotA with dead := some 5 })] } }, 8191, 5, by decide +kernel⟩,
   let ⟨c1, h⟩ := bg_started flushC .stripeFlush (Config.recipeOf 5) 0 (devId (flushC.nsOfStripe 0 0)) recipe1 (by decide +kernel) (by decide +kernel) (by show Tab.at? [(Config.recipeOf 5, recipe1)] (Config.recipeOf 5) = some recipe1; simp [Tab.at?]) rfl; ⟨st flushC, 3, slotA, 0, c1, by decide +kernel, by decide +kernel, h⟩,
   ⟨st (md .active [(F.GLB_MODE_STAT_lease, 1), (F.GAL_GRP_CFG_state 0, 2), (F.GAL_GRP_CFG_en 0, 1), (F.CAR_PRESS_hi_pct, 90)]), 0, by decide +kernel⟩,
   ⟨st synC, some true, [(1, 0)], (synC.mapRecs (fun r => r.spoil (some true) [(1, 0)])).bump F.CAR_ERR_STAT_ue 1, by decide +kernel, by decide +kernel, rfl, by decide +kernel⟩⟩

theorem witness_member_rows_complete_1 :
    (∃ (s : State) (group : Fin 16), s.c.rbd.inits.contains group.val = true) ∧
    (∃ (s : State) (bay : Fin 24) (k : Nat), Tab.at? s.c.rbd.formats bay = some k) ∧
    (∃ (s : State) (group : Fin 16) (strp : Nat) (b : LockBy), (s.c.lockOf group strp).holder = none ∧ ((s.c.lockOf group strp).waits.find? LockBy.flushes).or (s.c.lockOf group strp).waits.head? = some b) ∧
    (∃ (s : State) (bay : Fin 24) (x : Nat), Tab.at? s.c.rbd.downAt bay = some x ∧ (s.c.reach (x + s.c.get F.RBD_CFG_link_fail_s * 1000000000)).memLive bay = true) ∧
    (∃ (s : State) (bay : Fin 24), s.c.bst.brews.any (fun p => p.2.tokens.any (fun k => !k.arrived && (k.io.map (·.bay)) == some bay.val)) = true) ∧
    (∃ (s : State) (bay : Fin 24) (x : Nat), Tab.at? s.c.rbd.resetAt bay = some x ∧ (s.c.reach (x + 2000000000)).memLive bay = true) :=
  ⟨⟨st (rbC { Rebuild.reset with inits := [15] } []), 15, by decide +kernel⟩,
   ⟨st (rbC { Rebuild.reset with formats := [(23, 5)] } []), 23, 5, by decide +kernel⟩,
   ⟨st { Ctl.reset with car := { Journal.reset with locks := [(grpKey 15 7, ⟨none, [.rebuild, .flush 9]⟩)] } }, 15, 7, .flush 9, by decide +kernel⟩,
   ⟨st (rbC { Rebuild.reset with downAt := [(3, 5)] } [(F.RBD_MEM_STAT_state 3, 1)]), 3, 5, by decide +kernel⟩,
   ⟨st (brewC Ctl.reset [] { brew0 with tokens := [⟨0, 0, none, false, [], some ⟨3, 0, 1, false⟩⟩] }), 3, by decide +kernel⟩,
   ⟨st (rbC { Rebuild.reset with resetAt := [(3, 5)] } [(F.RBD_MEM_STAT_state 3, 1)]), 3, 5, by decide +kernel⟩⟩

theorem witness_member_rows_complete_2 :
    (∃ (s : State) (bay : Fin 24), s.c.memLive bay = true) ∧
    (∃ (s : State) (bay : Fin 24), s.c.bar0Open = true ∧ s.c.memLive bay = true ∧ (s.c.failedPos (s.c.memGrp bay)).length < s.c.grpP (s.c.memGrp bay)) ∧
    (∃ (s : State) (bay : Fin 24) (d : Drive), s.c.bar0Open = true ∧ s.c.memState bay = 0 ∧ s.c.drive? bay = some d ∧ d.ready = true ∧ s.c.posOfBay bay = none) ∧
    (∃ (s : State) (bay : Fin 24), s.c.bar0Open = true ∧ s.c.memState bay = 5) ∧
    (∃ (s : State) (bay : Fin 24) (d : Drive), s.c.bar0Open = true ∧ s.c.drive? bay = some d ∧ s.c.memState bay = 2 ∧ d.label.isSome = true ∧ d.ready = true ∧ Tab.has s.c.rbd.formats bay = false ∧ Tab.getD s.c.rbd.cmin (s.c.memGrp bay) 0 ≤ d.cap ∧ s.c.driveFits (s.c.memGrp bay) bay = true) :=
  ⟨⟨st (rbC Rebuild.reset [(F.RBD_MEM_STAT_state 23, 1)]), 23, by decide +kernel⟩,
   ⟨st (rbC Rebuild.reset [(F.RBD_MEM_STAT_state 3, 1), (F.GAL_GRP_CFG_layout 0, 0)]), 3, by decide +kernel⟩,
   ⟨st { md .active [] with rbd := { Rebuild.reset with drives := [(3, driveA none)] } }, 3, driveA none, by decide +kernel⟩,
   ⟨st (rbC Rebuild.reset [(F.RBD_MEM_STAT_state 3, 5)]), 3, by decide +kernel⟩,
   ⟨st (rbC { Rebuild.reset with drives := [(3, driveA (some ⟨0, 0, 0, []⟩))], ports := [(3, true)] } [(F.RBD_MEM_STAT_state 3, 2)]), 3, driveA (some ⟨0, 0, 0, []⟩), by decide +kernel⟩⟩

theorem witness_rebuild_rows_complete_1 :
    (∃ (s : State) (group : Fin 16), s.c.bgOk = true ∧ s.c.grpReady group = true ∧ (s.c.grpTargets group).isEmpty = false ∧ s.c.rbRate ≠ 0 ∧ 0 < s.c.rbd.bktRb ∧ s.c.shareTurn 0 group = true ∧ s.c.markBlocked = false ∧ s.c.lockFree group (s.c.rd (Reg.RBD_RB_CUR group)).toNat .rebuild = true) ∧
    (∃ (s : State) (group : Fin 16), (s.c.progOf group).changed = true ∧ s.c.bgOk = true) ∧
    (∃ (s : State) (entry : Fin 64) (e : RepairE), s.c.rbd.repairs[entry.val]? = some e ∧ s.c.bgOk = true ∧ s.c.grpReady e.group = true ∧ s.c.lockFree e.group e.strp .repair = true) ∧
    (∃ (s : State) (entry : Fin 64) (e : RepairE), s.c.rbd.repairs[entry.val]? = some e ∧ s.c.bgOk = true ∧ s.c.grpReady e.group = true ∧ s.c.lockFree e.group e.strp .repair = true ∧ ((({ s.c.lockTake e.group e.strp .repair with rbd := { s.c.rbd with repairs := s.c.rbd.repairs.filter (· != e) } } : Ctl).set F.RBD_REP_STAT_queued (s.c.rbd.repairs.filter (· != e)).length).erasures e.group e.strp e.row).contains e.pos = false ∧ ((({ s.c.lockTake e.group e.strp .repair with rbd := { s.c.rbd with repairs := s.c.rbd.repairs.filter (· != e) } } : Ctl).set F.RBD_REP_STAT_queued (s.c.rbd.repairs.filter (· != e)).length).erasures e.group e.strp e.row).length + 1 ≤ s.c.grpP e.group) ∧
    (∃ (s : State) (entry : Fin 64) (more : List Nat) (e : RepairE), s.c.rbd.repairs[entry.val]? = some e ∧ s.c.bgOk = true ∧ s.c.grpReady e.group = true ∧ s.c.lockFree e.group e.strp .repair = true ∧ ((({ s.c.lockTake e.group e.strp .repair with rbd := { s.c.rbd with repairs := s.c.rbd.repairs.filter (· != e) } } : Ctl).set F.RBD_REP_STAT_queued (s.c.rbd.repairs.filter (· != e)).length).erasures e.group e.strp e.row).contains e.pos = false ∧ s.c.grpP e.group < ((({ s.c.lockTake e.group e.strp .repair with rbd := { s.c.rbd with repairs := s.c.rbd.repairs.filter (· != e) } } : Ctl).set F.RBD_REP_STAT_queued (s.c.rbd.repairs.filter (· != e)).length).erasures e.group e.strp e.row).length + ((e.pos :: more).eraseDups.filter (fun p => !((({ s.c.lockTake e.group e.strp .repair with rbd := { s.c.rbd with repairs := s.c.rbd.repairs.filter (· != e) } } : Ctl).set F.RBD_REP_STAT_queued (s.c.rbd.repairs.filter (· != e)).length).erasures e.group e.strp e.row).contains p && decide (p < s.c.grpN e.group))).length) ∧
    (∃ (s : State) (group : Fin 16), s.c.bgOk = true ∧ s.c.grpReady group = true ∧ s.c.flag (F.RBD_GRP_STAT_cup_active group) = false ∧ s.c.rbd.markDue.contains group.val = true) :=
  ⟨⟨st (rbC { Rebuild.reset with bktRb := 1, targets := [(0, ⟨0, 0, false⟩)] } []), 0, by decide +kernel⟩,
   ⟨st (rbC { Rebuild.reset with prog := [(0, { Progress.blank with changed := true })] } []), 0, by decide +kernel⟩,
   ⟨st (rbC { Rebuild.reset with repairs := [⟨0, 0, 0, 0⟩] } []), 0, ⟨0, 0, 0, 0⟩, by decide +kernel⟩,
   ⟨st repG, 0, ⟨0, 0, 0, 0⟩, by decide +kernel⟩,
   ⟨st repG, 0, [1, 2], ⟨0, 0, 0, 0⟩, by decide +kernel⟩,
   ⟨st (rbC { Rebuild.reset with markDue := [0] } []), 0, by decide +kernel⟩⟩

theorem witness_rebuild_rows_complete_2 :
    (∃ (s : State) (group : Fin 16), s.c.bgOk = true ∧ s.c.grpReady group = true ∧ s.c.flag (F.RBD_GRP_STAT_cup_active group) = false ∧ s.c.rbd.markDue.contains group.val = false ∧ s.c.flag F.RBD_CUP_CFG_en = true ∧ (s.c.progOf group).cupStart = none) ∧
    (∃ (s : State) (group : Fin 16) (x : Nat), s.c.bgOk = true ∧ s.c.grpReady group = true ∧ s.c.flag (F.RBD_GRP_STAT_cup_active group) = false ∧ s.c.rbd.markDue.contains group.val = false ∧ s.c.flag F.RBD_CUP_CFG_en = true ∧ (s.c.progOf group).cupStart = some x) ∧
    (∃ (s : State) (group : Fin 16), s.c.bgOk = true ∧ s.c.grpReady group = true ∧ s.c.flag (F.RBD_GRP_STAT_cup_active group) = true ∧ s.c.bgRates.2.1 ≠ 0 ∧ 0 < s.c.rbd.bktCup ∧ s.c.shareTurn 1 group = true ∧ s.c.lockFree group (s.c.progOf group).cupCur .cupping = true) :=
  ⟨⟨st (rbC Rebuild.reset [(F.RBD_CUP_CFG_en, 1)]), 0, by decide +kernel⟩,
   ⟨st (rbC { Rebuild.reset with prog := [(0, { Progress.blank with cupStart := some 3 })] } [(F.RBD_CUP_CFG_en, 1)]), 0, 3, by decide +kernel⟩,
   ⟨st (rbC { Rebuild.reset with bktCup := 1 } [(F.RBD_GRP_STAT_cup_active 0, 1)]), 0, by decide +kernel⟩⟩

theorem witness_regrind_rows_complete_1 :
    (∃ (s : State), s.c.get F.RBD_RG_STAT_state = 0 ∧ s.c.rgStartErr = 0) ∧
    (∃ (s : State), s.c.get F.RBD_RG_STAT_state = 1 ∧ s.c.grpReady s.c.rgStage = true) ∧
    (∃ (s : State), s.c.get F.RBD_RG_STAT_state = 2 ∧ s.c.bgOk = true ∧ s.c.bgRates.2.2.1 ≠ 0 ∧ 0 < s.c.rbd.bktRg ∧ s.c.markBlocked = false) ∧
    (∃ (s : State), s.c.get F.RBD_RG_STAT_state = 3) ∧
    (∃ (s : State), ((s.c.get F.RBD_RG_STAT_state = 1 ∨ s.c.get F.RBD_RG_STAT_state = 2 ∨ s.c.get F.RBD_RG_STAT_state = 3)) ∧ (s.c.grpBays s.c.rgSrc ++ s.c.grpBays s.c.rgStage).any (fun b => s.c.memState b != 1) = false) ∧
    (∃ (s : State), ((s.c.get F.RBD_RG_STAT_state = 1 ∨ s.c.get F.RBD_RG_STAT_state = 2 ∨ s.c.get F.RBD_RG_STAT_state = 3)) ∧ (s.c.grpBays s.c.rgSrc ++ s.c.grpBays s.c.rgStage).any (fun b => s.c.memState b != 1) = false) :=
  ⟨⟨st (rgC Rebuild.reset []), by decide +kernel⟩,
   ⟨st (rbC Rebuild.reset [(F.RBD_RG_STAT_state, 1), (F.RBD_RG_CFG_stage, 1), (F.GAL_GRP_CFG_en 1, 1), (F.GAL_GRP_CFG_state 1, 2)]), by decide +kernel⟩,
   ⟨st (rbC { Rebuild.reset with bktRg := 1 } [(F.RBD_RG_STAT_state, 2)]), by decide +kernel⟩,
   ⟨st (rbC Rebuild.reset [(F.RBD_RG_STAT_state, 3)]), by decide +kernel⟩,
   ⟨st (rgC Rebuild.reset [(F.RBD_RG_STAT_state, 1), (F.GAL_GRP_MEM_bays 1 0, 0x62), (F.RBD_MEM_STAT_state 2, 1), (F.RBD_MEM_STAT_state 3, 1)]), by decide +kernel⟩,
   ⟨st (rgC Rebuild.reset [(F.RBD_RG_STAT_state, 3), (F.GAL_GRP_MEM_bays 1 0, 0x62), (F.RBD_MEM_STAT_state 2, 1), (F.RBD_MEM_STAT_state 3, 1)]), by decide +kernel⟩⟩

theorem witness_regrind_rows_complete_2 :
    ∃ (s : State), s.c.get F.RBD_RG_STAT_state = 5 ∧ s.c.car.works.any (fun p => p.2.group == s.c.rgStage) = false ∧ s.c.crm.recs.any (fun p => p.2.old.isSome) = false :=
  ⟨st (rbC Rebuild.reset [(F.RBD_RG_STAT_state, 5)]), by decide +kernel⟩

theorem witness_key_and_tls_rows_complete_1 :
    (∃ (s : State) (tenant : Fin 4096) (slot : Fin 16), s.c.bar0Open = true ∧ s.c.flag (F.KP_STAT_busy tenant) = false ∧ (((s.c.set (F.KP_STAT_last_slot tenant) slot).setFlag (F.KP_STAT_busy tenant) true).set (F.KP_RESULT_status tenant) Cs.pending).dataRefusal [slot.val] = 0) ∧
    (∃ (s : State) (tenant : Fin 4096) (slot : Fin 16), s.c.bar0Open = true ∧ s.c.flag (F.KP_STAT_busy tenant) = false ∧ (((s.c.set (F.KP_STAT_last_slot tenant) slot).setFlag (F.KP_STAT_busy tenant) true).set (F.KP_RESULT_status tenant) Cs.pending).dataRefusal [slot.val] = 0) ∧
    (∃ (s : State) (tenant : Fin 4096), s.c.bar0Open = true ∧ s.c.flag (F.KP_STAT_busy tenant) = false ∧ ((s.c.setFlag (F.KP_STAT_busy tenant) true).set (F.KP_RESULT_status tenant) Cs.pending).dataRefusal (List.range 16) = 0) ∧
    (∃ (s : State) (tenant : Fin 4096) (z : ZeroOp), Tab.at? s.c.keys.zeros tenant = some z ∧ ((z.acked = true ∨ s.c.mirroring = false))) ∧
    (∃ (s : State) (new : Nat), [0, 1].find? (fun b => s.c.bankState b == 1) = some new) ∧
    (∃ (s : State) (conn : Nat) (data : List Byte) (x : Conn) (n : Nat) (e : CtabE), data.length ≤ 16384 ∧ s.c.conn? conn = some x ∧ s.c.tlsCluster conn = some n ∧ x.tls = true ∧ Tab.at? s.c.keys.ctab conn = some e ∧ s.c.tlsCause conn = 0) :=
  ⟨⟨st (md .active []), 4095, 2, by decide +kernel⟩,
   ⟨st (md .active []), 0, 15, by decide +kernel⟩,
   ⟨st { md .active [(F.GLB_MODE_STAT_lease, 1)] with keys := { Keys.reset with restored := true } }, 0, by decide +kernel⟩,
   ⟨st { Ctl.reset with keys := { Keys.reset with zeros := [(5, ⟨[2], true, none⟩)] } }, 5, ⟨[2], true, none⟩, by decide +kernel⟩,
   ⟨st (Ctl.reset.bankWord 1 11 1), 1, by decide +kernel⟩,
   ⟨st tlsC, 3, [], connT true, 3, ctabA, by decide +kernel⟩⟩

theorem witness_key_and_tls_rows_complete_2 :
    (∃ (s : State) (conn : Nat) (x : Conn) (n : Nat) (e : CtabE), s.c.conn? conn = some x ∧ s.c.tlsCluster conn = some n ∧ x.tls = true ∧ Tab.at? s.c.keys.ctab conn = some e ∧ s.c.tlsCause conn = 0) ∧
    (∃ (s : State) (conn : Nat) (identity : Nqn) (x : Conn) (h : HostEntry), s.c.conn? conn = some x ∧ x.tls = false ∧ x.tcp = true ∧ s.c.hostOf identity = some h ∧ 2 ≤ h.psk ∧ s.c.slotState h.tenant h.psk = 1) :=
  ⟨⟨st tlsC, 3, connT true, 3, ctabA, by decide +kernel⟩,
   ⟨st helloC, 3, [1], connT false, ⟨[1], 5, true, false, 2⟩, by decide +kernel⟩⟩

theorem witness_network_rows_complete_1 :
    (∃ (s : State) (np : Fin 24), s.c.npExists np.val = true) ∧
    (∃ (s : State) (np : Fin 24), s.c.npExists np.val = true ∧ s.c.flag (F.NET_PORT_CFG_en np.val) = true ∧ s.c.mode.netOk = true ∧ s.c.flag (F.NET_PORT_STAT_up np.val) = false ∧ s.c.power.stop.isNone = true) ∧
    (∃ (s : State) (np : Fin 24) (ip : BitVec 32), s.c.netUp np.val = true ∧ s.c.ownIp4 np.val ip = true) ∧
    (∃ (s : State) (np : Fin 24) (ip : BitVec 32), s.c.netUp np.val = true ∧ s.c.ownIp4 np.val ip = false) ∧
    (∃ (s : State) (np : Fin 24) (ip : BitVec 128), s.c.netUp np.val = true ∧ s.c.ownIp6 np.val ip = true) ∧
    (∃ (s : State) (np : Fin 24) (ip : BitVec 128), s.c.netUp np.val = true ∧ s.c.ownIp6 np.val ip = true) :=
  ⟨⟨st netC, 2, by decide +kernel⟩,
   ⟨st (rg [(F.NET_PORT_STAT_up 2, 0)] netC), 2, by decide +kernel⟩,
   ⟨st { upC [] with regs := (netC.wr (Reg.NET_PORT_IP4 2) 5).regs }, 2, 5, by decide +kernel⟩,
   ⟨st (upC []), 2, 5, by decide +kernel⟩,
   ⟨st { upC [] with regs := (netC.wr (Reg.NET_PORT_IP6 2 3) 5).regs }, 2, 5, by decide +kernel⟩,
   ⟨st { upC [] with regs := (netC.wr (Reg.NET_PORT_IP6 2 3) 5).regs }, 2, 5, by decide +kernel⟩⟩

theorem witness_network_rows_complete_2 :
    (∃ (s : State) (np : Fin 24) (ip : BitVec 32), s.c.netUp np.val = true ∧ s.c.ownIp4 np.val ip = true) ∧
    (∃ (s : State) (np : Fin 24) (len : Nat) (fcsBad : Bool), s.c.netUp np.val = true ∧ ((fcsBad = true ∨ len < 64 ∨ s.c.get (F.NET_PORT_MTU_max_frame np.val) < len))) ∧
    (∃ (s : State) (np : Fin 24) (len : Nat) (fcsBad : Bool), s.c.netUp np.val = true ∧ ((fcsBad = true ∨ len < 64 ∨ s.c.get (F.NET_PORT_MTU_max_frame np.val) < len))) ∧
    (∃ (s : State) (np : Fin 24) (len : Nat) (fcsBad : Bool), s.c.netUp np.val = true ∧ ((fcsBad = true ∨ len < 64 ∨ s.c.get (F.NET_PORT_MTU_max_frame np.val) < len))) ∧
    (∃ (s : State) (np : Fin 24) (len : Nat), s.c.netUp np.val = true ∧ 64 ≤ len ∧ len ≤ s.c.get (F.NET_PORT_MTU_max_frame np.val)) ∧
    (∃ (s : State) (np : Fin 24) (len : Nat), s.c.netUp np.val = true ∧ 64 ≤ len ∧ len ≤ s.c.get (F.NET_PORT_MTU_max_frame np.val)) :=
  ⟨⟨st { upC [] with regs := (netC.wr (Reg.NET_PORT_IP4 2) 5).regs }, 2, 5, by decide +kernel⟩,
   ⟨st (upC []), 2, 63, false, by decide +kernel⟩,
   ⟨st (upC []), 2, 64, true, by decide +kernel⟩,
   ⟨st (upC [(F.NET_PORT_MTU_max_frame 2, 1536)]), 2, 1537, false, by decide +kernel⟩,
   ⟨st (upC [(F.NET_PORT_MTU_max_frame 2, 1536)]), 2, 64, by decide +kernel⟩,
   ⟨st (upC [(F.NET_PORT_MTU_max_frame 2, 1536)]), 2, 1536, by decide +kernel⟩⟩

theorem witness_network_rows_complete_3 :
    (∃ (s : State) (np : Fin 24), s.c.netUp np.val = true) ∧
    (∃ (s : State) (np : Fin 24) (prio : Fin 8), s.c.netUp np.val = true ∧ (s.c.npCnt np.val 4 1).pfcOn np.val prio.val = true) ∧
    (∃ (s : State) (np : Fin 24) (prio : Fin 8) (x : Nat × Nat), Tab.at? (s.c.np np.val).pauseEnd prio.val = some x) ∧
    (∃ (s : State) (np : Fin 24) (prio : Fin 8) (bytes : Nat), s.c.netUp np.val = true ∧ s.c.pfcOn np.val prio.val = true ∧ Tab.has (s.c.np np.val).xoff prio.val = false ∧ 1024 * s.c.get (F.NET_PORT_PFC_xoff_kib np.val) < bytes) ∧
    (∃ (s : State) (np : Fin 24) (prio : Fin 8) (bytes : Nat), s.c.netUp np.val = true ∧ s.c.pfcOn np.val prio.val = true ∧ Tab.has (s.c.np np.val).xoff prio.val = true ∧ bytes ≤ 1024 * s.c.get (F.NET_PORT_PFC_xon_kib np.val)) ∧
    (∃ (s : State) (np : Fin 24) (prio : Fin 8) (x : Nat), Tab.at? (s.c.np np.val).xoff prio.val = some x) :=
  ⟨⟨st (upC []), 2, by decide +kernel⟩,
   ⟨st (upC [(F.NET_PORT_CFG_pfc_en 2, 0xFF)]), 2, 7, by decide +kernel⟩,
   ⟨st (npC { npI with pauseEnd := [(7, (5, 5))] } []), 2, 7, (5, 5), by decide +kernel⟩,
   ⟨st (npC npI [(F.NET_PORT_CFG_pfc_en 2, 0xFF), (F.NET_PORT_PFC_xoff_kib 2, 1)]), 2, 0, 1025, by decide +kernel⟩,
   ⟨st (npC { npI with xoff := [(0, 5)] } [(F.NET_PORT_CFG_pfc_en 2, 0xFF), (F.NET_PORT_PFC_xon_kib 2, 1)]), 2, 0, 1024, by decide +kernel⟩,
   ⟨st (npC { npI with xoff := [(0, 5)] } []), 2, 0, 5, by decide +kernel⟩⟩

theorem witness_network_rows_complete_4 :
    (∃ (s : State) (np : Fin 24) (frames : List (Option Nat × Nat)) (k : Nat) (f : ReadyFrame) (o : Bool) (c1 : Ctl), s.c.netUp np.val = true ∧ (let fs := frames.map (fun p => (⟨p.1, p.2⟩ : ReadyFrame)); (s.c.tev .net 7 np.val none none (s.c.gateHeld np.val fs)).egressPick np.val fs) = (some (k, f, o), c1)) ∧
    (∃ (s : State) (np : Fin 24) (l : PourList), s.c.gclLive np.val = some l) ∧
    (∃ (s : State) (np : Fin 24) (a : Nat), s.c.gclDue np.val = some a) ∧
    (∃ (s : State) (np : Fin 24) (l : PourList), s.c.gclLive np.val = some l) ∧
    (∃ (s : State) (np : Fin 24) (l : PourList), s.c.gclLive np.val = some l) :=
  ⟨eg_ok,
   ⟨st ((npC { npI with oper := some ⟨1000, 4, 0⟩ } [(F.TIM_UNSYNC_GATE_policy, 1), (F.NET_GCL_CTRL_en 2, 1)]).wr (Reg.NET_GCL_OPER 2 0) 1), 2, ⟨1000, 4, 0⟩, by decide +kernel⟩,
   ⟨st (npC { npI with adopt := some 5 } [(F.TIM_SYNC_STAT_unsync, 0)]), 2, 5, by decide +kernel⟩,
   ⟨st (npC { npI with oper := some ⟨1000, 4, 0⟩ } [(F.TIM_UNSYNC_GATE_policy, 1), (F.NET_GCL_CTRL_en 2, 1)]), 2, ⟨1000, 4, 0⟩, by decide +kernel⟩,
   ⟨st (npC { npI with oper := some ⟨1000, 4, 0⟩, cycAt := some 1000 } [(F.TIM_UNSYNC_GATE_policy, 1), (F.NET_GCL_CTRL_en 2, 1)]), 2, ⟨1000, 4, 0⟩, by decide +kernel⟩⟩

theorem witness_transport_rows_complete_1 :
    (∃ (s : State) (np : Fin 24) (k : Nat), s.c.netUp np.val = true ∧ (s.c.frameIn np.val none 0).newConn = some k) ∧
    (∃ (s : State) (np : Fin 24), s.c.netUp np.val = true ∧ (s.c.frameIn np.val none 0).newConn = none) ∧
    (∃ (s : State) (conn : Nat) (x : Conn), s.c.conn? conn = some x ∧ x.tcp = false) ∧
    (∃ (s : State) (np : Fin 24) (conn : Nat) (x : Conn), s.c.netUp np.val = true ∧ s.c.conn? conn = some x ∧ x.tcp = false ∧ x.port = np.val) ∧
    (∃ (s : State) (np : Fin 24) (conn : Nat) (x : Conn), s.c.netUp np.val = true ∧ s.c.conn? conn = some x ∧ x.tcp = false ∧ x.port = np.val) ∧
    (∃ (s : State) (np : Fin 24) (conn : Nat) (x : Conn), s.c.netUp np.val = true ∧ s.c.conn? conn = some x ∧ x.tcp = false ∧ x.port = np.val) :=
  ⟨⟨st netC, 2, 0, by decide +kernel⟩,
   new_none,
   ⟨st (connC (connX [])), 1, connX [], by decide +kernel⟩,
   ⟨st (connC (connX [])), 2, 1, connX [], by decide +kernel⟩,
   ⟨st (connC (connX [])), 2, 1, connX [], by decide +kernel⟩,
   ⟨st (connC (connX [])), 2, 1, connX [], by decide +kernel⟩⟩

theorem witness_transport_rows_complete_2 :
    (∃ (s : State) (np : Fin 24) (conn : Nat) (x : Conn), s.c.netUp np.val = true ∧ s.c.conn? conn = some x ∧ x.tcp = false ∧ x.port = np.val) ∧
    (∃ (s : State) (np : Fin 24) (conn : Nat) (push : Bool) (x : Conn) (f : Xfer), s.c.netUp np.val = true ∧ s.c.conn? conn = some x ∧ x.tcp = false ∧ x.port = np.val ∧ x.xfers.find? (fun k => k.push == push) = some f) ∧
    (∃ (s : State) (conn : Nat) (x : Conn), s.c.conn? conn = some x ∧ x.tcp = false ∧ x.retries < s.c.get F.NET_RC_CFG_retry_cnt) ∧
    (∃ (s : State) (conn : Nat) (x : Conn), s.c.conn? conn = some x ∧ x.tcp = false ∧ s.c.get F.NET_RC_CFG_retry_cnt ≤ x.retries) ∧
    (∃ (s : State) (conn : Nat) (x : Conn), s.c.conn? conn = some x ∧ x.tcp = true ∧ x.retries + 1 < s.c.get F.NET_TCP_CFG_retries) ∧
    (∃ (s : State) (conn : Nat) (x : Conn), s.c.conn? conn = some x ∧ x.tcp = true ∧ s.c.get F.NET_TCP_CFG_retries ≤ x.retries + 1) :=
  ⟨⟨st (connC (connX [])), 2, 1, connX [], by decide +kernel⟩,
   ⟨st (connC (connX [xferA])), 2, 1, true, connX [xferA], xferA, by decide +kernel⟩,
   ⟨st (connC (connX [])), 1, connX [], by decide +kernel⟩,
   ⟨st (connC { connX [] with retries := 7 }), 1, { connX [] with retries := 7 }, by decide +kernel⟩,
   ⟨st netC, 3, Ctl.reset.connFresh true 2 9 0 1024 1, by decide +kernel⟩,
   ⟨st { netC with net := { netC.net with conns := [(3, { Ctl.reset.connFresh true 2 9 0 1024 1 with retries := 14 })] } }, 3, { Ctl.reset.connFresh true 2 9 0 1024 1 with retries := 14 }, by decide +kernel⟩⟩

theorem witness_transport_rows_complete_3 :
    (∃ (s : State) (np : Fin 24) (conn : Nat) (x : Conn), s.c.netUp np.val = true ∧ s.c.conn? conn = some x ∧ x.tcp = true ∧ x.port = np.val) ∧
    (∃ (s : State) (np : Fin 24) (conn : Nat) (x : Conn), s.c.netUp np.val = true ∧ s.c.conn? conn = some x ∧ x.tcp = false ∧ x.port = np.val) ∧
    (∃ (s : State) (np : Fin 24) (conn : Nat) (x : Conn), s.c.netUp np.val = true ∧ s.c.conn? conn = some x ∧ x.tcp = false ∧ x.port = np.val) ∧
    (∃ (s : State) (conn : Nat) (x : Conn), s.c.conn? conn = some x ∧ x.tcp = false) :=
  ⟨⟨st netC, 2, 3, Ctl.reset.connFresh true 2 9 0 1024 1, by decide +kernel⟩,
   ⟨st (connC (connX [])), 2, 1, connX [], by decide +kernel⟩,
   ⟨st (connC (connX [])), 2, 1, connX [], by decide +kernel⟩,
   ⟨st (connC (connX [])), 1, connX [], by decide +kernel⟩⟩

theorem witness_pair_link_rows_complete_1 :
    (∃ (s : State), s.c.awake = true ∧ s.c.flag F.PEER_STAT_link_up = true) ∧
    (∃ (s : State), s.c.awake = true ∧ s.c.flag F.PEER_STAT_link_up = false ∧ laneCode s.c.pair.laneBad ≠ 0) ∧
    (∃ (s : State), s.c.awake = true ∧ s.c.flag F.PEER_STAT_link_up = false ∧ laneCode s.c.pair.laneBad ≠ 0) ∧
    (∃ (s : State) (cls : Fin 5) (fseq : Fin 65536), s.c.peerHears = true ∧ ((1 ≤ cls.val → cls.val ≤ 3 → fseq.val = s.c.pair.rxSeq))) ∧
    (∃ (s : State) (cls : Fin 5) (fseq : Fin 65536), s.c.peerHears = true ∧ ((1 ≤ cls.val → cls.val ≤ 3 → fseq.val = s.c.pair.rxSeq))) ∧
    (∃ (s : State), s.c.peerHears = true) :=
  ⟨⟨st (peC []), by decide +kernel⟩,
   ⟨st (pr { Pair.reset with laneBad := 0xC } (md .standby [(F.PEER_STAT_link_up, 0)])), by decide +kernel⟩,
   ⟨st (md .standby [(F.PEER_STAT_link_up, 0)]), by decide +kernel⟩,
   ⟨st (peC []), 3, 0, by decide +kernel⟩,
   ⟨st (peC []), 0, 9, by decide +kernel⟩,
   ⟨st (peC []), by decide +kernel⟩⟩

theorem witness_pair_link_rows_complete_2 :
    (∃ (s : State) (cls : Fin 5) (fseq : Fin 65536), s.c.peerHears = true ∧ 1 ≤ cls.val ∧ cls.val ≤ 3 ∧ fseq.val ≠ s.c.pair.rxSeq) ∧
    (∃ (s : State) (cls : Fin 5) (fseq : Fin 65536), s.c.peerHears = true ∧ 1 ≤ cls.val ∧ cls.val ≤ 3 ∧ fseq.val ≠ s.c.pair.rxSeq) ∧
    (∃ (s : State), s.c.peerHears = true) ∧
    (∃ (s : State) (lane : Fin 4), s.c.awake = true ∧ s.c.flag F.PEER_STAT_link_up = true ∧ laneCode (s.c.pair.laneBad ||| BitVec.ofNat 4 (2 ^ lane.val)) ≠ 0) ∧
    (∃ (s : State), s.c.peerHears = true) ∧
    (∃ (s : State) (h : HbMsg), s.c.peerHears = true ∧ s.c.lease = false ∧ h.lease = false) :=
  ⟨⟨st (peC []), 1, 1, by decide +kernel⟩,
   ⟨st (peC []), 3, 65535, by decide +kernel⟩,
   ⟨st (peC []), by decide +kernel⟩,
   ⟨st (peC []), 3, by decide +kernel⟩,
   ⟨st (peC []), by decide +kernel⟩,
   ⟨st (peC []), hb 0, by decide +kernel⟩⟩

theorem witness_pair_link_rows_complete_3 :
    (∃ (s : State), s.c.awake = true) ∧
    (∃ (s : State) (win : Fin 16) (epoch : Fin 65536) (off : Nat) (data : List Byte), s.c.peerHears = true ∧ epoch.val = s.c.get F.PEER_WIN_EPOCH_rx ∧ s.c.flag (F.PEER_WIN_OPR_en win) = true ∧ off + data.length ≤ 65536 * s.c.get (F.PEER_WIN_OSZ_size win) ∧ s.c.ringWindow win = false) ∧
    (∃ (s : State) (win : Fin 16) (epoch : Fin 65536) (off : Nat) (data : List Byte), s.c.peerHears = true ∧ epoch.val = s.c.get F.PEER_WIN_EPOCH_rx ∧ s.c.flag (F.PEER_WIN_OPR_en win) = true ∧ off + data.length ≤ 65536 * s.c.get (F.PEER_WIN_OSZ_size win) ∧ s.c.ringWindow win = true) ∧
    (∃ (s : State), s.c.peerHears = true) ∧
    (∃ (s : State), s.c.peerHears = true) ∧
    (∃ (s : State), s.c.peerHears = true) :=
  ⟨⟨st (peC []), by decide +kernel⟩,
   ⟨st (peC [(F.PEER_WIN_EPOCH_rx, 3), (F.PEER_WIN_OPR_en 1, 1), (F.PEER_WIN_OSZ_size 1, 1)]), 1, 3, 65535, [1], by decide +kernel⟩,
   ⟨st (peC [(F.PEER_WIN_EPOCH_rx, 3), (F.PEER_WIN_OPR_en 0, 1), (F.PEER_WIN_OSZ_size 0, 1), (F.GLB_MODE_STAT_peer_synced, 1), (F.PEER_WIN_OPR_base 0, 96)]), 0, 3, 0, [1], by decide +kernel⟩,
   ⟨st (peC []), by decide +kernel⟩,
   ⟨st (peC []), by decide +kernel⟩,
   ⟨st (peC []), by decide +kernel⟩⟩

theorem witness_pair_link_rows_complete_4 :
    (∃ (s : State), s.c.peerHears = true) ∧
    (∃ (s : State), s.c.peerHears = true ∧ s.c.lease = false) ∧
    (∃ (s : State) (txn : Nat) (k : Nat) (x : Txn), s.c.peerHears = true ∧ s.c.mgt.txns.find? (fun p => p.2.state == 4 && p.2.id == txn) = some (k, x)) ∧
    (∃ (s : State), s.c.peerHears = true) ∧
    (∃ (s : State), s.c.peerHears = true) ∧
    (∃ (s : State), s.c.peerHears = true ∧ s.c.lease = false) :=
  ⟨⟨st (peC []), by decide +kernel⟩,
   ⟨st (peC []), by decide +kernel⟩,
   ⟨st { peC [] with mgt := { Mgmt.reset with txns := [(0, { schedTx with state := 4 })] } }, 1, 0, { schedTx with state := 4 }, by decide +kernel⟩,
   ⟨st (peC []), by decide +kernel⟩,
   ⟨st (peC []), by decide +kernel⟩,
   ⟨st (peC []), by decide +kernel⟩⟩

theorem witness_pair_link_rows_complete_5 :
    (∃ (s : State), s.c.peerHears = true ∧ s.c.lease = true) ∧
    (∃ (s : State), s.c.flag F.GLB_MODE_STAT_peer_synced = true ∧ s.c.lease = false ∧ s.c.awake = true ∧ (s.c.recBy s.c.pair.shadow).isSome = true) ∧
    (∃ (s : State), s.c.pair.syncing = true ∧ s.c.peerHears = true ∧ s.c.lease = true) :=
  ⟨⟨st (leC []), by decide +kernel⟩,
   ⟨st { peC [(F.GLB_MODE_STAT_peer_synced, 1)] with pair := { Pair.reset with shadow := 1 }, car := { Journal.reset with recs := [jrec 1 true] } }, by decide +kernel⟩,
   ⟨st (pr { Pair.reset with syncing := true } (leC [])), by decide +kernel⟩⟩

theorem witness_witness_and_lease_rows_complete_1 :
    (∃ s : State, s.c.awake = true ∧ (s.c.reach ((s.c.dt / 10000000 + 1) * 10000000)).lease = true ∧ (s.c.reach ((s.c.dt / 10000000 + 1) * 10000000)).power.stop = none ∧ (s.c.reach ((s.c.dt / 10000000 + 1) * 10000000)).forced = false) ∧
    (∃ s : State, s.c.awake = true ∧ (s.c.reach ((s.c.dt / 10000000 + 1) * 10000000)).lease = true ∧ (s.c.reach ((s.c.dt / 10000000 + 1) * 10000000)).power.stop = none ∧ (s.c.reach ((s.c.dt / 10000000 + 1) * 10000000)).forced = true) ∧
    (∃ s : State, s.c.awake = true ∧ (s.c.reach ((s.c.dt / 10000000 + 1) * 10000000)).lease = false) ∧
    (∃ (s : State) (num : Nat) (r : WitReq), s.c.awake = true ∧ s.c.pair.reqs.find? (fun r => r.num == num && !r.late) = some r ∧ r.kind = .renew) ∧
    (∃ (s : State), s.c.awake = true ∧ s.c.flag F.GLB_MODE_STAT_no_witness = false) ∧
    (∃ (s : State) (req : Nat) (r : WitReq) (c1 : Ctl), WitAnswers s.c req r c1 ∧ c1.power.stop = none ∧ r.kind = .renew ∧ c1.lease = true) :=
  ⟨⟨st (leC []), by decide +kernel⟩,
   ⟨st (leC [(F.PEER_LEASE_src, 3)]), by decide +kernel⟩,
   ⟨st (peC []), by decide +kernel⟩,
   ⟨st (witC .active .renew []), 7, ⟨.renew, 7, 0, false⟩, by decide +kernel⟩,
   ⟨st (peC [(F.GLB_MODE_STAT_no_witness, 0)]), by decide +kernel⟩,
   ⟨st (witC .active .renew [(F.GLB_MODE_STAT_lease, 1)]), 7, ⟨.renew, 7, 0, false⟩, answered (witC .active .renew [(F.GLB_MODE_STAT_lease, 1)]), by decide +kernel⟩⟩

theorem witness_witness_and_lease_rows_complete_2 :
    (∃ (s : State) (req : Nat) (r : WitReq) (c1 : Ctl), WitAnswers s.c req r c1 ∧ c1.power.stop = none ∧ r.kind = .acquire ∧ c1.lease = false ∧ c1.mayAcquire = true) ∧
    (∃ (s : State) (req : Nat) (r : WitReq) (c1 : Ctl), WitAnswers s.c req r c1 ∧ r.kind = .acquire) ∧
    (∃ (s : State) (req : Nat) (r : WitReq) (c1 : Ctl), WitAnswers s.c req r c1 ∧ c1.mayAcquire = true ∧ c1.flag F.PEER_STAT_endorsing = false) ∧
    (∃ (s : State) (x : Nat), s.c.pair.retryAt = some x ∧ ((s.c.reach x).wantsLease || (s.c.reach x).startWants) = true) ∧
    (∃ (s : State) (x : Nat), s.c.leaseEnd = some x ∧ s.c.halted = false) ∧
    (∃ (s : State), s.c.lease = true ∧ s.c.pair.take = some .permission) :=
  ⟨⟨st (witC .standby .acquire acqF), 7, ⟨.acquire, 7, 0, false⟩, answered (witC .standby .acquire acqF), by decide +kernel⟩,
   ⟨st (witC .standby .acquire acqF), 7, ⟨.acquire, 7, 0, false⟩, answered (witC .standby .acquire acqF), by decide +kernel⟩,
   ⟨st (witC .standby .status acqF), 7, ⟨.status, 7, 0, false⟩, answered (witC .standby .status acqF), by decide +kernel⟩,
   ⟨st (pr { Pair.reset with retryAt := some 5, freed := true } (md .standby acqF)), 5, by decide +kernel⟩,
   ⟨st (pr { Pair.reset with witEnd := some 5 } (leC [])), 5, by decide +kernel⟩,
   ⟨st (pr { Pair.reset with take := some .permission } (leC [])), by decide +kernel⟩⟩

theorem witness_witness_and_lease_rows_complete_3 :
    (∃ (s : State) (since : Nat), s.c.pair.take = some (.members since)) ∧
    (∃ (s : State) (h : HbMsg), s.c.pair.hand = some .drain ∧ s.c.pair.last = some h ∧ s.c.ioTags = 0 ∧ h.applied = s.c.car.head - 1 ∧ s.c.halted = false) ∧
    (∃ (s : State) (x : Nat), s.c.pair.hand = some (.fenced x)) ∧
    (∃ (s : State) (x : Nat), s.c.pair.forceAt = some x ∧ s.c.mode = .standby ∧ s.c.lease = false ∧ s.c.halted = false) :=
  ⟨⟨st (pr { Pair.reset with take := some (.members 5) } (leC [])), 5, by decide +kernel⟩,
   ⟨st (pr { Pair.reset with hand := some .drain, last := some (hb 0) } (leC [])), hb 0, by decide +kernel⟩,
   ⟨st (pr { Pair.reset with hand := some (.fenced 5) } (md .fenced [])), 5, by decide +kernel⟩,
   ⟨st (pr { Pair.reset with forceAt := some 5 } (md .standby [])), 5, by decide +kernel⟩⟩

theorem witness_release_fault_rows_complete :
    (∃ (s : State) (i : Instr) (code : Nat) (detail : Nat), s.c.halted = false ∧ ([(.lockstepMismatch 0, 0x02, 0), (.lockstepMismatch 1, 0x02, 1), (.watchdogExpire, 0x03, 0), (.hbmStackFailure false, 0x06, 6), (.hbmStackFailure true, 0x06, 7), (.clockLoss, 0x0D, 0)] : List (Instr × Nat × Nat)).contains (i, code, detail) = true ∧ s.c.lease = true) ∧
    (∃ (s : State) (i : Instr) (code : Nat) (detail : Nat), s.c.halted = false ∧ ([(.lockstepMismatch 0, 0x02, 0), (.lockstepMismatch 1, 0x02, 1), (.watchdogExpire, 0x03, 0), (.hbmStackFailure false, 0x06, 6), (.hbmStackFailure true, 0x06, 7), (.clockLoss, 0x0D, 0)] : List (Instr × Nat × Nat)).contains (i, code, detail) = true ∧ s.c.lease = false ∧ s.c.mode = .standby ∧ s.c.flag F.PEER_CFG_en = true) ∧
    (∃ (s : State) (i : Instr) (code : Nat) (detail : Nat), s.c.halted = false ∧ ([(.lockstepMismatch 0, 0x02, 0), (.lockstepMismatch 1, 0x02, 1), (.watchdogExpire, 0x03, 0), (.hbmStackFailure false, 0x06, 6), (.hbmStackFailure true, 0x06, 7), (.clockLoss, 0x0D, 0)] : List (Instr × Nat × Nat)).contains (i, code, detail) = true ∧ s.c.lease = false ∧ s.c.mode ≠ .standby) ∧
    (∃ (s : State), s.c.halted = false ∧ s.c.lease = true) :=
  ⟨⟨st (leC []), .clockLoss, 0x0D, 0, by decide +kernel⟩,
   ⟨st (md .standby [(F.PEER_CFG_en, 1)]), .watchdogExpire, 0x03, 0, by decide +kernel⟩,
   ⟨st (md .active []), .lockstepMismatch 1, 0x02, 1, by decide +kernel⟩,
   ⟨st (leC []), by decide +kernel⟩⟩

theorem witness_bay_channel_rows_complete_1 :
    (∃ (s : State) (bay : Fin 24), s.c.bayDie = true ∧ s.c.seat bay = false) ∧
    (∃ (s : State) (bay : Fin 24) (x : Nat), s.c.bayDie = true ∧ (s.c.ch bay).debAt = some x) ∧
    (∃ (s : State) (bay : Fin 24), s.c.bayDie = true ∧ s.c.seat bay = true ∧ s.c.chSt bay = Ch.precheck) ∧
    (∃ (s : State) (bay : Fin 24), s.c.bayDie = true ∧ s.c.seat bay = true ∧ s.c.chSt bay = Ch.ramp) ∧
    (∃ (s : State) (bay : Fin 24), s.c.bayDie = true ∧ s.c.seat bay = true ∧ s.c.chSt bay = Ch.on) ∧
    (∃ (s : State) (bay : Fin 24), s.c.bayDie = true ∧ s.c.seat bay = true ∧ s.c.chSt bay = Ch.keeper) :=
  ⟨⟨st (md .active []), 23, by decide +kernel⟩,
   ⟨st (bay1 { Bay.reset with debAt := some 5 } []), 1, 5, by decide +kernel⟩,
   ⟨st (bay1 Bay.reset [(F.BAY_CH_STAT_state 1, Ch.precheck)]), 1, by decide +kernel⟩,
   ⟨st (bay1 Bay.reset [(F.BAY_CH_STAT_state 1, Ch.ramp)]), 1, by decide +kernel⟩,
   ⟨st (bay1 Bay.reset [(F.BAY_CH_STAT_state 1, Ch.on)]), 1, by decide +kernel⟩,
   ⟨st (bay1 Bay.reset [(F.BAY_CH_STAT_state 1, Ch.keeper)]), 1, by decide +kernel⟩⟩

theorem witness_bay_channel_rows_complete_2 :
    (∃ (s : State) (bay : Fin 24), s.c.bayDie = true ∧ s.c.seat bay = true ∧ s.c.chSt bay = Ch.latched) ∧
    (∃ (s : State) (bay : Fin 24), s.c.bayDie = true ∧ s.c.seat bay = true ∧ s.c.chSt bay = Ch.seating) ∧
    (∃ (s : State) (bay : Fin 24), s.c.bayDie = true ∧ s.c.seat bay = true ∧ s.c.chSt bay = Ch.idle) ∧
    (∃ (s : State) (b : Nat), s.c.lease = true ∧ s.c.power.stop.isNone = true ∧ s.c.ramping < s.c.get F.BAY_CFG_max_ramp ∧ (List.range 24).find? s.c.slotFor = some b) ∧
    (∃ (s : State) (bay : Fin 24) (first : BaySample) (last : BaySample), s.c.bayDie = true ∧ s.c.chSt bay = Ch.precheck ∧ Tab.has s.c.bay.cal bay = false ∧ (at90 first && at90 last) = false ∧ 9000 ≤ last.vin) ∧
    (∃ (s : State) (bay : Fin 24) (first : BaySample) (last : BaySample), s.c.bayDie = true ∧ s.c.chSt bay = Ch.precheck ∧ Tab.has s.c.bay.cal bay = false ∧ at90 first = true ∧ at90 last = true) :=
  ⟨⟨st (bay1 Bay.reset [(F.BAY_CH_STAT_state 1, Ch.latched)]), 1, by decide +kernel⟩,
   ⟨st (bay1 Bay.reset [(F.BAY_CH_STAT_state 1, Ch.seating)]), 1, by decide +kernel⟩,
   ⟨st (bay1 Bay.reset [(F.BAY_CH_STAT_state 1, Ch.idle)]), 1, by decide +kernel⟩,
   ⟨st (bay1 { Bay.reset with want := true } [(F.GLB_MODE_STAT_lease, 1), (F.BAY_CFG_max_ramp, 1), (F.BAY_CH_CFG_en 1, 1), (F.BAY_CH_STAT_state 1, Ch.idle)]), 1, by decide +kernel⟩,
   ⟨st (bay1 Bay.reset [(F.BAY_CH_STAT_state 1, Ch.precheck)]), 1, smp 12000 0 0 0, smp 12000 0 0 0, by decide +kernel⟩,
   ⟨st (bay1 Bay.reset [(F.BAY_CH_STAT_state 1, Ch.precheck)]), 1, smp 12000 12000 0 0, smp 12000 12000 0 0, by decide +kernel⟩⟩

theorem witness_bay_channel_rows_complete_3 :
    (∃ (s : State) (bay : Fin 24) (first : BaySample) (last : BaySample), s.c.bayDie = true ∧ s.c.chSt bay = Ch.precheck ∧ Tab.has s.c.bay.cal bay = false ∧ (at90 first && at90 last) = false ∧ last.vin < 9000) ∧
    (∃ (s : State) (bay : Fin 24) (v : BaySample), s.c.bayDie = true ∧ s.c.chSt bay = Ch.ramp ∧ at92 v = true ∧ (s.c.ch bay).holdEnd = none) ∧
    (∃ (s : State) (bay : Fin 24), s.c.bayDie = true ∧ ((s.c.chSt bay = Ch.ramp ∨ (s.c.chSt bay = Ch.on ∧ s.c.flag (F.BAY_CH_STAT_limit bay) = false)))) ∧
    (∃ (s : State) (bay : Fin 24), s.c.bayDie = true ∧ ((s.c.chSt bay = Ch.ramp ∨ (s.c.chSt bay = Ch.on ∧ s.c.flag (F.BAY_CH_STAT_limit bay) = false)))) ∧
    (∃ (s : State) (bay : Fin 24) (v : BaySample), s.c.bayDie = true ∧ s.c.gateDriven bay = true ∧ s.c.get (F.BAY_CH_ILIM_ilim_ma bay) ≤ v.i) ∧
    (∃ (s : State) (bay : Fin 24) (v : BaySample), s.c.bayDie = true ∧ s.c.flag (F.BAY_CH_STAT_limit bay) = true ∧ (s.c.ch bay).holdEnd = none ∧ 10 * v.i ≤ 9 * s.c.get (F.BAY_CH_ILIM_ilim_ma bay)) :=
  ⟨⟨st (bay1 Bay.reset [(F.BAY_CH_STAT_state 1, Ch.precheck)]), 1, smp 12000 0 0 0, smp 8999 0 0 0, by decide +kernel⟩,
   ⟨st (bay1 Bay.reset [(F.BAY_CH_STAT_state 1, Ch.ramp)]), 1, smp 12000 11040 0 0, by decide +kernel⟩,
   ⟨st (bay1 Bay.reset [(F.BAY_CH_STAT_state 1, Ch.ramp)]), 1, by decide +kernel⟩,
   ⟨st (bay1 Bay.reset [(F.BAY_CH_STAT_state 1, Ch.on), (F.BAY_CH_STAT_limit 1, 0)]), 1, by decide +kernel⟩,
   ⟨st (bay1 { Bay.reset with gate := .driven true } [(F.BAY_CH_ILIM_ilim_ma 1, 100), (F.BAY_CH_STAT_state 1, Ch.on)]), 1, smp 0 0 100 0, by decide +kernel⟩,
   ⟨st (bay1 Bay.reset [(F.BAY_CH_STAT_limit 1, 1), (F.BAY_CH_ILIM_ilim_ma 1, 100)]), 1, smp 0 0 90 0, by decide +kernel⟩⟩

theorem witness_bay_channel_rows_complete_4 :
    (∃ (s : State) (bay : Fin 24) (x : Nat), s.c.bayDie = true ∧ (s.c.ch bay).timerAt = some x) ∧
    (∃ (s : State) (bay : Fin 24) (v : BaySample), s.c.bayDie = true ∧ s.c.get (F.BAY_CH_ILIM_fast_ma bay) ≤ v.i ∧ (s.c.gateDriven bay || s.c.keeperArmed bay) = true ∧ (s.c.keeperArmed bay || (s.c.ch bay).tripped) = false) ∧
    (∃ (s : State) (bay : Fin 24) (v : BaySample), s.c.bayDie = true ∧ s.c.get (F.BAY_CH_ILIM_fast_ma bay) ≤ v.i ∧ (s.c.gateDriven bay || s.c.keeperArmed bay) = true ∧ (s.c.keeperArmed bay || (s.c.ch bay).tripped) = true) ∧
    (∃ (s : State) (bay : Fin 24) (x : Nat), s.c.bayDie = true ∧ (s.c.ch bay).holdEnd = some x) ∧
    (∃ (s : State) (bay : Fin 24) (v : BaySample), s.c.bayDie = true ∧ 760 ≤ v.tfet ∧ (s.c.gateDriven bay || s.c.chSt bay == Ch.precheck || s.c.keeperArmed bay) = true) ∧
    (∃ (s : State), s.c.bayDie = true) :=
  ⟨⟨st (bay1 { Bay.reset with timerAt := some 5 } []), 1, 5, by decide +kernel⟩,
   ⟨st (bay1 { Bay.reset with gate := .driven true } [(F.BAY_CH_ILIM_fast_ma 1, 100), (F.BAY_CH_STAT_state 1, Ch.on)]), 1, smp 0 0 100 0, by decide +kernel⟩,
   ⟨st (bay1 { Bay.reset with tripped := true, gate := .driven true } [(F.BAY_CH_ILIM_fast_ma 1, 100), (F.BAY_CH_STAT_state 1, Ch.on)]), 1, smp 0 0 100 0, by decide +kernel⟩,
   ⟨st (bay1 { Bay.reset with holdEnd := some 5 } []), 1, 5, by decide +kernel⟩,
   ⟨st (bay1 { Bay.reset with gate := .driven true } [(F.BAY_CH_STAT_state 1, Ch.on)]), 1, smp 0 0 0 760, by decide +kernel⟩,
   ⟨st (md .active []), by decide +kernel⟩⟩

theorem witness_bay_channel_rows_complete_5 :
    ∃ (s : State), s.c.bayDie = true :=
  ⟨st (bay1 { Bay.reset with ps2 := 2, ps2At := 0 } [(F.BAY_CH_STAT_state 1, Ch.on)]), by decide +kernel⟩

theorem witness_bay_control_rows_complete_1 :
    (∃ (s : State) (bay : Fin 24) (x : Nat), s.c.bayDie = true ∧ (s.c.ch bay).pgAt = some x) ∧
    (∃ (s : State) (bay : Fin 24) (x : Nat), s.c.bayDie = true ∧ (s.c.ch bay).off = some (.shutdown x)) ∧
    (∃ (s : State) (bay : Fin 24) (x : Nat), s.c.bayDie = true ∧ (s.c.ch bay).off = some (.perst x)) ∧
    (∃ (s : State) (bay : Fin 24) (v : BaySample) (x : Nat), s.c.bayDie = true ∧ (s.c.ch bay).checkAt = some x ∧ at90 v = false) ∧
    (∃ (s : State) (bay : Fin 24) (v : BaySample) (x : Nat), s.c.bayDie = true ∧ (s.c.ch bay).checkAt = some x ∧ at90 v = true) ∧
    (∃ (s : State) (bay : Fin 24) (x : Nat), s.c.bayDie = true ∧ (s.c.ch bay).againAt = some x) :=
  ⟨⟨st (bay1 { Bay.reset with pgAt := some 5 } []), 1, 5, by decide +kernel⟩,
   ⟨st (bay1 { Bay.reset with off := some (.shutdown 5) } []), 1, 5, by decide +kernel⟩,
   ⟨st (bay1 { Bay.reset with off := some (.perst 5) } []), 1, 5, by decide +kernel⟩,
   ⟨st (bay1 { Bay.reset with checkAt := some 5 } []), 1, smp 12000 0 0 0, 5, by decide +kernel⟩,
   ⟨st (bay1 { Bay.reset with checkAt := some 5 } [(F.BAY_CH_STAT_state 1, Ch.idle)]), 1, smp 12000 12000 0 0, 5, by decide +kernel⟩,
   ⟨st (bay1 { Bay.reset with againAt := some 5 } []), 1, 5, by decide +kernel⟩⟩

theorem witness_bay_control_rows_complete_2 :
    (∃ (s : State) (bay : Fin 24), s.c.bar0Open = true ∧ s.c.bayRefusal bay 1 = 0) ∧
    (∃ (s : State) (bay : Fin 24), s.c.bar0Open = true ∧ s.c.bayRefusal bay 2 = 0) ∧
    (∃ (s : State) (bay : Fin 24), s.c.bar0Open = true ∧ s.c.bayRefusal bay 3 = 0) ∧
    (∃ (s : State) (bay : Fin 24), s.c.bar0Open = true ∧ s.c.bayRefusal bay 4 = 0) ∧
    (∃ (s : State), s.c.bar0Open = true) ∧
    (∃ (s : State) (bays : BitVec 24) (c1 : Ctl), s.c.bar0Open = true ∧ s.c.ps2Clears bays.toNat = false ∧ s.c.pcrRequest Reg.BAY_PS2_OVR 4 (wd (bays.toNat % 2 ^ 24)) true = (0, c1)) :=
  ⟨⟨st (md .active [(F.GLB_MODE_STAT_lease, 1), (F.BAY_CH_CFG_en 1, 1), (F.BAY_CH_STAT_state 1, Ch.idle)]), 1, by decide +kernel⟩,
   ⟨st (md .active [(F.GLB_MODE_STAT_lease, 1), (F.BAY_CH_CFG_en 1, 1), (F.BAY_CH_STAT_state 1, Ch.on)]), 1, by decide +kernel⟩,
   ⟨st (md .active [(F.GLB_MODE_STAT_lease, 1), (F.BAY_CH_CFG_en 1, 1), (F.BAY_CH_STAT_state 1, Ch.latched)]), 1, by decide +kernel⟩,
   ⟨st (md .active [(F.GLB_MODE_STAT_lease, 1), (F.BAY_CH_CFG_en 1, 1), (F.BAY_CH_STAT_state 1, Ch.on)]), 1, by decide +kernel⟩,
   ⟨st (md .active []), by decide +kernel⟩,
   ⟨st (md .active []), 0xFFFFFF, ((md .active []).pcrRequest Reg.BAY_PS2_OVR 4 (wd 0xFFFFFF) true).2, by decide +kernel, by decide +kernel, Prod.ext (by decide +kernel) rfl⟩⟩

theorem witness_bay_control_rows_complete_3 :
    (∃ (s : State) (bay : Fin 24) (ofs : BitVec 16) (x : Nat) (c3 : Ctl), s.c.testRuns 0x0A30 = true ∧ Tab.at? s.c.bay.cal bay = some x ∧ (let c0 := s.c.reach x; let c1 := if c0.chSt bay = Ch.precheck then c0.onCh bay (fun y => { y with since := c0.dt }) else c0; ({ c1 with bay := { c1.bay with cal := Tab.del c1.bay.cal bay }, mgt := { c1.mgt with tests := c1.mgt.tests.filter (fun x => !(x.op == 0x0A30 && x.target == bay.val)) } } : Ctl).pcrRequest (Reg.BAY_CH_OFS bay) (8 + bay) (ofs.setWidth 32) false) = (0, c3)) ∧
    (∃ (s : State) (parts : Bool) (v12 : Bool), s.c.bayDie = true ∧ (parts && v12 || (s.c.setFlag F.BAY_STAT_v12_ok v12).flag F.BAY_STAT_die_fault) = true) ∧
    (∃ (s : State) (parts : Bool) (v12 : Bool), s.c.bayDie = true ∧ (parts && v12 || (s.c.setFlag F.BAY_STAT_v12_ok v12).flag F.BAY_STAT_die_fault) = false) ∧
    (∃ (s : State), s.c.bayDie = true) :=
  ⟨⟨st calC, 1, 7, 5, (calD.pcrRequest (Reg.BAY_CH_OFS 1) 9 7 false).2, by decide +kernel, by decide +kernel, Prod.ext (by decide +kernel) rfl⟩,
   ⟨st (md .active []), true, true, by decide +kernel⟩,
   ⟨st (md .active []), false, true, by decide +kernel⟩,
   ⟨st (md .active []), by decide +kernel⟩⟩

theorem witness_chieb_register_rows_complete_1 :
    (∃ (s : State) (src : ChiebSrc) (t : Taken) (m : Mem) (c : Ctl), (ChiebServed 0x0000 src s t m c) ∧ (True)) ∧
    (∃ (s : State) (src : ChiebSrc) (t : Taken) (m : Mem) (c : Ctl), (ChiebServed 0x0001 src s t m c) ∧ (True)) ∧
    (∃ (s : State) (src : ChiebSrc) (t : Taken) (m : Mem) (c : Ctl) (e : HandleE), (ChiebServed 0x0002 src s t m c) ∧ (Tab.at? c.mgt.handles (t.w 0) = some e) ∧ (t.pkt.words ≠ []) ∧ (e.ended.isSome = true)) ∧
    (∃ (s : State) (handle : Fin 64) (x : Nat), (Tab.at? s.c.mgt.handles handle).bind (·.ended) = some x) ∧
    (∃ (s : State) (src : ChiebSrc) (t : Taken) (m : Mem) (c : Ctl), (ChiebServed 0x0100 src s t m c) ∧ (2 ≤ t.pkt.words.length ∧ t.w 0 % 4 = 0 ∧ t.w 1 ≠ 0 ∧ t.w 1 ≤ 16384 ∧ t.w 0 + 4 * t.w 1 ≤ 0x4000000 ∧ kpDenied t (t.w 0) (t.w 1) = false)) ∧
    (∃ (s : State) (src : ChiebSrc) (t : Taken) (m : Mem) (c : Ctl), (ChiebServed 0x0100 src s t m c) ∧ (2 ≤ t.pkt.words.length ∧ t.w 0 % 4 = 0 ∧ t.w 1 ≠ 0 ∧ t.w 1 ≤ 16384 ∧ t.w 0 + 4 * t.w 1 ≤ 0x4000000 ∧ kpDenied t (t.w 0) (t.w 1) = false)) :=
  ⟨⟨st (chC (md .boot []) 0 0 []), .mailbox 0, chT 0 0 [], (st (chC (md .boot []) 0 0 [])).mem, chC (md .boot []) 0 0 [], by decide +kernel⟩,
   ⟨st (chC (md .fenced []) 1 0 []), .mailbox 0, chT 1 0 [], (st (chC (md .fenced []) 1 0 [])).mem, chC (md .fenced []) 1 0 [], by decide +kernel⟩,
   ⟨st (chC { md .active [] with mgt := { Mgmt.reset with handles := [(63, ⟨0x0602, 0, [], some 5⟩)] } } 2 0 [63]), .mailbox 0, chT 2 0 [63], (st (chC { md .active [] with mgt := { Mgmt.reset with handles := [(63, ⟨0x0602, 0, [], some 5⟩)] } } 2 0 [63])).mem, chC { md .active [] with mgt := { Mgmt.reset with handles := [(63, ⟨0x0602, 0, [], some 5⟩)] } } 2 0 [63], ⟨0x0602, 0, [], some 5⟩, by decide +kernel⟩,
   ⟨st { md .active [] with mgt := { Mgmt.reset with handles := [(63, ⟨0x0602, 0, [], some 5⟩)] } }, 63, 5, by decide +kernel⟩,
   ⟨st (chC (md .active []) 0x100 0 [0, 16384]), .mailbox 0, chT 0x100 0 [0, 16384], (st (chC (md .active []) 0x100 0 [0, 16384])).mem, chC (md .active []) 0x100 0 [0, 16384], by decide +kernel⟩,
   ⟨st (chC (md .active []) 0x100 0 [0x3FFFFFC, 1]), .mailbox 0, chT 0x100 0 [0x3FFFFFC, 1], (st (chC (md .active []) 0x100 0 [0x3FFFFFC, 1])).mem, chC (md .active []) 0x100 0 [0x3FFFFFC, 1], by decide +kernel⟩⟩

theorem witness_chieb_register_rows_complete_2 :
    (∃ (s : State) (src : ChiebSrc) (t : Taken) (m : Mem) (c : Ctl), (ChiebServed 0x0101 src s t m c) ∧ (3 ≤ t.pkt.words.length) ∧ (t.w 1 + 2 = t.pkt.words.length) ∧ (t.w 0 % 4 = 0) ∧ (t.w 0 + 4 * t.w 1 ≤ 0x4000000) ∧ (kpDenied t (t.w 0) (t.w 1) = false)) ∧
    ((regPuts (chT 0x101 0 [BitVec.ofNat 32 Reg.TIM_SYNC_LOST, 1, 7]) State.reset.mem (chC (md .standby []) 0x101 0 []) Reg.TIM_SYNC_LOST [7]).reply = some (Cs.ok, [])) ∧
    (∃ (s : State) (src : ChiebSrc) (t : Taken) (m : Mem) (c : Ctl) (r : Mem × Ctl), (ChiebServed 0x0102 src s t m c) ∧ (3 ≤ t.pkt.words.length) ∧ (t.w 0 % 4 = 0) ∧ (t.w 0 < 0x4000000) ∧ (kpDenied t (t.w 0) 1 = false) ∧ (regPut t m c (t.w 0) (wd (t.w 2)) (wd (t.w 1)) = (0, r))) ∧
    (∃ (s : State) (src : ChiebSrc) (t : Taken) (m : Mem) (c : Ctl) (k : Nat), (ChiebServed 0x0200 src s t m c) ∧ (Tab.freeKey c.mgt.txns 0 8 = some k)) ∧
    (∃ (s : State) (src : ChiebSrc) (t : Taken) (m : Mem) (c : Ctl) (k : Nat) (x : Txn), (ChiebServed 0x0201 src s t m c) ∧ (c.txnBy t.pkt.txn = some (k, x)) ∧ (x.state = 1) ∧ (c.committing = false) ∧ ((commitStart m c k x).st = Cs.ok)) ∧
    (∃ (s : State) (src : ChiebSrc) (t : Taken) (m : Mem) (c : Ctl) (k h : Nat) (x : Txn), (ChiebServed 0x0202 src s t m c) ∧ (c.txnBy t.pkt.txn = some (k, x)) ∧ (x.state = 1) ∧ (3 ≤ t.pkt.words.length) ∧ (t.w 2 < 1000000000) ∧ (dntOf (t.w 0) (t.w 1) (t.w 2) ≤ c.dntNs + 604800000000000) ∧ (c.dntNs < dntOf (t.w 0) (t.w 1) (t.w 2)) ∧ (c.handleFree = some h)) :=
  ⟨⟨st (chC (md .standby []) 0x101 0 [BitVec.ofNat 32 Reg.TIM_SYNC_LOST, 1, 7]), .mailbox 0, chT 0x101 0 [BitVec.ofNat 32 Reg.TIM_SYNC_LOST, 1, 7], (st (chC (md .standby []) 0x101 0 [BitVec.ofNat 32 Reg.TIM_SYNC_LOST, 1, 7])).mem, chC (md .standby []) 0x101 0 [BitVec.ofNat 32 Reg.TIM_SYNC_LOST, 1, 7], by decide +kernel⟩,
   by decide +kernel,
   ⟨st (chC (md .standby []) 0x102 0 [BitVec.ofNat 32 Reg.TIM_SYNC_LOST, 0, 0]), .mailbox 0, chT 0x102 0 [BitVec.ofNat 32 Reg.TIM_SYNC_LOST, 0, 0], (st (chC (md .standby []) 0x102 0 [BitVec.ofNat 32 Reg.TIM_SYNC_LOST, 0, 0])).mem, chC (md .standby []) 0x102 0 [BitVec.ofNat 32 Reg.TIM_SYNC_LOST, 0, 0], (regPut (chT 0x102 0 [BitVec.ofNat 32 Reg.TIM_SYNC_LOST, 0, 0]) State.reset.mem (chC (md .standby []) 0x102 0 [BitVec.ofNat 32 Reg.TIM_SYNC_LOST, 0, 0]) Reg.TIM_SYNC_LOST 0 0).2, by decide +kernel, by decide +kernel, by decide +kernel, by decide +kernel, by decide +kernel, Prod.ext (by decide +kernel) rfl⟩,
   ⟨st (chC { txC 1 with mgt := { Mgmt.reset with txns := (List.range 7).map (fun k => (k, schedTx)) } } 0x200 0 []), .mailbox 0, chT 0x200 0 [], (st (chC { txC 1 with mgt := { Mgmt.reset with txns := (List.range 7).map (fun k => (k, schedTx)) } } 0x200 0 [])).mem, chC { txC 1 with mgt := { Mgmt.reset with txns := (List.range 7).map (fun k => (k, schedTx)) } } 0x200 0 [], 7, by decide +kernel⟩,
   ⟨st (chC (txC 1) 0x201 1 []), .mailbox 0, chT 0x201 1 [], (st (chC (txC 1) 0x201 1 [])).mem, chC (txC 1) 0x201 1 [], 0, { schedTx with state := 1 }, by decide +kernel⟩,
   ⟨st (chC (txC 1) 0x202 1 [1, 0, 999999999]), .mailbox 0, chT 0x202 1 [1, 0, 999999999], (st (chC (txC 1) 0x202 1 [1, 0, 999999999])).mem, chC (txC 1) 0x202 1 [1, 0, 999999999], 0, 0, { schedTx with state := 1 }, by decide +kernel⟩⟩

theorem witness_chieb_register_rows_complete_3 :
    (∃ (s : State) (src : ChiebSrc) (t : Taken) (m : Mem) (c : Ctl) (k : Nat) (x : Txn), (ChiebServed 0x0202 src s t m c) ∧ (c.txnBy t.pkt.txn = some (k, x)) ∧ (x.state = 1) ∧ (3 ≤ t.pkt.words.length) ∧ (t.w 2 < 1000000000) ∧ (dntOf (t.w 0) (t.w 1) (t.w 2) ≤ c.dntNs) ∧ (c.committing = false) ∧ ((commitStart m c k x).st = Cs.ok)) ∧
    (∃ (s : State) (src : ChiebSrc) (t : Taken) (m : Mem) (c : Ctl) (k : Nat) (x : Txn), (ChiebServed 0x0203 src s t m c) ∧ (c.txnBy t.pkt.txn = some (k, x)) ∧ (x.state = 1)) ∧
    (∃ (s : State) (src : ChiebSrc) (t : Taken) (m : Mem) (c : Ctl) (k : Nat) (x : Txn), (ChiebServed 0x0203 src s t m c) ∧ (c.txnBy t.pkt.txn = some (k, x)) ∧ ((x.state = 2 ∨ x.state = 3))) ∧
    (∃ (s : State) (src : ChiebSrc) (t : Taken) (m : Mem) (c : Ctl) (k : Nat) (x : Txn), (ChiebServed 0x0203 src s t m c) ∧ (c.txnBy t.pkt.txn = some (k, x)) ∧ ((x.state = 2 ∨ x.state = 3))) ∧
    (∃ (s : State) (src : ChiebSrc) (t : Taken) (m : Mem) (c : Ctl) (k : Nat) (x : Txn), (ChiebServed 0x0204 src s t m c) ∧ (t.pkt.words ≠ []) ∧ (c.txnBy (t.w 0) = some (k, x)) ∧ (x.owner = t.chan)) ∧
    (∃ (s : State) (src : ChiebSrc) (t : Taken) (m : Mem) (c : Ctl), (ChiebServed 0x0B01 src s t m c) ∧ (True)) :=
  ⟨⟨st (chC (txC 1) 0x202 1 [0, 0, 0]), .mailbox 0, chT 0x202 1 [0, 0, 0], (st (chC (txC 1) 0x202 1 [0, 0, 0])).mem, chC (txC 1) 0x202 1 [0, 0, 0], 0, { schedTx with state := 1 }, by decide +kernel⟩,
   ⟨st (chC (txC 1) 0x203 1 []), .mailbox 0, chT 0x203 1 [], (st (chC (txC 1) 0x203 1 [])).mem, chC (txC 1) 0x203 1 [], 0, { schedTx with state := 1 }, by decide +kernel⟩,
   ⟨st (chC (txC 2) 0x203 1 []), .mailbox 0, chT 0x203 1 [], (st (chC (txC 2) 0x203 1 [])).mem, chC (txC 2) 0x203 1 [], 0, { schedTx with state := 2 }, by decide +kernel⟩,
   ⟨st (chC (txC 3) 0x203 1 []), .mailbox 0, chT 0x203 1 [], (st (chC (txC 3) 0x203 1 [])).mem, chC (txC 3) 0x203 1 [], 0, { schedTx with state := 3 }, by decide +kernel⟩,
   ⟨st (chC (txC 1) 0x204 0 [1]), .mailbox 0, chT 0x204 0 [1], (st (chC (txC 1) 0x204 0 [1])).mem, chC (txC 1) 0x204 0 [1], 0, { schedTx with state := 1 }, by decide +kernel⟩,
   ⟨st (chC (txC 2) 0xB01 0 []), .mailbox 0, chT 0xB01 0 [], (st (chC (txC 2) 0xB01 0 [])).mem, chC (txC 2) 0xB01 0 [], by decide +kernel⟩⟩

theorem witness_chieb_register_rows_complete_4 :
    ∃ (s : State) (slot : Fin 8) (x : Txn), Tab.at? s.c.mgt.txns slot = some x ∧ x.state = 1 :=
  ⟨st (txC 1), 0, { schedTx with state := 1 }, by decide +kernel⟩

theorem witness_chieb_object_rows_complete_1 :
    (∃ (s : State) (src : ChiebSrc) (t : Taken) (m : Mem) (c : Ctl), (ChiebServed 0x0300 src s t m c) ∧ (t.pkt.words ≠ [] ∧ t.w 0 < 16)) ∧
    (∃ (s : State) (src : ChiebSrc) (t : Taken) (m : Mem) (c c0 : Ctl) (e : Nat), (ChiebServed 0x0400 src s t m c) ∧ (c.lease = true) ∧ (8 ≤ t.pkt.words.length) ∧ (t.w 0 % 16384 ≠ 0) ∧ (t.w 3 ≠ 0) ∧ ((t.bytesFrom 4 4).all (· == 0) = false) ∧ (c.mgt.nguid.any (fun p => p.1 != t.w 0 % 16384 && p.2 == t.bytesFrom 4 4) = false) ∧ (c.nsValid (t.w 0 % 16384) = false) ∧ (c.grpReady (t.w 1 % 16) = true) ∧ (c.extentPlace (t.w 1 % 16) (t.w 3) = some e) ∧ (c.rgExtend (t.w 1 % 16) (t.w 0 % 16384) (t.w 3) = some c0)) ∧
    (∃ (s : State) (src : ChiebSrc) (t : Taken) (m : Mem) (c : Ctl), (ChiebServed 0x0401 src s t m c) ∧ (c.lease = true ∧ 1 ≤ t.pkt.words.length ∧ c.nsValid (t.w 0) = true ∧ Tab.has c.mgt.nsDel (t.w 0) = false) ∧ (c.handleFree.isSome = true)) ∧
    (∃ (s : State) (src : ChiebSrc) (t : Taken) (m : Mem) (c : Ctl), (ChiebServed 0x0402 src s t m c) ∧ (c.lease = true ∧ 2 ≤ t.pkt.words.length ∧ c.nsValid (t.w 0) = true ∧ Tab.has c.mgt.nsDel (t.w 0) = false)) ∧
    (∃ (s : State) (src : ChiebSrc) (t : Taken) (m : Mem) (c : Ctl), (ChiebServed 0x0403 src s t m c) ∧ (c.lease = true ∧ t.pkt.words ≠ [] ∧ c.nsValid (t.w 0) = true)) ∧
    (∃ (s : State) (src : ChiebSrc) (t : Taken) (m : Mem) (c : Ctl), (ChiebServed 0x0410 src s t m c) ∧ (c.lease = true ∧ 57 ≤ t.pkt.words.length ∧ (t.nqnFrom 1).isEmpty = false ∧ t.w 0 / 2 ^ 20 % 16 ≠ 1 ∧ ((c.mgt.hosts.find? (fun h => h.nqn == t.nqnFrom 1)).isSome = true ∨ c.mgt.hosts.length < 8192))) :=
  ⟨⟨st (chC (md .active []) 0x300 0 [15]), .mailbox 0, chT 0x300 0 [15], (st (chC (md .active []) 0x300 0 [15])).mem, chC (md .active []) 0x300 0 [15], by decide +kernel⟩,
   ⟨st (chC grpC 0x400 0 nsWs), .mailbox 0, chT 0x400 0 nsWs, (st (chC grpC 0x400 0 nsWs)).mem, chC grpC 0x400 0 nsWs, chC grpC 0x400 0 nsWs, 0, by and_intros <;> (try decide +kernel) <;> with_unfolding_all rfl⟩,
   ⟨st (chC nsqC 0x401 0 [1]), .mailbox 0, chT 0x401 0 [1], (st (chC nsqC 0x401 0 [1])).mem, chC nsqC 0x401 0 [1], by decide +kernel⟩,
   ⟨st (chC nsqC 0x402 0 [1, 7]), .mailbox 0, chT 0x402 0 [1, 7], (st (chC nsqC 0x402 0 [1, 7])).mem, chC nsqC 0x402 0 [1, 7], by decide +kernel⟩,
   ⟨st (chC nsqC 0x403 0 [1]), .mailbox 0, chT 0x403 0 [1], (st (chC nsqC 0x403 0 [1])).mem, chC nsqC 0x403 0 [1], by decide +kernel⟩,
   ⟨st (chC (act []) 0x410 0 (5 :: nqnWs 0x41)), .mailbox 0, chT 0x410 0 (5 :: nqnWs 0x41), (st (chC (act []) 0x410 0 (5 :: nqnWs 0x41))).mem, chC (act []) 0x410 0 (5 :: nqnWs 0x41), by decide +kernel⟩⟩

theorem witness_chieb_object_rows_complete_2 :
    (∃ (s : State) (src : ChiebSrc) (t : Taken) (m : Mem) (c : Ctl), (ChiebServed 0x0411 src s t m c) ∧ (c.lease = true ∧ 56 ≤ t.pkt.words.length ∧ c.mgt.hosts.any (fun h => h.nqn == t.nqnFrom 0) = true)) ∧
    (∃ (s : State) (src : ChiebSrc) (t : Taken) (m : Mem) (c : Ctl), (ChiebServed 0x0412 src s t m c) ∧ (c.lease = true ∧ t.pkt.words ≠ [] ∧ t.w 0 < 8192)) ∧
    (∃ (s : State) (src : ChiebSrc) (t : Taken) (m : Mem) (c : Ctl), (ChiebServed 0x0420 src s t m c) ∧ (c.lease = true ∧ 56 ≤ t.pkt.words.length ∧ (t.nqnFrom 0).isEmpty = false)) ∧
    (∃ (s : State) (src : ChiebSrc) (t : Taken) (m : Mem) (c : Ctl), (ChiebServed 0x0B00 src s t m c) ∧ (True)) ∧
    (∃ (s : State) (src : ChiebSrc) (t : Taken) (m : Mem) (c : Ctl), (ChiebServed 0x0500 src s t m c) ∧ (t.pkt.words.length = 1 ∧ t.w 0 < 4096)) ∧
    (∃ (s : State) (src : ChiebSrc) (t : Taken) (m : Mem) (c : Ctl), (ChiebServed 0x0501 src s t m c) ∧ (let old := if c.bankState 1 = 2 then 1 else 0; [Mode.standby, .active, .degraded, .quiesced].contains c.mode = true ∧ t.pkt.words.length = 9 ∧ t.w 8 ≠ 0 ∧ (c.bankState old = 2 → c.bankId old ≠ t.w 8) ∧ c.flag F.CIP_SKEK_STAT_rewrap = false)) :=
  ⟨⟨st (chC { act [] with mgt := { Mgmt.reset with hosts := [⟨[0x41], 5, false, true, 0⟩] } } 0x411 0 (nqnWs 0x41)), .mailbox 0, chT 0x411 0 (nqnWs 0x41), (st (chC { act [] with mgt := { Mgmt.reset with hosts := [⟨[0x41], 5, false, true, 0⟩] } } 0x411 0 (nqnWs 0x41))).mem, chC { act [] with mgt := { Mgmt.reset with hosts := [⟨[0x41], 5, false, true, 0⟩] } } 0x411 0 (nqnWs 0x41), by decide +kernel⟩,
   ⟨st (chC (act []) 0x412 0 [8191]), .mailbox 0, chT 0x412 0 [8191], (st (chC (act []) 0x412 0 [8191])).mem, chC (act []) 0x412 0 [8191], by decide +kernel⟩,
   ⟨st (chC (act []) 0x420 0 (nqnWs 0x41)), .mailbox 0, chT 0x420 0 (nqnWs 0x41), (st (chC (act []) 0x420 0 (nqnWs 0x41))).mem, chC (act []) 0x420 0 (nqnWs 0x41), by decide +kernel⟩,
   ⟨st (chC (act []) 0xB00 0 []), .mailbox 0, chT 0xB00 0 [], (st (chC (act []) 0xB00 0 [])).mem, chC (act []) 0xB00 0 [], by decide +kernel⟩,
   ⟨st (chC (act []) 0x500 0 [4095]), .mailbox 0, chT 0x500 0 [4095], (st (chC (act []) 0x500 0 [4095])).mem, chC (act []) 0x500 0 [4095], by decide +kernel⟩,
   ⟨st (chC (act []) 0x501 0 [0, 0, 0, 0, 0, 0, 0, 0, 1]), .mailbox 0, chT 0x501 0 [0, 0, 0, 0, 0, 0, 0, 0, 1], (st (chC (act []) 0x501 0 [0, 0, 0, 0, 0, 0, 0, 0, 1])).mem, chC (act []) 0x501 0 [0, 0, 0, 0, 0, 0, 0, 0, 1], by decide +kernel⟩⟩

theorem witness_chieb_object_rows_complete_3 :
    (∃ (s : State) (src : ChiebSrc) (t : Taken) (m : Mem) (c : Ctl), (ChiebServed 0x0502 src s t m c) ∧ (t.pkt.words.length = 22 ∧ t.w 0 < 4096 ∧ t.w 1 < 16) ∧ (c.handleFree.isSome = true)) ∧
    (∃ (s : State) (src : ChiebSrc) (t : Taken) (m : Mem) (c : Ctl), (ChiebServed 0x0503 src s t m c) ∧ (t.pkt.words.length = 2 ∧ t.w 0 < 4096 ∧ (t.w 1 / 2 ^ 28 = 2 ∨ t.w 1 / 2 ^ 28 = 3)) ∧ (c.handleFree.isSome = true)) ∧
    (∃ (s : State) (src : ChiebSrc) (t : Taken) (m : Mem) (c : Ctl), (ChiebServed 0x0503 src s t m c) ∧ (t.pkt.words.length = 2 ∧ t.w 0 < 4096 ∧ (t.w 1 / 2 ^ 28 = 2 ∨ t.w 1 / 2 ^ 28 = 3)) ∧ (c.handleFree.isSome = true)) :=
  ⟨⟨st (chC (act []) 0x502 0 ([4095, 15] ++ List.replicate 20 0)), .mailbox 0, chT 0x502 0 ([4095, 15] ++ List.replicate 20 0), (st (chC (act []) 0x502 0 ([4095, 15] ++ List.replicate 20 0))).mem, chC (act []) 0x502 0 ([4095, 15] ++ List.replicate 20 0), by decide +kernel⟩,
   ⟨st (chC (act []) 0x503 0 [4095, 0x20000000]), .mailbox 0, chT 0x503 0 [4095, 0x20000000], (st (chC (act []) 0x503 0 [4095, 0x20000000])).mem, chC (act []) 0x503 0 [4095, 0x20000000], by decide +kernel⟩,
   ⟨st (chC (act []) 0x503 0 [4095, 0x30000000]), .mailbox 0, chT 0x503 0 [4095, 0x30000000], (st (chC (act []) 0x503 0 [4095, 0x30000000])).mem, chC (act []) 0x503 0 [4095, 0x30000000], by decide +kernel⟩⟩

theorem witness_chieb_service_rows_complete_1 :
    (∃ (s : State) (src : ChiebSrc) (t : Taken) (m : Mem) (c : Ctl), (ChiebServed 0x0600 src s t m c) ∧ (t.pkt.words.length = 0)) ∧
    (∃ (s : State) (src : ChiebSrc) (t : Taken) (m : Mem) (c c1 : Ctl), (ChiebServed 0x0601 src s t m c) ∧ (t.w 0 % 4096 = 0) ∧ (t.w 1 % 4096 = 0) ∧ (4096 ≤ t.w 1) ∧ (t.w 1 ≤ 61440) ∧ (t.pkt.words.length = 2 + t.w 1 / 4) ∧ (t.w 0 + t.w 1 ≤ 67108864) ∧ (c.mode ≠ .boot) ∧ (c.stageImage (t.w 0) (wordBytes (t.pkt.words.drop 2)) = some c1)) ∧
    (∃ (s : State) (src : ChiebSrc) (t : Taken) (m : Mem) (c : Ctl) (look : ImgLook), ChiebServed 0x0602 src s t m c ∧ t.pkt.words.length = 1 ∧ c.fwRefusal (t.w 0 % 4) (t.w 0 / 16 % 8) look = 0 ∧ c.handleFree.isSome = true) ∧
    (∃ (s : State) (src : ChiebSrc) (t : Taken) (m : Mem) (c : Ctl), (ChiebServed 0x0603 src s t m c) ∧ (t.pkt.words.length = 0)) ∧
    (∃ (s : State) (src : ChiebSrc) (t : Taken) (m : Mem) (c : Ctl), (ChiebServed 0x0604 src s t m c) ∧ (t.pkt.words.length = 0) ∧ (c.flag F.FWU_STAT_trial = true) ∧ (s.c.trust.leaving = false)) ∧
    (∃ (s : State) (src : ChiebSrc) (t : Taken) (m : Mem) (c : Ctl), (ChiebServed 0x0605 src s t m c) ∧ (t.pkt.words.length = 8 ∧ t.secured = true ∧ (List.range 8).all (fun w => c.pcrRefusal (67 + w) == 0) = true)) :=
  ⟨⟨st (chC (act []) 0x600 0 []), .mailbox 0, chT 0x600 0 [], (st (chC (act []) 0x600 0 [])).mem, chC (act []) 0x600 0 [], by decide +kernel⟩,
   ⟨st (chC (act []) 0x601 0 dlWs), .mailbox 0, chT 0x601 0 dlWs, (st (chC (act []) 0x601 0 dlWs)).mem, chC (act []) 0x601 0 dlWs, ((chC (act []) 0x601 0 dlWs).stageImage 0 (wordBytes (dlWs.drop 2))).get (stage_empty _ _ _ rfl), by decide +kernel, by decide, by decide, by decide, by decide, dl_len, by decide, by decide +kernel, (Option.some_get (stage_empty _ _ _ rfl)).symm⟩,
   ⟨st fwD, .mailbox 0, chT 0x602 0 [0x21], State.reset.mem, fwD, ⟨true, true, true⟩, ⟨trivial, rfl, by decide +kernel, by decide +kernel, by decide +kernel, by decide +kernel⟩, rfl, fw_ok, by decide +kernel⟩,
   ⟨st (chC (act []) 0x603 0 []), .mailbox 0, chT 0x603 0 [], (st (chC (act []) 0x603 0 [])).mem, chC (act []) 0x603 0 [], by decide +kernel⟩,
   ⟨st (chC (act [(F.FWU_STAT_trial, 1)]) 0x604 0 []), .mailbox 0, chT 0x604 0 [], (st (chC (act [(F.FWU_STAT_trial, 1)]) 0x604 0 [])).mem, chC (act [(F.FWU_STAT_trial, 1)]) 0x604 0 [], by decide +kernel⟩,
   ⟨st (chC (act []) 0x605 0 [0, 0, 0, 0, 0, 0, 0, 0]), .mailbox 0, chT 0x605 0 [0, 0, 0, 0, 0, 0, 0, 0], (st (chC (act []) 0x605 0 [0, 0, 0, 0, 0, 0, 0, 0])).mem, chC (act []) 0x605 0 [0, 0, 0, 0, 0, 0, 0, 0], by decide +kernel⟩⟩

theorem witness_chieb_service_rows_complete_2 :
    (∃ (s : State) (src : ChiebSrc) (t : Taken) (m : Mem) (c : Ctl), (ChiebServed 0x0605 src s t m c) ∧ (t.src = .mailbox 0 ∧ t.pkt.words.length = 8 ∧ c.rootZero = true ∧ (List.range 8).all (fun w => c.pcrRefusal (67 + w) == 0) = true)) ∧
    (∃ (s : State) (src : ChiebSrc) (t : Taken) (m : Mem) (c : Ctl), (ChiebServed 0x0700 src s t m c) ∧ (True)) ∧
    (∃ (s : State) (src : ChiebSrc) (t : Taken) (m : Mem) (c : Ctl), (ChiebServed 0x0701 src s t m c) ∧ (True)) ∧
    (∃ (s : State) (src : ChiebSrc) (t : Taken) (m : Mem) (c : Ctl), (ChiebServed 0x0702 src s t m c) ∧ (t.pkt.words ≠ [] ∧ t.w 0 ≠ 0 ∧ t.w 0 ≤ 2048)) ∧
    (∃ (s : State) (src : ChiebSrc) (t : Taken) (m : Mem) (c : Ctl), (ChiebServed 0x0800 src s t m c) ∧ (t.pkt.words.length = 0)) ∧
    (∃ (s : State) (src : ChiebSrc) (t : Taken) (m : Mem) (c : Ctl), (ChiebServed 0x0801 src s t m c) ∧ (t.pkt.words.length = 0 ∧ c.lease = true ∧ c.flag F.GLB_MODE_STAT_peer_synced = true ∧ c.pair.hand = none ∧ c.halted = false) ∧ (c.handleFree.isSome = true)) :=
  ⟨⟨st (chC (act []) 0x605 0 [0, 0, 0, 0, 0, 0, 0, 0]), .mailbox 0, chT 0x605 0 [0, 0, 0, 0, 0, 0, 0, 0], (st (chC (act []) 0x605 0 [0, 0, 0, 0, 0, 0, 0, 0])).mem, chC (act []) 0x605 0 [0, 0, 0, 0, 0, 0, 0, 0], by decide +kernel⟩,
   ⟨st (chC (act []) 0x700 0 []), .mailbox 0, chT 0x700 0 [], (st (chC (act []) 0x700 0 [])).mem, chC (act []) 0x700 0 [], by decide +kernel⟩,
   ⟨st (chC (act []) 0x701 0 []), .mailbox 0, chT 0x701 0 [], (st (chC (act []) 0x701 0 [])).mem, chC (act []) 0x701 0 [], by decide +kernel⟩,
   ⟨st (chC (act []) 0x702 0 [2048]), .mailbox 0, chT 0x702 0 [2048], (st (chC (act []) 0x702 0 [2048])).mem, chC (act []) 0x702 0 [2048], by decide +kernel⟩,
   ⟨st (chC (act []) 0x800 0 []), .mailbox 0, chT 0x800 0 [], (st (chC (act []) 0x800 0 [])).mem, chC (act []) 0x800 0 [], by decide +kernel⟩,
   ⟨st (chC (act [(F.GLB_MODE_STAT_peer_synced, 1)]) 0x801 0 []), .mailbox 0, chT 0x801 0 [], (st (chC (act [(F.GLB_MODE_STAT_peer_synced, 1)]) 0x801 0 [])).mem, chC (act [(F.GLB_MODE_STAT_peer_synced, 1)]) 0x801 0 [], by decide +kernel⟩⟩

theorem witness_chieb_service_rows_complete_3 :
    (∃ (s : State) (src : ChiebSrc) (t : Taken) (m : Mem) (c : Ctl), (ChiebServed 0x0802 src s t m c) ∧ (t.pkt.words.length = 1 ∧ t.w 0 % 2 = 1 ∧ c.mode = .standby ∧ c.lease = false ∧ c.halted = false ∧ (c.flag F.PEER_STAT_suspect || !c.flag F.PEER_STAT_link_up) = true ∧ (c.flag F.GLB_MODE_STAT_no_witness || c.flag F.GLB_MODE_STAT_stale_epoch) = true)) ∧
    (∃ (s : State) (src : ChiebSrc) (t : Taken) (m : Mem) (c : Ctl), (ChiebServed 0x0900 src s t m c) ∧ (True)) ∧
    (∃ (s : State) (src : ChiebSrc) (t : Taken) (m : Mem) (c : Ctl), (ChiebServed 0x0901 src s t m c) ∧ (2 ≤ t.pkt.words.length) ∧ (t.w 1 % 8 ≠ 0) ∧ (t.w 1 % 8 ≤ 4) ∧ (c.lease = true)) ∧
    (∃ (s : State) (src : ChiebSrc) (t : Taken) (m : Mem) (c c1 : Ctl), (ChiebServed 0x0902 src s t m c) ∧ (2 ≤ t.pkt.words.length) ∧ (t.w 1 % 2 = 1) ∧ (c.ps2Clears (t.w 0) = false) ∧ (c.pcrRequest Reg.BAY_PS2_OVR 4 (wd (t.w 0 % 2 ^ 24)) false = (0, c1))) :=
  ⟨⟨st (chC (md .standby [(F.GLB_MODE_STAT_no_witness, 1), (F.PEER_STAT_suspect, 1)]) 0x802 0 [1]), .mailbox 0, chT 0x802 0 [1], (st (chC (md .standby [(F.GLB_MODE_STAT_no_witness, 1), (F.PEER_STAT_suspect, 1)]) 0x802 0 [1])).mem, chC (md .standby [(F.GLB_MODE_STAT_no_witness, 1), (F.PEER_STAT_suspect, 1)]) 0x802 0 [1], by decide +kernel⟩,
   ⟨st (chC (act []) 0x900 0 []), .mailbox 0, chT 0x900 0 [], (st (chC (act []) 0x900 0 [])).mem, chC (act []) 0x900 0 [], by decide +kernel⟩,
   ⟨st (chC (act []) 0x901 0 [0, 1]), .mailbox 0, chT 0x901 0 [0, 1], (st (chC (act []) 0x901 0 [0, 1])).mem, chC (act []) 0x901 0 [0, 1], by decide +kernel⟩,
   ⟨st (chC (act []) 0x902 0 [1, 1]), .mailbox 0, chT 0x902 0 [1, 1], (st (chC (act []) 0x902 0 [1, 1])).mem, chC (act []) 0x902 0 [1, 1], ((chC (act []) 0x902 0 [1, 1]).pcrRequest Reg.BAY_PS2_OVR 4 (wd (1 % 2 ^ 24)) false).2, by decide +kernel, by decide +kernel, by decide +kernel, by decide +kernel, Prod.ext (by decide +kernel) rfl⟩⟩

theorem witness_test_rows_complete_1 :
    (∀ p ∈ ([(0x0A10, TestClass.concurrent), (0x0A11, .concurrent), (0x0A12, .concurrent), (0x0A13, .concurrent), (0x0A42, .testOnly)] : List (Nat × TestClass)), ∃ c t, ChiebServed p.1 (.mailbox 0) (st c) t (st c).mem c ∧ testMode p.2 c.mode = 0 ∧ t.pkt.words ≠ [] ∧ t.w 0 % 256 = 0 ∧ c.testOn p.1 0 = false ∧ c.handleFree.isSome = true) ∧
    (∀ p ∈ [0x0A20, 0x0A21], ChiebServed p (.mailbox 0) (st (chC tstC p 0 [23])) (chT p 0 [23]) State.reset.mem (chC tstC p 0 [23]) ∧ testMode .quiesced (chC tstC p 0 [23]).mode = 0 ∧ (chT p 0 [23]).pkt.words ≠ [] ∧ (chT p 0 [23]).w 0 % 256 < 24 ∧ (chC tstC p 0 [23]).testOn p 23 = false ∧ (!(chC tstC p 0 [23]).flag (F.NET_PORT_CFG_en 23)) = true ∧ (chC tstC p 0 [23]).bayUnused 23 = true) ∧
    (∃ (s : State) (src : ChiebSrc) (t : Taken) (m : Mem) (c : Ctl), (ChiebServed 0x0A22 src s t m c) ∧ (testMode .quiesced c.mode = 0 ∧ t.pkt.words ≠ [] ∧ t.w 0 % 256 = 0 ∧ c.testOn 0x0A22 0 = false ∧ c.flag F.PEER_CFG_en = false) ∧ (c.handleFree.isSome = true)) ∧
    (∃ (s : State) (src : ChiebSrc) (t : Taken) (m : Mem) (c : Ctl), (ChiebServed 0x0A40 src s t m c) ∧ (c.mode = .test ∧ t.pkt.words ≠ [] ∧ t.w 0 % 256 = 0 ∧ c.testOn 0x0A40 0 = false) ∧ (c.handleFree.isSome = true)) ∧
    (∃ (s : State) (src : ChiebSrc) (t : Taken) (m : Mem) (c : Ctl), (ChiebServed 0x0A41 src s t m c) ∧ (c.mode = .test ∧ t.pkt.words ≠ [] ∧ t.w 0 % 256 = 0 ∧ c.testOn 0x0A41 0 = false) ∧ (c.handleFree.isSome = true)) ∧
    (∃ (s : State) (src : ChiebSrc) (t : Taken) (m : Mem) (c : Ctl), (ChiebServed 0x0A30 src s t m c) ∧ (testMode .quiesced c.mode = 0 ∧ t.pkt.words ≠ [] ∧ t.w 0 % 256 < 24 ∧ c.testOn 0x0A30 (t.w 0 % 256) = false ∧ c.calOk (t.w 0 % 256) = true) ∧ (c.handleFree.isSome = true)) :=
  ⟨fun p _ => ⟨chC (md .test []) p.1 0 [0], chT p.1 0 [0], by revert p; decide +kernel⟩,
   by decide +kernel,
   ⟨st (chC (md .test [(F.PEER_CFG_en, 0)]) 0xA22 0 [0]), .mailbox 0, chT 0xA22 0 [0], (st (chC (md .test [(F.PEER_CFG_en, 0)]) 0xA22 0 [0])).mem, chC (md .test [(F.PEER_CFG_en, 0)]) 0xA22 0 [0], by decide +kernel⟩,
   ⟨st (chC (md .test []) 0xA40 0 [0]), .mailbox 0, chT 0xA40 0 [0], (st (chC (md .test []) 0xA40 0 [0])).mem, chC (md .test []) 0xA40 0 [0], by decide +kernel⟩,
   ⟨st (chC (md .test []) 0xA41 0 [0]), .mailbox 0, chT 0xA41 0 [0], (st (chC (md .test []) 0xA41 0 [0])).mem, chC (md .test []) 0xA41 0 [0], by decide +kernel⟩,
   ⟨st (chC (md .test []) 0xA30 0 [23]), .mailbox 0, chT 0xA30 0 [23], (st (chC (md .test []) 0xA30 0 [23])).mem, chC (md .test []) 0xA30 0 [23], by decide +kernel⟩⟩

theorem witness_test_rows_complete_2 :
    (∃ (s : State) (src : ChiebSrc) (t : Taken) (m : Mem) (c : Ctl), (ChiebServed 0x0A00 src s t m c) ∧ (True)) ∧
    (∃ (s : State) (op : Nat) (target : Nat) (x : RunTest), s.c.mgt.tests.find? (fun t => t.op == op && t.target == target) = some x ∧ testEnds op = true ∧ s.c.testRuns op = true) ∧
    (∃ (s : State), s.c.mgt.tests = [] ∧ s.c.flag F.FWU_STAT_trial = true ∧ s.c.halted = false) :=
  ⟨⟨st (chC (md .test []) 0xA00 0 []), .mailbox 0, chT 0xA00 0 [], (st (chC (md .test []) 0xA00 0 [])).mem, chC (md .test []) 0xA00 0 [], by decide +kernel⟩,
   ⟨st { md .test [] with mgt := { Mgmt.reset with tests := [⟨0xA20, 23, 3⟩] } }, 0xA20, 23, ⟨0xA20, 23, 3⟩, by decide +kernel⟩,
   ⟨st (md .active [(F.FWU_STAT_trial, 1)]), by decide +kernel⟩⟩

theorem witness_register_access_rows_complete_1 :
    (∃ (s : State) (off : Fin 0x4000000) (dw : Bool), s.c.eptLive = true ∧ s.c.bar0Bad off dw = false) ∧
    (∃ (s : State) (off : Fin 0x4000000) (dw : Bool), s.c.eptLive = true ∧ s.c.bar0Bad off dw = true) ∧
    (∃ (s : State) (off : Fin 0x4000000) (dw : Bool), s.c.eptLive = true ∧ s.c.bar0Bad off dw = false ∧ s.c.bar0Writes off = true ∧ s.c.bar0Direct off = true) ∧
    (∃ (s : State) (off : Fin 0x4000000) (dw : Bool) (k : Nat) (x : Txn), s.c.eptLive = true ∧ s.c.bar0Bad off dw = false ∧ s.c.bar0Writes off = true ∧ s.c.bar0Direct off = false ∧ s.c.txnBy (s.c.get F.MGT_TXN_SEL_id) = some (k, x) ∧ x.owner = 0) ∧
    (∃ (s : State) (off : Fin 0x4000000) (r : RRow) (w : Nat), Reg.find? off = some r ∧ pcrWord off = some w ∧ r.hasAcc (· == .rwp) = true ∧ s.c.bar0Takes off true = true ∧ s.c.bar0Direct off = true) ∧
    (∃ (s : State) (e : PcrWr) (rest : List PcrWr), s.c.mgt.pcrWr = e :: rest) :=
  ⟨⟨st (eptC (md .active [])), 0x3FFFFFC, true, by decide +kernel⟩,
   ⟨st (eptC (md .active [])), 0x3FFFFFE, true, by decide +kernel⟩,
   ⟨st (eptC (md .active [])), 0, true, by decide +kernel⟩,
   ⟨st (eptC { txC 1 with regs := (md .standby [(F.MGT_TXN_SEL_id, 1)]).regs }), 0x700100, true, 0, { schedTx with state := 1 }, by decide +kernel⟩,
   ⟨st (eptC (md .active [])), pcrOff, (Reg.find? pcrOff).get (by decide +kernel), 0, (Option.some_get _).symm, by decide +kernel, by decide +kernel, by decide +kernel, by decide +kernel⟩,
   ⟨st { Ctl.reset with mgt := { Mgmt.reset with pcrWr := [⟨Reg.GLB_START_CFG, 0, 5⟩] } }, ⟨Reg.GLB_START_CFG, 0, 5⟩, [], by decide +kernel⟩⟩

theorem witness_register_access_rows_complete_2 :
    (∃ (s : State), s.c.eptLive = true ∧ s.c.get F.EPT_STAT_dstate ≠ 3) ∧
    (∃ (s : State) (k : Fin 4), s.c.mode ≠ .off ∧ s.c.mode ≠ .reset ∧ s.c.bitOf F.MGT_MB_STAT_busy k = false) ∧
    (∃ (s : State), s.c.miOpen = true) ∧
    (∃ (s : State), s.c.flag F.TEL_CFG_en = true ∧ s.c.bitOf F.GLB_PD_STAT_pd_is_on 2 = true ∧ s.c.dntDue 5 (s.c.sweepNext s.c.dntNs) = []) ∧
    (∃ (s : State), s.c.flag F.TEL_CFG_en = true ∧ s.c.bitOf F.GLB_PD_STAT_pd_is_on 2 = true) :=
  ⟨⟨st (eptC (md .active [])), by decide +kernel⟩,
   ⟨st (md .active []), 3, by decide +kernel⟩,
   ⟨st (md .active []), by decide +kernel⟩,
   ⟨st (md .active [(F.TEL_CFG_en, 1), (F.GLB_PD_STAT_pd_is_on, 0xFFFFF)]), by decide +kernel⟩,
   ⟨st (md .active [(F.TEL_CFG_en, 1), (F.GLB_PD_STAT_pd_is_on, 0xFFFFF)]), by decide +kernel⟩⟩

theorem witness_endpoint_rows_complete_1 :
    (∃ (s : State), s.c.cfgOpen = true) ∧
    (∃ (s : State), s.c.cfgReach = true ∧ s.c.cfgOpen = false) ∧
    (∃ (s : State), s.c.cfgOpen = true ∧ s.c.get F.EPT_STAT_dstate = 0) ∧
    (∃ (s : State), s.c.cfgOpen = true ∧ s.c.get F.EPT_STAT_dstate = 3) ∧
    (∃ (s : State), s.c.cfgOpen = true ∧ s.c.ept.bme = true) ∧
    (∃ (s : State), s.c.cfgOpen = true ∧ s.c.ept.bme = false) :=
  ⟨⟨st (eptC (md .active [])), by decide +kernel⟩,
   ⟨st { eptC (md .active []) with ept := { Ept.reset with d3cold := false, crsUntil := 5 } }, by decide +kernel⟩,
   ⟨st (eptC (md .active [(F.EPT_STAT_dstate, 0)])), by decide +kernel⟩,
   ⟨st (eptC (md .active [(F.EPT_STAT_dstate, 3)])), by decide +kernel⟩,
   ⟨st { md .active [] with ept := { Ept.reset with d3cold := false, crsUntil := 0, bme := true } }, by decide +kernel⟩,
   ⟨st (eptC (md .active [])), by decide +kernel⟩⟩

theorem witness_endpoint_rows_complete_2 :
    (∃ (s : State), s.c.cfgOpen = true) ∧
    (∃ (s : State), s.c.flag F.EPT_STAT_flr = true ∧ s.c.ept.reads = []) ∧
    (∃ (s : State), s.c.cfgReach = true) ∧
    (∃ (s : State), s.c.ept.d3cold = true ∧ s.c.mode ≠ .off ∧ s.c.mode ≠ .reset) ∧
    (∃ (s : State), s.c.cfgReach = true) ∧
    (∃ (s : State) (tag : Fin 1024) (data : List Byte) (r : EpRead), s.c.cfgReach = true ∧ Tab.at? s.c.ept.reads tag.val = some r ∧ s.c.farStatus r.chan = 0 ∧ r.misfit data.length = false) :=
  ⟨⟨st (eptC (md .active [])), by decide +kernel⟩,
   ⟨st (eptC (md .active [(F.EPT_STAT_flr, 1)])), by decide +kernel⟩,
   ⟨st (eptC (md .active [])), by decide +kernel⟩,
   ⟨st (md .active []), by decide +kernel⟩,
   ⟨st (eptC (md .active [])), by decide +kernel⟩,
   ⟨st { md .active [] with ept := { Ept.reset with d3cold := false, reads := [(3, ⟨200, 0, 64, 0, 0, none, 0⟩)] } }, 3, List.replicate 64 0, ⟨200, 0, 64, 0, 0, none, 0⟩, by decide +kernel⟩⟩

theorem witness_endpoint_rows_complete_3 :
    (∃ (s : State) (tag : Fin 1024) (r : EpRead), s.c.cfgReach = true ∧ Tab.at? s.c.ept.reads tag.val = some r ∧ s.c.farStatus r.chan ≠ 9) ∧
    (∃ (s : State) (tag : Fin 1024) (r : EpRead), Tab.at? s.c.ept.reads tag.val = some r ∧ (s.c.reach (r.sent + 900000)).farStatus r.chan ≠ 9) ∧
    (∃ (s : State), s.c.cfgReach = true) ∧
    (∃ (s : State), s.c.eptLive = true ∧ s.c.bar0Open = true ∧ s.c.get F.EPT_STAT_dstate ≠ 3) :=
  ⟨⟨st { md .active [] with ept := { Ept.reset with d3cold := false, reads := [(3, ⟨200, 0, 64, 0, 0, none, 0⟩)] } }, 3, ⟨200, 0, 64, 0, 0, none, 0⟩, by decide +kernel⟩,
   ⟨st { md .active [] with ept := { Ept.reset with d3cold := false, reads := [(3, ⟨200, 0, 64, 0, 0, none, 0⟩)] } }, 3, ⟨200, 0, 64, 0, 0, none, 0⟩, by decide +kernel⟩,
   ⟨st (eptC (md .active [])), by decide +kernel⟩,
   ⟨st (eptC (md .active [])), by decide +kernel⟩⟩

theorem witness_firmware_rows_complete_1 :
    (∃ (s : State) (x : FwCommit), s.c.trust.commit = some x ∧ s.c.halted = false ∧ x.phase = 1) ∧
    (∃ (s : State) (x : FwCommit), s.c.trust.commit = some x ∧ x.phase = 2 ∧ s.c.pairedActive = false ∧ s.c.actModeOk = true ∧ s.c.halted = false) ∧
    (∃ (s : State) (a : Activation), s.c.trust.act = some a ∧ a.over_ = false) ∧
    (∃ (s : State) (look : ImgLook) (a : Activation), s.c.trust.act = some a ∧ s.c.halted = false ∧ ((a.over_ = true ∨ s.c.bst.brews = [])) ∧ s.c.slotCheck a.slot look = 0) ∧
    (∃ (s : State) (look : ImgLook) (a : Activation), s.c.trust.act = some a ∧ s.c.halted = false ∧ ((a.over_ = true ∨ s.c.bst.brews = [])) ∧ s.c.slotCheck a.slot look ≠ 0) ∧
    (∃ (s : State) (x : FwCommit), s.c.trust.commit = some x ∧ x.phase = 2 ∧ s.c.pairedActive = true ∧ s.c.halted = false) :=
  ⟨⟨st { md .active [] with trust := { Trust.reset with commit := some ⟨1, 1, .nobody, 1⟩ } }, ⟨1, 1, .nobody, 1⟩, by decide +kernel⟩,
   ⟨st { md .active [] with trust := { Trust.reset with commit := some ⟨1, 3, .nobody, 2⟩ } }, ⟨1, 3, .nobody, 2⟩, by decide +kernel⟩,
   ⟨st { md .activating [] with trust := { Trust.reset with act := some ⟨.active, 1, 5, false, .nobody⟩ } }, ⟨.active, 1, 5, false, .nobody⟩, by decide +kernel⟩,
   ⟨st actC, ⟨true, true, true⟩, ⟨.active, 1, 5, true, .nobody⟩, rfl, by decide +kernel, .inl rfl, act_ok⟩,
   ⟨st { md .activating [] with trust := { Trust.reset with act := some ⟨.active, 1, 5, false, .nobody⟩ } }, ⟨true, true, true⟩, ⟨.active, 1, 5, false, .nobody⟩, by decide +kernel⟩,
   ⟨st { act [(F.PEER_CFG_en, 1)] with trust := { Trust.reset with commit := some ⟨1, 3, .nobody, 2⟩ } }, ⟨1, 3, .nobody, 2⟩, by decide +kernel⟩⟩

theorem witness_firmware_rows_complete_2 :
    (∃ s : State, s.c.flag F.FWU_STAT_trial = true ∧ s.c.trust.katOk = true ∧ s.c.trust.badSeen = false ∧ s.c.power.stop = none ∧ (s.c.mode = .standby ∨ s.c.mode = .active ∨ s.c.mode = .degraded)) ∧
    (Tab.at? triC.trust.images (((triC.reach (triC.trust.imageAt + 1000000000 * triC.get F.FWU_TRIAL_CFG_settle_s)).bootCtl (fun c => c.setFlag F.FWU_STAT_trial false)).get F.FWU_STAT_cur_slot) = some [1]) ∧
    (∃ (s : State), s.c.flag F.FWU_STAT_trial = true ∧ s.c.awake = true ∧ s.c.power.stop = none) :=
  ⟨⟨st triC, by decide +kernel⟩,
   by decide +kernel,
   ⟨st (md .active [(F.FWU_STAT_trial, 1)]), by decide +kernel⟩⟩

theorem witness_spdm_rows_complete_1 :
    (∃ (s : State) (who : Fin 257), s.c.spdmOpen who = true) ∧
    (∃ (s : State) (who : Fin 257), s.c.spdmOpen who = true) ∧
    (∃ (s : State) (who : Fin 257), s.c.spdmOpen who = true ∧ (s.c.spdmPeer who).ver = true ∧ (s.c.spdmPeer who).caps = true) ∧
    (∃ (s : State) (who : Fin 257), s.c.spdmOpen who = true ∧ (s.c.spdmPeer who).algs = true) ∧
    (∃ (s : State) (who : Fin 257) (x : SpdmPend), (s.c.spdmPeer who).pend = some x ∧ s.c.mode ≠ .off ∧ s.c.mode ≠ .reset) ∧
    (∃ (s : State) (who : Fin 257) (x : SpdmPend), s.c.spdmOpen who = true ∧ (s.c.spdmPeer who).pend = some x ∧ x.ready = true) :=
  ⟨⟨st (md .active []), 256, by decide +kernel⟩,
   ⟨st (eptC (md .active [])), 0, by decide +kernel⟩,
   ⟨st { md .active [] with trust := { Trust.reset with peers := [(256, ⟨true, true, false, none⟩)] } }, 256, by decide +kernel⟩,
   ⟨st { md .active [] with trust := { Trust.reset with peers := [(256, ⟨true, true, true, none⟩)] } }, 256, by decide +kernel⟩,
   ⟨st { md .active [] with trust := { Trust.reset with peers := [(256, ⟨true, true, true, some pendA⟩)] } }, 256, pendA, by decide +kernel⟩,
   ⟨st { md .active [] with trust := { Trust.reset with peers := [(256, ⟨true, true, true, some pendA⟩)] } }, 256, pendA, by decide +kernel⟩⟩

theorem witness_spdm_rows_complete_2 :
    (∃ (s : State) (who : Fin 257) (session : Nat) (x : SpdmSess), s.c.spdmOpen who = true ∧ Tab.at? s.c.trust.sessions session = some x ∧ x.peer = who.val ∧ x.done = false ∧ x.keyed = true ∧ s.c.spdmRoot.all (· == 0) = false) ∧
    (∃ (s : State) (session : Nat) (x : SpdmSess), s.c.liveSession session = some x ∧ s.c.spdmOpen x.peer = true) :=
  ⟨⟨st { rootC with trust := { Trust.reset with sessions := [(0, ⟨256, true, false, 0, 0⟩)] } }, 256, 0, ⟨256, true, false, 0, 0⟩, by decide +kernel⟩,
   ⟨st { md .active [] with trust := { Trust.reset with sessions := [(0, ⟨256, true, true, 0, 0⟩)] } }, 0, ⟨256, true, true, 0, 0⟩, by decide +kernel⟩⟩

theorem witness_empty_queue_idles :
    State.reset.pending = [] :=
  rfl

theorem witness_steps_keep_memory_canonical :
    ∃ s t : State, s.pending ≠ [] ∧ s.memOk = true ∧ step s = .next t :=
  ⟨State.reset.withPending [.firstRailRise], _, by decide +kernel, by decide +kernel, rfl⟩

theorem witness_admin_rows_change_host_path_only :
    ∃ s t : State, s.c.openQueue 0 = none ∧ exec (.nvmeKeepAlive (acmd 0 0 0)) s = .next t :=
  ⟨State.reset, _, by decide +kernel, rfl⟩

theorem witness_halted_device_serves_no_host :
    ∃ s : State, s.c.halted = true :=
  ⟨st (md .fenced []), by decide +kernel⟩

theorem witness_ordered_flag_needs_free_tags :
    ∃ (s : State) (x : AdminCmd) (k : Nat) (tag : Nat) (n : Nat) (a : Assoc) (q : HostQueue), AdminServed s.c (AdminOp.setFeatures.on x) k tag a ∧ getBits x.cdw10 7 0 = 0xD1 ∧ getBit x.cdw10 31 = false ∧ s.c.flag F.HCP_CFG_ordered_en = true ∧ getBits x.cdw11 31 17 = 0 ∧ s.c.queueBy k (getBits x.cdw11 15 0) = some (n, q) ∧ (∃ p ∈ s.c.host.tags, p.2.kind.host = true ∧ p.2.assoc = k ∧ p.2.qid = getBits x.cdw11 15 0) :=
  ⟨st (rg [(F.HCP_CFG_ordered_en, 1)] (hostT .running)), acmd 0xD1 0x10001 0, 0, 0, 2, assocA, queueA, by decide +kernel⟩

theorem witness_begin_assigns_ids :
    (∃ (s : State) (src : ChiebSrc) (t : Taken) (m : Mem) (c : Ctl), (ChiebServed 0x0200 src s t m c) ∧ (c.mgt.txns.length < 8)) ∧
    (∃ (s : State) (src : ChiebSrc) (t : Taken) (m : Mem) (c : Ctl), (ChiebServed 0x0200 src s t m c) ∧ ((∀ k < 8, Tab.has c.mgt.txns k = true))) :=
  ⟨⟨st (chC { txC 1 with mgt := { Mgmt.reset with txns := (List.range 7).map (fun k => (k, schedTx)) } } 0x200 0 []), .mailbox 0, chT 0x200 0 [], (st (chC { txC 1 with mgt := { Mgmt.reset with txns := (List.range 7).map (fun k => (k, schedTx)) } } 0x200 0 [])).mem, chC { txC 1 with mgt := { Mgmt.reset with txns := (List.range 7).map (fun k => (k, schedTx)) } } 0x200 0 [], by decide +kernel⟩,
   ⟨st (chC { txC 1 with mgt := { Mgmt.reset with txns := (List.range 8).map (fun k => (k, schedTx)) } } 0x200 0 []), .mailbox 0, chT 0x200 0 [], (st (chC { txC 1 with mgt := { Mgmt.reset with txns := (List.range 8).map (fun k => (k, schedTx)) } } 0x200 0 [])).mem, chC { txC 1 with mgt := { Mgmt.reset with txns := (List.range 8).map (fun k => (k, schedTx)) } } 0x200 0 [], by decide +kernel⟩⟩

theorem witness_buffers_lie_behind_one_port :
    (∃ (a : Nat), a < 2 ^ 60) ∧
    (∃ (a : Nat), a < 0x600000000) ∧
    (∃ (a : Nat), 0x600000000 ≤ a ∧ a ≤ 0xBFFFFFFFF) ∧
    (∃ (a : Nat), 0x600000000 ≤ a ∧ a ≤ 0xBFFFFFFFF) ∧
    (∃ (p : Nat) (b : Nat), p < 5 ∧ b < poolSize p) :=
  ⟨⟨2 ^ 60 - 1, by decide +kernel⟩,
   ⟨0x5FFFFFFFF, by decide +kernel⟩,
   ⟨0x600000000, by decide +kernel⟩,
   ⟨0xBFFFFFFFF, by decide +kernel⟩,
   ⟨4, 0, by decide +kernel⟩⟩

theorem witness_waiting_device_requests_lease :
    ∃ (s : State), s.c.mode = .standby ∧ s.c.power.stop = none ∧ s.c.lease = false ∧ s.c.flag F.PEER_STAT_link_up = true ∧ s.c.flag F.PEER_STAT_lost = false ∧ s.c.pair.waits = true :=
  ⟨st (pr { Pair.reset with hello := some (hello 4), waits := true } (pw { Power.reset with slotId := true } (md .standby [(F.PEER_CFG_en, 1), (F.PEER_STAT_link_up, 1), (F.PEER_STAT_lost, 0)]))), by decide +kernel⟩

theorem witness_mode_change_keeps_previous :
    ∃ (c : Ctl) (m : Mode), c.power.stop = none ∧ c.mode ≠ m :=
  ⟨md .standby [], .active, by decide +kernel⟩

theorem witness_tags_round_trip :
    (∃ (gen : Nat), gen < 2 ^ 32) ∧
    (∃ (gen : Nat), gen < 2 ^ 32) :=
  ⟨⟨0, by decide +kernel⟩,
   ⟨2 ^ 32 - 1, by decide +kernel⟩⟩

theorem witness_port_rows_change_network_only :
    (∃ s t : State, s.c.gclDue 2 = some 5 ∧ s.c.dntDue 2 5 = [] ∧ exec (.pourListAdopt 2) s = .next t) ∧
    (∃ (s t : State) (l : _), s.c.gclLive 2 = some l ∧ s.c.dntDue 2 (s.c.dntNs + (gclAt (s.c.gclParts 2 l) 0 (s.c.gclPhase l)).2) = [] ∧ exec (.gateEntryAdvance 2) s = .next t) :=
  ⟨⟨st (npC { npI with adopt := some 5 } [(F.TIM_SYNC_STAT_unsync, 0)]), _, by decide +kernel, by decide +kernel, rfl⟩,
   ⟨st (npC { npI with oper := some ⟨1000, 1, 0⟩ } [(F.TIM_SYNC_STAT_unsync, 0), (F.NET_GCL_CTRL_en 2, 1)]), _, _, rfl, by decide +kernel, rfl⟩⟩

theorem witness_time_rows_change_time_only :
    ∃ s t : State, s.c.dntDue 3 (s.c.todNext s.c.dntNs) = [] ∧ exec .todBoundary s = .next t :=
  ⟨State.reset, _, by decide +kernel, rfl⟩

theorem witness_storing_rows_store_only_there :
    (∃ (s : State) (tag : Nat) (n : Nat) (i : Issued) (y : BrewSlot), s.memOk = true ∧ StepAccepted s.c tag Cls.crc 0x01 false i n ∧ i.auxSlot = some y) ∧
    (∃ (s : State) (tag : Nat) (n : Nat) (i : Issued) (y : BrewSlot), s.memOk = true ∧ StepAccepted s.c tag Cls.dma 0x01 false i n ∧ i.brew.slot? i.step.dst = some y) ∧
    (∃ (s : State) (win : Fin 16), s.memOk = true ∧ s.c.ringWindow win = false) :=
  ⟨⟨st (slotC Cls.crc 1), 0, 0, issued (slotC Cls.crc 1) Cls.crc 1, ⟨0, true, false⟩, by decide +kernel⟩,
   ⟨st (slotC Cls.dma 1), 0, 0, issued (slotC Cls.dma 1) Cls.dma 1, ⟨0, true, false⟩, by decide +kernel⟩,
   ⟨st (peC []), 1, by decide +kernel⟩⟩

theorem witness_other_rows_store_nothing :
    ∃ (i : Instr) (s t : State), mayStore i = false ∧ exec i s = .next t :=
  ⟨.firstRailRise, State.reset, _, rfl, rfl⟩

theorem witness_step_words_round_trip :
    ∃ (x : Step), x.eng < 64 ∧ x.isel < 4 ∧ x.inst < 256 ∧ x.op < 256 ∧ x.next < 256 ∧ x.b0t < 256 ∧ x.b1t < 256 ∧ x.failt < 256 ∧ x.b0s < 256 ∧ x.b1s < 256 ∧ x.b0m < 16 ∧ x.b1m < 16 ∧ x.src < 16 ∧ x.dst < 16 ∧ x.aux < 16 ∧ x.out < 16 ∧ x.arg0 < 2 ^ 32 ∧ x.arg1 < 2 ^ 32 ∧ x.len < 2 ^ 24 ∧ x.arg2 < 2 ^ 16 ∧ x.chk < 2 ^ 16 :=
  ⟨Step.plain 63 255 255 255, by decide +kernel⟩

end Sys2Proof.Tests
end

section
/-! SUPPORT. What decides R57: the mode and peer status registers, the power block and the wait for the peer. Cell times and the switch's
end of a link leave all four. -/

namespace Sys2Proof.Machine

/-- What R57 looks at and its request presents: the registers of the mode (with the lease) and of the peer's status, the power block
(the safe stop and the stored epoch), and whether the device waits for the peer. -/
def Ctl.waitView (c : Ctl) : Word × Word × Power × Bool := (c.msw, c.rd Reg.PEER_STAT, c.power, c.pair.waits)

theorem Ctl.waitView_eq_iff (c d : Ctl) : c.waitView = d.waitView ↔
    c.msw = d.msw ∧ c.rd Reg.PEER_STAT = d.rd Reg.PEER_STAT ∧ c.power = d.power ∧ c.pair.waits = d.pair.waits := by
  simp [Ctl.waitView]

theorem Ctl.waitView_congr {c d : Ctl} (hr : c.regs = d.regs) (hp : c.power = d.power) (hw : c.pair.waits = d.pair.waits) :
    c.waitView = d.waitView := (Ctl.waitView_eq_iff c d).mpr ⟨Ctl.rd_congr hr _, Ctl.rd_congr hr _, hp, hw⟩

/-! ### Registers and outputs -/

theorem Ctl.waitView_wr_off (c : Ctl) (o : Nat) (w : Word) (hm : o ≠ Reg.GLB_MODE_STAT) (hp : o ≠ Reg.PEER_STAT) :
    (c.wr o w).waitView = c.waitView := by
  simp [Ctl.waitView, Ctl.msw_wr_off c o w hm, Ctl.rd_wr_other c w hp]

theorem Ctl.waitView_set_off (c : Ctl) (f : Fld) (v : Nat) (hm : f.off ≠ Reg.GLB_MODE_STAT) (hp : f.off ≠ Reg.PEER_STAT) :
    (c.set f v).waitView = c.waitView := Ctl.waitView_wr_off c _ _ hm hp

theorem Ctl.waitView_setFlag_off (c : Ctl) (f : Fld) (b : Bool) (hm : f.off ≠ Reg.GLB_MODE_STAT) (hp : f.off ≠ Reg.PEER_STAT) :
    (c.setFlag f b).waitView = c.waitView := Ctl.waitView_set_off c f _ hm hp

theorem Ctl.waitView_setBitOf_off (c : Ctl) (f : Fld) (i : Nat) (b : Bool) (hm : f.off ≠ Reg.GLB_MODE_STAT)
    (hp : f.off ≠ Reg.PEER_STAT) : (c.setBitOf f i b).waitView = c.waitView := Ctl.waitView_set_off c f _ hm hp

theorem Ctl.waitView_bump_off (c : Ctl) (f : Fld) (n : Nat) (hm : f.off ≠ Reg.GLB_MODE_STAT) (hp : f.off ≠ Reg.PEER_STAT) :
    (c.bump f n).waitView = c.waitView := Ctl.waitView_set_off c f _ hm hp

@[simp] theorem Ctl.waitView_emit (c : Ctl) (o : Output) : (c.emit o).waitView = c.waitView := rfl

/-- A fold of updates that each keep what R57 looks at keeps it. -/
theorem Ctl.waitView_foldl {α : Type} (f : Ctl → α → Ctl) (h : ∀ c a, (f c a).waitView = c.waitView) (l : List α) (c : Ctl) :
    (l.foldl f c).waitView = c.waitView := by
  induction l generalizing c with
  | nil => rfl
  | cons a l ih => rw [List.foldl_cons, ih, h]

/-! ### Telemetry: of the registers an event moves the sample ring's alone -/

theorem Ctl.sampleRecord_rd_off (c : Ctl) (x : Sample) (p : Nat) (h : Reg.TEL_SMP_STAT ≠ p) : (c.sampleRecord x).rd p = c.rd p := by
  simp only [Ctl.sampleRecord]
  split
  · exact Ctl.rd_set_other _ _ _ _ h
  · rw [Ctl.rd_set_other _ _ _ _ h]; rfl

theorem Ctl.samplesFrom_rd_off (n inst : Nat) (ctx : Option (Nat × Nat × Nat)) (e k p : Nat) (h : Reg.TEL_SMP_STAT ≠ p) (i : Nat) (c : Ctl) :
    (Ctl.samplesFrom n inst ctx e i k c).rd p = c.rd p := by
  induction k generalizing i c with
  | zero => rfl
  | succ k ih => exact (ih _ _).trans (Ctl.sampleRecord_rd_off _ _ _ h)

theorem Ctl.telAdd_rd_off (c : Ctl) (n inst : Nat) (ctx : Option (Nat × Nat × Nat)) (amt p : Nat) (h : Reg.TEL_SMP_STAT ≠ p) :
    (c.telAdd n inst ctx amt).rd p = c.rd p := by
  simp only [Ctl.telAdd]
  split
  · rfl
  · rw [Ctl.samplesFrom_rd_off _ _ _ _ _ _ h]; rfl

theorem Ctl.telFold_rd_off (ev inst : Nat) (ten : Option Nat) (ctx : Option (Nat × Nat × Nat)) (amt k p : Nat) (h : Reg.TEL_SMP_STAT ≠ p)
    (n : Nat) (c : Ctl) : (Ctl.telFold ev inst ten ctx amt n k c).rd p = c.rd p := by
  induction k generalizing n c with
  | zero => rfl
  | succ k ih =>
    rw [Ctl.telFold, ih]
    split
    · exact Ctl.telAdd_rd_off _ _ _ _ _ _ h
    · rfl

theorem Ctl.tev_rd_off (c : Ctl) (b : TelBlk) (ev inst : Nat) (ten : Option Nat) (ctx : Option (Nat × Nat × Nat)) (amt p : Nat)
    (h : Reg.TEL_SMP_STAT ≠ p) : (c.tev b ev inst ten ctx amt).rd p = c.rd p := by
  unfold Ctl.tev
  split
  · exact Ctl.telFold_rd_off _ _ _ _ _ _ _ h _ _
  · rfl

@[simp] theorem Ctl.waitView_tev (c : Ctl) (b : TelBlk) (ev inst : Nat) (ten : Option Nat) (ctx : Option (Nat × Nat × Nat)) (amt : Nat) :
    (c.tev b ev inst ten ctx amt).waitView = c.waitView := by
  simp [Ctl.waitView, Ctl.msw, Ctl.tev_rd_off c b ev inst ten ctx amt Reg.GLB_MODE_STAT (by decide),
    Ctl.tev_rd_off c b ev inst ten ctx amt Reg.PEER_STAT (by decide)]

/-! ### Interrupts and fault records -/

@[simp] theorem Ctl.waitView_intxUpdate (c : Ctl) : c.intxUpdate.waitView = c.waitView := by
  simp only [Ctl.intxUpdate]
  split
  · exact Ctl.waitView_set_off _ _ _ (by decide) (by decide)
  · rw [Ctl.waitView_emit, Ctl.waitView_setFlag_off _ _ _ (by decide) (by decide), Ctl.waitView_set_off _ _ _ (by decide) (by decide)]

@[simp] theorem Ctl.waitView_sendMessage (c : Ctl) (b : Nat) : (c.sendMessage b).waitView = c.waitView := by
  have pba : ∀ v, (c.setBitOf F.EPT_MSIX_PBA_pend b v).waitView = c.waitView := fun v =>
    Ctl.waitView_setBitOf_off _ _ _ _ (by decide) (by decide)
  unfold Ctl.sendMessage
  split
  · split
    · exact pba true
    · exact pba false
  · split
    · split <;> rfl
    · rfl

@[simp] theorem Ctl.waitView_wakeEvent (c : Ctl) (b : Nat) : (c.wakeEvent b).waitView = c.waitView := by
  simp only [Ctl.wakeEvent]
  split
  · split
    · exact Ctl.waitView_setFlag_off _ _ _ (by decide) (by decide)
    · rfl
  · rfl

@[simp] theorem Ctl.waitView_intSet (c : Ctl) (b : Nat) : (c.intSet b).waitView = c.waitView := by
  have rise : ((c.setBitOf F.EPT_INT_STAT_src b true).wakeEvent b).waitView = c.waitView := by
    rw [Ctl.waitView_wakeEvent, Ctl.waitView_setBitOf_off _ _ _ _ (by decide) (by decide)]
  simp only [Ctl.intSet]
  split
  · rfl
  · rw [Ctl.waitView_intxUpdate]
    split
    · rw [Ctl.waitView_sendMessage, rise]
    · exact rise

@[simp] theorem Ctl.waitView_faultRecord (c : Ctl) (code outcome detail : Nat) : (c.faultRecord code outcome detail).waitView = c.waitView := by
  simp only [Ctl.faultRecord]
  rw [Ctl.waitView_intSet, Ctl.waitView_emit, Ctl.waitView_set_off _ _ _ (by decide) (by decide),
    Ctl.waitView_setFlag_off _ _ _ (by decide) (by decide)]
  exact Ctl.waitView_congr rfl rfl rfl

/-! ### Buffers -/

/-- The causes of Table 7.9 are 1 to 7. -/
theorem Ctl.bufCheck_le (c : Ctl) (ptr : Word) (op : BufOp) (r : BufReq) (ue : Bool) (cause : Nat)
    (h : c.bufCheck ptr op r ue = some cause) : cause ≤ 7 := by
  have at_cause : ∀ n ≤ 7, some n = some cause → cause ≤ 7 := fun n hn e => Option.some.inj e ▸ hn
  simp only [Ctl.bufCheck] at h
  split at h
  · exact at_cause 1 (by decide) h
  split at h
  · exact at_cause 2 (by decide) h
  split at h
  · exact at_cause 7 (by decide) h
  cases op with
  | free =>
    dsimp only at h
    split at h
    · exact at_cause 3 (by decide) h
    split at h
    · exact at_cause 4 (by decide) h
    · exact absurd h (by simp)
  | deref =>
    dsimp only at h
    split at h
    · exact at_cause 5 (by decide) h
    · exact absurd h (by simp)
  | ref k =>
    dsimp only at h
    split at h
    · exact at_cause 6 (by decide) h
    · exact absurd h (by simp)

@[simp] theorem Ctl.waitView_setBuf (c : Ctl) (a : Nat) (b : BufMeta) : (c.setBuf a b).waitView = c.waitView := rfl

theorem Ctl.waitView_bufRefuse (c : Ctl) (cause : Nat) (ptr : Word) (r : BufReq) (hc : cause ≤ 7) :
    (c.bufRefuse cause ptr r).waitView = c.waitView := by
  have count : (c.bump (F.BPM_FAULT_CNT_count cause) 1).waitView = c.waitView := by
    apply Ctl.waitView_bump_off <;> simp only [F.BPM_FAULT_CNT_count, Reg.BPM_FAULT_CNT, Reg.GLB_MODE_STAT, Reg.PEER_STAT] <;> omega
  have latch : ∀ d : Ctl, d.waitView = c.waitView →
      (if d.flag F.BPM_FAULT_STAT_pend then d
       else ((((d.setFlag F.BPM_FAULT_STAT_pend true).set F.BPM_FAULT_STAT_cause cause).set F.BPM_FAULT_STAT_req r.code).set
        F.BPM_FAULT_STAT_id r.id |>.wr Reg.BPM_FAULT_PTR ptr).emit (.coreIrq 1)).waitView = c.waitView := by
    intro d hd
    split
    · exact hd
    · rw [Ctl.waitView_emit, Ctl.waitView_wr_off _ _ _ (by decide) (by decide), Ctl.waitView_set_off _ _ _ (by decide) (by decide),
        Ctl.waitView_set_off _ _ _ (by decide) (by decide), Ctl.waitView_set_off _ _ _ (by decide) (by decide),
        Ctl.waitView_setFlag_off _ _ _ (by decide) (by decide), hd]
  refine latch _ ?_
  split
  · rw [Ctl.waitView_faultRecord, Ctl.waitView_tev, count]
  · rw [Ctl.waitView_faultRecord, Ctl.waitView_tev, count]

theorem Ctl.waitView_bufDo (c : Ctl) (ptr : Word) (op : BufOp) (r : BufReq) (ue : Bool) : (c.bufDo ptr op r ue).2.waitView = c.waitView := by
  simp only [Ctl.bufDo]
  split
  · next cause h =>
    rw [Ctl.waitView_bufRefuse _ _ _ _ (Ctl.bufCheck_le _ _ _ _ _ _ h)]
    split
    · exact Ctl.waitView_setBuf _ _ _
    · rfl
  · split
    · split
      · rfl
      · exact Ctl.waitView_setBuf _ _ _
    · exact Ctl.waitView_setBuf _ _ _
    · exact Ctl.waitView_setBuf _ _ _

/-! ### Tokens and the completions they release -/

@[simp] theorem Ctl.waitView_setBrew (c : Ctl) (tag : Nat) (b : Brew) : (c.setBrew tag b).waitView = c.waitView := rfl

theorem Ctl.waitView_post_ok (c : Ctl) (conn cid : Nat) (ten : Option Nat) (dw0 dw1 : Nat) :
    (c.post conn cid ten St.ok dw0 dw1).waitView = c.waitView := by
  have ok : St.ok.isOk = true := rfl
  simp only [Ctl.post, ok, if_true]
  split <;> rfl

theorem Ctl.waitView_completeTag_ok (c : Ctl) (t : TagE) : (c.completeTag t St.ok).waitView = c.waitView := by
  have ok : St.ok.isOk = true := rfl
  have unlogged : ∀ (d : Ctl) (k qid cid lba nsid : Nat), d.errNote k qid cid St.ok lba nsid = d := fun _ _ _ _ _ _ => rfl
  simp only [Ctl.completeTag, ok, unlogged]
  split
  · rfl
  · split
    · next h => exact absurd h (by decide)
    · split
      · rw [Ctl.waitView_tev, Ctl.waitView_tev, Ctl.waitView_post_ok]
      · rw [Ctl.waitView_tev, Ctl.waitView_tev, Ctl.waitView_post_ok]
      · exact Ctl.waitView_post_ok _ _ _ _ _ _

theorem Ctl.waitView_hcpComplete (c : Ctl) (tag : Nat) : (c.hcpComplete tag).waitView = c.waitView := by
  unfold Ctl.hcpComplete
  split
  · dsimp only
    split
    · rw [Ctl.waitView_completeTag_ok]; rfl
    · rfl
    · rfl
  · rfl

theorem Ctl.waitView_tokenWake (c : Ctl) (tag : Nat) : (c.tokenWake tag).waitView = c.waitView := by
  unfold Ctl.tokenWake
  split
  · rfl
  · split
    · split <;> rfl
    · split
      · dsimp only
        split
        · rw [Ctl.waitView_hcpComplete]; rfl
        · rfl
      · rfl
    · rfl

theorem Ctl.waitView_tokenPost (c : Ctl) (tag id st : Nat) : (c.tokenPost tag id st).waitView = c.waitView := by
  unfold Ctl.tokenPost
  split
  · rfl
  · split
    · rfl
    · rw [Ctl.waitView_tokenWake]; rfl

theorem Ctl.waitView_tokenFate (c : Ctl) (tag id st : Nat) : (c.tokenFate tag id st).waitView = c.waitView := by
  unfold Ctl.tokenFate
  split
  · rfl
  · split <;> rfl

/-! ### The switch core -/

theorem Ctl.waitView_qeToken (c : Ctl) (o : Option (Nat × Nat)) (dropped : Bool) : (c.qeToken o dropped).waitView = c.waitView := by
  unfold Ctl.qeToken
  split
  · rfl
  · next tag tok =>
    have fate : (if dropped then c.tokenFate tag tok 0x44 else c).waitView = c.waitView := by
      split
      · exact Ctl.waitView_tokenFate _ _ _ _
      · rfl
    dsimp only
    generalize (if dropped then c.tokenFate tag tok 0x44 else c) = d at fate ⊢
    split
    · rw [Ctl.waitView_tokenPost, fate]
    · exact fate

theorem Ctl.waitView_qeRetire (c : Ctl) (k : Nat) (e : QEntry) (dropped ue : Bool) : (c.qeRetire k e dropped ue).waitView = c.waitView := by
  simp only [Ctl.qeRetire]
  rw [Ctl.waitView_qeToken, Ctl.waitView_bufDo]
  rfl

theorem Ctl.waitView_cellMove (c : Ctl) (k : Nat) (e : QEntry) (ue : Bool) : (c.cellMove k e ue).waitView = c.waitView := by
  simp only [Ctl.cellMove]
  split
  · rw [Ctl.waitView_qeRetire, Ctl.waitView_tev, Ctl.waitView_tev]
  · exact (Ctl.waitView_tev _ _ _ _ _ _ _).trans (Ctl.waitView_tev _ _ _ _ _ _ _)

theorem Ctl.waitView_cellTime (c : Ctl) (k : Nat) (ue : Bool) : (c.cellTime k ue).waitView = c.waitView := by
  unfold Ctl.cellTime
  split
  · rfl
  · dsimp only
    rw [Ctl.waitView_foldl, Ctl.waitView_foldl, Ctl.waitView_foldl]
    · intro d p; rfl
    · intro d i; exact Ctl.waitView_tev _ _ _ _ _ _ _
    · intro d p
      split
      · rfl
      · rw [Ctl.waitView_cellMove]
        split <;> rfl

theorem Ctl.waitView_cellTimes (c : Ctl) (n : Nat) : (c.cellTimes n).waitView = c.waitView := by
  induction n generalizing c with
  | zero => rfl
  | succ n ih => rw [Ctl.cellTimes, ih, Ctl.waitView_cellTime]

theorem Ctl.waitView_cellsTill (c : Ctl) (l n : Nat) : (c.cellsTill l n).2.waitView = c.waitView := by
  unfold Ctl.cellsTill
  split
  · rfl
  · exact (Ctl.waitView_cellTime _ _ _).trans (Ctl.waitView_cellTimes _ _)

/-- The links' registers are none that R57 looks at. -/
theorem Reg.link_ne_wait (link : Nat) (hl : link ≤ 48) :
    (Reg.SWC_LINK_STAT link ≠ Reg.GLB_MODE_STAT ∧ Reg.SWC_LINK_STAT link ≠ Reg.PEER_STAT) ∧
    (Reg.SWC_DROP_CNT link ≠ Reg.GLB_MODE_STAT ∧ Reg.SWC_DROP_CNT link ≠ Reg.PEER_STAT) ∧
    (Reg.SWC_FLAP_CNT link ≠ Reg.GLB_MODE_STAT ∧ Reg.SWC_FLAP_CNT link ≠ Reg.PEER_STAT) := by
  simp only [Reg.SWC_LINK_STAT, Reg.SWC_DROP_CNT, Reg.SWC_FLAP_CNT, Reg.GLB_MODE_STAT, Reg.PEER_STAT]
  omega

section
variable (c : Ctl) (link : Nat) (hl : link ≤ 48)
include hl

theorem Ctl.waitView_linkDiscard : (c.linkDiscard link).waitView = c.waitView := by
  obtain ⟨-, ⟨hm, hp⟩, -⟩ := Reg.link_ne_wait link hl
  refine Ctl.waitView_foldl _ (fun d e => ?_) _ _
  rw [Ctl.waitView_qeRetire, Ctl.waitView_tev, Ctl.waitView_bump_off _ _ _ hm hp]

theorem Ctl.waitView_linkGone : (c.linkGone link).waitView = c.waitView := by
  obtain ⟨⟨hm, hp⟩, -, hfm, hfp⟩ := Reg.link_ne_wait link hl
  have gone : ∀ d : Ctl, (((d.setFlag (F.SWC_LINK_STAT_holding link) false).setFlag (F.SWC_LINK_STAT_expired link) true).linkDiscard
      link).waitView = d.waitView := fun d => by
    rw [Ctl.waitView_linkDiscard _ _ hl, Ctl.waitView_setFlag_off _ _ _ hm hp, Ctl.waitView_setFlag_off _ _ _ hm hp]
  simp only [Ctl.linkGone]
  split
  · rw [Ctl.waitView_bump_off _ _ _ hfm hfp, gone]; rfl
  · rw [gone]; rfl

theorem Ctl.waitView_linkDown : (c.linkDown link).waitView = c.waitView := by
  obtain ⟨⟨hm, hp⟩, -, -⟩ := Reg.link_ne_wait link hl
  have held : ∀ d : Ctl, ((d.setFlag (F.SWC_LINK_STAT_down link) true).setFlag (F.SWC_LINK_STAT_holding link) true).waitView = d.waitView :=
    fun d => by rw [Ctl.waitView_setFlag_off _ _ _ hm hp, Ctl.waitView_setFlag_off _ _ _ hm hp]
  simp only [Ctl.linkDown]
  split
  · rfl
  · split
    · unfold Ctl.holdExpire
      split
      · rw [Ctl.waitView_linkGone _ _ hl, held]; rfl
      · rw [held]; rfl
    · rw [held]; rfl

end

end Sys2Proof.Machine
end

section
/-! The peer link goes down for a device that waits for its peer, and the request of the lease that follows (R56, R57): O48. -/

namespace Sys2Proof.Machine

/-! ### What equal views agree on -/

section
variable {c d : Ctl} (h : c.waitView = d.waitView)
include h

theorem Ctl.mode_of_waitView : c.mode = d.mode := by
  obtain ⟨hm, -, -, -⟩ := (Ctl.waitView_eq_iff c d).mp h
  exact Ctl.mode_congr hm

theorem Ctl.lease_of_waitView : c.lease = d.lease := by
  obtain ⟨hm, -, -, -⟩ := (Ctl.waitView_eq_iff c d).mp h
  rw [Ctl.msw, Ctl.msw] at hm
  simp only [Ctl.lease, Ctl.flag, Ctl.get, F.GLB_MODE_STAT_lease, hm]

theorem Ctl.peerFlag_of_waitView (f : Fld) (hf : f.off = Reg.PEER_STAT) : c.flag f = d.flag f := by
  obtain ⟨-, hp, -, -⟩ := (Ctl.waitView_eq_iff c d).mp h
  simp only [Ctl.flag, Ctl.get, hf, hp]

theorem Ctl.epoch_of_waitView : c.epoch = d.epoch := by
  obtain ⟨-, -, hw, -⟩ := (Ctl.waitView_eq_iff c d).mp h
  simp only [Ctl.epoch, Ctl.ctlNew, hw]

theorem Ctl.waits_of_waitView : c.pair.waits = d.pair.waits := by
  obtain ⟨-, -, -, hw⟩ := (Ctl.waitView_eq_iff c d).mp h
  exact hw

end

/-! ### The loss of the link -/

/-- The Kweistash link has gone down, for PEER_STAT, the flit layer and the switch. -/
def Ctl.peerUnlink (c : Ctl) : Ctl :=
  (((c.setFlag F.PEER_STAT_link_up false).set F.PEER_STAT_lanes 0).flitReset).linkDown peerLink

/-- To what R57 looks at, the loss of the link is the change of two fields of PEER_STAT. -/
theorem Ctl.waitView_peerUnlink (c : Ctl) :
    c.peerUnlink.waitView = ((c.setFlag F.PEER_STAT_link_up false).set F.PEER_STAT_lanes 0).waitView :=
  Ctl.waitView_linkDown _ _ (by decide)

theorem Ctl.peerUnlink_link_up (c : Ctl) : c.peerUnlink.flag F.PEER_STAT_link_up = false := by
  rw [Ctl.peerFlag_of_waitView c.waitView_peerUnlink _ rfl, Ctl.flag_set_beside _ _ _ _ (by decide) (by decide),
    Ctl.flag_setFlag_same _ _ _ (by decide)]

theorem Ctl.peerUnlink_lost (c : Ctl) : c.peerUnlink.flag F.PEER_STAT_lost = c.flag F.PEER_STAT_lost := by
  rw [Ctl.peerFlag_of_waitView c.waitView_peerUnlink _ rfl, Ctl.flag_set_beside _ _ _ _ (by decide) (by decide), Ctl.setFlag,
    Ctl.flag_set_beside _ _ _ _ (by decide) (by decide)]

theorem Ctl.peerUnlink_mode (c : Ctl) : c.peerUnlink.mode = c.mode := by
  rw [Ctl.mode_of_waitView c.waitView_peerUnlink, Ctl.mode_set_off _ _ _ (by decide), Ctl.mode_setFlag_off _ _ _ (by decide)]

theorem Ctl.peerUnlink_lease (c : Ctl) : c.peerUnlink.lease = c.lease := by
  rw [Ctl.lease_of_waitView c.waitView_peerUnlink, Ctl.lease, Ctl.flag_set_off _ _ _ _ (by decide), Ctl.setFlag,
    Ctl.flag_set_off _ _ _ _ (by decide), Ctl.lease]

theorem Ctl.peerUnlink_epoch (c : Ctl) : c.peerUnlink.epoch = c.epoch := by
  rw [Ctl.epoch_of_waitView c.waitView_peerUnlink]; rfl

/-- R350 is for the holder of the lease: a device without it, that has not declared its peer lost, does nothing. -/
theorem peerLostAll_no_lease (m : Mem) (c : Ctl) (hl : c.lease = false) (hp : c.flag F.PEER_STAT_lost = false) : peerLostAll m c = (m, c) := by
  have keep : c.peerLost = c := by simp [Ctl.peerLost, hl]
  simp [peerLostAll, keep, hp]

/-- R57: a standby that waits for its peer requests the lease when the link goes down, and does nothing else. -/
theorem peerDown_waiting (m : Mem) (c : Ctl) (hm : c.mode = .standby) (hl : c.lease = false) (hu : c.flag F.PEER_STAT_link_up = true)
    (hp : c.flag F.PEER_STAT_lost = false) (hw : c.pair.waits = true) : peerDown m c = (m, c.peerUnlink.startRequest) := by
  have lease : c.peerUnlink.lease = false := by rw [Ctl.peerUnlink_lease, hl]
  have quiet := peerLostAll_no_lease m c.peerUnlink lease (by rw [Ctl.peerUnlink_lost, hp])
  rw [Ctl.peerUnlink] at lease quiet ⊢
  simp [peerDown, hu, hm, hl, hw, lease, quiet]

/-! ### The request -/

/-- With the link down a mis-strapped pair holds no request back (R58). -/
theorem Ctl.startRequest_link_down (c : Ctl) (hu : c.flag F.PEER_STAT_link_up = false) :
    c.startRequest = (c.setFlag F.GLB_START_STAT_lease_req true).acquire := by
  simp [Ctl.startRequest, Ctl.conflictUp, hu]

/-- ACQUIRE is the newest output, with the stored epoch. -/
theorem Ctl.acquire_out (c : Ctl) : c.acquire.out.head? = some (.witness .acquire false c.epoch c.pair.reqNum) := rfl

theorem Ctl.acquire_asked (c : Ctl) : c.acquire.pair.asked = true := rfl

theorem Ctl.acquire_waits (c : Ctl) : c.acquire.pair.waits = false := rfl

/-- Of the registers ACQUIRE moves PEER_STAT.endorsing alone. -/
theorem Ctl.acquire_flag (c : Ctl) (f : Fld) : c.acquire.flag f = (c.setFlag F.PEER_STAT_endorsing false).flag f := rfl

theorem Ctl.acquire_mode (c : Ctl) : c.acquire.mode = c.mode :=
  show (c.setFlag F.PEER_STAT_endorsing false).mode = c.mode from Ctl.mode_setFlag_off _ _ _ (by decide)

/-- What a request of the lease with the link down leaves behind: the link down, the request noted and sent, no wait, and the mode and
the lease as they were. -/
theorem Ctl.startRequest_effect (c : Ctl) (hu : c.flag F.PEER_STAT_link_up = false) :
    c.startRequest.flag F.PEER_STAT_link_up = false ∧ c.startRequest.flag F.GLB_START_STAT_lease_req = true ∧
    c.startRequest.pair.asked = true ∧ c.startRequest.pair.waits = false ∧
    c.startRequest.out.head? = some (.witness .acquire false c.epoch c.pair.reqNum) ∧ c.startRequest.mode = c.mode ∧
    c.startRequest.lease = c.lease := by
  rw [Ctl.startRequest_link_down c hu]
  refine ⟨?_, ?_, Ctl.acquire_asked _, Ctl.acquire_waits _, Ctl.acquire_out _, ?_, ?_⟩
  · rw [Ctl.acquire_flag, Ctl.setFlag, Ctl.flag_set_beside _ _ _ _ (by decide) (by decide), Ctl.setFlag,
      Ctl.flag_set_off _ _ _ _ (by decide), hu]
  · rw [Ctl.acquire_flag, Ctl.setFlag, Ctl.flag_set_off _ _ _ _ (by decide), Ctl.flag_setFlag_same _ _ _ (by decide)]
  · rw [Ctl.acquire_mode, Ctl.mode_setFlag_off _ _ _ (by decide)]
  · rw [Ctl.lease, Ctl.acquire_flag, Ctl.setFlag, Ctl.flag_set_off _ _ _ _ (by decide), Ctl.setFlag,
      Ctl.flag_set_off _ _ _ _ (by decide), Ctl.lease]

/-! ### The row -/

/-- The state in which the loss of the Kweistash link finds the device: `cells` cell times on, with no lane known to have failed. -/
def Ctl.beforePeerDown (c : Ctl) (cells : Nat) : Ctl :=
  let d := (c.cellsTill 48 cells).2
  { d with pair := { d.pair with laneBad := 0 } }

theorem Ctl.waitView_beforePeerDown (c : Ctl) (cells : Nat) : (c.beforePeerDown cells).waitView = c.waitView :=
  Ctl.waitView_cellsTill c 48 cells

/-- LINK_DOWN of the Kweistash link in an awake device. -/
theorem completes_linkDown_peer {s : State} {cells : Nat} {P : State → Prop} (ha : s.c.awake = true) {r : Mem × Ctl}
    (hr : peerDown s.mem (s.c.beforePeerDown cells) = r) (hp : P (s.withBoth r)) : Completes (.linkDown 48 cells) s P := by
  have he : exec (.linkDown 48 cells) s = execLinkDown 48 cells s := rfl
  unfold execLinkDown at he
  have guard : (decide ((48 : Fin 49).val < 24) || !s.c.awake) = false := by rw [ha]; rfl
  exact completes_onAll he ((if_neg (Bool.eq_false_iff.mp guard)).trans hr) hp

/-- Settles O48: the cell times before the loss leave what R57 looks at, R350 does not concern a device without the lease, and with the
link down R58 does not hold its request back. -/
theorem waitingDeviceRequestsLease : Obligations.WaitingDeviceRequestsLease := by
  unfold Obligations.WaitingDeviceRequestsLease
  intro s cells hm hs hl hu hp hw
  have view := s.c.waitView_beforePeerDown cells
  have awake : s.c.awake = true := by simp [Ctl.awake, hm, hs]
  generalize hd : s.c.beforePeerDown cells = d at view
  have hdm : d.mode = .standby := (Ctl.mode_of_waitView view).trans hm
  have hdl : d.lease = false := (Ctl.lease_of_waitView view).trans hl
  have down : peerDown s.mem (s.c.beforePeerDown cells) = (s.mem, d.peerUnlink.startRequest) := hd ▸
    peerDown_waiting s.mem d hdm hdl ((Ctl.peerFlag_of_waitView view F.PEER_STAT_link_up rfl).trans hu)
      ((Ctl.peerFlag_of_waitView view F.PEER_STAT_lost rfl).trans hp) ((Ctl.waits_of_waitView view).trans hw)
  obtain ⟨link, req, asked, waits, out, mode, lease⟩ := d.peerUnlink.startRequest_effect d.peerUnlink_link_up
  rw [Ctl.peerUnlink_epoch, Ctl.epoch_of_waitView view] at out
  rw [Ctl.peerUnlink_mode, hdm] at mode
  rw [Ctl.peerUnlink_lease, hdl] at lease
  exact completes_linkDown_peer awake down ⟨link, req, asked, waits, ⟨_, out⟩, mode, lease, rfl⟩

end Sys2Proof.Machine
end

section
/-! SUPPORT. A table keeps its entries when a free number is taken. -/

namespace Sys2Proof

variable {α : Type}

theorem Tab.has_of_mem {t : Tab α} {e : Nat × α} (h : e ∈ t) : Tab.has t e.1 = true := by
  induction t with
  | nil => exact absurd h List.not_mem_nil
  | cons d t ih =>
    by_cases hd : d.1 = e.1
    · simp [Tab.has, Tab.at?, hd]
    · have tail : e ∈ t := (List.mem_cons.mp h).resolve_left (fun he => hd (he ▸ rfl))
      simpa [Tab.has, Tab.at?, hd] using ih tail

theorem Tab.mem_put_of_ne {t : Tab α} {e : Nat × α} (k : Nat) (x : α) (h : e ∈ t) (hk : e.1 ≠ k) : e ∈ Tab.put t k x := by
  induction t with
  | nil => exact absurd h List.not_mem_nil
  | cons d t ih =>
    simp only [Tab.put]
    split
    · exact List.mem_cons_of_mem _ h
    · split
      · next hd =>
        have tail : e ∈ t := (List.mem_cons.mp h).resolve_left (fun he => hk (he ▸ hd))
        exact List.mem_cons_of_mem _ tail
      · rcases List.mem_cons.mp h with head | tail
        · exact head ▸ List.mem_cons_self
        · exact List.mem_cons_of_mem _ (ih tail)

/-- A number that is given as free takes the place of no entry. -/
theorem Tab.mem_put_freeKey {t : Tab α} {e : Nat × α} {i n k : Nat} (x : α) (hf : Tab.freeKey t i n = some k) (h : e ∈ t) :
    e ∈ Tab.put t k x := by
  obtain ⟨free, -, -⟩ := Tab.freeKey_spec t n i k hf
  refine Tab.mem_put_of_ne k x h (fun hk => ?_)
  rw [← hk, Tab.has_of_mem h] at free
  exact Bool.noConfusion free

end Sys2Proof
end

section
/-! SUPPORT. An admin command that is served: the row runs it in the state `Ctl.begun`, which holds one context more, and its completion
leaves as the newest output (R85, R87). -/

namespace Sys2Proof.Machine

/-- A served capsule of the admin command set runs on its context, in the state that its start has made. -/
theorem adminArrive_served {c : Ctl} {x : AdminCap} {k tag : Nat} {a : Assoc} {hit : Assoc → Bool} (m : Mem) (hx : AdminServed c x k tag a)
    (hh : hit a = true) : adminArrive x hit m c = adminDo x k (a.alive c.dt) m (c.begun x k tag a) := by
  obtain ⟨here, queue, aborts, room, free, cid, mode, fields⟩ := hx
  have below : ¬ (x.op = .abort ∧ 16 ≤ a.aborts) := fun ⟨op, full⟩ => absurd (aborts op) (Nat.not_lt.mpr full)
  have take : adminArrive x hit m c = adminTake m c k a x := by simp [adminArrive, here, queue, hh]
  have accept : adminTake m c k a x = adminAccept m (c.alive k a) k (a.alive c.dt) x := by
    rw [adminTake, if_neg below]
    exact if_neg (Bool.eq_false_iff.mp room)
  have start : adminAccept m (c.alive k a) k (a.alive c.dt) x = adminStart m
      { (c.alive k a).tev .hcp 0 0 (some a.tenant) none 1 with
        host := { (c.alive k a).host with capSeq := (c.alive k a).host.capSeq + 1 } } tag (c.alive k a).host.capSeq k (a.alive c.dt) x := by
    simp only [adminAccept, free, cid]
    exact if_neg mode
  rw [take, accept, start, adminStart, if_neg (Bool.eq_false_iff.mp fields)]
  rfl

/-! ### The state in which a served command runs -/

section
variable (c : Ctl) (x : AdminCap) (k tag : Nat) (a : Assoc)

@[simp] theorem Ctl.begun_out : (c.begun x k tag a).out = c.out := by
  show ((c.alive k a).tev .hcp 0 0 (some a.tenant) none 1).out = _
  rw [Ctl.tev_out]; rfl

@[simp] theorem Ctl.begun_queues : (c.begun x k tag a).host.queues = c.host.queues := rfl

@[simp] theorem Ctl.begun_queueBy (j qid : Nat) : (c.begun x k tag a).queueBy j qid = c.queueBy j qid := rfl

@[simp] theorem Ctl.begun_power : (c.begun x k tag a).power = c.power := by
  show ((c.alive k a).tev .hcp 0 0 (some a.tenant) none 1).power = _
  rw [Ctl.tev_power]; rfl

/-- Its start counts as a telemetry event, which moves the sample ring's register alone. -/
theorem Ctl.begun_rd_off {p : Nat} (h : Reg.TEL_SMP_STAT ≠ p) : (c.begun x k tag a).rd p = c.rd p :=
  Ctl.tev_rd_off (c.alive k a) .hcp 0 0 (some a.tenant) none 1 p h

theorem Ctl.begun_flag_off (f : Fld) (h : Reg.TEL_SMP_STAT ≠ f.off) : (c.begun x k tag a).flag f = c.flag f := by
  simp only [Ctl.flag, Ctl.get, Ctl.begun_rd_off c x k tag a h]

@[simp] theorem Ctl.begun_halted : (c.begun x k tag a).halted = c.halted := by
  simp only [Ctl.halted, Ctl.begun_power, Ctl.mode_congr (Ctl.begun_rd_off c x k tag a (by decide))]

/-- The command takes a context that was FREE: every other context in use stays. -/
theorem Ctl.mem_tags_begun {p : Nat × TagE} (free : (c.alive k a).freeTag = some tag) (h : p ∈ c.host.tags) :
    p ∈ (c.begun x k tag a).host.tags := Tab.mem_put_freeKey _ free h

end

/-- A device that takes capsules in is not halted. -/
theorem Ctl.not_halted_of_ioOpen {c : Ctl} {conn : Nat} (h : c.ioOpen conn = true) : c.halted = false := by
  simp only [Ctl.ioOpen, Ctl.capsuleHere, Bool.and_eq_true, Bool.not_eq_true'] at h
  obtain ⟨-, ⟨running, -⟩, -⟩ := h
  exact running

/-! ### Completions -/

section
variable (c : Ctl) (conn cid : Nat) (ten : Option Nat) (st : NvStatus) (dw0 dw1 : Nat)

theorem Ctl.post_out (h : c.halted = false) : (c.post conn cid ten st dw0 dw1).out = .cqe conn cid st dw0 dw1 :: c.out := by
  simp only [Ctl.post, h, Bool.false_eq_true, if_false]
  split
  · exact Ctl.emit_out _ _
  · rw [Ctl.tev_out, Ctl.bump_out, Ctl.emit_out]

@[simp] theorem Ctl.post_host : (c.post conn cid ten st dw0 dw1).host = c.host := by
  simp only [Ctl.post]
  split
  · rfl
  · split
    · rfl
    · rw [Ctl.tev_host]; rfl

theorem Ctl.complete_out (h : c.halted = false) : (c.complete conn cid ten st dw0 dw1).out = .cqe conn cid st dw0 dw1 :: c.out :=
  Ctl.post_out c conn cid ten st dw0 dw1 h

@[simp] theorem Ctl.complete_queues : (c.complete conn cid ten st dw0 dw1).host.queues = c.host.queues := by
  show (c.post conn cid ten st dw0 dw1).host.queues = _
  rw [Ctl.post_host]

end

end Sys2Proof.Machine
end

section
/-! Set Features D1h of a queue whose tags are not all FREE (R101): O45. -/

namespace Sys2Proof.Machine

/-- Set Features of a feature of Table 5.5, with SV = 0, completes with what setting the feature answers. -/
theorem setFeaturesDo_of_listed {x : AdminCmd} {fid : Nat} (k : Nat) (a : Assoc) (c : Ctl) (hf : getBits x.cdw10 7 0 = fid)
    (listed : featIds.contains fid = true) (sv : getBit x.cdw10 31 = false) :
    setFeaturesDo x k a c = (featSet fid x k a c).2.2.adminEnd x a (featSet fid x k a c).1 (featSet fid x k a c).2.1 0 := by
  simp only [setFeaturesDo, hf, listed, sv, Bool.not_true, Bool.false_eq_true, if_false]

section
variable {x : AdminCmd} {k n : Nat} {c : Ctl} {q : HostQueue} (a : Assoc) (en : c.flag F.HCP_CFG_ordered_en = true)
  (fields : getBits x.cdw11 31 17 = 0) (queue : c.queueBy k (getBits x.cdw11 15 0) = some (n, q))
  (held : ∃ p ∈ c.host.tags, p.2.kind.host = true ∧ p.2.assoc = k ∧ p.2.qid = getBits x.cdw11 15 0)
include en fields queue held

/-- A queue that holds a tag refuses a new flag with Command Sequence Error, and nothing changes. -/
theorem setOrdered_held : setOrdered x k a c = (St.sequence, 0, c) := by
  have tags : c.host.tags.any (fun p => p.2.kind.host && p.2.assoc == k && p.2.qid == getBits x.cdw11 15 0) = true := by
    obtain ⟨p, mem, host, assoc, qid⟩ := held
    exact List.any_eq_true.mpr ⟨p, mem, by simp [host, assoc, qid]⟩
  simp [setOrdered, en, fields, queue, tags]

theorem setFeaturesDo_ordered_held (fid : getBits x.cdw10 7 0 = 0xD1) (sv : getBit x.cdw10 31 = false) :
    setFeaturesDo x k a c = c.adminEnd x a St.sequence 0 0 := by
  rw [setFeaturesDo_of_listed k a c fid rfl sv, show featSet 0xD1 = setOrdered from rfl, setOrdered_held a en fields queue held]

end

/-- Settles O45: the command's own context takes no other's place, so the tag that the queue holds is still there when D1h looks. -/
theorem orderedFlagNeedsFreeTags : Obligations.OrderedFlagNeedsFreeTags := by
  unfold Obligations.OrderedFlagNeedsFreeTags
  intro s x k tag n a q served fid sv en fields queue held
  have run := adminArrive_served (hit := featHit x [0xD1]) s.mem served (by simp [featHit, fid])
  obtain ⟨here, -, -, -, free, -, -, -⟩ := served
  obtain ⟨p, mem, tagged⟩ := held
  generalize hd : s.c.begun (AdminOp.setFeatures.on x) k tag a = d at run
  have enabled : d.flag F.HCP_CFG_ordered_en = true := by rw [← hd, Ctl.begun_flag_off _ _ _ _ _ _ (by decide), en]
  have still_queue : d.queueBy k (getBits x.cdw11 15 0) = some (n, q) := by rw [← hd, Ctl.begun_queueBy, queue]
  have still_held : p ∈ d.host.tags := hd ▸ Ctl.mem_tags_begun s.c _ k tag a free mem
  have running : d.halted = false := by rw [← hd, Ctl.begun_halted, Ctl.not_halted_of_ioOpen here]
  have refused := setFeaturesDo_ordered_held (a.alive s.c.dt) enabled fields still_queue ⟨p, still_held, tagged⟩ fid sv
  refine completes_onAll rfl (run.trans (congrArg (Prod.mk s.mem) refused)) ⟨?_, ?_⟩
  · rw [State.withBoth_c, Ctl.adminEnd, Ctl.complete_out _ _ _ _ _ _ _ running, ← hd, Ctl.begun_out]
  · rw [State.withBoth_c, Ctl.adminEnd, Ctl.complete_queues, ← hd, Ctl.begun_queues]

end Sys2Proof.Machine
end

section
/-! Reset memory canonical: O41. -/

namespace Sys2Proof.Machine

/-- Settles O41: no memory lists an entry after reset, and an unlisted byte reads as 0 in each of them. -/
theorem resetMemoryCanonical : Obligations.ResetMemoryCanonical := by
  unfold Obligations.ResetMemoryCanonical
  refine ⟨rfl, fun r a => ?_⟩
  cases r <;> rfl

end Sys2Proof.Machine
end

section
/-! Step words round trip: O60. -/

namespace Sys2Proof.Machine

/-- A field of a word written as a number is cut out of that number. -/
theorem getBits_ofNat (n hi lo : Nat) : getBits (BitVec.ofNat 32 n) hi lo = n % 2 ^ 32 / 2 ^ lo % 2 ^ (hi + 1 - lo) := by
  rw [getBits, BitVec.toNat_ofNat]

theorem getLsbD_ofNat_of_digit {n i : Nat} {b : Bool} (hi : i < 32) (digit : n / 2 ^ i % 2 = b.toNat) : (BitVec.ofNat 32 n).getLsbD i = b := by
  rw [BitVec.getLsbD_ofNat, Nat.testBit_eq_decide_div_mod_eq, digit]
  cases b <;> simp [hi]

theorem flag_weight (b : Bool) (k : Nat) : (if b then 2 ^ k else 0) = b.toNat * 2 ^ k := by
  cases b <;> simp

section
variable (x : Step)

/-! The words of a step, field by field (06_barista_and_dma.md, Table 6.2): a field that fits its width is read back whatever the others hold. -/

theorem stepHead_fields (heng : x.eng < 64) (hisel : x.isel < 4) (hinst : x.inst < 256) (hop : x.op < 256) :
    getBits (wordAt x.words 0) 31 26 = x.eng ∧ getBits (wordAt x.words 0) 25 24 = x.isel ∧ getBits (wordAt x.words 0) 23 16 = x.inst ∧
      getBits (wordAt x.words 0) 15 8 = x.op := by
  have hf := x.fstep.toNat_lt
  have hl := x.last.toNat_lt
  have ht := x.tok.toNat_lt
  simp only [Step.words, wordAt, List.getD_cons_zero, flag_weight, getBits_ofNat]
  omega

theorem stepHead_flags :
    (wordAt x.words 0).getLsbD 7 = x.fstep ∧ (wordAt x.words 0).getLsbD 6 = x.last ∧ (wordAt x.words 0).getLsbD 5 = x.tok := by
  have hf := x.fstep.toNat_lt
  have hl := x.last.toNat_lt
  have ht := x.tok.toNat_lt
  simp only [Step.words, wordAt, List.getD_cons_zero, flag_weight]
  refine ⟨getLsbD_ofNat_of_digit ?_ ?_, getLsbD_ofNat_of_digit ?_ ?_, getLsbD_ofNat_of_digit ?_ ?_⟩ <;> omega

theorem stepTargets_fields (hnext : x.next < 256) (hb0t : x.b0t < 256) (hb1t : x.b1t < 256) (hfailt : x.failt < 256) :
    getBits (wordAt x.words 1) 31 24 = x.next ∧ getBits (wordAt x.words 1) 23 16 = x.b0t ∧ getBits (wordAt x.words 1) 15 8 = x.b1t ∧
      getBits (wordAt x.words 1) 7 0 = x.failt := by
  simp only [Step.words, wordAt, List.getD_cons_zero, List.getD_cons_succ, getBits_ofNat]
  omega

theorem stepBranches_fields (hb0s : x.b0s < 256) (hb1s : x.b1s < 256) (hb0m : x.b0m < 16) (hb1m : x.b1m < 16) :
    getBits (wordAt x.words 2) 31 24 = x.b0s ∧ getBits (wordAt x.words 2) 23 16 = x.b1s ∧ getBits (wordAt x.words 2) 15 12 = x.b0m ∧
      getBits (wordAt x.words 2) 11 8 = x.b1m := by
  simp only [Step.words, wordAt, List.getD_cons_zero, List.getD_cons_succ, getBits_ofNat]
  omega

theorem stepSlots_fields (hsrc : x.src < 16) (hdst : x.dst < 16) (haux : x.aux < 16) (hout : x.out < 16) :
    getBits (wordAt x.words 3) 31 28 = x.src ∧ getBits (wordAt x.words 3) 27 24 = x.dst ∧ getBits (wordAt x.words 3) 23 20 = x.aux ∧
      getBits (wordAt x.words 3) 19 16 = x.out := by
  simp only [Step.words, wordAt, List.getD_cons_zero, List.getD_cons_succ, getBits_ofNat]
  omega

theorem stepArgs_fields (harg0 : x.arg0 < 2 ^ 32) (harg1 : x.arg1 < 2 ^ 32) (hlen : x.len < 2 ^ 24) :
    (wordAt x.words 4).toNat = x.arg0 ∧ (wordAt x.words 5).toNat = x.arg1 ∧ getBits (wordAt x.words 6) 23 0 = x.len := by
  simp only [Step.words, wordAt, List.getD_cons_zero, List.getD_cons_succ, getBits_ofNat, BitVec.toNat_ofNat]
  omega

theorem stepTail_fields (harg2 : x.arg2 < 2 ^ 16) (hchk : x.chk < 2 ^ 16) :
    getBits (wordAt x.words 7) 31 16 = x.arg2 ∧ getBits (wordAt x.words 7) 15 0 = x.chk := by
  simp only [Step.words, wordAt, List.getD_cons_zero, List.getD_cons_succ, getBits_ofNat]
  omega

end

theorem writeRecipe_passes : ∀ n ∈ [1, 2, 256, 512], recipeErrs (writeRecipe n) = [] := by decide +kernel

theorem zeroRecipe_passes : recipeErrs zeroRecipe = [] := by decide +kernel

/-- Settles O60: word by word, each field of a step is read back, and the checks of the closed recipes are evaluated. -/
theorem stepWordsRoundTrip : Obligations.StepWordsRoundTrip := by
  unfold Obligations.StepWordsRoundTrip
  refine ⟨?_, writeRecipe_passes, zeroRecipe_passes⟩
  intro x heng hisel hinst hop hnext hb0t hb1t hfailt hb0s hb1s hb0m hb1m hsrc hdst haux hout harg0 harg1 hlen harg2 hchk
  refine ⟨rfl, ?_⟩
  simp only [stepOf, stepHead_fields x heng hisel hinst hop, stepHead_flags x, stepTargets_fields x hnext hb0t hb1t hfailt,
    stepBranches_fields x hb0s hb1s hb0m hb1m, stepSlots_fields x hsrc hdst haux hout, stepArgs_fields x harg0 harg1 hlen,
    stepTail_fields x harg2 hchk]

end Sys2Proof.Machine
end

section
/-! SUPPORT. What writes memory keeps its canonical form. `Mem.wf_put` says so of one write and `Mem.wf_setSel` of a memory that is replaced; here it
is carried through every helper of the rows that has a memory to change, in the order in which the helpers call each other. -/

namespace Sys2Proof.Machine

theorem foldl_keeps {α β : Type} (P : β → Prop) {f : β → α → β} (step : ∀ b a, P b → P (f b a)) (l : List α) {b : β} (hb : P b) :
    P (l.foldl f b) :=
  List.foldlRecOn l f hb (fun b hb a _ => step b a hb)

theorem foldl_mem_wf {α : Type} {f : Mem → α → Mem} (step : ∀ (m : Mem) a, Memory.wf m → Memory.wf (f m a)) (l : List α) {m : Mem}
    (h : Memory.wf m) : Memory.wf (l.foldl f m) :=
  foldl_keeps (fun m : Mem => Memory.wf m) step l h

theorem foldl_wf {α : Type} {f : Mem × Ctl → α → Mem × Ctl} (step : ∀ (acc : Mem × Ctl) a, Memory.wf acc.1 → Memory.wf (f acc a).1)
    (l : List α) {acc : Mem × Ctl} (h : Memory.wf acc.1) : Memory.wf (l.foldl f acc).1 :=
  foldl_keeps (fun acc : Mem × Ctl => Memory.wf acc.1) step l h

/-- What a row's helper leaves behind, where the row has split its result into memory and state. -/
theorem wf_of_eq {p : Mem × Ctl} (h : Memory.wf p.1) {m : Mem} {c : Ctl} (e : p = (m, c)) : Memory.wf m := by
  rw [e] at h
  exact h

/-- For the long chain of cases of `wrReg`, which `split` is too slow for. -/
theorem wf_ite {p : Prop} [Decidable p] {a b : Nat × Mem × Ctl} (ha : Memory.wf a.2.1) (hb : Memory.wf b.2.1) :
    Memory.wf (if p then a else b).2.1 := by
  split
  · exact ha
  · exact hb

/-- The action of an engine keeps the canonical form. -/
def ActKeeps (act : Issued → Mem → Ctl → Act) : Prop := ∀ i m c, Memory.wf m → Memory.wf (act i m c).m

/-- A Chieb opcode keeps the canonical form. -/
def ResKeeps (op : Taken → Mem → Ctl → CRes) : Prop := ∀ t m c, Memory.wf m → Memory.wf (op t m c).m

section
variable {m : Mem} {c : Ctl} (h : Memory.wf m)
include h

/-! ### Resets and views of the whole memory -/

theorem afterReset_wf : Memory.wf m.afterReset :=
  Mem.wf_setSel _ .bar2 [] (Mem.wf_setSel _ .sram [] (Mem.wf_setSel m .hbm [] h rfl) rfl) rfl

theorem memView_wf : Memory.wf (Ctl.memView c m) :=
  foldl_mem_wf (fun _ _ hm => Mem.wf_put _ _ _ _ hm) _ h

theorem snapPublish_wf (s : Snapshot) : Memory.wf (snapPublish m s) := Mem.wf_put _ _ _ _ (Mem.wf_put _ _ _ _ h)

/-! ### The issue of a step, for any action of its engine that keeps the form -/

omit h in
theorem late_wf (a : Act) (s : Step) : Memory.wf (a.late s).m = Memory.wf a.m := by
  unfold Act.late
  split <;> rfl

theorem issueAt_wf (pick : Issued → Option Nat) (tag eng op : Nat) (poisonOk : Bool) {act : Issued → Mem → Ctl → Act} (keeps : ActKeeps act) :
    Memory.wf (issueAt pick m c tag eng op poisonOk act).1 := by
  simp only [issueAt]
  (repeat' split) <;> simp only [h, late_wf, keeps _ _ _ h]

theorem issue_wf (tag eng op : Nat) (poisonOk : Bool) {act : Issued → Mem → Ctl → Act} (keeps : ActKeeps act) :
    Memory.wf (issue m c tag eng op poisonOk act).1 :=
  issueAt_wf h _ _ _ _ _ keeps

theorem issueUnless_wf (hold : Issued → Bool) (tag eng op : Nat) (poisonOk : Bool) {act : Issued → Mem → Ctl → Act} (keeps : ActKeeps act) :
    Memory.wf (issueUnless hold m c tag eng op poisonOk act).1 := by
  unfold issueUnless
  (repeat' split) <;> simp only [h, issue_wf h _ _ _ _ keeps]

theorem evtIssue_wf (tag op : Nat) (wait : Issued → Ctl → Ctl) : Memory.wf (evtIssue m c tag op wait).1 := by
  have keeps : ActKeeps fun _ m c => .ok m c := fun _ _ _ hm => hm
  unfold evtIssue
  (repeat' split) <;> simp only [h, issue_wf h _ _ _ _ keeps]

/-! ### Buffers and Crema -/

theorem bpmAllocAct_wf (tag : Nat) (ue race : Bool) (i : Issued) : Memory.wf (bpmAllocAct tag ue race i m c).m := by
  unfold bpmAllocAct
  (repeat' split) <;> exact h

theorem bpmRefAct_wf (tag : Nat) (ue : Bool) (i : Issued) : Memory.wf (bpmRefAct tag ue i m c).m := by
  simp only [bpmRefAct]
  (repeat' split) <;> exact h

theorem bpmDropAct_wf (tag : Nat) (ue : Bool) (i : Issued) : Memory.wf (bpmDropAct tag ue i m c).m := by
  simp only [bpmDropAct]
  (repeat' split) <;> exact h

theorem bpmReleaseAct_wf (tag : Nat) (ue : BitVec 8) (i : Issued) : Memory.wf (bpmReleaseAct tag ue i m c).m := by
  unfold bpmReleaseAct
  (repeat' split) <;> exact h

theorem crmFillAct_wf (tag : Nat) (i : Issued) : Memory.wf (crmFillAct tag i m c).m := by
  simp only [crmFillAct]
  (repeat' split) <;> exact h

theorem crmInsertAct_wf (tag : Nat) (i : Issued) : Memory.wf (crmInsertAct tag i m c).m := by
  simp only [crmInsertAct]
  (repeat' split) <;> simp only [h, crmFillAct_wf, Act.refuse, Act.ok]

/-! ### The journal: records, the lost-stripe table, checkpoints -/

theorem recStore_wf (r : JRec) : Memory.wf (recStore m r) := Mem.wf_put _ _ _ _ (Mem.wf_put _ _ _ _ h)

theorem padsWrite_wf : Memory.wf (padsWrite m c).1 := by
  unfold padsWrite
  split
  · exact h
  · split
    · exact h
    · exact foldl_mem_wf (fun _ r hm => recStore_wf hm r) _ h

theorem recWrite_wf (r : JRec) : Memory.wf (recWrite m c r).1 := by
  simp only [recWrite]
  (repeat' split) <;> simp only [h, padsWrite_wf, recStore_wf]

theorem lostPut_wf (k : Nat) (e : LostE) : Memory.wf (lostPut m c k e).1 := Mem.wf_put _ _ _ _ (recWrite_wf h ..)

theorem lostRow_wf (g s row cause posMask : Nat) : Memory.wf (lostRow m c g s row cause posMask).1 := by
  unfold lostRow
  (repeat' split) <;> simp only [h, lostPut_wf]

theorem foundRow_wf (g s row : Nat) : Memory.wf (foundRow m c g s row).1 := by
  unfold foundRow
  (repeat' split) <;> simp only [h, lostPut_wf]

theorem clearEmptyRows_wf (g b n : Nat) : Memory.wf (clearEmptyRows m c g b n).1 := by
  refine foldl_wf (fun _ p ha => foldl_wf (fun _ row ha => ?_) _ ha) _ h
  split
  · exact foundRow_wf ha ..
  · exact ha

theorem settle_wf (seq : Nat) (maps : Bool) : Memory.wf (settle m c seq maps).1 := by
  unfold settle
  (repeat' split) <;> simp only [h, clearEmptyRows_wf]

theorem voidOwn_wf (tag : Nat) : Memory.wf (voidOwn m c tag).1 := by
  simp only [voidOwn]
  (repeat' split) <;> simp only [h, recWrite_wf]

theorem checkpoint_wf (g : Nat) : Memory.wf (checkpoint m c g).1 := recWrite_wf h ..

theorem rgRecord_wf (passed state : Nat) : Memory.wf (rgRecord m c passed state).1 := recWrite_wf h ..

theorem rgAbort_wf (err : Nat) : Memory.wf (rgAbort m c err).1 := by
  simp only [rgAbort, rgRecord_wf h]

/-! ### Members and bays -/

theorem memFail_wf (bay cause : Nat) : Memory.wf (memFail m c bay cause).1 := by
  simp only [memFail]
  (repeat' split) <;> simp only [h, rgAbort_wf]

theorem mediaError_wf (bay : Nat) : Memory.wf (mediaError m c bay).1 := by
  simp only [mediaError]
  (repeat' split) <;> simp only [h, memFail_wf]

theorem driveAtStart_wf (bay g p : Nat) (d : Drive) : Memory.wf (driveAtStart m c bay g p d).1 := by
  unfold driveAtStart
  split
  · exact h
  · split
    · exact h
    · exact memFail_wf h ..

theorem driveTake_wf (bay : Nat) (d : Drive) : Memory.wf (driveTake m c bay d).1 := by
  simp only [driveTake]
  (repeat' split) <;> simp only [h, driveAtStart_wf]

theorem rbdFail_wf (bay : Nat) : Memory.wf (rbdFail m c bay).1 := by
  unfold rbdFail
  split
  · exact h
  · split
    · exact h
    · exact memFail_wf h ..

theorem memCmd_wf (bay op : Nat) : Memory.wf (memCmd m c bay op).1 := by
  unfold memCmd
  (repeat' split) <;> simp only [h, rbdFail_wf]

theorem bayMember_wf (b : Nat) : Memory.wf (bayMember m c b).1 := by
  unfold bayMember
  split
  · exact h
  · exact memFail_wf h ..

theorem bayLatch_wf (b cause : Nat) (v : BaySample) : Memory.wf (bayLatch m c b cause v).1 := by
  unfold bayLatch
  split
  · exact h
  · exact bayMember_wf h ..

/-! ### The journal's steps -/

theorem carReserveAct_wf (tag : Nat) (i : Issued) : Memory.wf (carReserveAct tag i m c).m := by
  simp only [carReserveAct]
  (repeat' split) <;> simp only [h, padsWrite_wf, Act.refuse, Act.ok]

theorem landRec_wf (r : JRec) : Memory.wf (landRec (m, c) r).1 := recStore_wf h _

theorem carLandAct_wf (tag : Nat) (i : Issued) : Memory.wf (carLandAct tag i m c).m := by
  simp only [carLandAct]
  split
  · exact h
  · exact foldl_wf (fun _ _ ha => landRec_wf ha _) _ h

theorem carReadAct_wf (tag fixed : Nat) (i : Issued) : Memory.wf (carReadAct tag fixed i m c).m := by
  simp only [carReadAct]
  split
  · split
    · exact h
    · refine foldl_mem_wf (fun _ _ hm => ?_) _ h
      split
      · exact Mem.wf_put _ _ _ _ hm
      · exact hm
  · exact h

theorem carGatherAct_wf (tag fixed : Nat) (i : Issued) : Memory.wf (carGatherAct tag fixed i m c).m := by
  unfold carGatherAct
  split
  · extract_lets
    split
    · exact h
    · refine padsWrite_wf (foldl_mem_wf (fun _ _ hm => ?_) _ h)
      (repeat' split) <;> simp only [hm, Mem.wf_put]
  · exact h

theorem writeReserved_wf (seq : Option Nat) (data : List Byte) : Memory.wf (writeReserved (m, c) seq data).1 := by
  unfold writeReserved
  split
  · exact h
  · exact recStore_wf h ..

theorem carIntentAct_wf (tag : Nat) (i : Issued) : Memory.wf (carIntentAct tag i m c).m := by
  simp only [carIntentAct]
  split
  · exact h
  · split
    · exact h
    · exact writeReserved_wf (foldl_wf (fun _ _ ha => writeReserved_wf ha ..) _ h) ..

theorem doneRows_wf (w : FlushWork) : Memory.wf (doneRows m c w).1 := by
  refine foldl_wf (fun _ row ha => ?_) _ h
  (repeat' split) <;> simp only [ha, lostRow_wf, foundRow_wf]

theorem carDoneAct_wf (tag : Nat) (i : Issued) : Memory.wf (carDoneAct tag i m c).m := by
  simp only [carDoneAct]
  (repeat' split) <;> simp only [h, doneRows_wf, Act.ok, recWrite_wf]

/-! ### Steps that move data: drives, parity, checksums, the DMA step, the switch -/

theorem dqeReadAct_wf (tag : Nat) (i : Issued) : Memory.wf (dqeReadAct tag i m c).m := by
  simp only [dqeReadAct]
  (repeat' split) <;> simp only [h, Act.refuse, Act.ok]

theorem dqeWriteAct_wf (tag : Nat) (i : Issued) : Memory.wf (dqeWriteAct tag i m c).m := by
  simp only [dqeWriteAct]
  (repeat' split) <;> exact h

theorem dqeIssue_wf (op : Nat) (write : Bool) {act : Issued → Mem → Ctl → Act} (keeps : ActKeeps act) (tag : Nat) :
    Memory.wf (dqeIssue op write act tag m c).1 := by
  simp only [dqeIssue]
  (repeat' split) <;> simp only [h, issueAt_wf h _ _ _ _ _ keeps]

theorem landPieces_wf (ps : List Land) (bs : List Byte) : Memory.wf (landPieces m ps bs) := by
  induction ps generalizing m bs with
  | nil => exact h
  | cons p ps ih =>
    refine ih ?_ _
    split
    · exact Mem.wf_put _ _ _ _ h
    · exact h

theorem memberDone_wf (x : TokIo) (st : Nat) (media : Option Nat) : Memory.wf (memberDone m c x st media).1 := by
  simp only [memberDone]
  (repeat' split) <;> simp only [h, memFail_wf, mediaError_wf]

theorem galPut_wf (outs : List (GalEntry × List Byte)) : Memory.wf (galPut m outs) :=
  foldl_mem_wf (fun _ _ hm => Mem.wf_put _ _ _ _ hm) _ h

theorem galAct_wf (tag : Nat) {f : (Nat → Nat → Nat) → Nat → List GalEntry → Mem → Ctl → Act}
    (keeps : ∀ co n es (c : Ctl), Memory.wf (f co n es m c).m) (i : Issued) : Memory.wf (galAct tag f i m c).m := by
  simp only [galAct]
  (repeat' split) <;> simp only [h, Act.refuse, keeps]

theorem galEncodeAct_wf (co : Nat → Nat → Nat) (n : Nat) (es : List GalEntry) : Memory.wf (galEncodeAct co n es m c).m := galPut_wf h ..

theorem galUpdateAct_wf (co : Nat → Nat → Nat) (n : Nat) (es : List GalEntry) : Memory.wf (galUpdateAct co n es m c).m := galPut_wf h ..

theorem galDecodeAct_wf (co : Nat → Nat → Nat) (n : Nat) (es : List GalEntry) : Memory.wf (galDecodeAct co n es m c).m := by
  simp only [galDecodeAct]
  (repeat' split) <;> simp only [h, Act.refuse, Act.ok, galPut_wf]

theorem crcGenAct_wf (tag : Nat) (i : Issued) : Memory.wf (crcGenAct tag i m c).m := by
  simp only [crcGenAct]
  split
  · split
    · exact h
    · exact foldl_mem_wf (fun _ _ hm => Mem.wf_put _ _ _ _ hm) _ h
  · exact h

theorem crcChkAct_wf (tag : Nat) (i : Issued) : Memory.wf (crcChkAct tag i m c).m := by
  simp only [crcChkAct]
  (repeat' split) <;> exact h

theorem moveAct_wf (tag unit : Nat) (f : List Byte → List Byte) (hbmUe : Bool) (i : Issued) : Memory.wf (moveAct tag unit f hbmUe i m c).m := by
  simp only [moveAct]
  (repeat' split) <;> simp only [h, Mem.wf_put, Act.refuse, Act.ok]

theorem swcEnqAct_wf (tag : Nat) (i : Issued) : Memory.wf (swcEnqAct tag i m c).m := by
  simp only [swcEnqAct]
  (repeat' split) <;> exact h

/-! ### Chieb: requests, replies, mailbox -/

theorem deliver_wf (t : Taken) (bs : List Byte) : Memory.wf (deliver m c t bs).1 := by
  unfold deliver
  (repeat' split) <;> simp only [h, Mem.wf_put]

theorem chiebReply_wf (t : Taken) (st : Nat) (ws : List Word) : Memory.wf (chiebReply m c t st ws).1 :=
  foldl_wf (fun _ _ ha => deliver_wf ha ..) _ (deliver_wf h ..)

theorem chiebTake_wf (t0 : Taken) (bs : List Byte) (exact : Bool) : Memory.wf (chiebTake m c t0 bs exact).1 := by
  simp only [chiebTake]
  (repeat' split) <;> simp only [h, chiebReply_wf, deliver_wf]

theorem chiebExec_wf (t : Taken) {op : Taken → Mem → Ctl → CRes} (keeps : ResKeeps op) : Memory.wf (chiebExec m c t op).1 := by
  simp only [chiebExec]
  (repeat' split) <;> simp only [h, chiebReply_wf, keeps _ _ _ h]

theorem chiebRun_wf (n : Nat) (src : ChiebSrc) {op : Taken → Mem → Ctl → CRes} (keeps : ResKeeps op) :
    Memory.wf (chiebRun n src op m c).1 := by
  simp only [chiebRun]
  (repeat' split) <;> simp only [h, chiebExec_wf h _ keeps, chiebExec_wf (chiebTake_wf h ..) _ keeps, chiebTake_wf]

theorem ringSlot_wf (s : Fin 4) : Memory.wf (ringSlot m c s).1 := by
  unfold ringSlot
  split
  · exact h
  · exact chiebTake_wf h ..

theorem doorbell_wf (ring : Nat) : Memory.wf (doorbell m c ring).1 := by
  unfold doorbell
  split
  · exact h
  · refine foldl_wf (fun _ s ha => ?_) _ h
    split
    · exact ringSlot_wf ha s
    · exact ha

theorem bar2Write_wf (off : Nat) (bs : List Byte) : Memory.wf (bar2Write m off bs) := by
  refine foldl_mem_wf (fun m p hm => ?_) _ h
  simp only
  split
  · exact Mem.wf_put _ _ _ _ hm
  · exact hm

theorem longOp_wf (op : Nat) {f : Nat → Mem → Ctl → Mem × Ctl} (keeps : ∀ n (c : Ctl), Memory.wf (f n m c).1) :
    Memory.wf (longOp op m c f).m := by
  unfold longOp
  split
  · exact h
  · exact keeps ..

theorem opQuery_wf (t : Taken) : Memory.wf (opQuery t m c).m := by
  unfold opQuery
  (repeat' split) <;> exact h

/-! ### Release faults -/

theorem toReset_wf (cause : Nat) : Memory.wf (toReset m c cause).1 := afterReset_wf h

theorem releaseFault_wf (code detail : Nat) : Memory.wf (releaseFault m c code detail).1 := by
  unfold releaseFault
  (repeat' split) <;> simp only [h, toReset_wf]

/-! ### Opcodes of the bays -/

theorem bayStatus_wf (t : Taken) : Memory.wf (bayStatus t m c).m := h

theorem bayPower_wf (t : Taken) : Memory.wf (bayPower t m c).m := by
  simp only [bayPower]
  (repeat' split) <;> exact h

theorem bayPs2Override_wf (t : Taken) : Memory.wf (bayPs2Override t m c).m := by
  unfold bayPs2Override
  (repeat' split) <;> exact h

/-! ### Instructions that a DMA channel has in flight -/

theorem dmaWriteback_wf (a : Nat) (w0 : Word) (w7 : Option Nat) (st : Nat) : Memory.wf (dmaWriteback m a w0 w7 st) := by
  unfold dmaWriteback
  (repeat' split) <;> simp only [h, Mem.wf_put]

theorem flightRetire_wf (n : Nat) (i : DmaIns) : Memory.wf (flightRetire m c n i).1 := by
  simp only [flightRetire]
  (repeat' split) <;> simp only [h, dmaWriteback_wf]

theorem flightEnd_wf (n : Nat) : Memory.wf (flightEnd m c n).1 :=
  foldl_wf (fun _ _ ha => flightRetire_wf ha ..) _ h

/-! ### Opcodes of the key unit -/

theorem skekInstall_wf (t : Taken) : Memory.wf (skekInstall t m c).m := by
  simp only [skekInstall]
  (repeat' split) <;> exact h

theorem keyStatus_wf (t : Taken) : Memory.wf (keyStatus t m c).m := by
  simp only [keyStatus]
  split <;> exact h

theorem keyLoad_wf (t : Taken) : Memory.wf (keyLoad t m c).m := by
  simp only [keyLoad]
  (repeat' split) <;> simp only [h, CRes.err, longOp_wf h, implies_true]

theorem keyZeroise_wf (t : Taken) : Memory.wf (keyZeroise t m c).m := by
  simp only [keyZeroise]
  (repeat' split) <;> simp only [h, CRes.err, longOp_wf h, implies_true]

/-! ### Rebuild, repair, Cupping, Regrind -/

theorem sealRow_wf (g s row cause : Nat) (erased : List Nat) : Memory.wf (sealRow m c g s row cause erased).1 := by
  have lost := lostRow_wf h g s row cause ((erased.map (fun p => 2 ^ p)).sum) (c := c)
  simp only [sealRow]
  split
  · exact lost
  · split
    · exact lost
    · exact recWrite_wf (recWrite_wf lost ..) ..

theorem rebuildRow_wf (g s : Nat) (bad : List (Nat × Nat)) (row : Nat) : Memory.wf (rebuildRow g s bad (m, c) row).1 := by
  simp only [rebuildRow]
  (repeat' split) <;> simp only [h, sealRow_wf]

theorem rebuildBrew_wf (g : Nat) (bad : List (Nat × Nat)) : Memory.wf (rebuildBrew m c g bad).1 := by
  simp only [rebuildBrew]
  split
  · exact h
  · split
    · exact h
    · exact foldl_wf (fun _ _ ha => rebuildRow_wf ha ..) _ h

theorem repairBrew_wf (i : Nat) (still : Bool) (more : List Nat) : Memory.wf (repairBrew m c i still more).1 := by
  simp only [repairBrew]
  (repeat' split) <;> simp only [h, sealRow_wf]

theorem cupMirror_wf (g s : Nat) (l : RowLook) : Memory.wf (cupMirror m c g s l).1 := by
  simp only [cupMirror]
  (repeat' split) <;> simp only [h, sealRow_wf]

theorem cupRow_wf (g s : Nat) (l : RowLook) : Memory.wf (cupRow m c g s l).1 := by
  simp only [cupRow]
  (repeat' split) <;> simp only [h, sealRow_wf]

theorem cuppingBrew_wf (g : Nat) (looks : List RowLook) : Memory.wf (cuppingBrew m c g looks).1 := by
  simp only [cuppingBrew]
  split
  · exact h
  · split
    · exact h
    · refine foldl_wf (fun _ row ha => ?_) _ h
      (repeat' split) <;> simp only [ha, cupMirror_wf, cupRow_wf]

theorem rgStart_wf : Memory.wf (rgStart m c).1 := by
  unfold rgStart
  (repeat' split) <;> exact h

theorem rgCopy_wf (bad : List (Fin 16)) : Memory.wf (rgCopy m c bad).1 := by
  unfold rgCopy
  extract_lets
  split
  · exact h
  · split
    · exact rgRecord_wf h ..
    · extract_lets
      split
      · exact h
      · split
        next rec =>
          refine foldl_wf (fun _ _ ha => ?_) _ (wf_of_eq (rgRecord_wf h ..) rec)
          split
          · exact sealRow_wf ha ..
          · exact ha

theorem rgCommit_wf : Memory.wf (rgCommit m c).1 := by
  unfold rgCommit
  split
  · exact h
  · exact rgRecord_wf h ..

theorem rgAbortCmd_wf : Memory.wf (rgAbortCmd m c).1 := by
  simp only [rgAbortCmd]
  (repeat' split) <;> simp only [h, rgAbort_wf]

theorem lostDrop_wf (g : Nat) : Memory.wf (lostDrop m c g).1 :=
  foldl_wf (fun _ _ ha => lostPut_wf ha ..) _ h

/-! ### Replay of the journal -/

theorem lostSet_wf (e : LostE) : Memory.wf (lostSet (m, c) e).1 := by
  simp only [lostSet]
  (repeat' split) <;> simp only [h, Mem.wf_put]

theorem applyLost_wf (r : JRec) : Memory.wf (applyLost (m, c) r).1 := lostSet_wf h ..

theorem lostFrom_wf (g : Nat) (es : List (List Byte)) : Memory.wf (lostFrom (m, c) g es).1 :=
  foldl_wf (fun _ _ ha => lostSet_wf ha _) _ (foldl_wf (fun _ _ ha => lostSet_wf ha _) _ h)

theorem ckLook_wf (l : CkLook) : Memory.wf (ckLook (m, c) l).1 := by
  simp only [ckLook]
  (repeat' split) <;> simp only [h, lostFrom_wf]

theorem replayRec_wf (seq : Nat) : Memory.wf (replayRec (m, c) seq).1 := by
  unfold replayRec
  (repeat' split) <;> simp only [h, settle_wf, applyLost_wf]

theorem replayBuild_wf (groups : List GroupLook) (looks : List CkLook) : Memory.wf (replayBuild m c groups looks).1 :=
  foldl_wf (fun _ _ ha => replayRec_wf ha _) _ (foldl_wf (fun _ _ ha => ckLook_wf ha _) _ h)

theorem sealLost_wf (r : JRec) : Memory.wf (sealLost (m, c) r).1 :=
  foldl_wf (fun _ _ ha => sealRow_wf ha ..) _ h

theorem loseStripe_wf (r : JRec) : Memory.wf (loseStripe (m, c) r).1 := by
  unfold loseStripe
  split
  · exact foldl_wf (fun _ _ ha => lostRow_wf ha ..) _ h
  · exact h

theorem carafeLose_wf (seqs : List Nat) : Memory.wf (carafeLose m c seqs).1 :=
  foldl_wf (fun _ _ ha => loseStripe_wf (sealLost_wf ha _) _) _ h

theorem replayBad_wf : Memory.wf (replayBad m c).1 := carafeLose_wf h ..

theorem redoIntent_wf (bad : List BadLook) (i : JRec) : Memory.wf (redoIntent bad (m, c) i).1 :=
  recWrite_wf (foldl_wf (fun _ _ ha => lostRow_wf ha ..) _ h) ..

theorem replayRedo_wf (bad : List BadLook) : Memory.wf (replayRedo m c bad).1 :=
  foldl_wf (fun _ _ ha => redoIntent_wf ha ..) _ h

theorem replayEnd_wf : Memory.wf (replayEnd m c).1 :=
  foldl_wf (fun _ _ ha => checkpoint_wf ha _) _ h

/-! ### Register writes, commits and transactions -/

theorem modeReq_wf (w : Word) : Memory.wf (modeReq m c w).1 := by
  simp only [modeReq]
  (repeat' split) <;> simp only [h, toReset_wf]

theorem wrReg_wf (off : Nat) (v : Word) (bar0 : Bool) : Memory.wf (wrReg m c off v bar0).2.1 := by
  unfold wrReg
  split
  · exact h
  · refine wf_ite h <| wf_ite h <| wf_ite (modeReq_wf h _) ?_
    iterate 12 refine wf_ite h ?_
    refine wf_ite (memCmd_wf h ..) ?_
    iterate 4 refine wf_ite h ?_
    refine wf_ite (doorbell_wf h _) ?_
    (repeat' split) <;> exact h

theorem logCommit_wf (txn rwp : Nat) (ws : List (Nat × Word)) : Memory.wf (logCommit m c txn rwp ws).1 := by
  refine Mem.wf_put _ _ _ _ (Mem.wf_put _ _ _ _ ?_)
  split
  · exact Mem.wf_put _ _ _ _ h
  · exact h

theorem windowWord_wf (p : Nat × Word) : Memory.wf (windowWord (m, c) p).1 := by
  unfold windowWord
  (repeat' split) <;> simp only [h, wrReg_wf]

theorem windowRg_wf (boot : Bool) (ws : List (Nat × Word)) : Memory.wf (windowRg boot m c ws).1 := by
  unfold windowRg
  (repeat' split) <;> simp only [h, rgCommit_wf, rgStart_wf, rgAbortCmd_wf]

theorem window_wf (boot : Bool) (ws : List (Nat × Word)) : Memory.wf (window boot m c ws).1 :=
  windowRg_wf (foldl_wf (fun _ _ ha => windowWord_wf ha _) _ h) ..

theorem applySet_wf (x : HeldSet) : Memory.wf (applySet m c x).1 := window_wf h ..

theorem commitFinish_wf (k : Nat) (x : Txn) : Memory.wf (commitFinish m c k x).m := by
  refine window_wf ?_ ..
  split
  · exact h
  · exact logCommit_wf h ..

theorem commitStart_wf (k : Nat) (x : Txn) : Memory.wf (commitStart m c k x).m := by
  simp only [commitStart]
  (repeat' split) <;> simp only [h, commitFinish_wf]

omit h in
theorem commitTell_wf {r : CommitRes} (hr : Memory.wf r.m) (x : Txn) : Memory.wf (commitTell x r).1 := by
  unfold commitTell
  (repeat' split) <;> simp only [hr, chiebReply_wf]

theorem commitResume_wf (id : Option Nat) : Memory.wf (commitResume m c id).1 := by
  unfold commitResume
  split
  · exact commitTell_wf (commitFinish_wf h ..) _
  · exact h

theorem peerLostAll_wf : Memory.wf (peerLostAll m c).1 := by
  simp only [peerLostAll]
  (repeat' split) <;> simp only [h, commitResume_wf]

theorem logApply_wf (half : Nat) (e : LogRec × Nat × Bool) : Memory.wf (logApply half (m, c) e).1 := by
  simp only [logApply]
  split
  · exact window_wf h ..
  · exact Mem.wf_put _ _ _ _ (window_wf h ..)

theorem configReplay_wf : Memory.wf (configReplay m c).1 := by
  unfold configReplay
  split
  · exact h
  · exact foldl_wf (fun _ _ ha => logApply_wf ha ..) _ (window_wf h ..)

theorem txnBegin_wf (t : Taken) : Memory.wf (txnBegin t m c).m := by
  unfold txnBegin
  split <;> exact h

omit h in
theorem commitRes_reply_wf {r : CommitRes} (hr : Memory.wf r.m) : Memory.wf r.reply.m := by
  unfold CommitRes.reply
  split <;> exact hr

theorem txnCommit_wf (t : Taken) : Memory.wf (txnCommit t m c).m := by
  unfold txnCommit
  (repeat' split) <;> simp only [h, CRes.err, CRes.wait, commitRes_reply_wf, commitStart_wf]

theorem txnCommitAt_wf (t : Taken) : Memory.wf (txnCommitAt t m c).m := by
  simp only [txnCommitAt]
  (repeat' split) <;> simp only [h, CRes.err, longOp_wf h, commitRes_reply_wf, commitStart_wf, CRes.wait, implies_true]

theorem txnRollback_wf (t : Taken) : Memory.wf (txnRollback t m c).m := by
  unfold txnRollback
  (repeat' split) <;> exact h

theorem txnQuery_wf (t : Taken) : Memory.wf (txnQuery t m c).m := by
  unfold txnQuery
  (repeat' split) <;> exact h

theorem schedList_wf (t : Taken) : Memory.wf (schedList t m c).m := h

theorem schedFire_wf (e : Sched) : Memory.wf (schedFire m c e).1 := by
  cases e with
  | own k x => exact commitTell_wf (commitStart_wf h ..) _
  | held s => exact applySet_wf h _

theorem regRead_wf (t : Taken) : Memory.wf (regRead t m c).m := by
  simp only [regRead]
  (repeat' split) <;> exact h

theorem regPut_wf (t : Taken) (off : Nat) (v mask : Word) : Memory.wf (regPut t m c off v mask).2.1 := by
  unfold regPut
  split
  · exact wrReg_wf h ..
  · split <;> exact h

theorem regPuts_wf (t : Taken) (off : Nat) (vs : List Word) : Memory.wf (regPuts t m c off vs).m := by
  induction vs generalizing m c off with
  | nil => exact h
  | cons v vs ih =>
    simp only [regPuts]
    split
    · exact ih (regPut_wf h ..) _
    · exact regPut_wf h ..

theorem regWrite_wf (t : Taken) : Memory.wf (regWrite t m c).m := by
  simp only [regWrite]
  (repeat' split) <;> simp only [h, CRes.err, regPuts_wf]

theorem regWriteMasked_wf (t : Taken) : Memory.wf (regWriteMasked t m c).m := by
  simp only [regWriteMasked]
  (repeat' split) <;> simp only [h, CRes.err, regPut_wf]

/-! ### Opcodes of the service: status, namespaces, hosts -/

theorem chiebIdentify_wf (t : Taken) : Memory.wf (chiebIdentify t m c).m := h

theorem chiebStatus_wf (t : Taken) : Memory.wf (chiebStatus t m c).m := h

theorem groupStatus_wf (t : Taken) : Memory.wf (groupStatus t m c).m := by
  simp only [groupStatus]
  split <;> exact h

theorem nsInfoOp_wf (t : Taken) : Memory.wf (nsInfoOp t m c).m := by
  simp only [nsInfoOp]
  (repeat' split) <;> exact h

theorem hostList_wf (t : Taken) : Memory.wf (hostList t m c).m := by
  unfold hostList
  (repeat' split) <;> exact h

theorem timeStatus_wf (t : Taken) : Memory.wf (timeStatus t m c).m := h

theorem leaseOp_wf (n : Nat) {op : Taken → Mem → Ctl → CRes} (keeps : ResKeeps op) (t : Taken) : Memory.wf (leaseOp n op t m c).m := by
  unfold leaseOp
  (repeat' split) <;> simp only [h, CRes.err, keeps _ _ _ h]

theorem nsCreate_wf (t : Taken) : Memory.wf (nsCreate t m c).m := by
  simp only [nsCreate]
  (repeat' split) <;> exact h

theorem nsDelFinish_wf (ns x : Nat) : Memory.wf (nsDelFinish m c ns x).1 := by
  simp only [nsDelFinish, settle_wf, recWrite_wf h]

theorem nsDelCheck_wf : Memory.wf (nsDelCheck m c).1 := by
  refine foldl_wf (fun _ p ha => ?_) _ h
  split
  · exact ha
  · exact nsDelFinish_wf ha ..

theorem nsDelete_wf (t : Taken) : Memory.wf (nsDelete t m c).m := by
  simp only [nsDelete]
  (repeat' split) <;> simp only [h, CRes.err, longOp_wf h, nsDelCheck_wf, implies_true]

theorem nsMove_wf (t : Taken) : Memory.wf (nsMove t m c).m := by
  simp only [nsMove]
  (repeat' split) <;> exact h

theorem hostAdd_wf (t : Taken) : Memory.wf (hostAdd t m c).m := by
  simp only [hostAdd]
  (repeat' split) <;> exact h

theorem hostRemove_wf (t : Taken) : Memory.wf (hostRemove t m c).m := by
  simp only [hostRemove]
  split <;> exact h

theorem subsysNqn_wf (t : Taken) : Memory.wf (subsysNqn t m c).m := by
  unfold subsysNqn
  split <;> exact h

/-! ### The end of a step and of a brew -/

theorem hcpFailAct_wf (tag : Nat) (i : Issued) : Memory.wf (hcpFailAct tag i m c).m := h

theorem brewEnd_wf (tag : Nat) (b : Brew) (final : Nat) : Memory.wf (brewEnd m c tag b final).1 := by
  refine nsDelCheck_wf ?_
  split
  · exact foldl_wf (fun _ _ ha => settle_wf ha ..) _ h
  · exact h

theorem stepEnd_wf (tag : Nat) : Memory.wf (stepEnd m c tag).1 := by
  simp only [stepEnd]
  (repeat' split) <;> simp only [h, brewEnd_wf]

/-! ### Compression and encryption -/

theorem encodeRaw_wf (tag cnt : Nat) : Memory.wf (encodeRaw tag cnt m c).m := h

theorem tmpcEncodeAct_wf (tag : Nat) (segs : Option (List (List Byte))) (i : Issued) : Memory.wf (tmpcEncodeAct tag segs i m c).m := by
  simp only [tmpcEncodeAct]
  (repeat' split) <;> simp only [h, Mem.wf_put, Act.refuse, Act.ok, encodeRaw_wf]

theorem decodeFail_wf (tag u : Nat) : Memory.wf (decodeFail tag u m c).m := h

theorem tmpdDecodeAct_wf (tag : Nat) (i : Issued) : Memory.wf (tmpdDecodeAct tag i m c).m := by
  simp only [tmpdDecodeAct]
  (repeat' split) <;> simp only [h, Mem.wf_put, Act.refuse, Act.ok, decodeFail_wf]

theorem xtsAct_wf (enc : Bool) (tag : Nat) (i : Issued) : Memory.wf (xtsAct enc tag i m c).m := by
  unfold xtsAct
  split
  · extract_lets
    iterate 4
      split
      · exact h
    exact foldl_mem_wf (fun _ _ hm => Mem.wf_put _ _ _ _ hm) _ h
  · exact h

/-! ### DMA channels and the service endpoint -/

theorem regsWrite_wf (n off : Nat) (bs : List Byte) : Memory.wf (regsWrite n m c off bs).1 := by
  induction n generalizing m c off bs with
  | zero => exact h
  | succ n ih => exact ih (wrReg_wf h ..) _ _

theorem dmaLand_wf (a : Nat) (bs : List Byte) : Memory.wf (dmaLand m c a bs).1 := by
  unfold dmaLand
  split
  · exact h
  · exact regsWrite_wf h ..
  · exact Mem.wf_put _ _ _ _ (memView_wf h)
  · exact Mem.wf_put _ _ _ _ h

theorem flightDrain_wf (k n : Nat) : Memory.wf (flightDrain k m c n).1 := by
  induction k generalizing m c with
  | zero => exact h
  | succ k ih =>
    simp only [flightDrain]
    split
    · split
      · exact ih (flightRetire_wf h ..)
      · exact h
    · exact h

theorem flightSettle_wf (n : Nat) : Memory.wf (flightSettle m c n).1 := by
  simp only [flightSettle, flightDrain_wf h]

theorem insEnd_wf (n : Nat) (ws : List Word) (st moved pc : Nat) : Memory.wf (insEnd m c n ws st moved pc).1 := flightSettle_wf h ..

theorem chNoFetch_wf (n st : Nat) : Memory.wf (chNoFetch m c n st).1 := flightSettle_wf h ..

theorem moveStart_wf (n : Nat) (unit : Nat) (swap : Option Nat) (hbmUe : Bool) (ws : List Word) (pc : Nat) :
    Memory.wf (moveStart n unit swap hbmUe ws pc m c).1 := by
  unfold moveStart
  extract_lets
  split
  · exact h
  iterate 5
    split
    · exact insEnd_wf h ..
  split
  · split
    · exact insEnd_wf h ..
    · split
      next land => exact insEnd_wf (wf_of_eq (dmaLand_wf h ..) land) ..
  · split
    · exact h
    · split
      · exact h
      · split
        next land => exact wf_of_eq (dmaLand_wf h ..) land

theorem readClose_wf (tag : Nat) (n : Nat) : Memory.wf (readClose m c tag n).1 := by
  simp only [readClose]
  (repeat' split) <;> simp only [h, flightSettle_wf]

theorem readData_wf (tag : Nat) (r : EpRead) (bs : List Byte) : Memory.wf (readData m c tag r bs).1 := by
  simp only [readData]
  (repeat' split) <;> simp only [h, readClose_wf, dmaLand_wf]

theorem readDrop_wf (tag : Nat) (r : EpRead) (n : Nat) (whole : Bool) : Memory.wf (readDrop m c tag r n whole).1 := by
  unfold readDrop
  split
  · exact readClose_wf h ..
  · exact h

theorem eptReset_wf : Memory.wf (eptReset m c).1 := Mem.wf_setSel m .bar2 [] h rfl

theorem linkReset_wf (speed : Fin 5) (width : Fin 3) : Memory.wf (linkReset speed width m c).1 := by
  unfold linkReset
  split
  · exact h
  · exact eptReset_wf h ..

/-! ### The peer, the mirror and the lease -/

theorem peerDown_wf : Memory.wf (peerDown m c).1 := by
  simp only [peerDown]
  (repeat' split) <;> simp only [h, peerLostAll_wf]

theorem nakEpoch_wf (tag : PeerTag) : Memory.wf (nakEpoch m c tag).1 := by
  simp only [nakEpoch]
  (repeat' split) <;> simp only [h, peerLostAll_wf]

theorem applyHeld_wf (ids : List Nat) : Memory.wf (applyHeld m c ids).1 :=
  foldl_wf (fun _ _ ha => foldl_wf (fun _ _ ha => applySet_wf ha _) _ ha) _ h

theorem hbStandby_wf (was : Option HbMsg) (x : HbMsg) : Memory.wf (hbStandby m c was x).1 := applyHeld_wf h ..

theorem hbActive_wf (was : Option HbMsg) (x : HbMsg) : Memory.wf (hbActive m c was x).1 := by
  unfold hbActive
  (repeat' split) <;> simp only [h, peerLostAll_wf]

theorem suspectPeer_wf : Memory.wf (suspectPeer m c).1 := by
  simp only [suspectPeer]
  (repeat' split) <;> simp only [h, peerLostAll_wf]

theorem mirrorRec_wf (r : JRec) : Memory.wf (mirrorRec (m, c) r).1 := by
  unfold mirrorRec
  (repeat' split) <;> simp only [h, recStore_wf, applyLost_wf]

theorem mirrorData_wf (n pos : Nat) (bs : List Byte) : Memory.wf (mirrorData n (m, c) pos bs).1 := by
  induction n generalizing m c pos bs with
  | zero => exact h
  | succ n ih =>
    unfold mirrorData
    split
    · exact ih (mirrorRec_wf h _) _ _
    · exact h

theorem driveOutputs_wf (vs : List BaySample) : Memory.wf (driveOutputs m c vs).1 :=
  foldl_wf (fun _ _ ha => applySet_wf ha _) _ h

theorem driveIfMay_wf (vs : List BaySample) : Memory.wf (driveIfMay m c vs).1 := by
  unfold driveIfMay
  split
  · exact driveOutputs_wf h ..
  · exact h

theorem takeLease_wf (epoch src : Nat) (ends : Option Nat) (code : Nat) : Memory.wf (takeLease m c epoch src ends code).1 := peerLostAll_wf h ..

theorem grantTake_wf (epoch : Nat) (vs : List BaySample) (r : WitReq) : Memory.wf (grantTake epoch vs r m c).1 := by
  unfold grantTake
  (repeat' split) <;> simp only [h, takeLease_wf, driveIfMay_wf]

theorem memberMissing_wf (bay : Nat) : Memory.wf (memberMissing m c bay).1 := by
  unfold memberMissing
  split
  · exact h
  · exact memFail_wf h ..

theorem pairStatus_wf (t : Taken) : Memory.wf (pairStatus t m c).m := by
  unfold pairStatus
  split <;> exact h

theorem handoverTake_wf (t : Taken) : Memory.wf (handoverTake t m c).m := by
  simp only [handoverTake]
  (repeat' split) <;> simp only [h, CRes.err, longOp_wf h, implies_true]

theorem forcedTake_wf (t : Taken) : Memory.wf (forcedTake t m c).m := by
  simp only [forcedTake]
  (repeat' split) <;> exact h

theorem peerIssue_wf (tag op : Nat) {act : Issued → Mem → Ctl → Act} (keeps : ActKeeps act) : Memory.wf (peerIssue m c tag op act).1 :=
  issue_wf h _ _ _ _ keeps

theorem peerWriteAct_wf (tag : Nat) (i : Issued) : Memory.wf (peerWriteAct tag i m c).m := by
  unfold peerWriteAct
  (repeat' split) <;> exact h

theorem peerSyncAct_wf (tag : Nat) (i : Issued) : Memory.wf (peerSyncAct tag i m c).m := by
  simp only [peerSyncAct]
  (repeat' split) <;> exact h

/-! ### Images, activation and trust -/

theorem bootChoose_wf (looks : List ImgLook) : Memory.wf (bootChoose m c looks).1 := by
  simp only [bootChoose]
  (repeat' split) <;> simp only [h, configReplay_wf]

theorem trialOut_wf : Memory.wf (trialOut m c).1 := by
  unfold trialOut
  split
  · exact h
  · split
    · exact h
    · exact toReset_wf h ..

theorem fwStatus_wf (t : Taken) : Memory.wf (fwStatus t m c).m := by
  unfold fwStatus
  split <;> exact h

theorem fwDownload_wf (t : Taken) : Memory.wf (fwDownload t m c).m := by
  simp only [fwDownload]
  (repeat' split) <;> exact h

theorem fwCommit_wf (l : ImgLook) (t : Taken) : Memory.wf (fwCommit l t m c).m := by
  simp only [fwCommit]
  (repeat' split) <;> simp only [h, CRes.err, longOp_wf h, implies_true]

theorem fwDiscard_wf (t : Taken) : Memory.wf (fwDiscard t m c).m := by
  unfold fwDiscard
  split <;> exact h

theorem fwReject_wf (t : Taken) : Memory.wf (fwReject t m c).m := by
  unfold fwReject
  (repeat' split) <;> exact h

theorem spdmRootSet_wf (t : Taken) : Memory.wf (spdmRootSet t m c).m := by
  simp only [spdmRootSet]
  (repeat' split) <;> exact h

/-! ### Admin commands of hosts -/

theorem chiebRequestDo_wf (cmd : AdminCmd) (k : Nat) (a : Assoc) : Memory.wf (chiebRequestDo cmd k a m c).1 := by
  unfold chiebRequestDo
  split
  · exact h
  · exact chiebTake_wf h ..

theorem adminDo_wf (x : AdminCap) (k : Nat) (a : Assoc) : Memory.wf (adminDo x k a m c).1 := by
  unfold adminDo
  (repeat' split) <;> simp only [h, chiebRequestDo_wf]

theorem adminStart_wf (tag seq k : Nat) (a : Assoc) (x : AdminCap) : Memory.wf (adminStart m c tag seq k a x).1 := by
  unfold adminStart
  split
  · exact h
  · exact adminDo_wf h ..

theorem adminAccept_wf (k : Nat) (a : Assoc) (x : AdminCap) : Memory.wf (adminAccept m c k a x).1 := by
  unfold adminAccept
  (repeat' split) <;> simp only [h, adminStart_wf]

theorem adminTake_wf (k : Nat) (a : Assoc) (x : AdminCap) : Memory.wf (adminTake m c k a x).1 := by
  simp only [adminTake]
  (repeat' split) <;> simp only [h, adminAccept_wf]

theorem adminArrive_wf (x : AdminCap) (hit : Assoc → Bool) : Memory.wf (adminArrive x hit m c).1 := by
  simp only [adminArrive]
  (repeat' split) <;> simp only [h, adminTake_wf]

theorem intakeServe_wf (e : IntakeEntry) : Memory.wf (intakeServe m c e).1 := by
  simp only [intakeServe]
  (repeat' split) <;> simp only [h, adminAccept_wf]

theorem adminHeld_wf (tag : Nat) : Memory.wf (adminHeld m c tag).1 := by
  simp only [adminHeld]
  (repeat' split) <;> simp only [h, adminStart_wf]

theorem adminResume_wf : Memory.wf (adminResume m c).1 :=
  foldl_wf (fun _ _ ha => intakeServe_wf ha _) _ (foldl_wf (fun _ _ ha => adminHeld_wf ha _) _ h)

/-! ### Tests and telemetry -/

theorem testOp_wf (op : Nat) (k : TestClass) (valid : Nat → Bool) (cond : Ctl → Nat → Bool) {f : Nat → Mem → Ctl → Mem × Ctl}
    (keeps : ∀ n (c : Ctl), Memory.wf (f n m c).1) (t : Taken) : Memory.wf (testOp op k valid cond f t m c).m := by
  simp only [testOp]
  (repeat' split) <;> simp only [h, CRes.err, longOp_wf h, keeps, implies_true]

theorem plainTest_wf (op : Nat) (k : TestClass) (t : Taken) : Memory.wf (plainTest op k t m c).m :=
  testOp_wf h _ _ _ _ (fun _ _ => h) _

theorem testStatus_wf (t : Taken) : Memory.wf (testStatus t m c).m := h

theorem telSnapshot_wf (t : Taken) : Memory.wf (telSnapshot t m c).m := h

theorem telSweep_wf (t : Taken) : Memory.wf (telSweep t m c).m := h

theorem telSamples_wf (t : Taken) : Memory.wf (telSamples t m c).m := by
  simp only [telSamples]
  split <;> exact h

/-! ### Network time and what is due at an instant -/

theorem dntDo_wf (late : Bool) (now : Nat) (p : Nat × DntEv) : Memory.wf (dntDo late now (m, c) p).1 := by
  simp only [dntDo]
  (repeat' split) <;> simp only [h, schedFire_wf, snapPublish_wf]

theorem dntFire_wf (new : Nat) (p : Nat × DntEv) : Memory.wf (dntFire new (m, c) p).1 := dntDo_wf h ..

theorem dntAhead_wf (k t : Nat) : Memory.wf (dntAhead k t m c).1 :=
  foldl_wf (fun _ _ ha => dntDo_wf ha ..) _ h

theorem dntRow_wf (k t : Nat) {f : Mem → Ctl → Mem × Ctl} (keeps : ∀ m c, Memory.wf m → Memory.wf (f m c).1) :
    Memory.wf (dntRow k t f m c).1 :=
  keeps _ _ (dntAhead_wf h ..)

theorem heldRelease_wf : Memory.wf (heldRelease m c).1 := by
  refine foldl_wf (fun _ p ha => ?_) _ h
  (repeat' split) <;> simp only [ha, schedFire_wf]

theorem dntStep_wf (off : Int) : Memory.wf (dntStep m c off).1 :=
  foldl_wf (fun _ _ ha => dntFire_wf ha ..) _ h

theorem ptpServo_wf (off : Int) : Memory.wf (ptpServo m c off).1 := by
  simp only [ptpServo]
  (repeat' split) <;> simp only [h, heldRelease_wf, dntStep_wf]

theorem ptpUse_wf (np : Nat) (rx : Nat) (origin corr peer : Int) : Memory.wf (ptpUse m c np rx origin corr peer).1 := by
  simp only [ptpUse]
  (repeat' split) <;> simp only [h, ptpServo_wf]

/-! ### Transports -/

theorem xptPushAct_wf (tag : Nat) (i : Issued) : Memory.wf (xptPushAct tag i m c).m := by
  simp only [xptPushAct]
  (repeat' split) <;> exact h

theorem xptPullAct_wf (tag : Nat) (i : Issued) : Memory.wf (xptPullAct tag i m c).m := by
  unfold xptPullAct
  (repeat' split) <;> simp only [h, Mem.wf_put, Act.refuse, Act.ok]

theorem pullLand_wf (c : Ctl) (xs : List Xfer) (bs : List Byte) : Memory.wf (pullLand c m xs bs).1 := by
  induction xs generalizing m bs with
  | nil => exact h
  | cons x xs ih =>
    simp only [pullLand]
    split
    · exact ih h _
    · refine ih ?_ _
      split
      · exact Mem.wf_put _ _ _ _ h
      · exact h

theorem xferMove_wf (k acked : Nat) (data : List Byte) : Memory.wf (Ctl.xferMove c m k acked data).1 := by
  unfold Ctl.xferMove
  split
  · exact h
  · exact pullLand_wf h ..

end

end Sys2Proof.Machine
end

section
/-! Steps keep memory canonical: O42. `LeavesMemOk` is proved once per kind of row and once per row that is of no kind;
`exec_leaves` collects them. -/

namespace Sys2Proof.Machine

/-- Whatever state an outcome leaves holds its memories in canonical form. -/
structure LeavesMemOk (o : Host.Outcome State Fault Refusal) : Prop where
  next : ∀ t, o = .next t → t.memOk = true

/-- A row that keeps the form may name its result first. The kernel then compares pairs; under a projection it would evaluate the row's helper, which
takes minutes for some of them. -/
theorem keeps_of_eq {f : Mem → Ctl → Mem × Ctl} (keeps : ∀ {m c m1 c1}, Memory.wf m → f m c = (m1, c1) → Memory.wf m1) (m : Mem) (c : Ctl)
    (hm : Memory.wf m) : Memory.wf (f m c).1 :=
  keeps hm rfl

section
variable {s : State} (h : s.memOk = true)
include h

/-! ### The kinds of row -/

theorem onCtl_leaves (f : Mem → Ctl → Ctl) : LeavesMemOk (onCtl f s) := by
  refine ⟨fun t ht => ?_⟩
  obtain ⟨-, mem, -⟩ := onCtl_next ht
  rwa [State.memOk, mem]

theorem connectRow_leaves (admin : Bool) (x : ConnectCmd) : LeavesMemOk (connectRow admin x s) :=
  onCtl_leaves h _

theorem tempRow_leaves (n q : Nat) (f : Ctl → Ctl) : LeavesMemOk (tempRow n q f s) :=
  onCtl_leaves h _

theorem miRow_leaves (eid : Nat) (f : Ctl → MiRsp × Ctl) : LeavesMemOk (miRow eid f s) :=
  onCtl_leaves h _

theorem spdmReq_leaves (who : Fin 257) (f : SpdmPeer → Ctl → Ctl) : LeavesMemOk (spdmReq who f s) :=
  onCtl_leaves h _

theorem spdmAfter_leaves (who : Fin 257) (f : SpdmPeer → Ctl → Ctl) : LeavesMemOk (spdmAfter who f s) :=
  spdmReq_leaves h ..

theorem sessionReq_leaves (session : Nat) (f : SpdmSess → Ctl → Ctl) : LeavesMemOk (sessionReq session f s) :=
  onCtl_leaves h _

theorem onAll_leaves {f : Mem → Ctl → Mem × Ctl} (keeps : ∀ m c, Memory.wf m → Memory.wf (f m c).1) : LeavesMemOk (onAll f s) := by
  refine ⟨fun t ht => ?_⟩
  obtain ⟨-, mem, -⟩ := onAll_next ht
  rw [State.memOk, mem]
  exact keeps _ _ h

theorem stepRow_leaves {tag eng op : Nat} {poisonOk : Bool} {act : Issued → Mem → Ctl → Act} (keeps : ActKeeps act) :
    LeavesMemOk (onAll (fun m c => issue m c tag eng op poisonOk act) s) :=
  onAll_leaves h fun _ _ hm => issue_wf hm _ _ _ _ keeps

theorem stepThen_leaves {tag eng op : Nat} {poisonOk : Bool} {act : Issued → Mem → Ctl → Act} {g : Ctl → Ctl} (keeps : ActKeeps act) :
    LeavesMemOk (onAll (fun m c => match issue m c tag eng op poisonOk act with | (m1, c1) => (m1, g c1)) s) :=
  onAll_leaves h fun _ _ hm => issue_wf hm _ _ _ _ keeps

theorem chiebRow_leaves {n : Nat} {src : ChiebSrc} {op : Taken → Mem → Ctl → CRes} (keeps : ResKeeps op) : LeavesMemOk (chiebRow n src op s) :=
  onAll_leaves h fun _ _ hm => chiebRun_wf hm _ _ keeps

theorem adminRow_leaves (x : AdminCap) (hit : Assoc → Bool) : LeavesMemOk (adminRow x hit s) :=
  onAll_leaves h fun _ _ hm => adminArrive_wf hm ..

theorem ioRow_leaves (kind : TagKind) (x : IoCmd) : LeavesMemOk (ioRow kind x s) := by
  refine onAll_leaves h fun m c hm => ?_
  split
  · exact hm
  · exact adminArrive_wf hm ..

theorem bayRow_leaves (b : Nat) {f : Mem → Ctl → Mem × Ctl} (keeps : ∀ m c, Memory.wf m → Memory.wf (f m c).1) :
    LeavesMemOk (bayRow b f s) := by
  refine onAll_leaves h fun m c hm => ?_
  split
  · exact keeps _ _ hm
  · exact hm

theorem peerRow_leaves {f : Mem → Ctl → Mem × Ctl} (keeps : ∀ m c, Memory.wf m → Memory.wf (f m c).1) : LeavesMemOk (peerRow f s) := by
  refine onAll_leaves h fun m c hm => ?_
  split
  · exact keeps _ _ hm
  · exact hm

theorem witReply_leaves (req : Nat) (crcOk : Bool) {f : WitReq → Mem → Ctl → Mem × Ctl}
    (keeps : ∀ r m c, Memory.wf m → Memory.wf (f r m c).1) : LeavesMemOk (witReply req crcOk f s) := by
  refine onAll_leaves h fun m c hm => ?_
  dsimp only
  (repeat' split) <;> simp only [hm, keeps]

theorem insNext_leaves (n : Nat) (ops : List Nat) {f : List Word → Nat → Mem → Ctl → Mem × Ctl}
    (keeps : ∀ ws pc m c, Memory.wf m → Memory.wf (f ws pc m c).1) : LeavesMemOk (insNext n ops f s) := by
  refine onAll_leaves h fun m c hm => ?_
  dsimp only
  (repeat' split) <;> simp only [hm, keeps, chNoFetch_wf, insEnd_wf]

theorem memCmdRow_leaves (bay op : Nat) : LeavesMemOk (onAll (fun m c => if c.bar0Open then memCmd m c bay op else (m, c)) s) := by
  refine onAll_leaves h fun m c hm => ?_
  split
  · exact memCmd_wf hm ..
  · exact hm

/-! ### The rows that are more than one call of a helper: each branch leaves the memory that it had, or what the named helper makes of it -/

theorem execImageLoaded_leaves (looks : List ImgLook) : LeavesMemOk (execImageLoaded looks s) := by
  refine onAll_leaves h fun m c hm => ?_
  (repeat' split) <;> simp only [hm, bootChoose_wf]

theorem execHbmInitDone_leaves : LeavesMemOk (execHbmInitDone s) := by
  refine onAll_leaves h fun m c hm => ?_
  dsimp only
  split
  · exact hm
  · exact Mem.wf_setSel m .hbm [] hm rfl

theorem execMemberWaitExpire_leaves : LeavesMemOk (execMemberWaitExpire s) := by
  refine onAll_leaves h fun m c hm => ?_
  dsimp only
  split
  · exact hm
  · exact foldl_wf (fun _ _ hm => memberMissing_wf hm _) _ hm

theorem execDriveReady_leaves (bay : Fin 24) (cap : Nat) (meta16 meta0 : Bool) (label : Option DriveLabel) (states : List (Bool × Nat)) :
    LeavesMemOk (execDriveReady bay cap meta16 meta0 label states s) := by
  refine onAll_leaves h fun m c hm => ?_
  dsimp only
  (repeat' split) <;> simp only [hm, driveTake_wf]

theorem execJournalReplay_leaves (groups : List GroupLook) (looks : List CkLook) (bad : List BadLook) (ckBad : List (Nat × Bool)) :
    LeavesMemOk (execJournalReplay groups looks bad ckBad s) := by
  refine onAll_leaves h fun m c hm => ?_
  dsimp only
  split
  · exact hm
  · exact replayEnd_wf (replayRedo_wf (replayBad_wf (replayBuild_wf hm ..)) ..)

theorem execMirrorSyncComplete_leaves (blobs : List (Nat × List Byte)) : LeavesMemOk (execMirrorSyncComplete blobs s) := by
  refine onAll_leaves h fun m c hm => ?_
  dsimp only
  (repeat' split) <;> simp only [hm]

theorem execGrstNAssert_leaves (ns : Nat) : LeavesMemOk (execGrstNAssert ns s) := by
  refine onAll_leaves h fun m c hm => ?_
  (repeat' split) <;> simp only [hm, toReset_wf]

theorem execPwrfailRestart_leaves : LeavesMemOk (execPwrfailRestart s) := by
  refine onAll_leaves h fun m c hm => ?_
  (repeat' split) <;> simp only [hm, toReset_wf]

theorem execPtpSync_leaves (np : Fin 24) (domain : Nat) (ether : Bool) (identity seq : Nat) (twoStep : Bool) (logInt : Int)
    (origin corr peer : Int) (dtNs : Nat) : LeavesMemOk (execPtpSync np domain ether identity seq twoStep logInt origin corr peer dtNs s) := by
  refine onAll_leaves h fun m c hm => ?_
  dsimp only
  (repeat' split) <;> simp only [hm, ptpUse_wf]

theorem execPtpFollowUp_leaves (np : Fin 24) (domain : Nat) (ether : Bool) (identity seq : Nat) (origin corr peer : Int) :
    LeavesMemOk (execPtpFollowUp np domain ether identity seq origin corr peer s) := by
  refine onAll_leaves h fun m c hm => ?_
  (repeat' split) <;> simp only [hm, ptpUse_wf]

theorem execScheduledCommitFire_leaves : LeavesMemOk (execScheduledCommitFire s) := by
  refine onAll_leaves h fun m c hm => ?_
  dsimp only
  (repeat' split) <;> simp only [hm, schedFire_wf]

theorem execNvmeDisconnect_leaves (conn cid : Nat) : LeavesMemOk (execNvmeDisconnect conn cid s) := by
  refine onAll_leaves h fun m c hm => ?_
  (repeat' split) <;> simp only [hm, adminArrive_wf]

theorem execCapsuleIntakeResume_leaves : LeavesMemOk (execCapsuleIntakeResume s) := by
  refine onAll_leaves h fun m c hm => ?_
  dsimp only
  (repeat' split) <;> simp only [hm, intakeServe_wf]

theorem execTokenArrive_leaves (tag step status : Nat) (media : Option Nat) (data : List Byte) :
    LeavesMemOk (execTokenArrive tag step status media data s) := by
  refine onAll_leaves h fun m c hm => ?_
  dsimp only
  (repeat' split) <;> simp only [hm, memberDone_wf, landPieces_wf]

theorem execBpmReleaseAll_leaves (tag : Nat) (ue : BitVec 8) : LeavesMemOk (execBpmReleaseAll tag ue s) := by
  have keeps : ActKeeps (bpmReleaseAct tag ue) := fun i _ _ hm => bpmReleaseAct_wf hm tag ue i
  refine onAll_leaves h fun m c hm => ?_
  (repeat' split) <;> simp only [hm, issue_wf hm _ _ _ _ keeps]

theorem execDmaStepRun_leaves (tag : Nat) : LeavesMemOk (execDmaStepRun tag s) := by
  refine stepRow_leaves h fun _ _ _ hm => ?_
  split <;> exact hm

theorem execCrmVerdict_leaves (tag : Nat) : LeavesMemOk (execCrmVerdict tag s) := by
  refine stepRow_leaves h fun _ _ _ hm => ?_
  (repeat' split) <;> exact hm

theorem execCrmCommit_leaves (tag : Nat) : LeavesMemOk (execCrmCommit tag s) := by
  refine stepRow_leaves h fun _ _ _ hm => ?_
  (repeat' split) <;> exact hm

theorem execCrmInval_leaves (tag : Nat) : LeavesMemOk (execCrmInval tag s) := by
  refine stepRow_leaves h fun _ _ _ hm => ?_
  dsimp only
  (repeat' split) <;> exact hm

theorem execXptPush_leaves (tag : Nat) : LeavesMemOk (execXptPush tag s) := by
  refine onAll_leaves h fun m c hm => ?_
  split
  next e => exact wf_of_eq (issue_wf hm _ _ _ _ fun i _ _ hm => xptPushAct_wf hm tag i) e

theorem execXptPull_leaves (tag : Nat) : LeavesMemOk (execXptPull tag s) := by
  refine onAll_leaves h fun m c hm => ?_
  split
  next e => exact wf_of_eq (issue_wf hm _ _ _ _ fun i _ _ hm => xptPullAct_wf hm tag i) e

theorem execHcpComplete_leaves (tag : Nat) : LeavesMemOk (execHcpComplete tag s) := by
  have keeps : ActKeeps fun _ m c => .ok m (c.hcpComplete tag) := fun _ _ _ hm => hm
  refine onAll_leaves h fun m c hm => ?_
  dsimp only
  (repeat' split) <;> simp only [hm, issue_wf hm _ _ _ _ keeps]

theorem execCarLand_leaves (tag : Nat) : LeavesMemOk (execCarLand tag s) := by
  refine onAll_leaves h fun m c hm => ?_
  split
  next e =>
  have issued := wf_of_eq (issue_wf hm _ _ _ _ fun i _ _ hm => carLandAct_wf hm tag i) e
  (repeat' split) <;> exact issued

theorem execCarIntent_leaves (tag : Nat) : LeavesMemOk (execCarIntent tag s) := by
  refine onAll_leaves h fun m c hm => ?_
  split
  next e =>
  have issued := wf_of_eq (issue_wf hm _ _ _ _ fun i _ _ hm => carIntentAct_wf hm tag i) e
  (repeat' split) <;> exact issued

theorem execCellPoisoned_leaves (dest : PoisonDest) : LeavesMemOk (execCellPoisoned dest s) := by
  refine onAll_leaves h fun m c hm => ?_
  dsimp only
  (repeat' split) <;> exact hm

theorem execLinkDown_leaves (link : Fin 49) (cells : Nat) : LeavesMemOk (execLinkDown link cells s) := by
  refine onAll_leaves h fun m c hm => ?_
  dsimp only
  (repeat' split) <;> simp only [hm, peerDown_wf]

theorem execDmaStoppingDone_leaves (ch : Fin 272) : LeavesMemOk (execDmaStoppingDone ch s) := by
  refine onAll_leaves h fun m c hm => ?_
  dsimp only
  (repeat' split) <;> simp only [hm, flightEnd_wf, dmaWriteback_wf]

theorem execDmaLoop_leaves (ch : Fin 272) : LeavesMemOk (execDmaLoop ch s) := by
  refine insNext_leaves h _ _ fun ws pc m c hm => ?_
  dsimp only
  (repeat' split) <;> simp only [hm, insEnd_wf]

theorem execDmaWait_leaves (ch : Fin 272) : LeavesMemOk (execDmaWait ch s) := by
  refine insNext_leaves h _ _ fun ws pc m c hm => ?_
  dsimp only
  (repeat' split) <;> simp only [hm, insEnd_wf]

theorem execDmaWaitSatisfied_leaves (ch : Fin 272) : LeavesMemOk (execDmaWaitSatisfied ch s) := by
  refine onAll_leaves h fun m c hm => ?_
  dsimp only
  (repeat' split) <;> simp only [hm, insEnd_wf]

theorem execDmaWaitTimeout_leaves (ch : Fin 272) : LeavesMemOk (execDmaWaitTimeout ch s) := by
  refine onAll_leaves h fun m c hm => ?_
  dsimp only
  (repeat' split) <;> simp only [hm, insEnd_wf]

theorem execDmaSignal_leaves (ch : Fin 272) : LeavesMemOk (execDmaSignal ch s) := by
  refine insNext_leaves h _ _ fun ws pc m c hm => ?_
  dsimp only
  (repeat' split) <;> simp only [hm, insEnd_wf]

theorem execDmaEnd_leaves (ch : Fin 272) : LeavesMemOk (execDmaEnd ch s) := by
  refine insNext_leaves h _ _ fun ws pc m c hm => ?_
  dsimp only
  (repeat' split) <;> simp only [hm, dmaWriteback_wf]

theorem execDmaInstructionComplete_leaves (ch : Fin 272) : LeavesMemOk (execDmaInstructionComplete ch s) := by
  refine onAll_leaves h fun m c hm => ?_
  dsimp only
  (repeat' split) <;> simp only [hm, flightSettle_wf]

theorem execCheckpointTimer_leaves (group : Fin 16) : LeavesMemOk (execCheckpointTimer group s) := by
  refine onAll_leaves h fun m c hm => ?_
  (repeat' split) <;> simp only [hm, checkpoint_wf]

theorem execCarafeFault_leaves (die : Option Bool) (lines : List (Nat × Nat)) : LeavesMemOk (execCarafeFault die lines s) := by
  refine onAll_leaves h fun m c hm => ?_
  dsimp only
  (repeat' split) <;> simp only [hm, releaseFault_wf, carafeLose_wf]

theorem execGroupInitDone_leaves (group : Fin 16) (failBay : Option (Fin 24)) : LeavesMemOk (execGroupInitDone group failBay s) := by
  refine onAll_leaves h fun m c hm => ?_
  dsimp only
  (repeat' split) <;> simp only [hm, checkpoint_wf, rgAbort_wf]

theorem execMemberLinkFailTimeout_leaves (bay : Fin 24) : LeavesMemOk (execMemberLinkFailTimeout bay s) := by
  refine onAll_leaves h fun m c hm => ?_
  (repeat' split) <;> simp only [hm, memFail_wf]

theorem execMemberResetTimeout_leaves (bay : Fin 24) : LeavesMemOk (execMemberResetTimeout bay s) := by
  refine onAll_leaves h fun m c hm => ?_
  dsimp only
  (repeat' split) <;> simp only [hm, memFail_wf]

theorem execRegrindInitDone_leaves : LeavesMemOk (execRegrindInitDone s) := by
  refine onAll_leaves h fun m c hm => ?_
  dsimp only
  (repeat' split) <;> simp only [hm, rgRecord_wf]

theorem execRegrindAbort_leaves : LeavesMemOk (execRegrindAbort s) := by
  refine onAll_leaves h fun m c hm => ?_
  dsimp only
  (repeat' split) <;> simp only [hm, rgAbort_wf, rgAbortCmd_wf]

theorem execRegrindRetireDone_leaves : LeavesMemOk (execRegrindRetireDone s) := by
  refine onAll_leaves h fun m c hm => ?_
  dsimp only
  (repeat' split) <;> simp only [hm, lostDrop_wf, rgRecord_wf]

theorem execRoceReadResponse_leaves (np : Fin 24) (conn mac vlan : Nat) (data : List Byte) :
    LeavesMemOk (execRoceReadResponse np conn mac vlan data s) := by
  refine onAll_leaves h fun m c hm => ?_
  dsimp only
  (repeat' split) <;> simp only [hm, xferMove_wf]

theorem execTcpSegmentReceive_leaves (np : Fin 24) (conn mac vlan acked : Nat) (data : List Byte) (digestBad close : Bool) :
    LeavesMemOk (execTcpSegmentReceive np conn mac vlan acked data digestBad close s) := by
  refine onAll_leaves h fun m c hm => ?_
  dsimp only
  (repeat' split) <;> simp only [hm, xferMove_wf]

theorem execGateEntryAdvance_leaves (np : Fin 24) : LeavesMemOk (execGateEntryAdvance np s) := by
  refine onAll_leaves h fun m c hm => ?_
  dsimp only
  split
  · exact hm
  · split
    · exact hm
    · split
      · exact dntRow_wf hm _ _ fun _ _ hm => hm
      · exact hm

theorem execPourListAdopt_leaves (np : Fin 24) : LeavesMemOk (execPourListAdopt np s) := by
  refine onAll_leaves h fun m c hm => ?_
  split
  · exact dntRow_wf hm _ _ fun _ _ hm => hm
  · exact hm

theorem execPeerNakReceive_leaves (cause : Fin 5) (fseq : Fin 65536) (tag : PeerTag) (resent : Nat) :
    LeavesMemOk (execPeerNakReceive cause fseq tag resent s) := by
  refine peerRow_leaves h fun m c hm => ?_
  dsimp only
  (repeat' split) <;> simp only [hm, nakEpoch_wf, peerLostAll_wf]

theorem execPeerLaneFail_leaves (lane : Fin 4) : LeavesMemOk (execPeerLaneFail lane s) := by
  refine onAll_leaves h fun m c hm => ?_
  dsimp only
  (repeat' split) <;> simp only [hm, peerDown_wf]

theorem execPeerHeartbeat_leaves (x : HbMsg) : LeavesMemOk (execPeerHeartbeat x s) := by
  refine peerRow_leaves h fun m c hm => ?_
  dsimp only
  (repeat' split) <;> simp only [hm, hbStandby_wf, hbActive_wf]

omit h in
/-- The tail of HEARTBEAT_TICK, with the count of missed heartbeats and the state before it left open. -/
theorem suspectTick_wf {m m1 : Mem} {c1 c3 : Ctl} (hm : Memory.wf m) {n : Nat}
    (e : (match (if n = 5 then suspectPeer m c3 else (m, c3)) with | (m1, c4) => (m1, c4.hbSend)) = (m1, c1)) : Memory.wf m1 := by
  split at e
  next suspect =>
  cases e
  split at suspect
  · exact wf_of_eq (suspectPeer_wf hm) suspect
  · cases suspect
    exact hm

theorem execHeartbeatTick_leaves : LeavesMemOk (execHeartbeatTick s) := by
  refine onAll_leaves h (keeps_of_eq fun {m c m1 c1} hm e => ?_)
  split at e
  · cases e
    exact hm
  · exact suspectTick_wf hm e

theorem execPeerWrite_leaves (tag : PeerTag) (win : Fin 16) (epoch : Fin 65536) (off : Nat) (data : List Byte) (fseq : Fin 65536) :
    LeavesMemOk (execPeerWrite tag win epoch off data fseq s) := by
  refine peerRow_leaves h fun m c hm => ?_
  dsimp only
  (repeat' split) <;> simp only [hm, Mem.wf_put, mirrorData_wf]

theorem execPeerConfig_leaves (txn : Nat) (writes : List (Nat × Word)) (ops : List CfgOp) (atNs : Option Nat) :
    LeavesMemOk (execPeerConfig txn writes ops atNs s) := by
  refine peerRow_leaves h fun m c hm => ?_
  dsimp only
  (repeat' split) <;> simp only [hm]

theorem execPeerLeave_leaves : LeavesMemOk (execPeerLeave s) := by
  refine peerRow_leaves h fun m c hm => ?_
  (repeat' split) <;> simp only [hm, peerLostAll_wf]

theorem execShadowApply_leaves : LeavesMemOk (execShadowApply s) := by
  refine onAll_leaves h fun m c hm => ?_
  dsimp only
  (repeat' split) <;> simp only [hm, replayRec_wf]

theorem execDrivePermission_leaves (vs : List BaySample) : LeavesMemOk (execDrivePermission vs s) := by
  refine onAll_leaves h fun m c hm => ?_
  (repeat' split) <;> simp only [hm, driveOutputs_wf]

theorem execTakeoverServiceEntry_leaves (groups : List GroupLook) (looks : List CkLook) (bad : List BadLook) (stored : List Nat) :
    LeavesMemOk (execTakeoverServiceEntry groups looks bad stored s) := by
  refine onAll_leaves h fun m c hm => ?_
  split
  · extract_lets waits c0
    have missed := foldl_wf (f := fun (acc : Mem × Ctl) b => memberMissing acc.1 acc.2 b) (fun _ b ha => memberMissing_wf ha b)
      waits (acc := (m, c0)) hm
    split
    next m1 c1 e1 =>
    replace missed := wf_of_eq missed e1
    extract_lets c2
    split
    next m2 c3 e2 =>
    have built := wf_of_eq (replayBuild_wf missed ..) e2
    split
    next m3 c4 e3 =>
    have bad := wf_of_eq (replayBad_wf built) e3
    split
    next m4 c5 e4 =>
    split at e4
    · cases e4
      exact bad
    · exact wf_of_eq (replayRedo_wf bad ..) e4
  · exact hm

theorem execHandoverSelfReset_leaves : LeavesMemOk (execHandoverSelfReset s) := by
  refine onAll_leaves h fun m c hm => ?_
  (repeat' split) <;> simp only [hm, toReset_wf]

theorem execForcedTakeoverWaitEnd_leaves (vs : List BaySample) : LeavesMemOk (execForcedTakeoverWaitEnd vs s) := by
  refine onAll_leaves h fun m c hm => ?_
  dsimp only
  (repeat' split) <;> simp only [hm, takeLease_wf, driveOutputs_wf]

theorem execBayDieSelfCheck_leaves (parts v12 : Bool) : LeavesMemOk (execBayDieSelfCheck parts v12 s) := by
  refine onAll_leaves h fun m c hm => ?_
  dsimp only
  (repeat' split) <;> simp only [hm, releaseFault_wf]

theorem execSeatAssert_leaves (bay : Fin 24) : LeavesMemOk (execSeatAssert bay s) := by
  refine bayRow_leaves h _ fun m c hm => ?_
  dsimp only
  (repeat' split) <;> simp only [hm]

theorem execSeatDebounceDone_leaves (bay : Fin 24) (v : BaySample) : LeavesMemOk (execSeatDebounceDone bay v s) := by
  refine bayRow_leaves h _ fun m c hm => ?_
  dsimp only
  (repeat' split) <;> simp only [hm]

theorem execSeatDeassert_leaves (bay : Fin 24) (v : BaySample) : LeavesMemOk (execSeatDeassert bay v s) := by
  refine bayRow_leaves h _ fun m c hm => ?_
  dsimp only
  (repeat' split) <;> simp only [hm, bayMember_wf]

theorem execPrecheckEnd_leaves (bay : Fin 24) (first last : BaySample) : LeavesMemOk (execPrecheckEnd bay first last s) := by
  refine bayRow_leaves h _ (keeps_of_eq fun {m c m1 c1} hm e => ?_)
  split at e
  · cases e
    exact hm
  · extract_lets at e
    split at e
    · split at e
      next latch =>
      cases e
      exact wf_of_eq (bayLatch_wf hm ..) latch
    · split at e <;> cases e <;> exact hm

theorem execRampComplete_leaves (bay : Fin 24) (v : BaySample) : LeavesMemOk (execRampComplete bay v s) := by
  refine bayRow_leaves h _ fun m c hm => ?_
  (repeat' split) <;> simp only [hm]

theorem execGateFailTimeout_leaves (bay : Fin 24) (v : BaySample) : LeavesMemOk (execGateFailTimeout bay v s) := by
  refine bayRow_leaves h _ fun m c hm => ?_
  dsimp only
  (repeat' split) <;> simp only [hm, bayLatch_wf]

theorem execCurrentLimitEnter_leaves (bay : Fin 24) (v : BaySample) : LeavesMemOk (execCurrentLimitEnter bay v s) := by
  refine bayRow_leaves h _ fun m c hm => ?_
  (repeat' split) <;> simp only [hm]

theorem execCurrentLimitRelease_leaves (bay : Fin 24) (v : BaySample) : LeavesMemOk (execCurrentLimitRelease bay v s) := by
  refine bayRow_leaves h _ fun m c hm => ?_
  (repeat' split) <;> simp only [hm]

theorem execBayFaultTimerExpire_leaves (bay : Fin 24) (v : BaySample) : LeavesMemOk (execBayFaultTimerExpire bay v s) := by
  refine bayRow_leaves h _ fun m c hm => ?_
  dsimp only
  (repeat' split) <;> simp only [hm, bayLatch_wf]

theorem execFastTrip_leaves (bay : Fin 24) (v : BaySample) : LeavesMemOk (execFastTrip bay v s) := by
  refine bayRow_leaves h _ fun m c hm => ?_
  dsimp only
  (repeat' split) <;> simp only [hm, bayLatch_wf]

theorem execFastTripHoldEnd_leaves (bay : Fin 24) : LeavesMemOk (execFastTripHoldEnd bay s) := by
  refine bayRow_leaves h _ fun m c hm => ?_
  (repeat' split) <;> simp only [hm]

theorem execFetTempLimit_leaves (bay : Fin 24) (v : BaySample) : LeavesMemOk (execFetTempLimit bay v s) := by
  refine bayRow_leaves h _ fun m c hm => ?_
  dsimp only
  (repeat' split) <;> simp only [hm, bayLatch_wf]

theorem execPerstReleaseTimer_leaves (bay : Fin 24) : LeavesMemOk (execPerstReleaseTimer bay s) := by
  refine bayRow_leaves h _ fun m c hm => ?_
  (repeat' split) <;> simp only [hm]

theorem execBayShutdownDone_leaves (bay : Fin 24) (timeout : Bool) : LeavesMemOk (execBayShutdownDone bay timeout s) := by
  refine bayRow_leaves h _ fun m c hm => ?_
  (repeat' split) <;> simp only [hm]

theorem execBayGateOffDelay_leaves (bay : Fin 24) (v : BaySample) : LeavesMemOk (execBayGateOffDelay bay v s) := by
  refine bayRow_leaves h _ fun m c hm => ?_
  dsimp only
  (repeat' split) <;> simp only [hm]

theorem execBayOffShortCheck_leaves (bay : Fin 24) (v : BaySample) : LeavesMemOk (execBayOffShortCheck bay v s) := by
  refine bayRow_leaves h _ fun m c hm => ?_
  dsimp only
  (repeat' split) <;> simp only [hm, bayLatch_wf]

theorem execBayCycleRestart_leaves (bay : Fin 24) : LeavesMemOk (execBayCycleRestart bay s) := by
  refine bayRow_leaves h _ fun m c hm => ?_
  dsimp only
  (repeat' split) <;> simp only [hm]

theorem execPs2SecondCheck_leaves (bay : Fin 24) (avg : Nat) (v : BaySample) : LeavesMemOk (execPs2SecondCheck bay avg v s) := by
  refine bayRow_leaves h _ (keeps_of_eq fun {m c m1 c1} hm e => ?_)
  extract_lets at e
  split at e
  · split at e
    next latch =>
    cases e
    exact wf_of_eq (bayLatch_wf hm ..) latch
  · cases e
    exact hm

theorem execMailboxDoorbell_leaves (writes : List (Nat × List Byte)) (ring : Fin 16) : LeavesMemOk (execMailboxDoorbell writes ring s) := by
  refine onAll_leaves h fun m c hm => ?_
  split
  · exact hm
  · split
    · exact hm
    · exact doorbell_wf (foldl_mem_wf (fun _ _ hm => bar2Write_wf hm ..) _ hm) ..

theorem execPersistentRegisterWrite_leaves (off : Fin 0x4000000) (value : Word) : LeavesMemOk (execPersistentRegisterWrite off value s) := by
  refine onAll_leaves h fun m c hm => ?_
  (repeat' split) <;> simp only [hm, wrReg_wf]

theorem execFlrDone_leaves : LeavesMemOk (execFlrDone s) := by
  refine onAll_leaves h fun m c hm => ?_
  (repeat' split) <;> simp only [hm, eptReset_wf]

theorem execPerstSlAssert_leaves : LeavesMemOk (execPerstSlAssert s) := by
  refine onAll_leaves h fun m c hm => ?_
  dsimp only
  (repeat' split) <;> simp only [hm, eptReset_wf]

theorem execCompletionReceive_leaves (tag : Fin 1024) (st : CplStat) (data : List Byte) : LeavesMemOk (execCompletionReceive tag st data s) := by
  refine onAll_leaves h fun m c hm => ?_
  (repeat' split) <;> simp only [hm, readDrop_wf, readData_wf]

theorem execCompletionTimeout_leaves (tag : Fin 1024) : LeavesMemOk (execCompletionTimeout tag s) := by
  refine onAll_leaves h fun m c hm => ?_
  dsimp only
  (repeat' split) <;> simp only [hm, readClose_wf]

theorem execFwReject_leaves (src : ChiebSrc) : LeavesMemOk (execFwReject src s) := by
  unfold execFwReject
  have chieb := chiebRow_leaves h (n := 0x0604) (src := src) (op := fwReject) fun t _ _ hm => fwReject_wf hm t
  split
  next s1 e =>
    split
    · exact e ▸ chieb
    · refine onAll_leaves (chieb.next s1 e) fun m c hm => ?_
      split
      · exact trialOut_wf hm
      · exact hm
  all_goals exact ⟨fun _ ht => nomatch ht⟩

theorem execActivationImageRunning_leaves (look : ImgLook) : LeavesMemOk (execActivationImageRunning look s) := by
  refine onAll_leaves h fun m c hm => ?_
  dsimp only
  (repeat' split) <;> simp only [hm, adminResume_wf]

theorem execTrialWindowExpire_leaves : LeavesMemOk (execTrialWindowExpire s) := by
  refine onAll_leaves h fun m c hm => ?_
  (repeat' split) <;> simp only [hm, trialOut_wf]

theorem execSecuredMessage_leaves (session : Nat) (bytes : List Byte) : LeavesMemOk (execSecuredMessage session bytes s) := by
  refine onAll_leaves h fun m c hm => ?_
  dsimp only
  (repeat' split) <;> simp only [hm, chiebTake_wf]

theorem execTelemetrySweep_leaves : LeavesMemOk (execTelemetrySweep s) := by
  refine onAll_leaves h fun m c hm => ?_
  dsimp only
  split
  · refine dntRow_wf hm _ _ fun m c hm => ?_
    split
    · exact snapPublish_wf hm _
    · exact hm
  · exact hm

theorem execRegisterWrite_leaves (off : Fin 0x4000000) (value : Word) (dw : Bool) : LeavesMemOk (execRegisterWrite off value dw s) := by
  refine onAll_leaves h fun m c hm => ?_
  (repeat' split) <;> simp only [hm, wrReg_wf]

theorem execRailsRemoved_leaves : LeavesMemOk (execRailsRemoved s) := by
  refine onAll_leaves h fun m c hm => ?_
  dsimp only
  split
  · exact hm
  · exact afterReset_wf hm

end

/-- Every command leaves the memories in canonical form: first the rows that share a kind, then the others in the order of the command set. -/
theorem exec_leaves (i : Instr) {s : State} (h : s.memOk = true) : LeavesMemOk (exec i s) := by
  unfold exec
  cases i with
  | firstRailRise | powerOnResetRelease | carafeScanDone | peerAbsentTimeout | standbyEnter | driveLinkTrained | networkPortsUp | mirrorSyncAbandon
  | serviceEntry | pwrfailAccept | pwrfailGlitch | lifeRecord | glbPdCtrlWrite | domainTransitionDone | d07DrainDone | d07DrainTimeout | quiesceDone
  | ptpAnnounce | ptpDelayResp | ptpPdelayReq | announceTimeout | syncTimeout | syncLostExpire | timSyncLostWrite | ppsEdge | ref10mOutOfTolerance
  | connectTimeout | shutdownComplete | selfTestDone | keepAliveTimeout | apstIdleTimer | evtWaitTimeout | evtDelayExpire | stepTimerExpire
  | carafeHeaderPersistent | queueEntryAppend | queueEntrySent | linkUp | portHoldExpire | bpmMgtAlloc | bpmMgtRef | bpmMgtDeref | bpmMgtFree
  | bstLoadDataWrite | bstInstall | bstRetire | engineDisable | engineDisableAck | engineEnable | dmaStart | dmaStop | dmaClrErr | dmaShadowArm
  | dmaShadowWrite | crmInvalidateNs | crmInvalidateAll | crmSweepDone | crmInitDone | crmLimitEvict | gatherDeadlineExpire | flushBrewStart
  | memberCommandTimeout | budgetRefill | stripeLockGrant | progressRecordWrite | cuppingPassStart | kpLoad | kpZeroiseSlot | kpZeroisePage
  | zeroiseComplete | skekRewrapDone | tlsRecordEncrypt | tlsRecordDecrypt | netPortDown | netPortUp | arpRequest | neighborSolicitation | icmpEcho
  | frameDiscard | pauseFrameReceive | pfcFrameReceive | pfcPauseExpire | pfcXoffSend | pfcXoffRefresh | receiveBufferOverflow | roceConnectRequest
  | roceSendReceive | roceAckReceive | roceNakReceive | roceAckTimeout | ceMarkedReceive | cnpReceive | rateIncreaseTimer | tcpSyn | tcpRtoExpire
  | tlsClientHello | egressFrameSelect | shaperRefill | peerFlitReceive | witnessTick | witnessRequestTimeout | witnessLost | acquireRetryTimer
  | leaseExpire | handoverSyncReached | rampSlotGrant | bayCmdOn | bayCmdOff | bayCmdClear | bayCmdCycle | bayPs2OvrWrite | bayCalDone
  | handleExpire | txnExpire | bar0StagingWrite | pcrWriteDone | pcrTokenRefill | testDone | pcieConfigRequest | pmcsrD3hotEnter | pmcsrD0Return
  | bmeClear | bmeSet | functionLevelReset | perstSlDeassert | aerError | msixUnmask | fwSlotWritten | activationWithoutReset
  | activationDrainDeadline | pairedActivation | trialConfirm | spdmSignatureDone | ref10mInWithinTolerance | targetFormatDone | bar0Read
  | mctpEndpointAssigned | cmDisconnectRequest =>
    exact onCtl_leaves h _
  | nvmePropertyGet | propertySetCcEnClear | propertySetCcEnSet | propertySetShutdown | nvmeGetLogPage | nvmeIdentify | nvmeAbort | nvmeGetFeatures
  | setFeaturesPowerManagement | setFeaturesNumberOfQueues | setFeaturesAsyncEventConfig | setFeaturesApst | setFeaturesKeepAliveTimer
  | setFeaturesHostBehavior | setFeaturesOrderedQueues | setFeaturesCremaHints | setFeaturesNotChangeable | nvmeAsyncEventRequest
  | nvmeFirmwareImageDownload | nvmeFirmwareCommit | nvmeDeviceSelfTest | nvmeKeepAlive | chiebRequestC1h | chiebReplyC2h | invalidCommandOpcode =>
    exact adminRow_leaves h ..
  | peerHello | peerWack | peerEpochInfo | peerEpochQuery | peerKey | peerKeyAck | peerFencing | peerHandover =>
    exact peerRow_leaves h fun _ _ hm => hm
  | modeReqQuiesce | modeReqResume | modeReqReset | modeReqRecovery | modeReqTest | modeReqUnknown =>
    exact onAll_leaves h fun _ _ hm => modeReq_wf hm ..
  | nvmeFlush | nvmeRead | nvmeWrite | nvmeWriteZeroes | nvmeDatasetManagement => exact ioRow_leaves h ..
  | miReadDataStructure | miSubsystemHealthPoll | miControllerHealthPoll | miConfigurationGet | miConfigurationSet => exact miRow_leaves h ..
  | engineKat | carafeScan | hbmScrub | pcrVerify | serdesLoop => exact chiebRow_leaves h fun _ _ _ hm => plainTest_wf hm ..
  | spdmGetVersion | spdmGetCapabilities | spdmNegotiateAlgorithms | spdmFinish | spdmRespondIfReady => exact spdmReq_leaves h ..
  | spdmGetDigests | spdmGetCertificate | spdmChallenge | spdmGetMeasurements | spdmKeyExchange => exact spdmAfter_leaves h ..
  | thermalWarning | thermalThrottleStart | throttleStep | thermalTrip => exact tempRow_leaves h ..
  | rbdFailMember | rbdDesignateHotspare | rbdReleaseHotspare | rbdUseLabelledDrive => exact memCmdRow_leaves h ..
  | lockstepMismatch | watchdogExpire | hbmStackFailure | clockLoss => exact onAll_leaves h fun _ _ hm => releaseFault_wf hm ..
  | bayCal | netPrbs | drvEq | peerPrbs => exact chiebRow_leaves h fun _ _ _ hm => testOp_wf hm _ _ _ _ (fun _ _ => hm) _
  | spdmHeartbeat | spdmKeyUpdate | spdmEndSession => exact sessionReq_leaves h ..
  | todBoundary | sketchDecay => exact onAll_leaves h fun _ _ hm => dntRow_wf hm _ _ fun _ _ hm => hm
  | nvmeConnectAdmin | nvmeConnectIo => exact connectRow_leaves h ..
  | evtWaitToken | evtDelay => exact onAll_leaves h fun _ _ hm => evtIssue_wf hm ..
  | dmaStepMove | dmaStepMoveSwap => exact stepRow_leaves h fun _ _ _ hm => moveAct_wf hm ..
  | cipXtsEnc | cipXtsDec => exact stepRow_leaves h fun _ _ _ hm => xtsAct_wf hm ..
  | witnessRefuse | witnessState => exact witReply_leaves h _ _ fun _ _ _ hm => hm
  | hotReset | endpointLinkDown => exact onAll_leaves h fun _ _ hm => linkReset_wf hm ..
  | imageLoaded => exact execImageLoaded_leaves h ..
  | hbmInitDone => exact execHbmInitDone_leaves h ..
  | memberWaitExpire => exact execMemberWaitExpire_leaves h ..
  | driveReady => exact execDriveReady_leaves h ..
  | journalReplay => exact execJournalReplay_leaves h ..
  | mirrorSyncComplete => exact execMirrorSyncComplete_leaves h ..
  | grstNAssert => exact execGrstNAssert_leaves h ..
  | pwrfailRestart => exact execPwrfailRestart_leaves h ..
  | railOutOfTolerance => exact onAll_leaves h (keeps_of_eq fun hm e => wf_of_eq (releaseFault_wf hm ..) e)
  | ptpSync => exact execPtpSync_leaves h ..
  | ptpFollowUp => exact execPtpFollowUp_leaves h ..
  | scheduledCommitFire => exact execScheduledCommitFire_leaves h ..
  | nvmeDisconnect => exact execNvmeDisconnect_leaves h ..
  | capsuleIntakeResume => exact execCapsuleIntakeResume_leaves h ..
  | stepEnd => exact onAll_leaves h fun _ _ hm => stepEnd_wf hm ..
  | tokenArrive => exact execTokenArrive_leaves h ..
  | bpmAlloc => exact stepRow_leaves h fun _ _ _ hm => bpmAllocAct_wf hm ..
  | bpmRef => exact stepRow_leaves h fun _ _ _ hm => bpmRefAct_wf hm ..
  | bpmDrop => exact stepRow_leaves h fun _ _ _ hm => bpmDropAct_wf hm ..
  | bpmReleaseAll => exact execBpmReleaseAll_leaves h ..
  | dmaStepRun => exact execDmaStepRun_leaves h ..
  | dqeRead => exact onAll_leaves h fun _ _ hm => dqeIssue_wf hm _ _ (fun _ _ _ hm => dqeReadAct_wf hm ..) _
  | dqeWrite => exact onAll_leaves h fun _ _ hm => dqeIssue_wf hm _ _ (fun _ _ _ hm => dqeWriteAct_wf hm ..) _
  | tmpcEncode => exact onAll_leaves h fun _ _ hm => issueUnless_wf hm _ _ _ _ _ fun _ _ _ hm => tmpcEncodeAct_wf hm ..
  | tmpdDecode => exact stepRow_leaves h fun _ _ _ hm => tmpdDecodeAct_wf hm ..
  | galEncode => exact stepRow_leaves h fun i _ _ hm => galAct_wf hm _ (fun _ _ _ _ => galEncodeAct_wf hm ..) i
  | galUpdate => exact stepRow_leaves h fun i _ _ hm => galAct_wf hm _ (fun _ _ _ _ => galUpdateAct_wf hm ..) i
  | galDecode => exact stepRow_leaves h fun i _ _ hm => galAct_wf hm _ (fun _ _ _ _ => galDecodeAct_wf hm ..) i
  | crcGen => exact stepRow_leaves h fun _ _ _ hm => crcGenAct_wf hm ..
  | crcChk => exact stepRow_leaves h fun _ _ _ hm => crcChkAct_wf hm ..
  | crmVerdict => exact execCrmVerdict_leaves h ..
  | crmInsert => exact stepRow_leaves h fun _ _ _ hm => crmInsertAct_wf hm ..
  | crmFill => exact stepRow_leaves h fun _ _ _ hm => crmFillAct_wf hm ..
  | crmCommit => exact execCrmCommit_leaves h ..
  | crmInval => exact execCrmInval_leaves h ..
  | xptPush => exact execXptPush_leaves h ..
  | xptPull => exact execXptPull_leaves h ..
  | hcpComplete => exact execHcpComplete_leaves h ..
  | hcpFail => exact stepThen_leaves h fun _ _ _ hm => hcpFailAct_wf hm ..
  | carReserve => exact onAll_leaves h fun _ _ hm => issueUnless_wf hm _ _ _ _ _ fun _ _ _ hm => carReserveAct_wf hm ..
  | carIndex => exact onAll_leaves h fun _ _ hm => issueUnless_wf hm _ _ _ _ _ fun _ _ _ hm => hm
  | carLand => exact execCarLand_leaves h ..
  | carVoid => exact stepRow_leaves h fun _ _ _ hm => voidOwn_wf hm ..
  | carRead => exact stepRow_leaves h fun _ _ _ hm => carReadAct_wf hm ..
  | carGather => exact onAll_leaves h fun _ _ hm => issueUnless_wf hm _ _ _ _ _ fun _ _ _ hm => carGatherAct_wf hm ..
  | carIntent => exact execCarIntent_leaves h ..
  | carDone => exact stepRow_leaves h fun _ _ _ hm => carDoneAct_wf hm ..
  | peerWriteStep => exact onAll_leaves h fun _ _ hm => peerIssue_wf hm _ _ fun _ _ _ hm => peerWriteAct_wf hm ..
  | peerSyncStep => exact onAll_leaves h fun _ _ hm => peerIssue_wf hm _ _ fun _ _ _ hm => peerSyncAct_wf hm ..
  | swcEnq => exact stepRow_leaves h fun _ _ _ hm => swcEnqAct_wf hm ..
  | cellPoisoned => exact execCellPoisoned_leaves h ..
  | linkDown => exact execLinkDown_leaves h ..
  | dmaStoppingDone => exact execDmaStoppingDone_leaves h ..
  | dmaMove => exact insNext_leaves h _ _ fun _ _ _ _ hm => moveStart_wf hm ..
  | dmaMoveSwap => exact insNext_leaves h _ _ fun _ _ => keeps_of_eq fun hm e => wf_of_eq (moveStart_wf hm ..) e
  | dmaLoop => exact execDmaLoop_leaves h ..
  | dmaWait => exact execDmaWait_leaves h ..
  | dmaWaitSatisfied => exact execDmaWaitSatisfied_leaves h ..
  | dmaWaitTimeout => exact execDmaWaitTimeout_leaves h ..
  | dmaSignal => exact execDmaSignal_leaves h ..
  | dmaLink => exact insNext_leaves h _ _ fun _ _ _ _ hm => insEnd_wf hm ..
  | dmaEnd => exact execDmaEnd_leaves h ..
  | dmaInstructionComplete => exact execDmaInstructionComplete_leaves h ..
  | checkpointTimer => exact execCheckpointTimer_leaves h ..
  | carafeFault => exact execCarafeFault_leaves h ..
  | groupInitDone => exact execGroupInitDone_leaves h ..
  | memberLinkFailTimeout => exact execMemberLinkFailTimeout_leaves h ..
  | memberResetTimeout => exact execMemberResetTimeout_leaves h ..
  | driveCriticalWarning => exact onAll_leaves h fun _ _ hm => memFail_wf hm ..
  | rebuildBrewStart => exact onAll_leaves h fun _ _ hm => rebuildBrew_wf hm ..
  | repairBrewStart => exact onAll_leaves h fun _ _ hm => repairBrew_wf hm ..
  | cuppingBrewStart => exact onAll_leaves h fun _ _ hm => cuppingBrew_wf hm ..
  | regrindStart => exact onAll_leaves h fun _ _ hm => rgStart_wf hm ..
  | regrindInitDone => exact execRegrindInitDone_leaves h ..
  | regrindCopyBrewStart => exact onAll_leaves h fun _ _ hm => rgCopy_wf hm ..
  | regrindCommit => exact onAll_leaves h fun _ _ hm => rgCommit_wf hm
  | regrindAbort => exact execRegrindAbort_leaves h ..
  | regrindRetireDone => exact execRegrindRetireDone_leaves h ..
  | keyStatus => exact chiebRow_leaves h fun _ _ _ hm => keyStatus_wf hm ..
  | skekInstall => exact chiebRow_leaves h fun _ _ _ hm => skekInstall_wf hm ..
  | keyLoad => exact chiebRow_leaves h fun _ _ _ hm => keyLoad_wf hm ..
  | keyZeroise => exact chiebRow_leaves h fun _ _ _ hm => keyZeroise_wf hm ..
  | roceReadResponse => exact execRoceReadResponse_leaves h ..
  | tcpSegmentReceive => exact execTcpSegmentReceive_leaves h ..
  | gateEntryAdvance => exact execGateEntryAdvance_leaves h ..
  | pourListAdopt => exact execPourListAdopt_leaves h ..
  | peerNakReceive => exact execPeerNakReceive_leaves h ..
  | peerLaneFail => exact execPeerLaneFail_leaves h ..
  | peerHeartbeat => exact execPeerHeartbeat_leaves h ..
  | heartbeatTick => exact execHeartbeatTick_leaves h ..
  | peerWrite => exact execPeerWrite_leaves h ..
  | peerConfig => exact execPeerConfig_leaves h ..
  | peerConfigAck => exact peerRow_leaves h fun _ _ hm => commitResume_wf hm _
  | peerLeave => exact execPeerLeave_leaves h ..
  | shadowApply => exact execShadowApply_leaves h ..
  | witnessGrant => exact witReply_leaves h _ _ fun _ _ _ hm => grantTake_wf hm ..
  | drivePermission => exact execDrivePermission_leaves h ..
  | takeoverServiceEntry => exact execTakeoverServiceEntry_leaves h ..
  | pairStatus => exact chiebRow_leaves h fun _ _ _ hm => pairStatus_wf hm ..
  | handover => exact chiebRow_leaves h fun _ _ _ hm => handoverTake_wf hm ..
  | handoverSelfReset => exact execHandoverSelfReset_leaves h ..
  | forcedTakeover => exact chiebRow_leaves h fun _ _ _ hm => forcedTake_wf hm ..
  | forcedTakeoverWaitEnd => exact execForcedTakeoverWaitEnd_leaves h ..
  | bayDieSelfCheck => exact execBayDieSelfCheck_leaves h ..
  | seatAssert => exact execSeatAssert_leaves h ..
  | seatDebounceDone => exact execSeatDebounceDone_leaves h ..
  | seatDeassert => exact execSeatDeassert_leaves h ..
  | precheckEnd => exact execPrecheckEnd_leaves h ..
  | rampComplete => exact execRampComplete_leaves h ..
  | gateFailTimeout => exact execGateFailTimeout_leaves h ..
  | currentLimitEnter => exact execCurrentLimitEnter_leaves h ..
  | currentLimitRelease => exact execCurrentLimitRelease_leaves h ..
  | bayFaultTimerExpire => exact execBayFaultTimerExpire_leaves h ..
  | fastTrip => exact execFastTrip_leaves h ..
  | fastTripHoldEnd => exact execFastTripHoldEnd_leaves h ..
  | fetTempLimit => exact execFetTempLimit_leaves h ..
  | perstReleaseTimer => exact execPerstReleaseTimer_leaves h ..
  | bayShutdownDone => exact execBayShutdownDone_leaves h ..
  | bayGateOffDelay => exact execBayGateOffDelay_leaves h ..
  | bayOffShortCheck => exact execBayOffShortCheck_leaves h ..
  | bayCycleRestart => exact execBayCycleRestart_leaves h ..
  | ps2SecondCheck => exact execPs2SecondCheck_leaves h ..
  | bayStatus => exact chiebRow_leaves h fun _ _ _ hm => bayStatus_wf hm ..
  | bayPower => exact chiebRow_leaves h fun _ _ _ hm => bayPower_wf hm ..
  | bayPs2Override => exact chiebRow_leaves h fun _ _ _ hm => bayPs2Override_wf hm ..
  | mailboxDoorbell => exact execMailboxDoorbell_leaves h ..
  | identify => exact chiebRow_leaves h fun _ _ _ hm => chiebIdentify_wf hm ..
  | status => exact chiebRow_leaves h fun _ _ _ hm => chiebStatus_wf hm ..
  | opQuery => exact chiebRow_leaves h fun _ _ _ hm => opQuery_wf hm ..
  | regRead => exact chiebRow_leaves h fun _ _ _ hm => regRead_wf hm ..
  | regWrite => exact chiebRow_leaves h fun _ _ _ hm => regWrite_wf hm ..
  | regWriteMasked => exact chiebRow_leaves h fun _ _ _ hm => regWriteMasked_wf hm ..
  | begin => exact chiebRow_leaves h fun _ _ _ hm => txnBegin_wf hm ..
  | commit => exact chiebRow_leaves h fun _ _ _ hm => txnCommit_wf hm ..
  | commitAt => exact chiebRow_leaves h fun _ _ _ hm => txnCommitAt_wf hm ..
  | rollback => exact chiebRow_leaves h fun _ _ _ hm => txnRollback_wf hm ..
  | txnStatus => exact chiebRow_leaves h fun _ _ _ hm => txnQuery_wf hm ..
  | groupStatus => exact chiebRow_leaves h fun _ _ _ hm => groupStatus_wf hm ..
  | nsCreate => exact chiebRow_leaves h fun _ _ _ hm => leaseOp_wf hm _ (fun _ _ _ hm => nsCreate_wf hm ..) _
  | nsDelete => exact chiebRow_leaves h fun _ _ _ hm => leaseOp_wf hm _ (fun _ _ _ hm => nsDelete_wf hm ..) _
  | nsMove => exact chiebRow_leaves h fun _ _ _ hm => leaseOp_wf hm _ (fun _ _ _ hm => nsMove_wf hm ..) _
  | nsInfo => exact chiebRow_leaves h fun _ _ _ hm => nsInfoOp_wf hm ..
  | hostAdd => exact chiebRow_leaves h fun _ _ _ hm => leaseOp_wf hm _ (fun _ _ _ hm => hostAdd_wf hm ..) _
  | hostRemove => exact chiebRow_leaves h fun _ _ _ hm => leaseOp_wf hm _ (fun _ _ _ hm => hostRemove_wf hm ..) _
  | hostList => exact chiebRow_leaves h fun _ _ _ hm => hostList_wf hm ..
  | subsysNqn => exact chiebRow_leaves h fun _ _ _ hm => leaseOp_wf hm _ (fun _ _ _ hm => subsysNqn_wf hm ..) _
  | timeStatus => exact chiebRow_leaves h fun _ _ _ hm => timeStatus_wf hm ..
  | schedList => exact chiebRow_leaves h fun _ _ _ hm => schedList_wf hm ..
  | persistentRegisterWrite => exact execPersistentRegisterWrite_leaves h ..
  | testStatus => exact chiebRow_leaves h fun _ _ _ hm => testStatus_wf hm ..
  | hbmMarch => exact chiebRow_leaves h fun _ _ _ hm => testOp_wf hm _ _ _ _ (fun _ _ => Mem.wf_setSel _ .hbm [] hm rfl) _
  | mramMarch => exact chiebRow_leaves h fun _ _ _ hm => testOp_wf hm _ _ _ _ (fun _ _ => Mem.wf_setSel _ .carafe [] hm rfl) _
  | flrDone => exact execFlrDone_leaves h ..
  | perstSlAssert => exact execPerstSlAssert_leaves h ..
  | completionReceive => exact execCompletionReceive_leaves h ..
  | completionTimeout => exact execCompletionTimeout_leaves h ..
  | fwStatus => exact chiebRow_leaves h fun _ _ _ hm => fwStatus_wf hm ..
  | fwDownload => exact chiebRow_leaves h fun _ _ _ hm => fwDownload_wf hm ..
  | fwCommit => exact chiebRow_leaves h fun _ _ _ hm => fwCommit_wf hm ..
  | fwDiscard => exact chiebRow_leaves h fun _ _ _ hm => fwDiscard_wf hm ..
  | fwReject => exact execFwReject_leaves h ..
  | spdmRootSet => exact chiebRow_leaves h fun _ _ _ hm => spdmRootSet_wf hm ..
  | activationImageRunning => exact execActivationImageRunning_leaves h ..
  | trialWindowExpire => exact execTrialWindowExpire_leaves h ..
  | securedMessage => exact execSecuredMessage_leaves h ..
  | telemetrySweep => exact execTelemetrySweep_leaves h ..
  | telSnapshot => exact chiebRow_leaves h fun _ _ _ hm => telSnapshot_wf hm ..
  | telSweep => exact chiebRow_leaves h fun _ _ _ hm => telSweep_wf hm ..
  | telSamples => exact chiebRow_leaves h fun _ _ _ hm => telSamples_wf hm ..
  | registerWrite => exact execRegisterWrite_leaves h ..
  | railsRemoved => exact execRailsRemoved_leaves h ..
  | followerKeeperSample => exact bayRow_leaves h _ fun _ _ hm => hm

/-- Settles O42: an empty queue leaves the state as it is, and the command at the front of the queue leaves the memories in canonical form. -/
theorem stepsKeepMemoryCanonical : Obligations.StepsKeepMemoryCanonical := by
  unfold Obligations.StepsKeepMemoryCanonical
  intro s t h ht
  cases queue : s.pending with
  | nil =>
    rw [step, queue] at ht
    cases ht
    exact h
  | cons i q =>
    rw [step_front s i q queue] at ht
    exact (exec_leaves i (s := s.withPending q) h).next t ht

end Sys2Proof.Machine
end

section
/-! HBM addresses, their ports, and the buffers of the pools (R144): O47. -/

namespace Sys2Proof.Machine

/-! ### HBM in the DMA address space -/

/-- An address without space bits is an HBM byte address. -/
theorem dmaSpace_of_lt {a : Nat} (h : a < 2 ^ 60) : dmaSpace a = 0 := by
  rw [dmaSpace, Nat.div_eq_of_lt h, Nat.zero_mod]

theorem dmaOff_of_lt {a : Nat} (h : a < 2 ^ 60) : dmaOff a = a := Nat.mod_eq_of_lt h

/-- Both reads and writes of HBM, by every channel, are bounded by the end of HBM alone. -/
theorem dmaAddrOk_hbm_iff (n : Nat) (wr : Bool) {a : Nat} (len : Nat) (h : a < 2 ^ 60) :
    dmaAddrOk n wr a len = true ↔ a + len ≤ spaceSize 0 := by
  simp only [dmaAddrOk, dmaSpace_of_lt h, dmaOff_of_lt h, decide_eq_true_eq]

/-! ### Ports -/

theorem hbmPort_stackA {a : Nat} (h : a < 0x600000000) : hbmPort a = 20 + a / 2 ^ 22 % 6 := if_pos h

theorem hbmPort_stackB {a : Nat} (h : 0x600000000 ≤ a) : hbmPort a = 26 + a / 2 ^ 22 % 6 := if_neg (Nat.not_lt.mpr h)

/-- The stacks meet at a multiple of 4 MiB, so the port depends on the 4 MiB unit alone. -/
theorem hbmPort_eq_of_unit_eq {a b : Nat} (h : a / 2 ^ 22 = b / 2 ^ 22) : hbmPort a = hbmPort b := by
  have stack : a < 0x600000000 ↔ b < 0x600000000 := by omega
  simp only [hbmPort, stack, h]

/-! ### Buffers -/

/-- The sizes of Table 7.5 divide 4 MiB, the unit of a pool's base and of the ports. -/
theorem poolSize_dvd_unit (p : Nat) : poolSize p ∣ 2 ^ 22 := by
  unfold poolSize poolUnits
  split <;> decide

/-- A buffer starts at a multiple of its size: its pool's base is whole 4 MiB units, and whole buffers lie before it. -/
theorem poolSize_dvd_bufAddr (c : Ctl) (p i : Nat) : poolSize p ∣ 256 * (c.poolBase p + i * poolUnits p) := by
  have base : poolSize p ∣ 256 * c.poolBase p := by
    have units : 256 * c.poolBase p = 2 ^ 22 * c.get (F.BPM_POOL_BASE_base p) := by rw [Ctl.poolBase]; omega
    exact units ▸ Nat.dvd_mul_right_of_dvd (poolSize_dvd_unit p) _
  have before : poolSize p ∣ 256 * (i * poolUnits p) := ⟨i, by rw [poolSize, Nat.mul_comm i, Nat.mul_assoc]⟩
  rw [Nat.mul_add]
  exact Nat.dvd_add base before

/-- A block aligned to its size, which divides `u`, lies in one unit of `u`. -/
theorem add_div_of_aligned {a b size u : Nat} (unit : size ∣ u) (aligned : size ∣ a) (h : b < size) : (a + b) / u = a / u := by
  obtain ⟨k, rfl⟩ := unit
  obtain ⟨m, rfl⟩ := aligned
  have positive : 0 < size := Nat.zero_lt_of_lt h
  rw [← Nat.div_div_eq_div_mul, ← Nat.div_div_eq_div_mul, Nat.mul_add_div positive, Nat.div_eq_of_lt h, Nat.add_zero,
    Nat.mul_div_cancel_left m positive]

/-- Settles O47: the end of HBM is that of DMA space 0, the port formula is read stack by stack, and a buffer lies in one 4 MiB unit since
its size divides both the unit and its address. -/
theorem buffersLieBehindOnePort : Obligations.BuffersLieBehindOnePort := by
  unfold Obligations.BuffersLieBehindOnePort
  refine ⟨fun n wr a len h => dmaAddrOk_hbm_iff n wr len h, fun a h => ?_, fun a h _ => ?_, fun c p i b _ hb => ⟨?_, ?_, ?_⟩⟩
  · rw [hbmPort_stackA h, Nat.shiftRight_eq_div_pow]; omega
  · rw [hbmPort_stackB h, Nat.shiftRight_eq_div_pow]; omega
  · exact Nat.le_of_dvd (by decide) (poolSize_dvd_unit p)
  · exact Nat.mod_eq_zero_of_dvd (poolSize_dvd_bufAddr c p i)
  · exact hbmPort_eq_of_unit_eq (add_div_of_aligned (poolSize_dvd_unit p) (poolSize_dvd_bufAddr c p i) hb)

end Sys2Proof.Machine
end

section
/-! Integrity tags round trip (R203, R204, Table 9.2): O51. -/

namespace Sys2Proof

/-! ### A CRC fits the width of its register -/

section
variable {k poly r : Nat} (hpoly : poly < 2 ^ k)
include hpoly

theorem crcBit_lt (hr : r < 2 ^ k) : crcBit poly r < 2 ^ k := by
  have half : r / 2 < 2 ^ k := by omega
  unfold crcBit
  split
  · exact Nat.xor_lt_two_pow half hpoly
  · exact half

theorem crcByte_lt (hk : 8 ≤ k) (hr : r < 2 ^ k) (b : Byte) : crcByte poly r b < 2 ^ k := by
  have byte : b.toNat < 2 ^ k := Nat.lt_of_lt_of_le b.isLt (Nat.pow_le_pow_right (by decide) hk)
  iterate 8 apply crcBit_lt hpoly
  exact Nat.xor_lt_two_pow hr byte

theorem crcFold_lt (hk : 8 ≤ k) (hr : r < 2 ^ k) (bs : List Byte) : crcFold poly r bs < 2 ^ k := by
  induction bs generalizing r with
  | nil => exact hr
  | cons b bs ih => exact ih (crcByte_lt hpoly hk hr b)

end

theorem crc64_lt (bs : List Byte) : crc64 bs < 2 ^ 64 :=
  Nat.xor_lt_two_pow (crcFold_lt (by decide) (by decide) (by decide) bs) (by decide)

end Sys2Proof

namespace Sys2Proof.Machine

/-! ### Little-endian numbers -/

@[simp] theorem length_leBytes (n v : Nat) : (leBytes n v).length = n := by
  induction n generalizing v with
  | zero => rfl
  | succ n ih => rw [leBytes, List.length_cons, ih]

/-- The bytes of a number give it back, cut to their width. -/
theorem leNat_leBytes (n v : Nat) : leNat (leBytes n v) = v % 256 ^ n := by
  induction n generalizing v with
  | zero => rw [leBytes, leNat, Nat.pow_zero, Nat.mod_one]
  | succ n ih =>
    have digit : (BitVec.ofNat 8 (v % 256)).toNat = v % 256 := by simp
    rw [leBytes, leNat, ih, digit, Nat.pow_succ', Nat.mod_mul]

/-! ### The fields of a tag -/

@[simp] theorem length_tagOf (blk : List Byte) (b gen : Nat) : (tagOf blk b gen).length = 16 := by
  simp [tagOf]

theorem tagOf_crc (blk : List Byte) (b gen : Nat) : leNat ((tagOf blk b gen).take 8) = crc64 blk := by
  have cut : (tagOf blk b gen).take 8 = leBytes 8 (crc64 blk) := by simp [tagOf]
  rw [cut, leNat_leBytes]
  exact Nat.mod_eq_of_lt (crc64_lt blk)

theorem tagOf_lba (blk : List Byte) (b gen : Nat) : leNat (((tagOf blk b gen).drop 8).take 4) = b % 2 ^ 32 := by
  have cut : ((tagOf blk b gen).drop 8).take 4 = leBytes 4 (b % 2 ^ 32) := by simp [tagOf]
  rw [cut, leNat_leBytes]
  exact Nat.mod_mod b _

theorem tagOf_gen (blk : List Byte) (b gen : Nat) : leNat (((tagOf blk b gen).drop 12).take 4) = gen % 2 ^ 32 := by
  have cut : ((tagOf blk b gen).drop 12).take 4 = leBytes 4 gen := by
    rw [tagOf, List.drop_left' (by simp), List.take_of_length_le (by simp)]
  exact cut ▸ leNat_leBytes 4 gen

/-- What CHK asks of a tag of GEN: the block's CRC, the low 32 bits of the LBA, and a generation. -/
theorem chkTag_tagOf_iff (blk blk1 : List Byte) (b b1 gen : Nat) :
    chkTag blk1 (tagOf blk b gen) b1 = true ↔ crc64 blk = crc64 blk1 ∧ b % 2 ^ 32 = b1 % 2 ^ 32 ∧ gen % 2 ^ 32 ≠ 0 := by
  simp only [chkTag, tagOf_crc, tagOf_lba, tagOf_gen, Bool.and_eq_true, beq_iff_eq, bne_iff_ne, and_assoc]

/-- Settles O51: each of CHK's three conditions on a tag of GEN is met, or fails, as the clause says. -/
theorem tagsRoundTrip : Obligations.TagsRoundTrip := by
  unfold Obligations.TagsRoundTrip
  intro blk b gen hgen
  have whole : gen % 2 ^ 32 = gen := Nat.mod_eq_of_lt hgen
  refine ⟨fun nonzero => ?_, fun zero => ?_, fun b1 other => ?_, fun blk1 other => ?_⟩
  · exact (chkTag_tagOf_iff ..).mpr ⟨rfl, rfl, by rwa [whole]⟩
  · refine Bool.eq_false_iff.mpr fun accepted => ?_
    obtain ⟨-, -, nonzero⟩ := (chkTag_tagOf_iff ..).mp accepted
    exact nonzero (whole.trans zero)
  · refine Bool.eq_false_iff.mpr fun accepted => ?_
    obtain ⟨-, sameLba, -⟩ := (chkTag_tagOf_iff ..).mp accepted
    exact other sameLba.symm
  · refine Bool.eq_false_iff.mpr fun accepted => ?_
    obtain ⟨sameCrc, -, -⟩ := (chkTag_tagOf_iff ..).mp accepted
    exact other sameCrc.symm

end Sys2Proof.Machine
end

section
/-! Rows that store bytes store only those (R142, R203, R331, R332): O58. -/

namespace Sys2Proof.Machine

/-! ### Writes that store only in a stretch of one memory -/

@[simp] theorem Mem.length_bytes (m : Mem) (sel : MemSel) (a n : Nat) : (m.bytes sel a n).length = n := by
  unfold Mem.bytes
  induction n generalizing a with
  | zero => rfl
  | succ n ih => rw [cellsRead, List.length_cons, ih]

@[refl] theorem StoresOnly.refl {sel : MemSel} {a n : Nat} {m : Mem} : StoresOnly sel a n m m := fun _ _ _ => rfl

/-- Stores to two stretches, one behind the other, are stores to both together. -/
theorem StoresOnly.append {sel : MemSel} {a n k : Nat} {m m1 m2 : Mem} (first : StoresOnly sel a n m m1)
    (second : StoresOnly sel (a + n) k m1 m2) : StoresOnly sel a (n + k) m m2 := by
  intro r x outside
  rw [second r x (outside.imp_right fun away => by omega), first r x (outside.imp_right fun away => by omega)]

theorem storesOnly_put {m : Mem} (h : Memory.wf m = true) (sel : MemSel) (a : Nat) (bs : List Byte) :
    StoresOnly sel a bs.length m (m.put sel a bs) := by
  intro r k outside
  by_cases space : r = sel
  · subst space
    exact Mem.byte_put_other m r a k bs h (outside.resolve_left (· rfl))
  · exact Mem.byte_put_space m sel r a k bs space

/-- Entries of one size, written one behind the other. -/
theorem storesOnly_putEntries {m : Mem} (h : Memory.wf m = true) (sel : MemSel) (a w : Nat) (entry : Nat → List Byte)
    (size : ∀ j, (entry j).length = w) (n : Nat) :
    StoresOnly sel a (w * n) m ((List.range n).foldl (fun m1 j => m1.put sel (a + w * j) (entry j)) m) := by
  induction n with
  | zero => exact StoresOnly.refl
  | succ n ih =>
    rw [List.range_succ, List.foldl_append, Nat.mul_succ]
    have before := foldl_mem_wf (fun m1 j hm => Mem.wf_put m1 sel (a + w * j) (entry j) hm) (List.range n) h
    have last := storesOnly_put before sel (a + w * n) (entry n)
    rw [size] at last
    exact ih.append last

/-! ### The engines -/

theorem crcGenAct_storesOnly {m : Mem} (h : Memory.wf m = true) (c : Ctl) (tag : Nat) {i : Issued} {y : BrewSlot} (aux : i.auxSlot = some y) :
    StoresOnly .hbm (ptrByte y.ptr) (16 * (c.crcRange tag i).2.2) m (crcGenAct tag i m c).m := by
  rcases range : c.crcRange tag i with ⟨g, b, n⟩
  simp only [crcGenAct, aux, range]
  cases i.srcSlot with
  | none => exact StoresOnly.refl
  | some x =>
    dsimp only
    split
    · exact StoresOnly.refl
    · exact storesOnly_putEntries h .hbm (ptrByte y.ptr) 16 _ (fun _ => length_tagOf ..) n

/-- A move between slots stores its length in the destination, if what it does to the bytes keeps their number; one that fails stores none. -/
theorem moveAct_storesOnly {m : Mem} (h : Memory.wf m = true) (c : Ctl) (tag unit : Nat) {f : List Byte → List Byte}
    (keepsLength : ∀ bs, (f bs).length = bs.length) (hbmUe : Bool) {i : Issued} {y : BrewSlot} (dst : i.brew.slot? i.step.dst = some y) :
    StoresOnly .hbm (ptrByte y.ptr + i.step.arg1) i.step.len m (moveAct tag unit f hbmUe i m c).m := by
  simp only [moveAct, dst]
  cases i.brew.slot? i.step.src with
  | none => exact StoresOnly.refl
  | some x =>
    have moved := storesOnly_put h .hbm (ptrByte y.ptr + i.step.arg1) (f (m.bytes .hbm (ptrByte x.ptr + i.step.arg0) i.step.len))
    rw [keepsLength, Mem.length_bytes] at moved
    dsimp only
    split
    · exact StoresOnly.refl
    · split
      · exact StoresOnly.refl
      · split
        · exact StoresOnly.refl
        · exact moved

/-! ### The rows -/

@[simp] theorem Act.late_m (a : Act) (x : Step) : (a.late x).m = a.m := by
  unfold Act.late
  split <;> rfl

theorem stepDone_mem (tag eng n : Nat) (i : Issued) (r : Act) : (stepDone tag eng n i r).1 = r.m := r.late_m i.step

/-- A step that is accepted meets none of the ends of `issueAt` before its engine. -/
theorem issue_of_accepted {c : Ctl} {tag eng op : Nat} {poisonOk : Bool} {i : Issued} {n : Nat} (accepted : StepAccepted c tag eng op poisonOk i n)
    (m : Mem) (act : Issued → Mem → Ctl → Act) :
    issue m c tag eng op poisonOk act = stepDone tag eng n i (act { i with inst := n } m (c.stepIssued tag i)) := by
  obtain ⟨issuable, fresh, intact, picked, poison, room, free⟩ := accepted
  have noFault : i.fault (some n) poisonOk = none := by simp [Issued.fault, poison, room]
  simp only [issue, issueAt, issuable, fresh, intact, picked, noFault, Option.getD_some, free, Bool.not_true, Bool.false_eq_true, if_false]
  rfl

/-- A step row whose step is accepted leaves the memories its engine leaves. -/
theorem completes_step_mem {row : Instr} {s : State} {tag eng op : Nat} {poisonOk : Bool} {act : Issued → Mem → Ctl → Act} {i : Issued} {n : Nat}
    {P : Mem → Prop} (he : exec row s = onAll (fun m c => issue m c tag eng op poisonOk act) s) (accepted : StepAccepted s.c tag eng op poisonOk i n)
    (hp : P (act { i with inst := n } s.mem (s.c.stepIssued tag i)).m) : Completes row s (fun t => P t.mem) := by
  refine completes_onAll he (issue_of_accepted accepted s.mem act) ?_
  rwa [State.withBoth_mem, stepDone_mem]

/-- A WRITE of the peer that is refused, or that no peer link brings, stores nothing. -/
theorem completes_peerWrite_storesOnly {s : State} (h : s.memOk = true) (tag : PeerTag) (win : Fin 16) (epoch : Fin 65536) (off : Nat)
    (data : List Byte) (fseq : Fin 65536) (ring : s.c.ringWindow win = false) :
    Completes (.peerWrite tag win epoch off data fseq) s (fun t =>
      StoresOnly .carafe (65536 * s.c.get (F.PEER_WIN_OPR_base win) + off) data.length s.mem t.mem) := by
  refine ⟨_, rfl, ?_⟩
  simp only [ring, Bool.false_eq_true, if_false]
  split
  · split
    · exact StoresOnly.refl
    · exact storesOnly_put h _ _ _
  · exact StoresOnly.refl

/-- Settles O58: CRC GEN and the DMA move by what their engines store for a step that is accepted, the peer's WRITE by its own cases. -/
theorem storingRowsStoreOnlyThere : Obligations.StoringRowsStoreOnlyThere := by
  unfold Obligations.StoringRowsStoreOnlyThere
  refine ⟨fun s tag n i y h accepted aux => ?_, fun s tag n ue i y h accepted dst => ?_, fun s tag win epoch off data fseq h ring => ?_⟩
  · exact completes_step_mem rfl accepted (crcGenAct_storesOnly h _ tag (i := { i with inst := n }) aux)
  · exact completes_step_mem rfl accepted (moveAct_storesOnly h _ tag 1 (fun _ => rfl) ue (i := { i with inst := n }) dst)
  · exact completes_peerWrite_storesOnly h tag win epoch off data fseq ring

end Sys2Proof.Machine
end

section
/-! SUPPORT. When a table has a free number. -/

namespace Sys2Proof

variable {α : Type}

theorem Tab.mem_keys_of_has {t : Tab α} {k : Nat} (h : Tab.has t k = true) : k ∈ t.map (·.1) := by
  induction t with
  | nil => simp [Tab.has] at h
  | cons d t ih =>
    by_cases hd : d.1 = k
    · exact hd ▸ List.mem_cons_self
    · exact List.mem_cons_of_mem _ (ih (by simpa [Tab.has, Tab.at?, hd] using h))

theorem Tab.freeKey_eq_none {t : Tab α} {i n : Nat} (taken : ∀ k, i ≤ k → k < i + n → Tab.has t k = true) : Tab.freeKey t i n = none := by
  cases free : Tab.freeKey t i n with
  | none => rfl
  | some k =>
    obtain ⟨empty, low, high⟩ := Tab.freeKey_spec t n i k free
    exact Bool.noConfusion (empty.symm.trans (taken k low high))

/-- A table with fewer entries than there are numbers leaves one of them free. -/
theorem Tab.exists_freeKey {t : Tab α} {n : Nat} (room : t.length < n) : ∃ k, Tab.freeKey t 0 n = some k := by
  refine Option.ne_none_iff_exists'.mp fun full => ?_
  have keys : List.range n ⊆ t.map (·.1) := fun k hk =>
    Tab.mem_keys_of_has (Tab.freeKey_none t n 0 k full (Nat.zero_le k) (by simpa using hk))
  have count := List.nodup_range.length_le_of_subset keys
  rw [List.length_range, List.length_map] at count
  omega

end Sys2Proof
end

section
/-! BEGIN opens a transaction at a free place under the next free id (R391): O46. -/

namespace Sys2Proof.Machine

/-! ### Ids -/

theorem Ctl.mem_ids_of_txnBy {c : Ctl} {id : Nat} (used : c.txnBy id ≠ none) : id ∈ c.mgt.txns.map (·.2.id) := by
  obtain ⟨p, found⟩ := Option.ne_none_iff_exists'.mp used
  exact List.mem_map.mpr ⟨p, List.mem_of_find?_eq_some found, by simpa using List.find?_some found⟩

/-- The ids that BEGIN tries: ten from the next id on, in ascending order modulo 65,536. -/
def Ctl.txnIdsTried (c : Ctl) : List Nat := (List.range 10).map (fun i => (c.mgt.nextId + i) % 65536)

theorem Ctl.nodup_txnIdsTried (c : Ctl) : c.txnIdsTried.Nodup := by
  refine List.pairwise_map.mpr (List.nodup_range.imp_of_mem fun hi hj different same => ?_)
  rw [List.mem_range] at hi hj
  omega

/-- With fewer than 9 transactions one of the ten ids is neither 0 nor in use: at most nine numbers are. -/
theorem Ctl.exists_free_txnIdsTried {c : Ctl} (room : c.mgt.txns.length < 9) : ∃ id ∈ c.txnIdsTried, id ≠ 0 ∧ c.txnBy id = none := by
  refine Classical.byContradiction fun noneFree => ?_
  have taken : c.txnIdsTried ⊆ 0 :: c.mgt.txns.map (·.2.id) := fun id tried => by
    by_cases zero : id = 0
    · exact zero ▸ List.mem_cons_self
    · exact List.mem_cons_of_mem _ (Ctl.mem_ids_of_txnBy fun unused => noneFree ⟨id, tried, zero, unused⟩)
  have count := c.nodup_txnIdsTried.length_le_of_subset taken
  simp only [Ctl.txnIdsTried, List.length_map, List.length_range, List.length_cons] at count
  omega

/-- The id that BEGIN assigns is the first of those it tries that is neither 0 nor in use (R391). -/
theorem Ctl.txnFreeId_first {c : Ctl} (room : c.mgt.txns.length < 9) :
    ∃ j, c.txnFreeId = (c.mgt.nextId + j) % 65536 ∧ c.txnFreeId ≠ 0 ∧ c.txnBy c.txnFreeId = none ∧
      ∀ i < j, (c.mgt.nextId + i) % 65536 = 0 ∨ (c.txnBy ((c.mgt.nextId + i) % 65536)).isSome = true := by
  obtain ⟨free, tried, nonzero, unused⟩ := Ctl.exists_free_txnIdsTried room
  have anyFree : (c.txnIdsTried.find? (fun i => i != 0 && (c.txnBy i).isNone)).isSome = true :=
    List.find?_isSome.mpr ⟨free, tried, by simp [nonzero, unused]⟩
  obtain ⟨id, found⟩ := Option.isSome_iff_exists.mp anyFree
  have assigned : c.txnFreeId = id := by
    rw [Ctl.txnIdsTried] at found
    rw [Ctl.txnFreeId, found]
  simp only [List.find?_eq_some_iff_getElem, Bool.and_eq_true, bne_iff_ne, Option.isNone_iff_eq_none] at found
  obtain ⟨⟨nonzeroId, unusedId⟩, j, _, atJ, before⟩ := found
  rw [assigned]
  refine ⟨j, by simpa [Ctl.txnIdsTried] using atJ.symm, nonzeroId, unusedId, fun i hi => ?_⟩
  have rejected := before i hi
  simp only [Ctl.txnIdsTried, List.getElem_map, List.getElem_range] at rejected
  by_cases zero : (c.mgt.nextId + i) % 65536 = 0
  · exact .inl zero
  · exact .inr (by simpa [zero, Option.isSome_iff_ne_none] using rejected)

/-! ### The row -/

/-- The state in which BEGIN has opened a transaction of channel `chan` at place `k`. -/
def Ctl.txnOpened (c : Ctl) (chan k : Nat) : Ctl :=
  let c1 := c.setTxn k ⟨c.txnFreeId, chan, 1, [], c.dt, 0, 0, 64⟩
  { c1 with mgt := { c1.mgt with nextId := (c.txnFreeId + 1) % 65536 } }

theorem txnBegin_of_free {c : Ctl} {k : Nat} (place : Tab.freeKey c.mgt.txns 0 8 = some k) (t : Taken) (m : Mem) :
    txnBegin t m c = .ok m (c.txnOpened t.chan k) [wd c.txnFreeId] := by
  rw [txnBegin, place]; rfl

theorem txnBegin_of_full {c : Ctl} (full : Tab.freeKey c.mgt.txns 0 8 = none) (t : Taken) (m : Mem) :
    txnBegin t m c = .err m c Cs.txnFull := by
  rw [txnBegin, full]

/-- Settles O46: fewer entries than places leave a place, the ten ids tried are more than can be taken, and the row replies what BEGIN does. -/
theorem beginAssignsIds : Obligations.BeginAssignsIds := by
  unfold Obligations.BeginAssignsIds
  refine ⟨fun s src t m c served room => ?_, fun s src t m c served full => ?_⟩
  · obtain ⟨k, place⟩ := Tab.exists_freeKey room
    obtain ⟨empty, -, inRange⟩ := Tab.freeKey_spec _ _ _ _ place
    obtain ⟨j, id_eq, nonzero, unused, skipped⟩ := Ctl.txnFreeId_first (c := c) (by omega)
    exact ⟨k, j, ⟨c.txnFreeId, t.chan, 1, [], c.dt, 0, 0, 64⟩, c.txnOpened t.chan k, by omega, empty, id_eq, nonzero, unused, skipped,
      rfl, rfl, rfl, rfl, rfl, chiebRow_reply (r := (m, c.txnOpened t.chan k)) served (txnBegin_of_free place t m)⟩
  · have noPlace := Tab.freeKey_eq_none (t := c.mgt.txns) (i := 0) (n := 8) fun k _ inRange => full k (by omega)
    exact chiebRow_reply (r := (m, c)) served (txnBegin_of_full noPlace t m)

end Sys2Proof.Machine
end

section
/-! SUPPORT. The frame of the service endpoint: what an update of it may change (16_service_endpoint.md, R422), and that interrupts, AER,
resets and configuration writes change no more. -/

namespace Sys2Proof.Machine

/-- The windows of Table 19.1 that hold the registers of the mailbox (MGT) and of the endpoint (EPT). -/
def eptWindows : List (Nat × Nat) := [(0x1600000, 0x1700000), (0x1800000, 0x1900000)]

/-- An offset in one of those windows. -/
abbrev EptOffset (o : Nat) : Prop := ∃ w ∈ eptWindows, w.1 ≤ o ∧ o < w.2

/-- `d` is `c` after something on the endpoint: the blocks and registers that `EndpointOnly` lets a row change may differ. -/
structure Ctl.EptFrame (c d : Ctl) : Prop where
  blocks : d = { c with
    regs := d.regs, out := d.out, fv := d.fv, ept := d.ept, mgt := d.mgt, trust := d.trust
    bst := { c.bst with chans := d.bst.chans } }
  within : RegsWithin eptWindows c d

namespace Ctl.EptFrame

theorem refl (c : Ctl) : c.EptFrame c := ⟨rfl, fun _ _ => rfl⟩

theorem trans {c d e : Ctl} (first : c.EptFrame d) (second : d.EptFrame e) : c.EptFrame e where
  blocks := by rw [second.blocks, first.blocks]
  within o outside := (second.within o outside).trans (first.within o outside)

/-- A register written in the windows. -/
theorem of_wr (c : Ctl) {o : Nat} (w : Word) (inside : EptOffset o) : c.EptFrame (c.wr o w) where
  blocks := rfl
  within p outside := by
    obtain ⟨win, listed, low, high⟩ := inside
    have away := outside win listed
    exact Ctl.rd_wr_other c w (by omega)

section
variable {c d : Ctl} (h : c.EptFrame d)
include h

/-! ### Updates of one block -/

theorem wr {o : Nat} (w : Word) (inside : EptOffset o) : c.EptFrame (d.wr o w) := h.trans (of_wr d w inside)

theorem set (f : Fld) (v : Nat) (inside : EptOffset f.off := by decide) : c.EptFrame (d.set f v) := h.wr _ inside

theorem setFlag (f : Fld) (b : Bool) (inside : EptOffset f.off := by decide) : c.EptFrame (d.setFlag f b) := h.wr _ inside

theorem bump (f : Fld) (n : Nat) (inside : EptOffset f.off := by decide) : c.EptFrame (d.bump f n) := h.wr _ inside

theorem setBitOf (f : Fld) (i : Nat) (b : Bool) (inside : EptOffset f.off := by decide) : c.EptFrame (d.setBitOf f i b) := h.wr _ inside

theorem emit (o : Output) : c.EptFrame (d.emit o) := h.trans ⟨rfl, fun _ _ => rfl⟩

theorem withEpt (e : Ept) : c.EptFrame { d with ept := e } := h.trans ⟨rfl, fun _ _ => rfl⟩

theorem withMgtTrust (x : Mgmt) (y : Trust) : c.EptFrame { d with mgt := x, trust := y } := h.trans ⟨rfl, fun _ _ => rfl⟩

theorem chanReset (k : Nat) : c.EptFrame (d.chanReset k) := h.withMgtTrust _ _

theorem mailboxRollback : c.EptFrame d.mailboxRollback := h.withMgtTrust _ _

theorem setChan (n : Nat) (x : DmaChan) : c.EptFrame (d.setChan n x) := h.trans ⟨rfl, fun _ _ => rfl⟩

theorem setReads (rs : Tab EpRead) : c.EptFrame (d.setReads rs) := h.withEpt _

/-! ### Conditions and words at their reset values -/

theorem ite {p : Prop} [Decidable p] {e : Ctl} (other : c.EptFrame e) : c.EptFrame (if p then d else e) := by
  split
  · exact h
  · exact other

theorem wordsReset {offs : List Nat} (inside : ∀ o ∈ offs, EptOffset o) : c.EptFrame (d.wordsReset offs) :=
  List.foldlRecOn _ _ h fun _ keeps o listed => keeps.wr _ (inside o listed)

/-! ### Interrupts (R414 to R417) -/

theorem intxUpdate : c.EptFrame d.intxUpdate := by
  have style := h.set F.EPT_STAT_irq_mode d.irqStyle
  exact style.ite ((style.setFlag F.EPT_STAT_intx _).emit _)

theorem sendMessage (b : Nat) : c.EptFrame (d.sendMessage b) := by
  have msix : ∀ v, c.EptFrame (d.setBitOf F.EPT_MSIX_PBA_pend b v) := h.setBitOf _ b
  unfold Ctl.sendMessage
  exact .ite (.ite (msix true) ((msix false).emit _)) (.ite (.ite (h.withEpt _) ((h.withEpt _).emit _)) h)

theorem wakeEvent (b : Nat) : c.EptFrame (d.wakeEvent b) := by
  have status := h.withEpt { d.ept with pmeStat := true }
  exact .ite (.ite (status.setFlag F.EPT_STAT_wake true) (status.emit _)) h

theorem intSet (b : Nat) : c.EptFrame (d.intSet b) := by
  have risen := (h.setBitOf F.EPT_INT_STAT_src b true).wakeEvent b
  exact h.ite (intxUpdate (.ite (risen.sendMessage b) risen))

theorem intLevels : c.EptFrame d.intLevels := by
  unfold Ctl.intLevels
  extract_lets c1 c2
  have mailbox : c.EptFrame c1 := (h.intSet 0).ite h
  have fault : c.EptFrame c2 := (mailbox.intSet 1).ite mailbox
  exact (fault.intSet 2).ite fault

theorem retryMessages : c.EptFrame d.retryMessages :=
  List.foldlRecOn _ _ h fun _ keeps b _ => .ite (.ite (keeps.sendMessage b) keeps) keeps

/-! ### Reads of space 3 (R411, R412, R418) -/

theorem farUpd (n : Nat) (f : DmaIns → DmaIns) : c.EptFrame (d.farUpd n f) := by
  unfold Ctl.farUpd
  dsimp only
  split
  · exact h.setChan n _
  · exact h

theorem farFail (n st : Nat) : c.EptFrame (d.farFail n st) := (h.farUpd n _).setReads _

theorem readsDrop : c.EptFrame d.readsDrop := List.foldlRecOn _ _ h fun _ keeps n _ => (keeps.farFail n 9).farUpd n _

/-! ### Bus-master enable, power states and the link (R414, R417 to R421) -/

theorem bmeClear : c.EptFrame d.bmeClear :=
  (((h.withEpt { d.ept with bme := false }).setFlag F.EPT_STAT_bme false).bump F.EPT_RST_CNT_bme_clr 1).readsDrop

theorem bmeSet : c.EptFrame d.bmeSet := ((h.withEpt { d.ept with bme := true }).setFlag F.EPT_STAT_bme true).retryMessages

theorem d3hot : c.EptFrame d.d3hot := (h.set F.EPT_STAT_dstate 3).readsDrop.intxUpdate

theorem d0 : c.EptFrame d.d0 := (h.set F.EPT_STAT_dstate 0).intxUpdate.retryMessages

theorem flrStart : c.EptFrame d.flrStart := ((h.setFlag F.EPT_STAT_flr true).bump F.EPT_RST_CNT_flr 1).readsDrop.intxUpdate

theorem eptLinkUp (speed width : Nat) : c.EptFrame (d.eptLinkUp speed width) :=
  (((h.setFlag F.EPT_STAT_link_up true).set F.EPT_STAT_speed speed).set F.EPT_STAT_width width).setFlag F.EPT_STAT_wake false

theorem eptLinkDown : c.EptFrame d.eptLinkDown := ((h.setFlag F.EPT_STAT_link_up false).set F.EPT_STAT_speed 0).set F.EPT_STAT_width 0

/-- The words that a function reset returns to their reset values are registers of the mailbox and of the endpoint. -/
theorem eptReset (m : Mem) : c.EptFrame (eptReset m d).2 := by
  unfold Machine.eptReset
  extract_lets _ _ c2 c3 c4 _ _ c5
  have words : c.EptFrame c2 := (h.withEpt _).wordsReset (by decide)
  have status : c.EptFrame c3 := ((words.set F.EPT_STAT_dstate 0).setFlag F.EPT_STAT_bme false).setFlag F.EPT_STAT_flr false
  have mailbox : c.EptFrame c4 := (status.chanReset 0).mailboxRollback
  have sessions : c.EptFrame c5 := mailbox.withMgtTrust _ _
  exact sessions.intLevels.intxUpdate

/-! ### AER (R413) -/

theorem devStatSet (b : Nat) : c.EptFrame (d.devStatSet b) := h.withEpt _

theorem aerSend (sev : Nat) : c.EptFrame (d.aerSend sev) := (h.emit _).ite h

theorem aerCor (b : Nat) : c.EptFrame (d.aerCor b) := by
  have logged := (h.withEpt { d.ept with aerCStat := d.ept.aerCStat ||| BitVec.ofNat 32 (2 ^ b) }).devStatSet 0
  exact (logged.aerSend 0).ite logged

theorem aerFirstSet (b : Nat) (hdr : Option (List Word)) : c.EptFrame (d.aerFirstSet b hdr) := by
  unfold Ctl.aerFirstSet
  split
  · exact h.withEpt _
  · exact h.withEpt _
  · exact h.aerCor 15
  · exact h

theorem aerUncLog (b : Nat) (hdr : Option (List Word)) : c.EptFrame (d.aerUncLog b hdr) := by
  have status := h.withEpt { d.ept with aerUStat := d.ept.aerUStat ||| BitVec.ofNat 32 (2 ^ b) }
  exact status.ite (status.aerFirstSet b hdr)

theorem aerUnc (e : AerErr) (b : Nat) (adv : Bool) (hdr : Option (List Word)) : c.EptFrame (d.aerUnc e b adv hdr) := by
  have request : c.EptFrame (if e = .unsupported then d.devStatSet 3 else d) := (h.devStatSet 3).ite h
  unfold Ctl.aerUnc
  extract_lets _ _ c1 _
  have logged : c.EptFrame c1 := (request.devStatSet _).aerUncLog b hdr
  exact .ite (aerCor (.ite request (request.aerUncLog b hdr)) 13) ((logged.aerSend _).ite logged)

theorem aerLog (e : AerErr) (adv : Bool) (hdr : List Word) : c.EptFrame (d.aerLog e adv hdr) := by
  unfold Ctl.aerLog
  split
  · exact h.aerCor _
  · exact h.ite (h.aerUnc ..)
  · exact h

/-! ### Configuration space (R408, R409) -/

theorem setCap (r : Nat) (v : Word) : c.EptFrame (d.setCap r v) := h.withEpt _

theorem cfgCommand (v : Word) : c.EptFrame (d.cfgCommand v) := by
  have command := h.withEpt { d.ept with command := BitVec.ofNat 16 (v.toNat % 2 ^ 16 &&& 0x0142), intxDis := v.getLsbD 10 }
  exact intxUpdate (.ite command.bmeClear (.ite command.bmeSet command))

theorem cfgPmcsr (v one : Word) : c.EptFrame (d.cfgPmcsr v one) := by
  have pme := h.withEpt { d.ept with pmeEn := v.getLsbD 8, pmeStat := d.ept.pmeStat && !one.getLsbD 15 }
  have wake := (pme.setFlag F.EPT_STAT_wake false).ite (p := one.getLsbD 15 = true) pme
  unfold Ctl.cfgPmcsr
  dsimp only
  split
  · exact wake.d3hot.ite wake
  · exact wake.d0.ite wake
  · exact wake

theorem cfgDevCtl (v one : Word) : c.EptFrame (d.cfgDevCtl v one) := by
  have control := h.withEpt { d.ept with
    devCtl := BitVec.ofNat 16 (v.toNat % 2 ^ 15), devStat := d.ept.devStat &&& ~~~ BitVec.ofNat 4 (getBits one 19 16) }
  exact control.flrStart.ite control

/-- A write of configuration space runs a case of its own for Command, Power Management, MSI, MSI-X and Device Control; a write of any
other word changes the endpoint's own block or nothing. -/
theorem cfgWrite (r : Nat) (be : BitVec 4) (new : Word) : c.EptFrame (d.cfgWrite r be new) := by
  have own := h.withEpt
  unfold Ctl.cfgWrite
  extract_lets v one _
  refine .ite (h.cfgCommand v) <| .ite (own _) <| .ite (own _) <| .ite (own _) <| .ite (h.setCap r _) <| .ite (h.cfgPmcsr v one) <| ?_
  refine .ite (own _).intxUpdate.retryMessages <| .ite (own _) <| .ite (own _) <| .ite (own _) <| .ite (own _).retryMessages <| ?_
  refine .ite (own _).intxUpdate.retryMessages <| .ite (h.cfgDevCtl v one) <| .ite (own _) <| .ite (own _) <| .ite (own _) <| ?_
  exact .ite (own _) <| .ite (own _) <| h.ite (h.setCap r v)

end

end Ctl.EptFrame

end Sys2Proof.Machine
end

section
/-! Endpoint events leave storage (R422): O50. -/

namespace Sys2Proof.Machine

/-- A row whose meaning `g` is an effect over the registers and blocks that stays in the endpoint's frame. -/
theorem endpointOnly_of_onCtl {row : Instr} (g : State → Host.Outcome State Fault Refusal) {f : Mem → Ctl → Ctl}
    (effect : ∀ s, g s = onCtl f s) (frame : ∀ (m : Mem) (c : Ctl), c.EptFrame (f m c))
    (arm : ∀ s, exec row s = g s := by exact fun _ => rfl) : EndpointOnly row := by
  intro s t next
  obtain ⟨ctl, mem, pending⟩ := onCtl_next ((arm s).trans (effect s) ▸ next)
  have kept := ctl ▸ frame s.mem s.c
  exact ⟨by rw [mem], pending, kept.blocks, kept.within⟩

/-- What an effect on the endpoint leaves of everything but the queue: the memories but the mailbox window, and the frame. -/
def EptKeeps (m : Mem) (c : Ctl) (r : Mem × Ctl) : Prop := r.1 = { m with bar2 := r.1.bar2 } ∧ c.EptFrame r.2

theorem EptKeeps.ite {p : Prop} [Decidable p] {m : Mem} {c : Ctl} {r q : Mem × Ctl} (yes : EptKeeps m c r) (no : EptKeeps m c q) :
    EptKeeps m c (if p then r else q) := by
  split
  · exact yes
  · exact no

theorem EptKeeps.refl (m : Mem) (c : Ctl) : EptKeeps m c (m, c) := ⟨rfl, .refl c⟩

/-- A function reset empties the mailbox window, after whatever led to it on the endpoint. -/
theorem eptReset_keeps {c d : Ctl} (m : Mem) (h : c.EptFrame d) : EptKeeps m c (eptReset m d) := ⟨rfl, h.eptReset m⟩

theorem linkReset_keeps (speed : Fin 5) (width : Fin 3) (m : Mem) (c : Ctl) : EptKeeps m c (linkReset speed width m c) :=
  .ite (.refl m c) (eptReset_keeps m (((Ctl.EptFrame.refl c).bump F.EPT_RST_CNT_link 1).eptLinkUp _ _).readsDrop)

/-- A row whose meaning `g` is an effect over everything but the queue that stays in the endpoint's frame. -/
theorem endpointOnly_of_onAll {row : Instr} (g : State → Host.Outcome State Fault Refusal) {f : Mem → Ctl → Mem × Ctl}
    (effect : ∀ s, g s = onAll f s) (keeps : ∀ m c, EptKeeps m c (f m c))
    (arm : ∀ s, exec row s = g s := by exact fun _ => rfl) : EndpointOnly row := by
  intro s t next
  obtain ⟨ctl, mem, pending⟩ := onAll_next ((arm s).trans (effect s) ▸ next)
  obtain ⟨memKept, frame⟩ := keeps s.mem s.c
  rw [← mem] at memKept
  rw [← ctl] at frame
  exact ⟨memKept, pending, frame.blocks, frame.within⟩

/-! ### The rows -/

open Ctl (EptFrame)

theorem endpointOnly_perstSlAssert : EndpointOnly .perstSlAssert :=
  endpointOnly_of_onAll execPerstSlAssert (fun _ => rfl) fun m c => .ite (.refl m c) <|
    eptReset_keeps m <| (((EptFrame.refl c).eptLinkDown.setFlag F.EPT_STAT_perst true).bump F.EPT_RST_CNT_perst 1).readsDrop.withEpt _

theorem endpointOnly_perstSlDeassert (speed : Fin 5) (width : Fin 3) : EndpointOnly (.perstSlDeassert speed width) :=
  endpointOnly_of_onCtl (execPerstSlDeassert speed width) (fun _ => rfl) fun _ c => (EptFrame.refl c).ite <|
    ((((EptFrame.refl c).setFlag F.EPT_STAT_perst false).eptLinkUp _ _).withEpt _).intxUpdate

theorem eptOffset_msixControl (entry : Fin 6) : EptOffset (Reg.EPT_MSIX entry 3) := by
  refine ⟨(0x1800000, 0x1900000), by decide, ?_⟩
  simp only [Reg.EPT_MSIX]
  omega

theorem endpointOnly_msixUnmask (entry : Fin 6) : EndpointOnly (.msixUnmask entry) :=
  endpointOnly_of_onCtl (execMsixUnmask entry) (fun _ => rfl) fun _ c => (EptFrame.refl c).ite <|
    ((EptFrame.refl c).wr _ (eptOffset_msixControl entry)).retryMessages

theorem endpointOnly_pcieConfigRequest (write : Bool) (reg : Fin 1024) (be : BitVec 4) (value : Word) :
    EndpointOnly (.pcieConfigRequest write reg be value) :=
  endpointOnly_of_onCtl (execPcieConfigRequest write reg be value) (fun _ => rfl) fun _ c =>
    have same := EptFrame.refl c
    same.ite <| (same.emit _).ite <| ((same.cfgWrite _ be value).emit _).ite (same.emit _)

/-- Settles O50: every event is a chain of updates of the endpoint's block, the mailbox, the sessions, the DMA channels that wait for host
memory, and registers in the MGT and EPT windows, and a function reset empties the mailbox window. -/
theorem endpointEventsLeaveStorage : Obligations.EndpointEventsLeaveStorage := by
  unfold Obligations.EndpointEventsLeaveStorage
  have same := EptFrame.refl
  refine ⟨?bmeClear, ?bmeSet, ?flrStart, ?flrDone, endpointOnly_perstSlAssert, endpointOnly_perstSlDeassert, ?hotReset, ?linkDown,
    ?d3hot, ?d0, fun e a hdr => ?aer, endpointOnly_msixUnmask, endpointOnly_pcieConfigRequest⟩
  case bmeClear => exact endpointOnly_of_onCtl execBmeClear (fun _ => rfl) fun _ c => (same c).bmeClear.ite (same c)
  case bmeSet => exact endpointOnly_of_onCtl execBmeSet (fun _ => rfl) fun _ c => (same c).bmeSet.ite (same c)
  case flrStart => exact endpointOnly_of_onCtl execFunctionLevelReset (fun _ => rfl) fun _ c => (same c).flrStart.ite (same c)
  case flrDone => exact endpointOnly_of_onAll execFlrDone (fun _ => rfl) fun m c => (eptReset_keeps m (same c)).ite (.refl m c)
  case hotReset => exact fun speed width => endpointOnly_of_onAll (execHotReset speed width) (fun _ => rfl) (linkReset_keeps speed width)
  case linkDown => exact fun speed width => endpointOnly_of_onAll (execEndpointLinkDown speed width) (fun _ => rfl) (linkReset_keeps speed width)
  case d3hot => exact endpointOnly_of_onCtl execPmcsrD3hotEnter (fun _ => rfl) fun _ c => (same c).d3hot.ite (same c)
  case d0 => exact endpointOnly_of_onCtl execPmcsrD0Return (fun _ => rfl) fun _ c => (same c).d0.ite (same c)
  case aer => exact endpointOnly_of_onCtl (execAerError e a hdr) (fun _ => rfl) fun _ c => (same c).ite ((same c).aerLog e a hdr)

end Sys2Proof.Machine
end

section
/-! The command queue: a step runs the front command, and none waiting leaves the state (O37 to O39). -/

namespace Sys2Proof.Machine
set_option Elab.async false

/-- Settles O37: the queue's front is the command given. -/
theorem stepRunsFrontCommand : Obligations.StepRunsFrontCommand := by
  unfold Obligations.StepRunsFrontCommand
  exact fun i q s => step_front _ i q rfl

/-- Settles O38: a step looks at the queue first. -/
theorem emptyQueueIdles : Obligations.EmptyQueueIdles := by
  unfold Obligations.EmptyQueueIdles
  intro s empty
  rw [step, empty]

/-- FW_REJECT answers, and may then end the trial. -/
theorem execFwReject_answers (src : ChiebSrc) (s : State) : ∃ t, execFwReject src s = .next t ∧ t.pending = s.pending := by
  unfold execFwReject chiebRow onAll
  dsimp only
  split
  · exact ⟨_, rfl, rfl⟩
  · exact ⟨_, rfl, rfl⟩

/-- Settles O39: each command's meaning is an effect over the memories, registers and blocks, lifted to the state; FW_REJECT is two such. -/
theorem everyCommandAnswers : Obligations.EveryCommandAnswers := by
  unfold Obligations.EveryCommandAnswers
  intro i s
  cases i with
  | fwReject src => exact execFwReject_answers src s
  | _ => exact ⟨_, rfl, rfl⟩

end Sys2Proof.Machine
end

section
/-! A change of mode keeps the mode before (R46, R47): O49. -/

namespace Sys2Proof.Machine
set_option Elab.async false

theorem Ctl.msw_ite {p : Prop} [Decidable p] {c d e : Ctl} (yes : c.msw = e.msw) (no : d.msw = e.msw) : (if p then c else d).msw = e.msw := by
  split
  · exact yes
  · exact no

/-- The register of the mode after a change of mode: the previous and the new mode are put into it, and nothing after moves it. -/
theorem Ctl.setMode_msw {c : Ctl} {m : Mode} (running : c.power.stop = none) (change : c.mode ≠ m) :
    ∃ d : Ctl, (c.setMode m).msw = ((d.set F.GLB_MODE_STAT_prev_mode c.mode.code).set F.GLB_MODE_STAT_mode m.code).msw := by
  have change' : ¬ (c.mode = m ∨ c.power.stop.isSome = true) := by simp [running, change]
  unfold Ctl.setMode
  rw [if_neg change']
  extract_lets c1 c2 c3 ms c4 c5
  refine ⟨c1, ?_⟩
  have entered : c3.msw = ((c1.set F.GLB_MODE_STAT_prev_mode c.mode.code).set F.GLB_MODE_STAT_mode m.code).msw := by
    rw [Ctl.intSet_msw, Ctl.intxUpdate_msw]
  have standby : c4.msw = c3.msw := Ctl.msw_ite (Ctl.msw_set_off _ _ _ (by decide)) rfl
  have serve : c5.msw = c4.msw := Ctl.msw_ite (Ctl.msw_set_off _ _ _ (by decide)) rfl
  have role : c5.roleNote.msw = c5.msw := rfl
  rw [Ctl.anaUpdate_msw, role, serve, standby, entered]

/-- Settles O49: the two modes are fields of one register beside each other. -/
theorem modeChangeKeepsPrevious : Obligations.ModeChangeKeepsPrevious := by
  unfold Obligations.ModeChangeKeepsPrevious
  intro c m running change
  refine ⟨Ctl.setMode_mode c m running, ?_⟩
  obtain ⟨d, register⟩ := Ctl.setMode_msw running change
  calc (c.setMode m).get F.GLB_MODE_STAT_prev_mode
      = ((d.set F.GLB_MODE_STAT_prev_mode c.mode.code).set F.GLB_MODE_STAT_mode m.code).get F.GLB_MODE_STAT_prev_mode :=
        congrArg (getBits · _ _) register
    _ = (d.set F.GLB_MODE_STAT_prev_mode c.mode.code).get F.GLB_MODE_STAT_prev_mode :=
        Ctl.get_set_beside _ _ _ _ (by decide) (by decide)
    _ = c.mode.code := Ctl.get_set_val _ _ _ (by decide) (Mode.code_lt c.mode)

end Sys2Proof.Machine
end

section
/-! Rows that may not store leave every memory: O59. `LeavesMem` is proved once per kind of row, and once per engine for the steps. -/

namespace Sys2Proof.Machine
set_option Elab.async false

/-- Whatever state an outcome leaves holds the memories of `s`. -/
structure LeavesMem (s : State) (o : Host.Outcome State Fault Refusal) : Prop where
  next : ∀ t, o = .next t → t.mem = s.mem

/-- The engine of a step stores nothing, whatever the step. -/
def ActStoresNothing (act : Issued → Mem → Ctl → Act) : Prop := ∀ i m c, (act i m c).m = m

/-! ### Engines -/

theorem bpmAllocAct_stores_nothing (tag : Nat) (ue race : Bool) : ActStoresNothing (bpmAllocAct tag ue race) := by
  intro i m c
  unfold bpmAllocAct
  (repeat' split) <;> rfl

theorem bpmRefAct_stores_nothing (tag : Nat) (ue : Bool) : ActStoresNothing (bpmRefAct tag ue) := by
  intro i m c
  simp only [bpmRefAct]
  (repeat' split) <;> rfl

theorem bpmDropAct_stores_nothing (tag : Nat) (ue : Bool) : ActStoresNothing (bpmDropAct tag ue) := by
  intro i m c
  simp only [bpmDropAct]
  (repeat' split) <;> rfl

theorem bpmReleaseAct_stores_nothing (tag : Nat) (ue : BitVec 8) : ActStoresNothing (bpmReleaseAct tag ue) := by
  intro i m c
  unfold bpmReleaseAct
  (repeat' split) <;> rfl

theorem dqeWriteAct_stores_nothing (tag : Nat) : ActStoresNothing (dqeWriteAct tag) := by
  intro i m c
  simp only [dqeWriteAct]
  (repeat' split) <;> rfl

theorem crcChkAct_stores_nothing (tag : Nat) : ActStoresNothing (crcChkAct tag) := by
  intro i m c
  simp only [crcChkAct]
  (repeat' split) <;> rfl

theorem crmFillAct_stores_nothing (tag : Nat) : ActStoresNothing (crmFillAct tag) := by
  intro i m c
  simp only [crmFillAct]
  (repeat' split) <;> rfl

/-- An insertion of a grain that was read in part is a fill. -/
theorem crmInsertAct_stores_nothing (tag : Nat) : ActStoresNothing (crmInsertAct tag) := by
  intro i m c
  have fill := crmFillAct_stores_nothing tag i m c
  simp only [crmInsertAct]
  (repeat' split) <;> simp only [fill, Act.refuse, Act.ok]

theorem xptPushAct_stores_nothing (tag : Nat) : ActStoresNothing (xptPushAct tag) := by
  intro i m c
  simp only [xptPushAct]
  (repeat' split) <;> rfl

theorem peerWriteAct_stores_nothing (tag : Nat) : ActStoresNothing (peerWriteAct tag) := by
  intro i m c
  unfold peerWriteAct
  (repeat' split) <;> rfl

theorem peerSyncAct_stores_nothing (tag : Nat) : ActStoresNothing (peerSyncAct tag) := by
  intro i m c
  simp only [peerSyncAct]
  (repeat' split) <;> rfl

theorem swcEnqAct_stores_nothing (tag : Nat) : ActStoresNothing (swcEnqAct tag) := by
  intro i m c
  simp only [swcEnqAct]
  (repeat' split) <;> rfl

/-! ### The issue of a step -/

section
variable (m : Mem) (c : Ctl) (tag eng op : Nat) (poisonOk : Bool) {act : Issued → Mem → Ctl → Act} (nothing : ActStoresNothing act)
include nothing

/-- A step that its engine carries out stores what its action stores; every other issue stores nothing. -/
theorem issueAt_mem (pick : Issued → Option Nat) : (issueAt pick m c tag eng op poisonOk act).1 = m := by
  simp only [issueAt]
  (repeat' split) <;> simp only [Act.late_m, nothing _ _ _]

theorem issue_mem : (issue m c tag eng op poisonOk act).1 = m := issueAt_mem m c tag eng op poisonOk nothing _

theorem issueUnless_mem (hold : Issued → Bool) : (issueUnless hold m c tag eng op poisonOk act).1 = m := by
  unfold issueUnless
  (repeat' split) <;> simp only [issue_mem m c tag eng op poisonOk nothing]

theorem dqeIssue_mem (write : Bool) : (dqeIssue op write act tag m c).1 = m := by
  simp only [dqeIssue]
  (repeat' split) <;> simp only [issueAt_mem _ _ _ _ _ _ nothing]

end

theorem evtIssue_mem (m : Mem) (c : Ctl) (tag op : Nat) (wait : Issued → Ctl → Ctl) : (evtIssue m c tag op wait).1 = m := by
  have nothing : ActStoresNothing fun _ m c => .ok m c := fun _ _ _ => rfl
  unfold evtIssue
  (repeat' split) <;> simp only [issue_mem m c tag _ op true nothing]

/-! ### Capsules of hosts -/

/-- Of the admin commands a Chieb request alone stores. -/
theorem adminDo_mem {x : AdminCap} (op : x.op ≠ .chiebRequest) (k : Nat) (a : Assoc) (m : Mem) (c : Ctl) : (adminDo x k a m c).1 = m := by
  obtain ⟨listed, cmd, look⟩ := x
  cases listed with
  | chiebRequest => exact absurd rfl op
  | _ => rfl

theorem adminArrive_mem {x : AdminCap} (op : x.op ≠ .chiebRequest) (hit : Assoc → Bool) (m : Mem) (c : Ctl) :
    (adminArrive x hit m c).1 = m := by
  simp only [adminArrive, adminTake, adminAccept, adminStart]
  (repeat' split) <;> simp only [adminDo_mem op]

/-! ### The kinds of row -/

section
variable (s : State)

theorem onCtl_leavesMem (f : Mem → Ctl → Ctl) : LeavesMem s (onCtl f s) := by
  refine ⟨fun t next => ?_⟩
  obtain ⟨-, mem, -⟩ := onCtl_next next
  exact mem

theorem connectRow_leavesMem (admin : Bool) (x : ConnectCmd) : LeavesMem s (connectRow admin x s) := onCtl_leavesMem s _

theorem tempRow_leavesMem (n q : Nat) (f : Ctl → Ctl) : LeavesMem s (tempRow n q f s) := onCtl_leavesMem s _

theorem miRow_leavesMem (eid : Nat) (f : Ctl → MiRsp × Ctl) : LeavesMem s (miRow eid f s) := onCtl_leavesMem s _

theorem spdmReq_leavesMem (who : Fin 257) (f : SpdmPeer → Ctl → Ctl) : LeavesMem s (spdmReq who f s) := onCtl_leavesMem s _

theorem spdmAfter_leavesMem (who : Fin 257) (f : SpdmPeer → Ctl → Ctl) : LeavesMem s (spdmAfter who f s) := spdmReq_leavesMem s ..

theorem sessionReq_leavesMem (session : Nat) (f : SpdmSess → Ctl → Ctl) : LeavesMem s (sessionReq session f s) := onCtl_leavesMem s _

theorem onAll_leavesMem {f : Mem → Ctl → Mem × Ctl} (nothing : ∀ m c, (f m c).1 = m) : LeavesMem s (onAll f s) := by
  refine ⟨fun t next => ?_⟩
  obtain ⟨-, mem, -⟩ := onAll_next next
  exact mem.trans (nothing _ _)

theorem stepRow_leavesMem {tag eng op : Nat} {poisonOk : Bool} {act : Issued → Mem → Ctl → Act} (nothing : ActStoresNothing act) :
    LeavesMem s (onAll (fun m c => issue m c tag eng op poisonOk act) s) :=
  onAll_leavesMem s fun m c => issue_mem m c tag eng op poisonOk nothing

theorem adminRow_leavesMem {x : AdminCap} (hit : Assoc → Bool) (op : x.op ≠ .chiebRequest) : LeavesMem s (adminRow x hit s) :=
  onAll_leavesMem s fun m c => adminArrive_mem op hit m c

theorem ioRow_leavesMem (kind : TagKind) (x : IoCmd) : LeavesMem s (ioRow kind x s) := by
  refine onAll_leavesMem s fun m c => ?_
  split
  · rfl
  · exact adminArrive_mem AdminOp.noConfusion ..

theorem peerRow_leavesMem {f : Mem → Ctl → Mem × Ctl} (nothing : ∀ m c, (f m c).1 = m) : LeavesMem s (peerRow f s) := by
  refine onAll_leavesMem s fun m c => ?_
  split
  · exact nothing m c
  · rfl

theorem witReply_leavesMem (req : Nat) (crcOk : Bool) {f : WitReq → Mem → Ctl → Mem × Ctl} (nothing : ∀ r m c, (f r m c).1 = m) :
    LeavesMem s (witReply req crcOk f s) := by
  refine onAll_leavesMem s fun m c => ?_
  dsimp only
  (repeat' split) <;> simp only [nothing]

theorem bayRow_leavesMem (b : Nat) {f : Mem → Ctl → Mem × Ctl} (nothing : ∀ m c, (f m c).1 = m) : LeavesMem s (bayRow b f s) := by
  refine onAll_leavesMem s fun m c => ?_
  split
  · exact nothing m c
  · rfl

/-! ### The rows that are of no kind, or whose action is written in the row -/

theorem execMirrorSyncComplete_leavesMem (blobs : List (Nat × List Byte)) : LeavesMem s (execMirrorSyncComplete blobs s) := by
  refine onAll_leavesMem s fun m c => ?_
  dsimp only
  (repeat' split) <;> rfl

theorem execNvmeDisconnect_leavesMem (conn cid : Nat) : LeavesMem s (execNvmeDisconnect conn cid s) := by
  refine onAll_leavesMem s fun m c => ?_
  split
  · rfl
  · exact adminArrive_mem AdminOp.noConfusion ..

theorem execBpmReleaseAll_leavesMem (tag : Nat) (ue : BitVec 8) : LeavesMem s (execBpmReleaseAll tag ue s) := by
  refine onAll_leavesMem s fun m c => ?_
  (repeat' split) <;> simp only [issue_mem _ _ _ _ _ _ (bpmReleaseAct_stores_nothing tag ue)]

theorem execDmaStepRun_leavesMem (tag : Nat) : LeavesMem s (execDmaStepRun tag s) := by
  refine stepRow_leavesMem s fun i m c => ?_
  split <;> rfl

theorem execCrmVerdict_leavesMem (tag : Nat) : LeavesMem s (execCrmVerdict tag s) := by
  refine stepRow_leavesMem s fun i m c => ?_
  (repeat' split) <;> rfl

theorem execCrmCommit_leavesMem (tag : Nat) : LeavesMem s (execCrmCommit tag s) := by
  refine stepRow_leavesMem s fun i m c => ?_
  (repeat' split) <;> rfl

theorem execCrmInval_leavesMem (tag : Nat) : LeavesMem s (execCrmInval tag s) := by
  refine stepRow_leavesMem s fun i m c => ?_
  dsimp only
  (repeat' split) <;> rfl

theorem execHcpComplete_leavesMem (tag : Nat) : LeavesMem s (execHcpComplete tag s) := by
  have nothing : ActStoresNothing fun _ m c => .ok m (c.hcpComplete tag) := fun _ _ _ => rfl
  refine onAll_leavesMem s fun m c => ?_
  dsimp only
  (repeat' split) <;> simp only [issue_mem _ _ _ _ _ _ nothing]

theorem execRegrindStart_leavesMem : LeavesMem s (execRegrindStart s) := by
  refine onAll_leavesMem s fun m c => ?_
  simp only [rgStart]
  (repeat' split) <;> rfl

theorem execPeerConfig_leavesMem (txn : Nat) (writes : List (Nat × Word)) (ops : List CfgOp) (atNs : Option Nat) :
    LeavesMem s (execPeerConfig txn writes ops atNs s) := by
  refine peerRow_leavesMem s fun m c => ?_
  split <;> rfl

theorem execSeatAssert_leavesMem (bay : Fin 24) : LeavesMem s (execSeatAssert bay s) := by
  refine bayRow_leavesMem s bay fun m c => ?_
  split <;> rfl

theorem execSeatDebounceDone_leavesMem (bay : Fin 24) (v : BaySample) : LeavesMem s (execSeatDebounceDone bay v s) := by
  refine bayRow_leavesMem s bay fun m c => ?_
  split <;> rfl

theorem execRampComplete_leavesMem (bay : Fin 24) (v : BaySample) : LeavesMem s (execRampComplete bay v s) := by
  refine bayRow_leavesMem s bay fun m c => ?_
  split <;> rfl

theorem execCurrentLimitEnter_leavesMem (bay : Fin 24) (v : BaySample) : LeavesMem s (execCurrentLimitEnter bay v s) := by
  refine bayRow_leavesMem s bay fun m c => ?_
  split <;> rfl

theorem execCurrentLimitRelease_leavesMem (bay : Fin 24) (v : BaySample) : LeavesMem s (execCurrentLimitRelease bay v s) := by
  refine bayRow_leavesMem s bay fun m c => ?_
  split <;> rfl

theorem execFastTripHoldEnd_leavesMem (bay : Fin 24) : LeavesMem s (execFastTripHoldEnd bay s) := by
  refine bayRow_leavesMem s bay fun m c => ?_
  split <;> rfl

theorem execPerstReleaseTimer_leavesMem (bay : Fin 24) : LeavesMem s (execPerstReleaseTimer bay s) := by
  refine bayRow_leavesMem s bay fun m c => ?_
  split <;> rfl

theorem execBayShutdownDone_leavesMem (bay : Fin 24) (timeout : Bool) : LeavesMem s (execBayShutdownDone bay timeout s) := by
  refine bayRow_leavesMem s bay fun m c => ?_
  split <;> rfl

theorem execBayGateOffDelay_leavesMem (bay : Fin 24) (v : BaySample) : LeavesMem s (execBayGateOffDelay bay v s) := by
  refine bayRow_leavesMem s bay fun m c => ?_
  split <;> rfl

theorem execBayCycleRestart_leavesMem (bay : Fin 24) : LeavesMem s (execBayCycleRestart bay s) := by
  refine bayRow_leavesMem s bay fun m c => ?_
  split <;> rfl

end

/-- A command that may not store leaves the memories: first the rows that share a kind, then the others in the order of the command set. -/
theorem exec_leavesMem {i : Instr} (keeps : mayStore i = false) (s : State) : LeavesMem s (exec i s) := by
  unfold exec
  cases i with
  | firstRailRise | powerOnResetRelease | carafeScanDone | peerAbsentTimeout | standbyEnter | driveLinkTrained | networkPortsUp
  | mirrorSyncAbandon | serviceEntry | pwrfailAccept | pwrfailGlitch | lifeRecord | glbPdCtrlWrite | domainTransitionDone | d07DrainDone
  | d07DrainTimeout | quiesceDone | ptpAnnounce | ptpDelayResp | ptpPdelayReq | announceTimeout | syncTimeout | syncLostExpire | timSyncLostWrite
  | ppsEdge | ref10mOutOfTolerance | connectTimeout | shutdownComplete | selfTestDone | keepAliveTimeout | apstIdleTimer | evtWaitTimeout
  | evtDelayExpire | stepTimerExpire | carafeHeaderPersistent | queueEntryAppend | queueEntrySent | linkUp | portHoldExpire | bpmMgtAlloc
  | bpmMgtRef | bpmMgtDeref | bpmMgtFree | bstLoadDataWrite | bstInstall | bstRetire | engineDisable | engineDisableAck | engineEnable | dmaStart
  | dmaStop | dmaClrErr | dmaShadowArm | dmaShadowWrite | crmInvalidateNs | crmInvalidateAll | crmSweepDone | crmInitDone | crmLimitEvict
  | gatherDeadlineExpire | flushBrewStart | memberCommandTimeout | budgetRefill | stripeLockGrant | progressRecordWrite | cuppingPassStart
  | kpLoad | kpZeroiseSlot | kpZeroisePage | zeroiseComplete | skekRewrapDone | tlsRecordEncrypt | tlsRecordDecrypt | netPortDown | netPortUp
  | arpRequest | neighborSolicitation | icmpEcho | frameDiscard | pauseFrameReceive | pfcFrameReceive | pfcPauseExpire | pfcXoffSend
  | pfcXoffRefresh | receiveBufferOverflow | roceConnectRequest | roceSendReceive | roceAckReceive | roceNakReceive | roceAckTimeout
  | ceMarkedReceive | cnpReceive | rateIncreaseTimer | tcpSyn | tcpRtoExpire | tlsClientHello | egressFrameSelect | shaperRefill
  | peerFlitReceive | witnessTick | witnessRequestTimeout | witnessLost | acquireRetryTimer | leaseExpire | handoverSyncReached | rampSlotGrant
  | bayCmdOn | bayCmdOff | bayCmdClear | bayCmdCycle | bayPs2OvrWrite | bayCalDone | handleExpire | txnExpire | bar0StagingWrite | pcrWriteDone
  | pcrTokenRefill | testDone | pcieConfigRequest | pmcsrD3hotEnter | pmcsrD0Return | bmeClear | bmeSet | functionLevelReset | perstSlDeassert
  | aerError | msixUnmask | fwSlotWritten | activationWithoutReset | activationDrainDeadline | pairedActivation | trialConfirm
  | spdmSignatureDone | ref10mInWithinTolerance | targetFormatDone | bar0Read | mctpEndpointAssigned | cmDisconnectRequest => exact onCtl_leavesMem s _
  | thermalWarning | thermalThrottleStart | throttleStep | thermalTrip => exact tempRow_leavesMem s ..
  | nvmeConnectAdmin | nvmeConnectIo => exact connectRow_leavesMem s ..
  | miReadDataStructure | miSubsystemHealthPoll | miControllerHealthPoll | miConfigurationGet | miConfigurationSet =>
    exact miRow_leavesMem s ..
  | spdmGetVersion | spdmGetCapabilities | spdmNegotiateAlgorithms | spdmFinish | spdmRespondIfReady => exact spdmReq_leavesMem s ..
  | spdmGetDigests | spdmGetCertificate | spdmChallenge | spdmGetMeasurements | spdmKeyExchange => exact spdmAfter_leavesMem s ..
  | spdmHeartbeat | spdmKeyUpdate | spdmEndSession => exact sessionReq_leavesMem s ..
  | nvmePropertyGet | propertySetCcEnClear | propertySetCcEnSet | propertySetShutdown | nvmeGetLogPage | nvmeIdentify | nvmeAbort
  | nvmeGetFeatures | setFeaturesPowerManagement | setFeaturesNumberOfQueues | setFeaturesAsyncEventConfig | setFeaturesApst
  | setFeaturesKeepAliveTimer | setFeaturesHostBehavior | setFeaturesOrderedQueues | setFeaturesCremaHints | setFeaturesNotChangeable
  | nvmeAsyncEventRequest | nvmeFirmwareImageDownload | nvmeFirmwareCommit | nvmeDeviceSelfTest | nvmeKeepAlive | chiebReplyC2h
  | invalidCommandOpcode => exact adminRow_leavesMem s _ AdminOp.noConfusion
  | nvmeFlush | nvmeRead | nvmeWrite | nvmeWriteZeroes | nvmeDatasetManagement => exact ioRow_leavesMem s ..
  | peerHello | peerWack | peerEpochInfo | peerEpochQuery | peerKey | peerKeyAck | peerFencing | peerHandover =>
    exact peerRow_leavesMem s fun _ _ => rfl
  | witnessRefuse | witnessState => exact witReply_leavesMem s _ _ fun _ _ _ => rfl
  | evtWaitToken | evtDelay => exact onAll_leavesMem s fun _ _ => evtIssue_mem ..
  | peerWriteStep => exact onAll_leavesMem s fun _ _ => issue_mem _ _ _ _ _ _ (peerWriteAct_stores_nothing _)
  | peerSyncStep => exact onAll_leavesMem s fun _ _ => issue_mem _ _ _ _ _ _ (peerSyncAct_stores_nothing _)
  | hcpFail => exact onAll_leavesMem s fun _ _ => issue_mem _ _ _ _ _ _ fun _ _ _ => rfl
  | xptPush => exact onAll_leavesMem s fun _ _ => issue_mem _ _ _ _ _ _ (xptPushAct_stores_nothing _)
  | bpmAlloc => exact stepRow_leavesMem s (bpmAllocAct_stores_nothing _ _ _)
  | bpmRef => exact stepRow_leavesMem s (bpmRefAct_stores_nothing _ _)
  | bpmDrop => exact stepRow_leavesMem s (bpmDropAct_stores_nothing _ _)
  | crcChk => exact stepRow_leavesMem s (crcChkAct_stores_nothing _)
  | crmInsert => exact stepRow_leavesMem s (crmInsertAct_stores_nothing _)
  | crmFill => exact stepRow_leavesMem s (crmFillAct_stores_nothing _)
  | swcEnq => exact stepRow_leavesMem s (swcEnqAct_stores_nothing _)
  | dqeWrite => exact onAll_leavesMem s fun _ _ => dqeIssue_mem _ _ _ _ (dqeWriteAct_stores_nothing _) _
  | carIndex => exact onAll_leavesMem s fun _ _ => issueUnless_mem _ _ _ _ _ _ (fun _ _ _ => rfl) _
  | mirrorSyncComplete => exact execMirrorSyncComplete_leavesMem s _
  | nvmeDisconnect => exact execNvmeDisconnect_leavesMem s ..
  | bpmReleaseAll => exact execBpmReleaseAll_leavesMem s ..
  | dmaStepRun => exact execDmaStepRun_leavesMem s _
  | crmVerdict => exact execCrmVerdict_leavesMem s _
  | crmCommit => exact execCrmCommit_leavesMem s _
  | crmInval => exact execCrmInval_leavesMem s _
  | hcpComplete => exact execHcpComplete_leavesMem s _
  | regrindStart => exact execRegrindStart_leavesMem s
  | peerConfig => exact execPeerConfig_leavesMem s ..
  | seatAssert => exact execSeatAssert_leavesMem s _
  | seatDebounceDone => exact execSeatDebounceDone_leavesMem s ..
  | rampComplete => exact execRampComplete_leavesMem s ..
  | currentLimitEnter => exact execCurrentLimitEnter_leavesMem s ..
  | currentLimitRelease => exact execCurrentLimitRelease_leavesMem s ..
  | fastTripHoldEnd => exact execFastTripHoldEnd_leavesMem s _
  | perstReleaseTimer => exact execPerstReleaseTimer_leavesMem s _
  | bayShutdownDone => exact execBayShutdownDone_leavesMem s ..
  | bayGateOffDelay => exact execBayGateOffDelay_leavesMem s ..
  | bayCycleRestart => exact execBayCycleRestart_leavesMem s _
  | followerKeeperSample => exact bayRow_leavesMem s _ fun _ _ => rfl
  | _ => exact absurd keeps Bool.noConfusion

/-- Settles O59, by the kinds of row. -/
theorem otherRowsStoreNothing : Obligations.OtherRowsStoreNothing := by
  unfold Obligations.OtherRowsStoreNothing
  exact fun i s t keeps next => (exec_leavesMem keeps s).next t next

end Sys2Proof.Machine
end

section
/-! SUPPORT. Frames of rows: what an effect may change, as the blocks `upd` takes from its result and the registers in the windows `ws`. -/

namespace Sys2Proof.Machine
set_option Elab.async false

/-- An offset in one of the windows. -/
abbrev InWindows (ws : List (Nat × Nat)) (o : Nat) : Prop := ∃ w ∈ ws, w.1 ≤ o ∧ o < w.2

/-- `d` is `c` after something that changes at most the blocks that `upd` takes from `d`, and registers in the windows. -/
structure Ctl.Framed (upd : Ctl → Ctl → Ctl) (ws : List (Nat × Nat)) (c d : Ctl) : Prop where
  blocks : d = upd c d
  within : RegsWithin ws c d

section
variable {upd : Ctl → Ctl → Ctl} {ws : List (Nat × Nat)}

/-- Two changes after each other, for an `upd` that takes the same blocks both times. -/
theorem Ctl.Framed.trans {c d e : Ctl} (first : c.Framed upd ws d) (second : d.Framed upd ws e)
    (again : ∀ c d e, upd (upd c d) e = upd c e := by exact fun _ _ _ => rfl) : c.Framed upd ws e where
  blocks := by
    have twice := again c d e
    rw [← first.blocks, ← second.blocks] at twice
    exact twice
  within o outside := (second.within o outside).trans (first.within o outside)

theorem regsWithin_of_regs_eq {c d : Ctl} (same : d.regs = c.regs) : RegsWithin ws c d := fun o _ => Ctl.rd_congr same o

theorem regsWithin_wr (c : Ctl) {o : Nat} (w : Word) (inside : InWindows ws o) : RegsWithin ws c (c.wr o w) := by
  intro p outside
  obtain ⟨win, listed, low, high⟩ := inside
  have away := outside win listed
  exact Ctl.rd_wr_other c w (by omega)

/-- Of the registers an event moves the sample ring's alone. -/
theorem regsWithin_tev (ring : InWindows ws Reg.TEL_SMP_STAT) (c : Ctl) (b : TelBlk) (ev inst : Nat) (ten : Option Nat)
    (ctx : Option (Nat × Nat × Nat)) (amt : Nat) : RegsWithin ws c (c.tev b ev inst ten ctx amt) := by
  intro p outside
  obtain ⟨win, listed, low, high⟩ := ring
  have away := outside win listed
  exact Ctl.tev_rd_off c b ev inst ten ctx amt p (by omega)

theorem Ctl.Framed.ite {p : Prop} [Decidable p] {c d e : Ctl} (yes : c.Framed upd ws d) (no : c.Framed upd ws e) :
    c.Framed upd ws (if p then d else e) := by
  split
  · exact yes
  · exact no

/-- What the frame says of a next state. -/
def State.FramedBy (upd : Ctl → Ctl → Ctl) (ws : List (Nat × Nat)) (s t : State) : Prop :=
  t.mem = s.mem ∧ t.pending = s.pending ∧ t.c = upd s.c t.c ∧ RegsWithin ws s.c t.c

theorem framedBy_of_onAll {s t : State} {f : Mem → Ctl → Mem × Ctl} (next : onAll f s = .next t) (mem : (f s.mem s.c).1 = s.mem)
    (frame : s.c.Framed upd ws (f s.mem s.c).2) : s.FramedBy upd ws t := by
  obtain ⟨ctl, memory, pending⟩ := onAll_next next
  rw [← ctl] at frame
  exact ⟨memory.trans mem, pending, frame.blocks, frame.within⟩

/-- A row whose meaning `g` is an effect over the registers and blocks that stays in the frame. -/
theorem frames_of_onCtl {row : Instr} (g : State → Host.Outcome State Fault Refusal) {f : Mem → Ctl → Ctl} (effect : ∀ s, g s = onCtl f s)
    (frame : ∀ (m : Mem) (c : Ctl), c.Framed upd ws (f m c)) (arm : ∀ s, exec row s = g s := by exact fun _ => rfl) :
    Frames row ws upd := by
  intro s t next
  obtain ⟨ctl, mem, pending⟩ := onCtl_next ((arm s).trans (effect s) ▸ next)
  have kept := ctl ▸ frame s.mem s.c
  exact ⟨mem, pending, kept.blocks, kept.within⟩

end

end Sys2Proof.Machine
end

section
/-! SUPPORT. The frame of network time: what losing or regaining a reference may change (04_network_time.md, R63 to R75). -/

namespace Sys2Proof.Machine
set_option Elab.async false

/-- `c` with the blocks that a row of network time may change taken from `d`. -/
def timeUpd (c d : Ctl) : Ctl := { c with regs := d.regs, out := d.out, time := d.time, bst := { c.bst with chans := d.bst.chans } }

/-- The windows of TIM and of the network ports (Table 19.1). -/
def timeWindows : List (Nat × Nat) := [(0x100000, 0x200000), (0x1000000, 0x1400000)]

abbrev Ctl.TimeFrame (c d : Ctl) : Prop := c.Framed timeUpd timeWindows d

namespace Ctl.TimeFrame

theorem refl (c : Ctl) : c.TimeFrame c := ⟨rfl, fun _ _ => rfl⟩

section
variable {c d : Ctl} (h : c.TimeFrame d)
include h

theorem wr {o : Nat} (w : Word) (inside : InWindows timeWindows o) : c.TimeFrame (d.wr o w) := h.trans ⟨rfl, regsWithin_wr d w inside⟩

theorem set (f : Fld) (v : Nat) (inside : InWindows timeWindows f.off := by decide) : c.TimeFrame (d.set f v) := h.wr _ inside

theorem setFlag (f : Fld) (b : Bool) (inside : InWindows timeWindows f.off := by decide) : c.TimeFrame (d.setFlag f b) := h.wr _ inside

theorem bump (f : Fld) (n : Nat) (inside : InWindows timeWindows f.off := by decide) : c.TimeFrame (d.bump f n) := h.wr _ inside

theorem emit (o : Output) : c.TimeFrame (d.emit o) := h.trans ⟨rfl, fun _ _ => rfl⟩

theorem withTime (x : Time) : c.TimeFrame { d with time := x } := h.trans ⟨rfl, fun _ _ => rfl⟩

/-! ### DT and DNT -/

theorem dmaEvents (e k : Nat) : c.TimeFrame (d.dmaEvents e k) := h.trans ⟨rfl, fun _ _ => rfl⟩

theorem dntTo (t : Nat) : c.TimeFrame (d.dntTo t) := (h.withTime _).dmaEvents ..

theorem passTo (n t : Nat) : c.TimeFrame (d.passTo n t) := ((h.withTime _).dmaEvents ..).dntTo t

theorem reach (t : Nat) : c.TimeFrame (d.reach t) := (h.passTo ..).ite h

theorem reachDnt (t : Nat) : c.TimeFrame (d.reachDnt t) := (h.passTo ..).ite h

/-! ### The gates of the Pour lists (R315, R318) -/

theorem gclShow {np : Nat} (port : np < 24) : c.TimeFrame (d.gclShow np) := by
  have inside : InWindows timeWindows (Reg.NET_GCL_STAT np) := ⟨(0x1000000, 0x1400000), by decide, by simp only [Reg.NET_GCL_STAT]; omega⟩
  unfold Ctl.gclShow
  split
  · exact (h.set _ _ inside).set _ _ inside
  · exact (h.set _ _ inside).set _ _ inside

theorem gclShowAll : c.TimeFrame d.gclShowAll := List.foldlRecOn _ _ h fun _ keeps _ port => keeps.gclShow (List.mem_range.mp port)

/-! ### Sync states (R65, R69, R70) and the references (R67) -/

theorem setSync (st : Nat) : c.TimeFrame (d.setSync st) := (h.set F.TIM_SYNC_STAT_state st).setFlag F.TIM_SYNC_STAT_unsync _

theorem todEval : c.TimeFrame d.todEval := h.set F.TIM_SYNC_STAT_set _

theorem enterUnsync : c.TimeFrame d.enterUnsync := (h.setSync _).todEval.gclShowAll

theorem enterHoldover : c.TimeFrame d.enterHoldover := ((h.setSync _).withTime _).ite h

theorem lostCount : c.TimeFrame d.lostCount := h.withTime _

theorem lostCheck : c.TimeFrame d.lostCheck := h.lostCount.enterUnsync.ite h

theorem refNote : c.TimeFrame d.refNote := (h.setFlag F.TIM_SYNC_STAT_ref_ok _).setFlag F.TIM_SYNC_STAT_pps_ok _

theorem ptpSelect : c.TimeFrame d.ptpSelect := by
  unfold Ctl.ptpSelect
  split
  · exact h.set F.TIM_SYNC_STAT_port _
  · exact h.ite h.enterHoldover

theorem todFire (t : Nat) : c.TimeFrame (d.todFire t) := (h.withTime _).todEval

end

end Ctl.TimeFrame

end Sys2Proof.Machine
end

section
/-! Rows of network time change time only (R63 to R75): O53. -/

namespace Sys2Proof.Machine
set_option Elab.async false

open Ctl (TimeFrame)

/-- With nothing of a lower rank due, what is ahead of an event is the instant's coming alone (R72). -/
theorem dntAhead_of_none_due {k t : Nat} {c : Ctl} (m : Mem) (alone : c.dntDue k t = []) : dntAhead k t m c = (m, c.reachDnt t) := by
  rw [dntAhead, alone]
  rfl

theorem dntRow_of_none_due {k t : Nat} {c : Ctl} (m : Mem) (f : Mem → Ctl → Mem × Ctl) (alone : c.dntDue k t = []) :
    dntRow k t f m c = f m (c.reachDnt t) := by
  rw [dntRow, dntAhead_of_none_due m alone]

theorem ppsEdge_timeFrame (dtNs : Nat) : Frames (.ppsEdge dtNs) timeWindows timeUpd := by
  refine frames_of_onCtl (execPpsEdge dtNs) (fun _ => rfl) fun _ c => ?_
  have counted := (((TimeFrame.refl c).reach dtNs).dmaEvents 67 1).lostCount
  exact counted.ite <| (((counted.withTime _).bump F.TIM_SYNC_STAT_pps_bad 1).refNote).ite ((counted.withTime _).dntTo _).refNote

theorem ptpAnnounce_timeFrame (np : Fin 24) (domain : Nat) (ether : Bool) (prio1 cls accuracy variance prio2 identity hops : Nat) (utc : Int) :
    Frames (.ptpAnnounce np domain ether prio1 cls accuracy variance prio2 identity hops utc) timeWindows timeUpd := by
  refine frames_of_onCtl (execPtpAnnounce np domain ether prio1 cls accuracy variance prio2 identity hops utc) (fun _ => rfl) fun _ c => ?_
  have same := TimeFrame.refl c
  exact same.ite <| (same.withTime _).ptpSelect.ite same

theorem ptpDelayResp_timeFrame (np : Fin 24) (domain : Nat) (ether : Bool) (received corr : Int) :
    Frames (.ptpDelayResp np domain ether received corr) timeWindows timeUpd := by
  refine frames_of_onCtl (execPtpDelayResp np domain ether received corr) (fun _ => rfl) fun _ c => (TimeFrame.refl c).ite ?_
  split
  · exact (TimeFrame.refl c).withTime _
  · exact TimeFrame.refl c

/-- A boundary of the time of day with nothing of a lower rank due. -/
theorem todBoundary_timeFrame {s t : State} (alone : s.c.dntDue 3 (s.c.todNext s.c.dntNs) = []) (next : exec .todBoundary s = .next t) :
    s.FramedBy timeUpd timeWindows t := by
  have row : onAll (fun m c => dntRow 3 (c.todNext c.dntNs) (fun m d => (m, d.todFire (c.todNext c.dntNs))) m c) s = .next t := next
  have fired := dntRow_of_none_due s.mem (fun m d => (m, d.todFire (s.c.todNext s.c.dntNs))) alone
  refine framedBy_of_onAll row (by rw [fired]) ?_
  rw [fired]
  exact ((TimeFrame.refl s.c).reachDnt _).todFire _

/-- Settles O53: each row is a chain of updates of the time block, the DMA channels that wait, and registers in the windows. -/
theorem timeRowsChangeTimeOnly : Obligations.TimeRowsChangeTimeOnly := by
  unfold Obligations.TimeRowsChangeTimeOnly
  have same := TimeFrame.refl
  refine ⟨?lost, ?limit, ?timeout, ?bad, ?good, ppsEdge_timeFrame, ptpAnnounce_timeFrame, ?announce, ptpDelayResp_timeFrame, ?pdelay,
    fun _ _ => todBoundary_timeFrame⟩
  case lost => exact frames_of_onCtl execSyncLostExpire (fun _ => rfl) fun _ c => ((same c).reach _).lostCount.enterUnsync.ite (same c)
  case limit =>
    exact fun limit => frames_of_onCtl (execTimSyncLostWrite limit) (fun _ => rfl) fun _ c =>
      ((same c).set F.TIM_SYNC_LOST_limit_s _).lostCheck.ite (same c)
  case timeout => exact frames_of_onCtl execSyncTimeout (fun _ => rfl) fun _ c => ((same c).withTime _).enterHoldover
  case bad => exact frames_of_onCtl execRef10mOutOfTolerance (fun _ => rfl) fun _ c => ((same c).withTime _).refNote
  case good => exact frames_of_onCtl execRef10mInWithinTolerance (fun _ => rfl) fun _ c => ((same c).withTime _).refNote
  case announce => exact fun np => frames_of_onCtl (execAnnounceTimeout np) (fun _ => rfl) fun _ c => ((same c).withTime _).ptpSelect
  case pdelay =>
    exact fun np domain ether => frames_of_onCtl (execPtpPdelayReq np domain ether) (fun _ => rfl) fun _ c => ((same c).emit _).ite (same c)

end Sys2Proof.Machine
end

section
/-! SUPPORT. The frame of a network port: what its frames may change (12_network_ports.md, R301 to R317). -/

namespace Sys2Proof.Machine
set_option Elab.async false

/-- `c` with the blocks that a row of a network port may change taken from `d`. -/
def netUpd (c d : Ctl) : Ctl :=
  { c with
    regs := d.regs, out := d.out, fv := d.fv, tel := d.tel, net := d.net, time := { c.time with dt := d.time.dt, dnt := d.time.dnt }
    bst := { c.bst with chans := d.bst.chans } }

/-- The window of the network ports (Table 19.1), and the sample ring's register. -/
def netWindows : List (Nat × Nat) := [(0x1000000, 0x1400000), regAt Reg.TEL_SMP_STAT]

abbrev Ctl.NetFrame (c d : Ctl) : Prop := c.Framed netUpd netWindows d

/-- The registers of a port lie in the window. -/
theorem inNetWindows_portStat {np : Nat} (port : np < 24) : InWindows netWindows (Reg.NET_PORT_STAT np) :=
  ⟨(0x1000000, 0x1400000), by decide, by simp only [Reg.NET_PORT_STAT]; omega⟩

theorem inNetWindows_portCnt {np k : Nat} (port : np < 24) (counter : k < 16) : InWindows netWindows (Reg.NET_PORT_CNT np k) :=
  ⟨(0x1000000, 0x1400000), by decide, by simp only [Reg.NET_PORT_CNT]; omega⟩

theorem inNetWindows_gclStat {np : Nat} (port : np < 24) : InWindows netWindows (Reg.NET_GCL_STAT np) :=
  ⟨(0x1000000, 0x1400000), by decide, by simp only [Reg.NET_GCL_STAT]; omega⟩

theorem inNetWindows_gclOper {np i : Nat} (port : np < 24) (entry : i < 512) : InWindows netWindows (Reg.NET_GCL_OPER np i) :=
  ⟨(0x1000000, 0x1400000), by decide, by simp only [Reg.NET_GCL_OPER]; omega⟩

namespace Ctl.NetFrame

theorem refl (c : Ctl) : c.NetFrame c := ⟨rfl, fun _ _ => rfl⟩

section
variable {c d : Ctl} (h : c.NetFrame d)
include h

theorem wr {o : Nat} (w : Word) (inside : InWindows netWindows o) : c.NetFrame (d.wr o w) := h.trans ⟨rfl, regsWithin_wr d w inside⟩

theorem emit (o : Output) : c.NetFrame (d.emit o) := h.trans ⟨rfl, fun _ _ => rfl⟩

theorem withNet (x : Net) : c.NetFrame { d with net := x } := h.trans ⟨rfl, fun _ _ => rfl⟩

theorem tev (b : TelBlk) (ev inst : Nat) (ten : Option Nat) (ctx : Option (Nat × Nat × Nat)) (amt : Nat) :
    c.NetFrame (d.tev b ev inst ten ctx amt) := by
  refine h.trans ⟨?_, regsWithin_tev (by decide) d b ev inst ten ctx amt⟩
  rw [d.tev_alike b ev inst ten ctx amt]
  rfl

/-! ### DT and DNT -/

theorem passTo (n t : Nat) : c.NetFrame (d.passTo n t) := h.trans ⟨rfl, fun _ _ => rfl⟩

theorem reach (t : Nat) : c.NetFrame (d.reach t) := (h.passTo ..).ite h

theorem reachDnt (t : Nat) : c.NetFrame (d.reachDnt t) := (h.passTo ..).ite h

/-! ### Ports, connections and shapers -/

theorem setNp (np : Nat) (x : NetPort) : c.NetFrame (d.setNp np x) := h.withNet _

theorem setConn (k : Nat) (x : Conn) : c.NetFrame (d.setConn k x) := h.withNet _

theorem shaperDebit (k n : Nat) : c.NetFrame (d.shaperDebit k n) := (h.withNet _).ite h

/-- The deficit round robin keeps its turn and deficits in the port's record. -/
theorem drr (np hi : Nat) (fs : List ReadyFrame) (n : Nat) : c.NetFrame (Ctl.drr np hi fs n d).2 := by
  induction n generalizing d with
  | zero => exact h
  | succ n ih =>
    unfold Ctl.drr
    extract_lets x k pass
    have turned := fun y => ih (h.setNp np y)
    split
    · exact turned _
    · split
      · exact turned _
      · split
        · exact h.setNp ..
        · exact ih ((h.setNp ..).setNp ..)

theorem egressPick (np : Nat) (fs : List ReadyFrame) : c.NetFrame (d.egressPick np fs).2 := by
  simp only [Ctl.egressPick]
  split
  · exact h
  · split
    · exact h
    · exact h.drr ..

end

/-! ### Frames of one port -/

section
variable {c d : Ctl} (h : c.NetFrame d) {np : Nat} (port : np < 24)
include h port

theorem npCnt (k n : Nat) (counter : k < 16 := by decide) : c.NetFrame (d.npCnt np k n) := h.wr _ (inNetWindows_portCnt port counter)

theorem frameIn (ten : Option Nat) (bytes : Nat) : c.NetFrame (d.frameIn np ten bytes) := ((h.npCnt port 1 1).tev ..).tev ..

theorem frameNoMatch : c.NetFrame (d.frameNoMatch np) := h.npCnt port 12 1

theorem ownAnswer (own : Bool) (o : Output) : c.NetFrame (d.ownAnswer np own o) := by
  have received := h.frameIn port none 0
  exact h.ite ((received.emit o).ite (received.frameNoMatch port))

theorem connOpen (tcp : Bool) (mac vlan mtu r2t : Nat) (refuse : Output) : c.NetFrame (d.connOpen tcp np mac vlan mtu r2t refuse) := by
  have received := h.frameIn port none 0
  refine h.ite ?_
  dsimp only
  split
  · exact received.emit refuse
  · exact ((received.setConn ..).emit _).tev ..

/-- A frame for a RoCEv2 connection of the port: what the row does with it, once it has been received. -/
theorem onRoce (k mac vlan : Nat) {f : Conn → Ctl → Ctl} (row : ∀ x e, c.NetFrame e → c.NetFrame (f x e)) :
    c.NetFrame (d.onRoce np k mac vlan f) := by
  have unmatched := (h.frameIn port none 0).frameNoMatch port
  refine h.ite ?_
  split
  · next x _ =>
    split
    · exact unmatched
    · next own =>
      have here : x.port = np := by simpa using (not_or.mp own).2
      refine row _ _ (setConn ?_ ..)
      rw [show (x.from_ mac vlan).port = np from here]
      exact h.frameIn port ..
  · exact unmatched

theorem pfcResume (prio : Nat) : c.NetFrame (d.pfcResume np prio) := by
  unfold Ctl.pfcResume
  split
  · exact h
  · exact ((h.setNp ..).wr _ (inNetWindows_portStat port)).tev ..

theorem pfcPause (prio q : Nat) : c.NetFrame (d.pfcPause np prio q) := (h.setNp ..).wr _ (inNetWindows_portStat port)

theorem pfcSend (prio quanta : Nat) : c.NetFrame (d.pfcSend np prio quanta) := (h.emit _).npCnt port 5 1

theorem frameGo (cls : Nat) (f : ReadyFrame) (overrun strict : Bool) : c.NetFrame (d.frameGo np cls f overrun strict) := by
  unfold Ctl.frameGo
  extract_lets _ _ _ c1 c2 c3 c4 c5 c6
  have served : c.NetFrame c1 := h.setNp ..
  have paced : c.NetFrame c2 := by
    simp only [c2]
    split
    · split
      · exact served.setConn ..
      · exact served
    · exact served
  have classDebit : c.NetFrame c3 := paced.shaperDebit ..
  have tenantDebit : c.NetFrame c4 := by
    simp only [c4]
    split
    · exact classDebit.shaperDebit ..
    · exact classDebit
  have started : c.NetFrame c5 := (tenantDebit.npCnt port 0 1).emit _
  have counted : c.NetFrame c6 := (started.npCnt port 13 1).ite started
  exact (counted.tev ..).tev ..

/-! ### Pour lists (R315, R317) -/

theorem gclShow : c.NetFrame (d.gclShow np) := by
  have inside := inNetWindows_gclStat port
  unfold Ctl.gclShow
  split
  · exact (h.wr _ inside).wr _ inside
  · exact (h.wr _ inside).wr _ inside

theorem cycleFire (t : Nat) : c.NetFrame (d.cycleFire np t) := (h.setNp ..).gclShow port

/-- The operational list has as many entries as the length field of the port's list can name. -/
theorem gclAdopt (a : Nat) : c.NetFrame (d.gclAdopt np a) := by
  have short : d.get (F.NET_GCL_CTRL_len np) < 512 := getBits_lt _ 8 0
  unfold Ctl.gclAdopt
  extract_lets len c1 l
  have copied : c.NetFrame c1 := List.foldlRecOn _ _ h fun _ keeps i listed =>
    keeps.wr _ (inNetWindows_gclOper port (Nat.lt_trans (List.mem_range.mp listed) short))
  exact ((copied.setNp ..).wr _ (inNetWindows_gclStat port)).gclShow port

end

end Ctl.NetFrame

end Sys2Proof.Machine
end

section
/-! Frames of a network port change the network only (R301 to R317): O52. -/

namespace Sys2Proof.Machine
set_option Elab.async false

open Ctl (NetFrame)

/-- A row of port `np` whose meaning is an effect over the registers and blocks that keeps to the port's frame. -/
abbrev NetRow (row : Instr) : Prop := Frames row netWindows netUpd

theorem frameDiscard_netRow (np : Fin 24) (len : Nat) (fcsBad : Bool) : NetRow (.frameDiscard np len fcsBad) :=
  frames_of_onCtl (execFrameDiscard np len fcsBad) (fun _ => rfl) fun _ c =>
    have same := NetFrame.refl c
    same.ite <| (same.npCnt np.isLt 2 1).ite <| (same.frameIn np.isLt none len).frameNoMatch np.isLt

theorem pfcFrameReceive_netRow (np : Fin 24) (quanta : List (Fin 8 × Fin 65536)) : NetRow (.pfcFrameReceive np quanta) :=
  frames_of_onCtl (execPfcFrameReceive np quanta) (fun _ => rfl) fun _ c =>
    (NetFrame.refl c).ite <| List.foldlRecOn _ _ ((NetFrame.refl c).npCnt np.isLt 4 1) fun _ (keeps : c.NetFrame _) _ _ =>
      keeps.ite <| (keeps.pfcResume np.isLt _).ite (keeps.pfcPause np.isLt ..)

theorem pfcPauseExpire_netRow (np : Fin 24) (prio : Fin 8) : NetRow (.pfcPauseExpire np prio) := by
  refine frames_of_onCtl (execPfcPauseExpire np prio) (fun _ => rfl) fun _ c => ?_
  split
  · exact ((NetFrame.refl c).reach _).pfcResume np.isLt _
  · exact NetFrame.refl c

theorem pfcXoffSend_netRow (np : Fin 24) (prio : Fin 8) (bytes : Nat) : NetRow (.pfcXoffSend np prio bytes) :=
  frames_of_onCtl (execPfcXoffSend np prio bytes) (fun _ => rfl) fun _ c =>
    have same := NetFrame.refl c
    have said := fun x quanta => (same.setNp np.val x).pfcSend np.isLt prio quanta
    same.ite <| ((said _ _).ite same).ite ((said _ _).ite same)

theorem pfcXoffRefresh_netRow (np : Fin 24) (prio : Fin 8) : NetRow (.pfcXoffRefresh np prio) := by
  refine frames_of_onCtl (execPfcXoffRefresh np prio) (fun _ => rfl) fun _ c => ?_
  split
  · exact (((NetFrame.refl c).reach _).setNp ..).pfcSend np.isLt ..
  · exact NetFrame.refl c

theorem ceMarkedReceive_netRow (np : Fin 24) (conn mac vlan : Nat) : NetRow (.ceMarkedReceive np conn mac vlan) :=
  frames_of_onCtl (execCeMarkedReceive np conn mac vlan) (fun _ => rfl) fun _ c =>
    (NetFrame.refl c).onRoce np.isLt conn mac vlan fun _ _ keeps =>
      have counted := keeps.npCnt np.isLt 8 1
      counted.ite (((counted.setConn ..).npCnt np.isLt 9 1).emit _)

theorem cnpReceive_netRow (np : Fin 24) (conn mac vlan : Nat) : NetRow (.cnpReceive np conn mac vlan) :=
  frames_of_onCtl (execCnpReceive np conn mac vlan) (fun _ => rfl) fun _ c =>
    (NetFrame.refl c).onRoce np.isLt conn mac vlan fun _ _ keeps =>
      have counted := (keeps.npCnt np.isLt 10 1).tev .net 5 np.val none none 1
      (counted.setConn ..).ite (counted.setConn ..)

theorem rateIncreaseTimer_netRow (conn : Nat) : NetRow (.rateIncreaseTimer conn) := by
  refine frames_of_onCtl (execRateIncreaseTimer conn) (fun _ => rfl) fun _ c => ?_
  split
  · exact NetFrame.refl c
  · exact (NetFrame.refl c).ite (((NetFrame.refl c).reach _).setConn ..)

theorem egressFrameSelect_netRow (np : Fin 24) (frames : List (Option Nat × Nat)) : NetRow (.egressFrameSelect np frames) := by
  refine frames_of_onCtl (execEgressFrameSelect np frames) (fun _ => rfl) fun _ c => (NetFrame.refl c).ite ?_
  dsimp only
  have picked := ((NetFrame.refl c).tev .net 7 np.val none none (c.gateHeld np.val (frames.map fun p => ⟨p.1, p.2⟩))).egressPick np.val
    (frames.map fun p => ⟨p.1, p.2⟩)
  split
  · next pick =>
    rw [pick] at picked
    exact picked.frameGo np.isLt ..
  · next pick =>
    rw [pick] at picked
    exact picked

/-- An adoption with nothing of a lower rank due. -/
theorem pourListAdopt_netFrame {np : Fin 24} {s t : State} (alone : ∀ a, s.c.gclDue np = some a → s.c.dntDue 2 a = [])
    (next : exec (.pourListAdopt np) s = .next t) : s.FramedBy netUpd netWindows t := by
  cases due : s.c.gclDue np.val with
  | none =>
    have nothing : onAll (fun m c => (m, c)) s = .next t := by
      rw [← next]
      simp only [exec, execPourListAdopt, onAll, due]
    exact framedBy_of_onAll nothing rfl (NetFrame.refl s.c)
  | some a =>
    have adopted : onAll (fun m c => (m, (c.reachDnt a).gclAdopt np.val a)) s = .next t := by
      rw [← next]
      simp only [exec, execPourListAdopt, onAll, due, dntRow_of_none_due _ _ (alone a due)]
    exact framedBy_of_onAll adopted rfl (((NetFrame.refl s.c).reachDnt a).gclAdopt np.isLt a)

/-- The end of an entry in force; where a cycle starts, with nothing of a lower rank due. -/
theorem gateEntryAdvance_netFrame {np : Fin 24} {s t : State}
    (alone : ∀ l, s.c.gclLive np = some l → s.c.dntDue 2 (s.c.dntNs + (gclAt (s.c.gclParts np l) 0 (s.c.gclPhase l)).2) = [])
    (next : exec (.gateEntryAdvance np) s = .next t) : s.FramedBy netUpd netWindows t := by
  have same := NetFrame.refl s.c
  cases live : s.c.gclLive np.val with
  | none =>
    have nothing : onAll (fun m c => (m, c)) s = .next t := by
      rw [← next]
      simp only [exec, execGateEntryAdvance, onAll, live]
    exact framedBy_of_onAll nothing rfl same
  | some l =>
    have quiet := alone l live
    generalize ends : s.c.dntNs + (gclAt (s.c.gclParts np l) 0 (s.c.gclPhase l)).2 = x at quiet
    have advanced : onAll (fun m c => (m, if atOrAfter l.at_ l.cycle x ≠ x then (c.reachDnt x).gclShow np.val
        else if c.cycleNext np.val l x = x then (c.reachDnt x).cycleFire np.val x else c.reachDnt x)) s = .next t := by
      rw [← next]
      simp only [exec, execGateEntryAdvance, onAll, live, ends, dntRow_of_none_due _ _ quiet]
      split
      · rfl
      · split <;> rfl
    have reached := same.reachDnt x
    exact framedBy_of_onAll advanced rfl ((reached.gclShow np.isLt).ite ((reached.cycleFire np.isLt x).ite reached))

/-- Settles O52: each row is a chain of updates of the ports, connections and shapers, of what is sent and sampled, and of the port's registers. -/
theorem portRowsChangeNetworkOnly : Obligations.PortRowsChangeNetworkOnly := by
  unfold Obligations.PortRowsChangeNetworkOnly
  have same := NetFrame.refl
  refine ⟨?arp, ?neighbor, ?echo, frameDiscard_netRow, ?pause, pfcFrameReceive_netRow, pfcPauseExpire_netRow, pfcXoffSend_netRow,
    pfcXoffRefresh_netRow, ?overflow, ?refill, ?send, ceMarkedReceive_netRow, cnpReceive_netRow, rateIncreaseTimer_netRow, ?syn,
    egressFrameSelect_netRow, ?connect, fun _ _ _ => pourListAdopt_netFrame, fun _ _ _ => gateEntryAdvance_netFrame⟩
  case arp => exact fun np ip => frames_of_onCtl (execArpRequest np ip) (fun _ => rfl) fun _ c => (same c).ownAnswer np.isLt ..
  case neighbor => exact fun np ip => frames_of_onCtl (execNeighborSolicitation np ip) (fun _ => rfl) fun _ c => (same c).ownAnswer np.isLt ..
  case echo => exact fun np v6 ip => frames_of_onCtl (execIcmpEcho np v6 ip) (fun _ => rfl) fun _ c => (same c).ownAnswer np.isLt ..
  case pause => exact fun np => frames_of_onCtl (execPauseFrameReceive np) (fun _ => rfl) fun _ c => ((same c).npCnt np.isLt 6 1).ite (same c)
  case overflow =>
    exact fun np => frames_of_onCtl (execReceiveBufferOverflow np) (fun _ => rfl) fun _ c => ((same c).npCnt np.isLt 7 1).ite (same c)
  case refill => exact frames_of_onCtl execShaperRefill (fun _ => rfl) fun _ c => ((same c).reach _).withNet _
  case send =>
    exact fun np conn mac vlan => frames_of_onCtl (execRoceSendReceive np conn mac vlan) (fun _ => rfl) fun _ c =>
      (same c).onRoce np.isLt conn mac vlan fun _ _ keeps => keeps
  case syn =>
    exact fun np mac vlan r2t => frames_of_onCtl (execTcpSyn np mac vlan r2t) (fun _ => rfl) fun _ c => (same c).connOpen np.isLt ..
  case connect =>
    exact fun np mac vlan offer => frames_of_onCtl (execRoceConnectRequest np mac vlan offer) (fun _ => rfl) fun _ c =>
      (same c).connOpen np.isLt ..

end Sys2Proof.Machine
end

section
/-! SUPPORT. The frame of the host path: what an admin command may change (05_host_command_path.md, R80 to R106). -/

namespace Sys2Proof.Machine
set_option Elab.async false

/-- `c` with the blocks that an admin command may change taken from `d`. -/
def hostUpd (c d : Ctl) : Ctl := { c with regs := d.regs, out := d.out, fv := d.fv, tel := d.tel, host := d.host }

/-- The windows of the host path (Table 19.1), and the sample ring's register. -/
def hostWindows : List (Nat × Nat) := [(0x200000, 0x400000), regAt Reg.TEL_SMP_STAT]

abbrev Ctl.HostFrame (c d : Ctl) : Prop := c.Framed hostUpd hostWindows d

/-- HCP_STATUS_CNT has a counter for the status: its SCT is one of Table 5.8. -/
abbrev NvStatus.Counted (st : NvStatus) : Prop := st.sct < 8

/-- What refuses, if anything does, is a status that is counted. -/
def RefusalCounted {α : Type} (r : Except NvStatus α) : Prop := ∀ st, r = .error st → st.Counted

namespace RefusalCounted

variable {α : Type}

theorem ok (p : α) : RefusalCounted (.ok p : Except NvStatus α) := fun _ => nofun

theorem error {st : NvStatus} (counted : st.Counted) : RefusalCounted (.error st : Except NvStatus α) := fun _ e => Except.error.inj e ▸ counted

theorem ite {p : Prop} [Decidable p] {r q : Except NvStatus α} (yes : RefusalCounted r) (no : RefusalCounted q) :
    RefusalCounted (if p then r else q) := by
  split
  · exact yes
  · exact no

/-- A log page is refused with a status of Table 5.8 (R95). -/
theorem logPage (c : Ctl) (k : Nat) (a : Assoc) (x : AdminCmd) : RefusalCounted (c.logPage k a x) := by
  have badField := error (α := Page × Nat) (show St.badField.Counted by decide)
  have denied := error (α := Page × Nat) (show St.denied.Counted by decide)
  have badLog := error (α := Page × Nat) (show St.badLog.Counted by decide)
  have telemetry : RefusalCounted (match c.pageTelemetry a with | some p => .ok (p, 0) | none => .error St.denied) := by
    cases c.pageTelemetry a with
    | some p => exact ok _
    | none => exact denied
  exact (ok _).ite <| ((ok _).ite badField).ite <| (ok _).ite <| (ok _).ite <| (ok _).ite <| (ok _).ite <| (ok _).ite <| telemetry.ite <|
    ((ok _).ite denied).ite <| ((ok _).ite denied).ite <| ((ok _).ite denied).ite badLog

end RefusalCounted

namespace Ctl.HostFrame

theorem refl (c : Ctl) : c.HostFrame c := ⟨rfl, fun _ _ => rfl⟩

section
variable {c d : Ctl} (h : c.HostFrame d)
include h

theorem wr {o : Nat} (w : Word) (inside : InWindows hostWindows o) : c.HostFrame (d.wr o w) := h.trans ⟨rfl, regsWithin_wr d w inside⟩

theorem emit (o : Output) : c.HostFrame (d.emit o) := h.trans ⟨rfl, fun _ _ => rfl⟩

theorem tookN (n : Nat) : c.HostFrame (d.tookN n) := h.trans ⟨rfl, fun _ _ => rfl⟩

theorem withHost (x : HostPath) : c.HostFrame { d with host := x } := h.trans ⟨rfl, fun _ _ => rfl⟩

theorem tev (b : TelBlk) (ev inst : Nat) (ten : Option Nat) (ctx : Option (Nat × Nat × Nat)) (amt : Nat) :
    c.HostFrame (d.tev b ev inst ten ctx amt) := by
  refine h.trans ⟨?_, regsWithin_tev (by decide) d b ev inst ten ctx amt⟩
  rw [d.tev_alike b ev inst ten ctx amt]
  rfl

theorem setAssoc (k : Nat) (a : Assoc) : c.HostFrame (d.setAssoc k a) := h.withHost _

theorem onAssoc (k : Nat) (f : Assoc → Assoc) : c.HostFrame (d.onAssoc k f) := h.withHost _

theorem setTag (tag : Nat) (t : TagE) : c.HostFrame (d.setTag tag t) := h.withHost _

/-! ### Completions (R87, R97) -/

theorem post (conn cid : Nat) (ten : Option Nat) (st : NvStatus) (dw0 dw1 : Nat) (counted : st.Counted := by decide) :
    c.HostFrame (d.post conn cid ten st dw0 dw1) := by
  have inside : InWindows hostWindows (Reg.HCP_STATUS_CNT st.sct) :=
    ⟨(0x200000, 0x400000), by decide, by simp only [Reg.HCP_STATUS_CNT]; omega⟩
  have sent := h.emit (.cqe conn cid st dw0 dw1)
  exact h.ite (sent.ite ((sent.wr _ inside).tev ..))

theorem complete (conn cid : Nat) (ten : Option Nat) (st : NvStatus) (dw0 dw1 : Nat) (counted : st.Counted := by decide) :
    c.HostFrame (d.complete conn cid ten st dw0 dw1) := (h.post conn cid ten st dw0 dw1 counted).withHost _

theorem adminEnd (x : AdminCmd) (a : Assoc) (st : NvStatus) (dw0 dw1 : Nat) (counted : st.Counted := by decide) :
    c.HostFrame (d.adminEnd x a st dw0 dw1) := h.complete _ _ _ st dw0 dw1 counted

theorem adminData (x : AdminCmd) (a : Assoc) (data : HostData) : c.HostFrame (d.adminData x a data) := adminEnd (h.ite (h.emit _)) x a St.ok 0 0

/-! ### Controller resets and shutdowns (R106) -/

theorem freeTagE (tag : Nat) : c.HostFrame (d.freeTagE tag) := h.withHost _

theorem discardTag (tag : Nat) : c.HostFrame (d.discardTag tag) := by
  have discard : c.HostFrame (d.tagTo tag .discard) := h.withHost _
  unfold Ctl.discardTag
  split
  · exact h
  · split
    · exact h.freeTagE tag
    · exact (h.freeTagE tag).ite discard
    · exact (h.freeTagE tag).ite discard
    · exact discard.ite (h.freeTagE tag)
    · exact h

theorem discardTags (p : TagE → Bool) : c.HostFrame (d.discardTags p) := List.foldlRecOn _ _ h fun _ keeps _ _ => discardTag keeps _

theorem abortsNote (k : Nat) : c.HostFrame (d.abortsNote k) := h.onAssoc _ _

theorem ctlrReset (k : Nat) : c.HostFrame (d.ctlrReset k) := (((h.withHost _).discardTags _).abortsNote k).onAssoc _ _

theorem ccChange (k : Nat) (old new : Word) : c.HostFrame (d.ccChange k old new) := by
  have enabled : c.HostFrame (if (!ccEn old && ccEn new) = true then _ else d) := (h.onAssoc k fun a => { a with rdy := true, shst := 0 }).ite h
  exact (h.ctlrReset k).ite ((enabled.onAssoc _ _).ite enabled)

/-! ### The commands (Table 5.3) -/

theorem propertyGetDo (x : AdminCmd) (k : Nat) (a : Assoc) : c.HostFrame (propertyGetDo x k a d) := by
  unfold Machine.propertyGetDo
  split
  · exact h.adminEnd ..
  · exact h.adminEnd ..
  · exact h.adminEnd ..
  · exact h.adminEnd ..
  · exact h.adminEnd ..

theorem propertySetDo (x : AdminCmd) (k : Nat) (a : Assoc) : c.HostFrame (propertySetDo x k a d) :=
  (h.adminEnd x a St.badField 0 0).ite (((h.setAssoc ..).adminEnd x a St.ok 0 0).ccChange ..)

theorem getLogPageDo (x : AdminCmd) (k : Nat) (a : Assoc) : c.HostFrame (getLogPageDo x k a d) := by
  unfold Machine.getLogPageDo
  extract_lets lid n off seen
  have looked : c.HostFrame (seen d) := h.ite (h.setAssoc ..)
  refine .ite ((h.adminEnd ..).ite <| (h.adminEnd ..).ite <| (looked.tookN 1).adminData ..) ?_
  split
  · next refused => exact h.adminEnd _ _ _ _ _ (RefusalCounted.logPage d k a x _ refused)
  · exact (h.adminEnd ..).ite ((looked.tookN _).adminData ..)

theorem identifyDo (x : AdminCmd) (k : Nat) (a : Assoc) : c.HostFrame (identifyDo x k a d) := by
  have page := h.adminData x a
  have badField := h.adminEnd x a St.badField 0 0
  have badNs := h.adminEnd x a St.badNs 0 0
  exact (page _).ite <| (badField.ite (page _)).ite <| ((page _).ite ((page _).ite badNs)).ite <| (badNs.ite (page _)).ite <|
    ((page _).ite badNs).ite badField

theorem getFeaturesDo (x : AdminCmd) (k : Nat) (a : Assoc) : c.HostFrame (getFeaturesDo x k a d) := by
  have badField := h.adminEnd x a St.badField 0 0
  refine badField.ite <| (badField.ite (h.adminEnd ..)).ite <| (h.adminEnd ..).ite ?_
  split
  · exact badField
  · dsimp only
    split
    · exact (h.emit _).adminEnd ..
    · exact h.adminEnd ..

theorem asyncEventDo (x : AdminCmd) (k : Nat) (a : Assoc) : c.HostFrame (asyncEventDo x k a d) := by
  refine (h.adminEnd ..).ite ?_
  split
  · exact (h.setAssoc ..).adminEnd ..
  · exact h.setAssoc ..

theorem selfTestDo (x : AdminCmd) (k : Nat) (a : Assoc) : c.HostFrame (selfTestDo x k a d) := by
  refine .ite (adminEnd ?_ ..) <| (h.adminEnd ..).ite <| (h.adminEnd ..).ite <| (h.adminEnd ..).ite <| ((h.withHost _).emit _).adminEnd ..
  split
  · exact (h.withHost _).onAssoc _ _
  · exact h

theorem chiebReplyDo (x : AdminCmd) (k : Nat) (a : Assoc) : c.HostFrame (chiebReplyDo x k a d) := by
  unfold Machine.chiebReplyDo
  split
  · next refused =>
    refine h.adminEnd _ _ _ _ _ ?_
    unfold Ctl.chiebRefusal at refused
    (repeat' split at refused) <;> cases refused <;> decide
  · split
    · exact h.adminEnd ..
    · exact (h.setAssoc ..).adminData ..

/-! ### Features (R94, R100) -/

/-- Setting a feature answers a status of Table 5.8 and keeps to the frame. -/
def Sets (set : FeatSet) : Prop := ∀ (x : AdminCmd) (k : Nat) (a : Assoc) (c d : Ctl), c.HostFrame d →
  (set x k a d).1.Counted ∧ c.HostFrame (set x k a d).2.2

omit h in
theorem sets_setQueues : Sets setQueues := fun _ _ _ _ _ h => ⟨show St.ok.Counted by decide, h.setAssoc ..⟩

omit h in
theorem sets_setEvents : Sets setEvents := fun _ _ _ _ _ h => ⟨show St.ok.Counted by decide, h.setAssoc ..⟩

omit h in
theorem sets_setApst : Sets setApst := by
  intro x k a c d h
  simp only [setApst]
  split
  · exact ⟨show St.badField.Counted by decide, h⟩
  · exact ⟨show St.ok.Counted by decide, h.setAssoc ..⟩

omit h in
theorem sets_setKato : Sets setKato := by
  intro x k a c d h
  simp only [setKato]
  split
  · exact ⟨show St.katoInvalid.Counted by decide, h⟩
  · exact ⟨show St.ok.Counted by decide, h.setAssoc ..⟩

omit h in
theorem sets_setBehavior : Sets setBehavior := by
  intro x k a c d h
  simp only [setBehavior]
  split
  · exact ⟨show St.badField.Counted by decide, h⟩
  · exact ⟨show St.ok.Counted by decide, h.setAssoc ..⟩

omit h in
theorem sets_setOrdered : Sets setOrdered := by
  intro x k a c d h
  simp only [setOrdered]
  split
  · exact ⟨show St.badField.Counted by decide, h⟩
  · split
    · exact ⟨show St.sequence.Counted by decide, h⟩
    · exact ⟨show St.ok.Counted by decide, h.withHost _⟩

/-- A feature outside Table 5.5, or one whose setting keeps to the frame. -/
theorem setFeaturesDo (x : AdminCmd) (k : Nat) (a : Assoc)
    (sets : featIds.contains (getBits x.cdw10 7 0) = true → Sets (featSet (getBits x.cdw10 7 0))) : c.HostFrame (setFeaturesDo x k a d) := by
  unfold Machine.setFeaturesDo
  extract_lets fid r
  split
  · exact h.adminEnd ..
  · next listed =>
    obtain ⟨counted, kept⟩ := sets (by simpa using listed) x k a c d h
    exact (h.adminEnd ..).ite (kept.adminEnd _ _ _ _ _ counted)

end

end Ctl.HostFrame

end Sys2Proof.Machine
end

section
/-! Admin rows change the host path only (R80 to R106): O43. -/

namespace Sys2Proof.Machine
set_option Elab.async false

open Ctl (HostFrame)

/-- A capsule of the admin command set on a connection without an I/O queue: refused, kept waiting, or run. -/
theorem adminArrive_hostFrame {x : AdminCap} {hit : Assoc → Bool} {m : Mem} {c : Ctl} (noQueue : c.openQueue x.cmd.conn = none)
    (runs : ∀ b k a d, hit b = true → c.HostFrame d → c.HostFrame (adminDo x k a m d).2) : c.HostFrame (adminArrive x hit m c).2 := by
  have same := HostFrame.refl c
  simp only [adminArrive, adminTake, adminAccept, adminStart, noQueue]
  split
  · exact same
  split
  · split
    · next k a _ hitting =>
      have alive := same.setAssoc k { a with kaStart := c.dt }
      split
      · exact alive.post ..
      split
      · exact (((alive.withHost _).wr _ (by decide)).tev ..).abortsNote k
      split
      · exact alive
      split
      · exact alive.post ..
      have counted := (alive.tev .hcp 0 0 (some a.tenant) none 1).withHost
      split
      · exact ((counted _).setTag ..).abortsNote k
      split
      · exact ((counted _).setTag ..).adminEnd ..
      · exact runs a k _ _ hitting ((counted _).setTag ..)
    · exact same
  · exact same.complete ..

/-- What O43 says of a row on connection `conn`. -/
abbrev AdminFrames (conn : Nat) (row : Instr) : Prop :=
  ∀ s t, s.c.openQueue conn = none → exec row s = .next t →
    t.mem = s.mem ∧ t.pending = s.pending ∧ RegsWithin hostWindows s.c t.c ∧ t.c = hostUpd s.c t.c

/-- A row of the admin command set whose command keeps to the frame. -/
theorem adminRow_framed {x : AdminCap} {hit : Assoc → Bool} {s t : State} (noQueue : s.c.openQueue x.cmd.conn = none)
    (next : adminRow x hit s = .next t) (op : x.op ≠ .chiebRequest)
    (runs : ∀ b k a d, hit b = true → s.c.HostFrame d → s.c.HostFrame (adminDo x k a s.mem d).2) :
    t.mem = s.mem ∧ t.pending = s.pending ∧ RegsWithin hostWindows s.c t.c ∧ t.c = hostUpd s.c t.c := by
  obtain ⟨mem, pending, blocks, within⟩ :=
    framedBy_of_onAll next (adminArrive_mem op hit s.mem s.c) (adminArrive_hostFrame noQueue runs)
  exact ⟨mem, pending, within, blocks⟩

/-- A row of Set Features whose features keep to the frame; it leaves the other features to their own rows. -/
theorem setFeatures_adminFrames {row : Instr} (x : AdminCmd) (fids : List Nat) (sets : ∀ fid ∈ fids, HostFrame.Sets (featSet fid))
    (arm : ∀ s, exec row s = adminRow (AdminOp.setFeatures.on x) (featHit x fids) s := by exact fun _ => rfl) : AdminFrames x.conn row := by
  intro s t noQueue next
  refine adminRow_framed (x := AdminOp.setFeatures.on x) noQueue (arm s ▸ next) AdminOp.noConfusion fun _ k a d hit kept =>
    kept.setFeaturesDo x k a fun listed => sets _ ?_
  rw [featHit, listed] at hit
  simpa using hit

/-- A row of another admin command, that keeps to the frame. -/
theorem adminFrames_of_runs {row : Instr} (x : AdminCap) (hit : Assoc → Bool) (op : x.op ≠ .chiebRequest)
    (runs : ∀ k a m (c d : Ctl), c.HostFrame d → c.HostFrame (adminDo x k a m d).2)
    (arm : ∀ s, exec row s = adminRow x hit s := by exact fun _ => rfl) : AdminFrames x.cmd.conn row :=
  fun s _ noQueue next => adminRow_framed noQueue (arm s ▸ next) op fun _ k a d _ kept => runs k a s.mem s.c d kept

theorem nvmeDisconnect_adminFrames (conn cid : Nat) : AdminFrames conn (.nvmeDisconnect conn cid) := by
  intro s t noQueue next
  have arrives : adminRow (AdminOp.disconnect.plain conn cid) (fun _ => true) s = .next t := by
    rw [← next]
    simp only [exec, execNvmeDisconnect, adminRow, onAll, noQueue, ite_self]
  exact adminRow_framed noQueue arrives AdminOp.noConfusion fun _ _ _ _ _ kept => kept.adminEnd ..

/-- Every Property Set keeps to the frame, whatever change of CC its row is for. -/
theorem propertySet_adminFrames {row : Instr} (x : AdminCmd) (p : Word → Word → Bool)
    (arm : ∀ s, exec row s = adminRow (AdminOp.propertySet.on x) (ccHit x p) s := by exact fun _ => rfl) : AdminFrames x.conn row :=
  adminFrames_of_runs (AdminOp.propertySet.on x) _ AdminOp.noConfusion (fun k a _ _ _ h => h.propertySetDo x k a) arm

/-- Settles O43: each command answers with a counted status and changes at most records of the host path; a capsule that must wait stays there. -/
theorem adminRowsChangeHostPathOnly : Obligations.AdminRowsChangeHostPathOnly := by
  unfold Obligations.AdminRowsChangeHostPathOnly
  refine ⟨fun x => ?propertyGet, fun x => propertySet_adminFrames x _, fun x => propertySet_adminFrames x _,
    fun x => propertySet_adminFrames x _, fun x => ?logPage, fun x => ?identify, fun x => ?getFeatures,
    fun x => setFeatures_adminFrames x [0x07] ?queues, fun x => setFeatures_adminFrames x [0x0B] ?events,
    fun x => setFeatures_adminFrames x [0x0C] ?apst, fun x => setFeatures_adminFrames x [0x0F] ?kato,
    fun x => setFeatures_adminFrames x [0x16] ?behavior, fun x => setFeatures_adminFrames x [0xD1] ?ordered,
    fun x => setFeatures_adminFrames x [0x04, 0xD2] ?fixed, fun x => ?asyncEvent, fun x => ?selfTest, fun x => ?keepAlive,
    fun x => ?chiebReply, nvmeDisconnect_adminFrames, fun conn cid => ?invalid⟩
  case propertyGet =>
    exact adminFrames_of_runs (AdminOp.propertyGet.on x) _ AdminOp.noConfusion fun k a _ _ _ h => h.propertyGetDo x k a
  case logPage => exact adminFrames_of_runs (AdminOp.getLogPage.on x) _ AdminOp.noConfusion fun k a _ _ _ h => h.getLogPageDo x k a
  case identify => exact adminFrames_of_runs (AdminOp.identify.on x) _ AdminOp.noConfusion fun k a _ _ _ h => h.identifyDo x k a
  case getFeatures =>
    exact adminFrames_of_runs (AdminOp.getFeatures.on x) _ AdminOp.noConfusion fun k a _ _ _ h => h.getFeaturesDo x k a
  case queues => exact fun _ only => List.mem_singleton.mp only ▸ HostFrame.sets_setQueues
  case events => exact fun _ only => List.mem_singleton.mp only ▸ HostFrame.sets_setEvents
  case apst => exact fun _ only => List.mem_singleton.mp only ▸ HostFrame.sets_setApst
  case kato => exact fun _ only => List.mem_singleton.mp only ▸ HostFrame.sets_setKato
  case behavior => exact fun _ only => List.mem_singleton.mp only ▸ HostFrame.sets_setBehavior
  case ordered => exact fun _ only => List.mem_singleton.mp only ▸ HostFrame.sets_setOrdered
  case fixed =>
    have refused : HostFrame.Sets fun _ _ _ c => (St.notChangeable, 0, c) := fun _ _ _ _ _ h => ⟨show St.notChangeable.Counted by decide, h⟩
    exact List.forall_mem_cons.mpr ⟨refused, fun _ only => List.mem_singleton.mp only ▸ refused⟩
  case asyncEvent =>
    exact adminFrames_of_runs (AdminOp.asyncEvent.on x) _ AdminOp.noConfusion fun k a _ _ _ h => h.asyncEventDo x k a
  case selfTest => exact adminFrames_of_runs (AdminOp.selfTest.on x) _ AdminOp.noConfusion fun k a _ _ _ h => h.selfTestDo x k a
  case keepAlive => exact adminFrames_of_runs (AdminOp.keepAlive.on x) _ AdminOp.noConfusion fun _ a _ _ _ h => h.adminEnd x a St.ok 0 0
  case chiebReply =>
    exact adminFrames_of_runs (AdminOp.chiebReply.on x) _ AdminOp.noConfusion fun k a _ _ _ h => h.chiebReplyDo x k a
  case invalid =>
    exact adminFrames_of_runs (AdminOp.invalid.plain conn cid) _ AdminOp.noConfusion fun _ a _ _ _ h =>
      h.adminEnd (AdminOp.invalid.plain conn cid).cmd a St.badOpcode 0 0

end Sys2Proof.Machine
end

section
/-! SUPPORT. What a row answers, once its effect is known, and what puts the bays in keeper mode leaves. -/

namespace Sys2Proof.Machine
set_option Elab.async false

theorem onCtl_withCtl {s : State} {f : Mem → Ctl → Ctl} {c : Ctl} (effect : f s.mem s.c = c) : onCtl f s = .next (s.withCtl c) := by
  subst effect
  rfl

theorem onAll_withBoth {s : State} {f : Mem → Ctl → Mem × Ctl} {r : Mem × Ctl} (effect : f s.mem s.c = r) :
    onAll f s = .next (s.withBoth r) := by
  subst effect
  rfl

/-- What a row over the registers and blocks leaves. -/
theorem State.withCtl_keeps (s : State) (c : Ctl) : (s.withCtl c).mem = s.mem ∧ (s.withCtl c).pending = s.pending := ⟨rfl, rfl⟩

/-- A bay's hidden state is no register. -/
@[simp] theorem Ctl.onCh_rd (c : Ctl) (b : Nat) (f : Bay → Bay) (o : Nat) : (c.onCh b f).rd o = c.rd o := rfl

theorem Ctl.chTo_rd (c : Ctl) (b st : Nat) {o : Nat} (away : Reg.BAY_CH_STAT b ≠ o) : (c.chTo b st).rd o = c.rd o := by
  unfold Ctl.chTo Ctl.usableNote
  rw [Ctl.rd_set_other _ _ _ _ (by exact away), Ctl.onCh_rd, Ctl.rd_set_other _ _ _ _ (by exact away)]

theorem Ctl.timerStop_rd (c : Ctl) (b : Nat) {o : Nat} (away : Reg.BAY_CH_STAT b ≠ o) : (c.timerStop b).rd o = c.rd o := by
  unfold Ctl.timerStop Ctl.setFlag
  rw [Ctl.onCh_rd, Ctl.rd_set_other _ _ _ _ (by exact away), Ctl.rd_set_other _ _ _ _ (by exact away),
    Ctl.rd_set_other _ _ _ _ (by exact away)]

/-- Putting the bays in keeper mode writes bay registers only, so the mode stays. -/
theorem Ctl.baysKeep_mode (c : Ctl) (follow : Bool) : (c.baysKeep follow).mode = c.mode := by
  refine Ctl.mode_congr ((Ctl.msw_foldl _ (fun d b => ?_) _ _).trans (Ctl.msw_set_off c F.BAY_STAT_latched 0 (by decide)))
  have away : Reg.BAY_CH_STAT b ≠ Reg.GLB_MODE_STAT := by
    unfold Reg.BAY_CH_STAT Reg.GLB_MODE_STAT
    omega
  dsimp only [Ctl.msw]
  rw [Ctl.chTo_rd _ _ _ away, Ctl.rd_set_other _ _ _ _ (by exact away), Ctl.onCh_rd, Ctl.timerStop_rd _ _ away]

/-- A reset leaves the records that had landed, and those are durable. -/
theorem Journal.afterReset_durable (j : Journal) (lost : Bool) : ∀ r ∈ (j.afterReset lost).recs, r.landed = true → r.durable = true := by
  intro r mem _
  obtain ⟨x, -, rfl⟩ := List.mem_map.mp mem
  rfl

end Sys2Proof.Machine
end

section

/-!
Power rows (02_package_and_power.md, 03_modes_and_startup.md): what each does from the states in which it acts.
-/

namespace Sys2Proof.Machine
set_option Elab.async false

/-- The release of power-on reset starts DT at 0 and the device in BOOT, the bays in follower keepers (R29). -/
theorem powerOnResetRelease_boots (s : State) (slotId testen : Bool) (reset : s.c.mode = .reset) :
    Completes (.powerOnResetRelease 0xFFF slotId testen) s (fun t =>
      let c1 : Ctl := { s.c with time := Time.reset, power := { s.c.power with slotId := slotId, testen := testen } }
      t.c = ((c1.wr Reg.GLB_MODE_STAT (Reg.resetWord Reg.GLB_MODE_STAT)).setFlag F.GLB_ID_slot slotId).baysKeep true ∧
      t.c.mode = .boot ∧ t.mem = s.mem ∧ t.pending = s.pending) := by
  refine completes_onCtl (show _ = execPowerOnResetRelease 0xFFF slotId testen s from rfl) (if_neg (by simp [reset])) ?_
  intro c1
  rw [State.withCtl_c]
  refine ⟨rfl, ?_, State.withCtl_keeps s _⟩
  refine (Ctl.baysKeep_mode _ true).trans ((Ctl.mode_setFlag_off _ _ _ (by decide)).trans ?_)
  unfold Ctl.mode Ctl.get
  rw [show F.GLB_MODE_STAT_mode.off = Reg.GLB_MODE_STAT from rfl, Ctl.rd_wr_same]
  rfl

/-- A safe stop on a device that serves marks the stop, halts the device and keeps only durable records (R35, Table 2.6). -/
theorem Ctl.safeStop_pwrfail (c : Ctl) (on : c.mode ≠ .off) (released : c.mode ≠ .reset) (running : c.power.stop = none) :
    (c.safeStop .pwrfail).power.stop = some .pwrfail ∧ (c.safeStop .pwrfail).ctlNew.stop = 1 ∧ (c.safeStop .pwrfail).halted = true ∧
    ∀ r ∈ (c.safeStop .pwrfail).car.recs, r.landed = true → r.durable = true := by
  have stop : (c.safeStop .pwrfail).power.stop = some .pwrfail := by
    simp only [Ctl.safeStop, on, released, running, or_self, if_false, Option.isSome_none, Bool.false_eq_true]
    unfold Ctl.ctlPut
    dsimp only
    split <;> rfl
  refine ⟨stop, ?_, Ctl.halted_stop _ (by rw [stop]; rfl), ?_⟩
  · simp only [Ctl.safeStop, on, released, running, or_self, if_false, Option.isSome_none, Bool.false_eq_true, Ctl.ctlPut_new, reduceCtorEq]
  · simp only [Ctl.safeStop, on, released, running, or_self, if_false, Option.isSome_none, Bool.false_eq_true]
    exact Journal.afterReset_durable _ _

/-- Settles O1: each clause is its row's branch for a device in the mode the clause names. -/
theorem powerRowsComplete : Obligations.PowerRowsComplete := by
  refine ⟨fun s off => ?rise, fun s slotId testen reset => powerOnResetRelease_boots s slotId testen reset, fun s on => ?removed,
    fun s on released running => ?stop, fun s ns on released long short => ?glitch, fun s stopped => ?restart,
    fun s ns held on released cool => ?grst, fun s mean on released running => ?life⟩
  case rise => exact show execFirstRailRise s = _ from onCtl_withCtl (if_pos off)
  case removed =>
    refine completes_onAll (show _ = execRailsRemoved s from rfl) (if_neg on) ⟨Ctl.mode_set _ 0 (by decide), ?_, rfl, rfl⟩
    exact (Ctl.rd_set_other _ _ _ _ (by decide)).trans (Ctl.rd_wr_same _ _ _)
  case stop =>
    obtain ⟨marked, newest, halted, durable⟩ := Ctl.safeStop_pwrfail s.c on released running
    exact completes_onCtl (show _ = execPwrfailAccept s from rfl) rfl ⟨marked, newest, halted, durable, State.withCtl_keeps s _⟩
  case glitch =>
    exact show execPwrfailGlitch ns s = _ from onCtl_withCtl ((if_neg (by simp [on, released]; omega)).trans (if_pos long))
  case restart =>
    obtain ⟨mem, -, cause, -⟩ := toReset_all s.mem s.c 2 (by decide)
    exact completes_onAll (show _ = execPwrfailRestart s from rfl) (if_pos stopped) ⟨cause, mem, rfl⟩
  case grst =>
    obtain ⟨mem, -, cause, -⟩ := toReset_all s.mem s.c 1 (by decide)
    exact completes_onAll (show _ = execGrstNAssert ns s from rfl) ((if_neg (by simp [on, released]; omega)).trans (if_neg cool))
      ⟨cause, mem, rfl⟩
  case life =>
    refine completes_onCtl (show _ = execLifeRecord mean s from rfl) (if_neg (by simp [on, released, running])) ⟨?_, State.withCtl_keeps s _⟩
    rw [State.withCtl_c]
    simp only [Ctl.reach_get]

end Sys2Proof.Machine
end

section
/-! SUPPORT. What the ring's registers, write-through mode and a SKEK's restoration leave: GLB's and PEER's registers and the power block. -/

namespace Sys2Proof.Machine
set_option Elab.async false

/-- All but the power block taken from `d`. -/
def butPower (c d : Ctl) : Ctl := { d with power := c.power }

/-- Every window but GLB's and PEER's (Table 19.1). -/
def besidePeerWindows : List (Nat × Nat) := [(0x100000, 0x1400000), (0x1500000, 0x2000000)]

/-- What changes neither the power block nor a register of GLB or PEER. -/
abbrev Ctl.Beside (c d : Ctl) : Prop := c.Framed butPower besidePeerWindows d

namespace Ctl.Beside

theorem refl (c : Ctl) : c.Beside c := ⟨rfl, fun _ _ => rfl⟩

theorem of_hostFrame {c d : Ctl} (h : c.HostFrame d) : c.Beside d where
  blocks := by
    have kept := congrArg Ctl.power h.blocks
    unfold butPower
    rw [← show d.power = c.power from kept]
  within o outside := by
    refine h.within o fun w listed => ?_
    have away := outside (0x100000, 0x1400000) (by decide)
    have far := outside (0x1500000, 0x2000000) (by decide)
    simp only [hostWindows, regAt, Reg.TEL_SMP_STAT, List.mem_cons, List.not_mem_nil, or_false] at listed
    rcases listed with rfl | rfl <;> dsimp only at * <;> omega

section
variable {c d : Ctl} (h : c.Beside d)
include h

theorem power : d.power = c.power := by
  rw [h.blocks]
  rfl

theorem ctlNew : d.ctlNew = c.ctlNew := by
  unfold Ctl.ctlNew
  rw [h.power]

theorem get (f : Fld) (away : ∀ w ∈ besidePeerWindows, f.off < w.1 ∨ w.2 ≤ f.off := by decide) : d.get f = c.get f := by
  unfold Ctl.get
  rw [h.within f.off away]

theorem flag (f : Fld) (away : ∀ w ∈ besidePeerWindows, f.off < w.1 ∨ w.2 ≤ f.off := by decide) : d.flag f = c.flag f := by
  unfold Ctl.flag
  rw [h.get f away]

theorem wr {o : Nat} (w : Word) (inside : InWindows besidePeerWindows o) : c.Beside (d.wr o w) := h.trans ⟨rfl, regsWithin_wr d w inside⟩

theorem set (f : Fld) (v : Nat) (inside : InWindows besidePeerWindows f.off := by decide) : c.Beside (d.set f v) := h.wr _ inside

theorem setFlag (f : Fld) (b : Bool) (inside : InWindows besidePeerWindows f.off := by decide) : c.Beside (d.setFlag f b) := h.wr _ inside

theorem withCar (x : Journal) : c.Beside { d with car := x } := h.trans ⟨rfl, fun _ _ => rfl⟩

theorem withKeys (x : Keys) : c.Beside { d with keys := x } := h.trans ⟨rfl, fun _ _ => rfl⟩

theorem host {e : Ctl} (more : d.HostFrame e) : c.Beside e := h.trans (of_hostFrame more)

/-! ### Events and write-through mode (R96, R233) -/

theorem reportTo (k : Nat) (a : Assoc) (v : Aen) : c.Beside (d.reportTo k a v) := by
  unfold Ctl.reportTo
  refine h.ite ?_
  split
  · exact h.host ((HostFrame.refl d).setAssoc ..)
  · exact (h.host ((HostFrame.refl d).setAssoc ..)).ite (h.host (((HostFrame.refl d).setAssoc ..).complete ..))

theorem report (v : Aen) (p : Assoc → Bool) : c.Beside (d.report v p) :=
  List.foldlRecOn _ _ h fun _ keeps x _ => (reportTo keeps x.1 x.2 v).ite keeps

theorem nsChanged (ns : Nat) : c.Beside (d.nsChanged ns) := by
  unfold Ctl.nsChanged
  exact report (h.host ((HostFrame.refl d).withHost _)) ..

theorem allNsChanged : c.Beside d.allNsChanged := List.foldlRecOn _ _ h fun _ keeps ns _ => keeps.nsChanged ns

theorem pcrWear (w : Nat) : c.Beside (d.pcrWear w) := by
  have counted : c.Beside (d.setPcr w (d.pcrAt w).wear) := h.trans ⟨rfl, fun _ _ => rfl⟩
  exact (counted.set F.PCR_STAT_worn _).ite counted

theorem pcrOwn (f : Fld) (v : Nat) (inside : InWindows besidePeerWindows f.off := by decide) : c.Beside (d.pcrOwn f v) := by
  unfold Ctl.pcrOwn
  split
  · exact h.set f v inside
  · next w _ => exact h.ite (h.ite ((h.pcrWear w).set f v inside))

theorem wtUnmark : c.Beside d.wtUnmark := h.ite (h.pcrOwn F.CAR_WT_MARK_mark 0)

theorem wtUpdate : c.Beside d.wtUpdate := by
  have cause := h.set F.CAR_STAT_wt_cause d.wtCause
  have on := cause.setFlag F.CAR_STAT_wt (d.wtCause != 0)
  exact cause.ite (allNsChanged ((on.withCar _).ite on.wtUnmark))

/-! ### The ring's registers and the SKEK (R222, R290, R297) -/

theorem noteRing : c.Beside d.noteRing := by
  refine Framed.trans (d := { d.noteRing with car := d.car }) ?_ ⟨rfl, fun _ _ => rfl⟩
  unfold Ctl.noteRing
  refine wr (wr (wr (wr (set (set (set (set h F.CAR_STAT_fill_pct _) F.CAR_STAT_slots _) F.CAR_IDX_STAT_entries _) F.CAR_RANGE_STAT_ranges _)
    _ (by decide)) _ (by decide)) _ (by decide)) _ (by decide)

theorem skekNote : c.Beside d.skekNote := ((h.setFlag F.CIP_SKEK_STAT_installed _).setFlag F.CIP_SKEK_STAT_rewrap _).set F.CIP_SKEK_STAT_bank _

theorem skekRestore : c.Beside d.skekRestore := by
  refine skekNote (List.foldlRecOn _ _ h fun e keeps b _ => keeps.ite ?_)
  split
  · exact keeps.withKeys _
  · exact keeps

end
end Ctl.Beside



/-! ### The scan of the Carafe (R54, R209) -/

/-- With the control area read into the registers and the marker taken away, what follows of the scan leaves both. -/
theorem Ctl.scanEnd_reads {c0 c3 d : Ctl} {ok : Bool} (all : d = ((c3.setFlag F.GLB_START_STAT_carafe_ok ok).skekRestore).noteRing.wtUpdate)
    (regs : c3.regs = (((c0.set F.GLB_PWR_STAT_last_stop c0.ctlNew.stop).set F.GLB_START_STAT_last_role c0.ctlNew.role).set
      F.PEER_EPOCH_epoch c0.ctlNew.epoch).regs)
    (power : c3.power = (c0.ctlPut (fun y => { y with stop := 2, role := 0 })).power) :
    d.get F.GLB_PWR_STAT_last_stop = c0.ctlNew.stop % 4 ∧ d.get F.GLB_START_STAT_last_role = c0.ctlNew.role % 4 ∧
    d.get F.PEER_EPOCH_epoch = c0.ctlNew.epoch % 2 ^ 32 ∧ d.ctlNew.stop = 2 ∧ d.epoch = c0.ctlNew.epoch ∧
    d.flag F.GLB_START_STAT_carafe_ok = ok ∧ d.power.scanned = c0.power.scanned := by
  subst all
  have beside := (((Ctl.Beside.refl (c3.setFlag F.GLB_START_STAT_carafe_ok ok)).skekRestore).noteRing).wtUpdate
  have newest : c3.ctlNew = { c0.ctlNew with stop := 2, role := 0, seq := c0.ctlNew.seq + 1 } := by
    refine Eq.trans ?_ (Ctl.ctlPut_new c0 (fun y => { y with stop := 2, role := 0 }))
    unfold Ctl.ctlNew
    rw [power]
  have scanned : c3.power.scanned = c0.power.scanned := by
    rw [power]
    unfold Ctl.ctlPut
    dsimp only
    split <;> rfl
  have shown (f : Fld) := Ctl.get_congr regs f
  rw [beside.get F.GLB_PWR_STAT_last_stop, beside.get F.GLB_START_STAT_last_role, beside.get F.PEER_EPOCH_epoch, Ctl.epoch,
    beside.ctlNew, show (c3.setFlag F.GLB_START_STAT_carafe_ok ok).ctlNew = _ from newest, beside.flag F.GLB_START_STAT_carafe_ok, beside.power, Ctl.flag_setFlag_same _ _ _ (by decide), Ctl.setFlag]
  refine ⟨?_, ?_, ?_, rfl, rfl, rfl, scanned⟩
  · rw [Ctl.get_set_off _ _ _ _ (by decide), shown, Ctl.get_set_off _ _ _ _ (by decide), Ctl.get_set_off _ _ _ _ (by decide),
      Ctl.get_set_same _ _ _ (by decide)]
    rfl
  · rw [Ctl.get_set_beside _ _ _ _ (by decide) (by decide), shown, Ctl.get_set_off _ _ _ _ (by decide), Ctl.get_set_same _ _ _ (by decide)]
    rfl
  · rw [Ctl.get_set_off _ _ _ _ (by decide), shown, Ctl.get_set_same _ _ _ (by decide)]
    rfl

/-- What the scan of the Carafe finds in the control area goes to the registers, and the marker is taken away. -/
theorem carafeScanDone_reads (s : State) (badA badB : Bool) (starting : s.c.starting = true) (fresh : s.c.power.scanned = false) :
    Completes (.carafeScanDone badA badB) s (fun t =>
      let c0 : Ctl := { s.c with power := { s.c.power with
        scanned := true, ctlA := if badA then Power.reset.ctlA else s.c.power.ctlA, ctlB := if badB then Power.reset.ctlB else
          s.c.power.ctlB } }
      (t.c.get F.GLB_PWR_STAT_last_stop = c0.ctlNew.stop % 4 ∧ t.c.get F.GLB_START_STAT_last_role = c0.ctlNew.role % 4 ∧
      t.c.get F.PEER_EPOCH_epoch = c0.ctlNew.epoch % 2 ^ 32 ∧ t.c.ctlNew.stop = 2 ∧ t.c.epoch = c0.ctlNew.epoch ∧
      t.c.flag F.GLB_START_STAT_carafe_ok = (!s.c.car.invalid && !s.c.car.failed && !(badA && badB)) ∧ t.c.power.scanned = true) ∧
      t.mem = s.mem ∧ t.pending = s.pending) := by
  refine completes_onCtl (show _ = execCarafeScanDone badA badB s from rfl) (if_neg (by simp [starting, fresh])) ?_
  exact ⟨Ctl.scanEnd_reads (State.withCtl_c s _) rfl rfl, State.withCtl_keeps s _⟩

/-! ### Entering STANDBY (R56) -/

theorem standbyEnter_guard {c : Ctl} (boot : c.mode = .boot) (starting : c.starting = true) (trained : c.flag F.GLB_START_STAT_hbm_ok = true)
    (scanned : c.power.scanned = true) (peer : (c.pair.hello.isSome || c.power.peerAbsent) = true) :
    ¬(c.mode != .boot || !c.starting || !c.flag F.GLB_START_STAT_hbm_ok || !c.power.scanned ||
      !(c.pair.hello.isSome || c.power.peerAbsent)) = true := by
  rw [boot, starting, trained, scanned, peer]
  decide

theorem Ctl.starting_running {c : Ctl} (starting : c.starting = true) : c.power.stop = none := by
  simp only [Ctl.starting, Bool.and_eq_true, Option.isNone_iff_eq_none] at starting
  exact starting.2

/-- A change of mode with the busy flag taken away ends in that mode. -/
theorem Ctl.setMode_settled {c : Ctl} (m : Mode) (running : c.power.stop = none) : ((c.setMode m).setFlag F.GLB_MODE_STAT_busy false).mode = m := by
  refine Eq.trans ?_ (Ctl.setMode_mode c m running)
  exact congrArg Mode.ofCode (Ctl.get_set_beside _ _ _ _ (by decide) (by decide))

/-- A device that waits for the lease is in STANDBY and notes it. -/
theorem standbyEnter_waits (s : State) (boot : s.c.mode = .boot) (starting : s.c.starting = true)
    (trained : s.c.flag F.GLB_START_STAT_hbm_ok = true) (scanned : s.c.power.scanned = true)
    (peer : (s.c.pair.hello.isSome || s.c.power.peerAbsent) = true)
    (waits : ((s.c.setMode .standby).setFlag F.GLB_MODE_STAT_busy false).startCase = .wait) :
    Completes .standbyEnter s (fun t =>
      let c1 := (s.c.setMode .standby).setFlag F.GLB_MODE_STAT_busy false
      t.c = { c1 with pair := { c1.pair with waits := true } } ∧ t.c.mode = .standby ∧ t.mem = s.mem ∧ t.pending = s.pending) := by
  have mode := Ctl.setMode_settled .standby (Ctl.starting_running starting)
  refine ⟨s.withCtl (let c1 := (s.c.setMode .standby).setFlag F.GLB_MODE_STAT_busy false
    { c1 with pair := { c1.pair with waits := true } }), ?_, State.withCtl_c s _, mode, State.withCtl_keeps s _⟩
  show execStandbyEnter s = _
  refine onCtl_withCtl ((if_neg (standbyEnter_guard boot starting trained scanned peer)).trans ?_)
  generalize (s.c.setMode .standby).setFlag F.GLB_MODE_STAT_busy false = c1 at waits ⊢
  dsimp only
  rw [waits]


/-! ### Members, the drives and the replay (R10, R55, R231, R240) -/

theorem Ctl.bayUsable_le (c : Ctl) (b : Nat) : c.bayUsable b ≤ 4 := by
  unfold Ctl.bayUsable
  repeat' split
  all_goals decide

/-- With a port's training recorded, its bay is usable when the port is a member port and the channel is on. -/
theorem Ctl.bayUsable_trained {c d : Ctl} {bay lanes : Nat} {switch : Bool} (regs : d.regs = c.regs)
    (trained : Tab.at? d.rbd.ports bay = some (decide (4 ≤ lanes) && !switch)) :
    d.bayUsable bay = if c.chSt bay = Ch.latched then 4 else if c.seat bay = false then 1 else if c.chSt bay ≠ Ch.on then 3
      else if 4 ≤ lanes ∧ switch = false then 0 else 2 := by
  have state : d.chSt bay = c.chSt bay := Ctl.get_congr regs _
  have seat : d.seat bay = c.seat bay := Ctl.flag_congr regs _
  simp only [Ctl.bayUsable, state, seat, trained]
  by_cases wide : 4 ≤ lanes <;> cases switch <;> simp [wide]

/-- A port's training is recorded, and the bay's `usable` follows it. -/
theorem driveLinkTrained_records (s : State) (bay : Fin 24) (lanes : Nat) (switch : Bool) (runs : s.c.portRuns bay = true) :
    Completes (.driveLinkTrained bay lanes switch) s (fun t =>
      Tab.at? t.c.rbd.ports bay = some (decide (4 ≤ lanes) && !switch) ∧
      t.c.get (F.BAY_CH_STAT_usable bay) = (if s.c.chSt bay = Ch.latched then 4 else if s.c.seat bay = false then 1
        else if s.c.chSt bay ≠ Ch.on then 3 else if 4 ≤ lanes ∧ switch = false then 0 else 2) ∧
      Tab.at? t.c.rbd.downAt bay = none ∧ t.mem = s.mem ∧ t.pending = s.pending) := by
  refine completes_onCtl (show _ = execDriveLinkTrained bay lanes switch s from rfl) (if_neg (by simp [runs])) ?_
  refine ⟨Tab.at?_put_same .., ?_, Tab.at?_del_same .., State.withCtl_keeps s _⟩
  rw [State.withCtl_c, Ctl.usableNote, Ctl.get_set_val _ _ _ (show 17 ≤ 19 ∧ 19 < 32 by decide)]
  · exact Ctl.bayUsable_trained rfl (Tab.at?_put_same ..)
  · exact Nat.lt_of_le_of_lt (Ctl.bayUsable_le _ _) (show 4 < 2 ^ (19 + 1 - 17) by decide)

theorem driveTake_unplaced {m : Mem} {c : Ctl} {bay : Nat} {d : Drive} (unplaced : c.posOfBay bay = none) :
    driveTake m c bay d = (m, c.pickAll.reassess) := by
  rw [driveTake, unplaced]

/-- A drive ready in a bay without a position makes the failed positions look for a replacement. -/
theorem driveReady_unplaced (s : State) (bay : Fin 24) (cap : Nat) (meta16 meta0 : Bool) (label : Option DriveLabel)
    (states : List (Bool × Nat)) (c1 : Ctl)
    (ready : c1 = { s.c with rbd := { s.c.rbd with
      drives := Tab.put s.c.rbd.drives bay ⟨true, cap, meta16, meta0, label, states, 0⟩, resetAt := Tab.del s.c.rbd.resetAt bay } })
    (runs : s.c.portRuns bay = true) (member : Tab.at? s.c.rbd.ports bay = some true) (unplaced : c1.posOfBay bay = none) :
    exec (.driveReady bay cap meta16 meta0 label states) s = .next (s.withCtl c1.pickAll.reassess.memberPower) := by
  show execDriveReady bay cap meta16 meta0 label states s = .next (s.withBoth (s.mem, c1.pickAll.reassess.memberPower))
  refine onAll_withBoth ?_
  subst ready
  refine (if_neg (by simp [runs])).trans ((if_neg (by simp [member])).trans ?_)
  rw [driveTake_unplaced unplaced]

theorem driveReady_noMember (s : State) (bay : Fin 24) (cap : Nat) (meta16 meta0 : Bool) (label : Option DriveLabel)
    (states : List (Bool × Nat)) (runs : s.c.portRuns bay = true) (other : Tab.at? s.c.rbd.ports bay ≠ some true) :
    exec (.driveReady bay cap meta16 meta0 label states) s = .next (s.withCtl { s.c with rbd := { s.c.rbd with
      drives := Tab.put s.c.rbd.drives bay ⟨true, cap, meta16, meta0, label, states, 0⟩, resetAt := Tab.del s.c.rbd.resetAt bay } }) := by
  show execDriveReady bay cap meta16 meta0 label states s = .next (s.withBoth (s.mem, _))
  refine onAll_withBoth ?_
  exact (if_neg (by simp [runs])).trans (if_pos (by simpa using other))

/-- Settles O2: each clause is its row's branch in the states that the clause names. -/
theorem startUpRowsComplete : Obligations.StartUpRowsComplete := by
  refine ⟨fun s looks boot unloaded running => ?image, fun s starting cold => ?hbm, fun s starting fresh => ?scan,
    fun s boot starting silent waited => ?absent, standbyEnter_waits, fun s boot starting trained scanned peer request => ?request,
    fun s boot starting trained scanned peer join => ?join, fun s lease standby still open_ live => ?missing, driveLinkTrained_records,
    driveReady_unplaced, fun s groups looks bad ckBad lease standby ready fresh => ?replay, fun s ports net trained down live => ?ports,
    fun s lease standby done still apart => ?abandon, fun s lease standby still live ready done up ended => ?entry,
    fun s badA badB starting fresh => ?epoch, driveReady_noMember⟩
  case image => exact show execImageLoaded looks s = _ from onAll_withBoth (if_pos (by simp [boot, unloaded, running]))
  case hbm => exact show execHbmInitDone s = _ from onAll_withBoth (if_neg (by simp [starting, cold]))
  case scan =>
    obtain ⟨t, row, ⟨stop, role, -, -, -, ok, scanned⟩, keeps⟩ := carafeScanDone_reads s false false starting fresh
    exact ⟨t, row, stop, role, by simpa using ok, scanned, keeps⟩
  case epoch =>
    obtain ⟨t, row, ⟨-, -, shown, newest, epoch, ok, -⟩, keeps⟩ := carafeScanDone_reads s badA badB starting fresh
    exact ⟨t, row, shown, newest, epoch, ok, keeps⟩
  case absent =>
    refine completes_onCtl (show _ = execPeerAbsentTimeout s from rfl) (if_neg (by simp [boot, starting, silent, waited])) ?_
    simp only [State.withCtl_c, Ctl.reach_regs, Ctl.reach_pair, true_and]
    exact State.withCtl_keeps s _
  case request =>
    show execStandbyEnter s = _
    refine onCtl_withCtl ((if_neg (standbyEnter_guard boot starting trained scanned peer)).trans ?_)
    dsimp only
    rw [request]
  case join =>
    show execStandbyEnter s = _
    refine onCtl_withCtl ((if_neg (standbyEnter_guard boot starting trained scanned peer)).trans ?_)
    dsimp only
    rw [join]
  case missing =>
    exact completes_onAll (show _ = execMemberWaitExpire s from rfl) (if_neg (by simp [lease, standby, still, open_, live])) ⟨rfl, rfl, State.withBoth_pending s _⟩
  case replay =>
    exact completes_onAll (show _ = execJournalReplay groups looks bad ckBad s from rfl) (if_neg (by simp [lease, standby, ready, fresh]))
      ⟨rfl, rfl, State.withBoth_pending s _⟩
  case ports =>
    refine completes_onCtl (show _ = execNetworkPortsUp ports s from rfl) (if_neg (by simp [net, trained, down, live])) ?_
    exact ⟨State.withCtl_c s _, Ctl.flag_setFlag_same _ _ _ (by decide), State.withCtl_keeps s _⟩
  case abandon =>
    refine completes_onCtl (show _ = execMirrorSyncAbandon s from rfl) (if_pos (by simp [lease, standby, done, still, apart])) ?_
    exact ⟨rfl, rfl, Ctl.flag_setFlag_same _ _ _ (by decide), State.withCtl_keeps s _⟩
  case entry =>
    refine completes_onCtl (show _ = execServiceEntry s from rfl) (if_neg ?_) ⟨?_, State.withCtl_keeps s _⟩
    · rcases ended with absent | synced | given
      · simp [lease, standby, still, live, ready, done, up, absent]
      · simp [lease, standby, still, live, ready, done, up, synced]
      · simp [lease, standby, still, live, ready, done, up, given]
    · rw [State.withCtl_c]
      simp [or_assoc]

end Sys2Proof.Machine
end

section
/-! SUPPORT. Interrupts, fault records and events leave the power block. -/

namespace Sys2Proof.Machine
set_option Elab.async false

theorem Ctl.power_of_waitView {c d : Ctl} (h : c.waitView = d.waitView) : c.power = d.power := ((Ctl.waitView_eq_iff c d).mp h).2.2.1

@[simp] theorem Ctl.intSet_power (c : Ctl) (b : Nat) : (c.intSet b).power = c.power := Ctl.power_of_waitView (c.waitView_intSet b)

@[simp] theorem Ctl.intxUpdate_power (c : Ctl) : c.intxUpdate.power = c.power := Ctl.power_of_waitView c.waitView_intxUpdate

@[simp] theorem Ctl.faultRecord_power (c : Ctl) (code outcome detail : Nat) : (c.faultRecord code outcome detail).power = c.power :=
  Ctl.power_of_waitView (c.waitView_faultRecord code outcome detail)

@[simp] theorem Ctl.report_power (c : Ctl) (v : Aen) (p : Assoc → Bool) : (c.report v p).power = c.power :=
  ((Ctl.Beside.refl c).report v p).power

@[simp] theorem Ctl.anaUpdate_power (c : Ctl) : c.anaUpdate.power = c.power := by
  unfold Ctl.anaUpdate
  dsimp only
  split
  · rfl
  · rw [Ctl.report_power]
    rfl

/-- A sensor's reading moves no power state. -/
@[simp] theorem Ctl.tempRead_power (c : Ctl) (sensor temp : Nat) : (c.tempRead sensor temp).power = c.power := by
  simp only [Ctl.tempRead, Ctl.report_power, Ctl.intSet_power, apply_ite Ctl.power, Ctl.setFlag_power, Ctl.set_power, ite_self]

end Sys2Proof.Machine
end

section

/-!
Thermal rows (02_package_and_power.md, R43): each acts on what the sensor's reading leaves.
-/

namespace Sys2Proof.Machine
set_option Elab.async false

/-- A row of a sensor that reads does its part after the reading is noted. -/
theorem tempRow_withCtl {sensor temp : Nat} {f : Ctl → Ctl} {s : State} {c : Ctl} (reads : s.c.sensorOn sensor = true)
    (effect : f (s.c.tempRead sensor temp) = c) : tempRow sensor temp f s = .next (s.withCtl c) :=
  onCtl_withCtl ((if_pos reads).trans effect)

/-- Settles O3: the sensor reads, and each row's own condition holds of the reading. -/
theorem thermalRowsComplete : Obligations.ThermalRowsComplete := by
  refine ⟨fun s sensor temp reads => ?warning, fun s sensor temp reads enabled hot => ?throttle, fun s sensor temp reads throttled => ?step,
    fun s sensor temp reads hot untripped => ?trip⟩
  case warning => exact show execThermalWarning sensor temp s = _ from tempRow_withCtl reads rfl
  case throttle => exact show execThermalThrottleStart sensor temp s = _ from tempRow_withCtl reads (if_pos (by simp [enabled, hot]))
  case step => exact show execThrottleStep sensor temp s = _ from tempRow_withCtl reads (if_neg (by simp [throttled]))
  case trip =>
    show execThermalTrip sensor temp s = _
    refine tempRow_withCtl reads ((if_neg (Nat.not_lt.mpr hot)).trans ?_)
    have first : (s.c.tempRead sensor temp).power.thermN = false := by rw [Ctl.tempRead_power, untripped]
    simp only [first, Bool.false_eq_true, if_false]

end Sys2Proof.Machine
end

section
/-! SUPPORT. GLB_MODE_REQ's word; and the mode and the power block where members and the peer change in STANDBY. -/

namespace Sys2Proof.Machine
set_option Elab.async false

/-- A row over everything but the queue that leaves the memories. -/
theorem onAll_withCtl {s : State} {f : Mem → Ctl → Mem × Ctl} {c : Ctl} (effect : f s.mem s.c = (s.mem, c)) : onAll f s = .next (s.withCtl c) :=
  onAll_withBoth effect

/-- The request's code is read back from its word. -/
theorem getBits_reqWord (confirm : BitVec 16) {req : Nat} (fits : req < 16) : getBits (reqWord confirm req) 3 0 = req := by
  have := confirm.isLt
  simp only [getBits, reqWord, BitVec.toNat_ofNat]
  omega

theorem getBits_reqWord_confirm (confirm : BitVec 16) {req : Nat} (fits : req < 16) : getBits (reqWord confirm req) 31 16 = confirm.toNat := by
  have := confirm.isLt
  simp only [getBits, reqWord, BitVec.toNat_ofNat]
  omega

/-- A mode request finds the device out of RESET with no safe stop. -/
structure Ctl.TakesRequests (c : Ctl) : Prop where
  running : c.power.stop = none
  on : c.mode ≠ .off
  released : c.mode ≠ .reset

/-- A request after the lease's end fences the device and is refused (R341). -/
theorem modeReq_leaseOver {m : Mem} {c : Ctl} (h : c.TakesRequests) (ended : c.leaseOver = true) (confirm : BitVec 16) {req : Nat}
    (code : 0 < req ∧ req < 16 := by decide) : modeReq m c (reqWord confirm req) = (m, c.fence.reqRefuse 1) := by
  have taken : ¬(c.power.stop.isSome || c.mode == .off || c.mode == .reset || req == 0) = true := by
    simp [h.running, h.on, h.released]
    omega
  simp only [modeReq, getBits_reqWord confirm code.2]
  rw [if_neg taken, if_pos ended]

theorem modeReq_unknown {m : Mem} {c : Ctl} (h : c.TakesRequests) (held : c.leaseOver = false) (confirm : BitVec 16) {req : Nat}
    (code : 6 ≤ req ∧ req < 16) : modeReq m c (reqWord confirm req) = (m, c.reqRefuse 4) := by
  have taken : ¬(c.power.stop.isSome || c.mode == .off || c.mode == .reset || req == 0) = true := by
    simp [h.running, h.on, h.released]
    omega
  simp only [modeReq, getBits_reqWord confirm code.2]
  rw [if_neg taken, if_neg (by simp [held]), if_pos code.1]

section
variable {m : Mem} {c : Ctl} (h : c.TakesRequests) (held : c.leaseOver = false) (idle : c.flag F.GLB_MODE_STAT_busy = false)
include h held idle

theorem modeReq_quiesce (confirm : BitVec 16) (serves : c.mode = .active ∨ c.mode = .degraded ∨ c.mode = .idleLow) :
    modeReq m c (reqWord confirm 1) = (m, c.quiesce) := by
  rcases serves with e | e | e <;> simp [modeReq, getBits_reqWord, h.running, held, idle, e]

theorem modeReq_resume (confirm : BitVec 16) (quiesced : c.mode = .quiesced) :
    modeReq m c (reqWord confirm 2) = (m, (c.setMode c.serveMode).psApply) := by
  simp [modeReq, getBits_reqWord, h.running, held, idle, quiesced]

theorem modeReq_reset : modeReq m c (reqWord 0x5A17 3) = toReset m c 4 := by
  simp [modeReq, getBits_reqWord, getBits_reqWord_confirm, h.running, h.on, h.released, held, idle]

theorem modeReq_recovery : modeReq m c (reqWord 0x5A17 4) = toReset m (c.pcrOwn F.FWU_STAT_rec_flag 1) 4 := by
  simp [modeReq, getBits_reqWord, getBits_reqWord_confirm, h.running, h.on, h.released, held, idle]

theorem modeReq_test (standby : c.mode = .standby) : modeReq m c (reqWord 0x5A17 5) = (m, c.toTest) := by
  simp [modeReq, getBits_reqWord, getBits_reqWord_confirm, h.running, held, idle, standby]

end

/-! ### STANDBY (R53, R351) -/

/-- A flag of GLB_MODE_STAT above the mode's field leaves the mode. -/
theorem Ctl.mode_setFlag_above (c : Ctl) (f : Fld) (b : Bool) (ok : f.Ok := by decide) (above : 3 < f.lo := by decide) :
    (c.setFlag f b).mode = c.mode := congrArg Mode.ofCode (Ctl.get_set_beside c f _ _ ok (Or.inl above))

theorem Ctl.anaUpdate_mode (c : Ctl) : c.anaUpdate.mode = c.mode := Ctl.mode_congr c.anaUpdate_msw

theorem Ctl.faultRecord_mode (c : Ctl) (code outcome detail : Nat) : (c.faultRecord code outcome detail).mode = c.mode :=
  Ctl.mode_congr (c.faultRecord_msw code outcome detail)

theorem Ctl.grpNote_msw (c : Ctl) (g : Nat) : (c.grpNote g).msw = c.msw := by
  have away : Reg.RBD_GRP_STAT g ≠ Reg.GLB_MODE_STAT := by
    unfold Reg.RBD_GRP_STAT Reg.GLB_MODE_STAT
    omega
  unfold Ctl.grpNote
  rw [Ctl.msw_setFlag_off _ _ _ (by exact away), Ctl.msw_set_off _ _ _ (by exact away), Ctl.msw_set_off _ _ _ (by exact away)]

/-- A fold of updates that each leave the power block leaves it. -/
theorem Ctl.power_foldl {α : Type} (f : Ctl → α → Ctl) (step : ∀ c a, (f c a).power = c.power) :
    ∀ (l : List α) (c : Ctl), (l.foldl f c).power = c.power
  | [], _ => rfl
  | a :: l, c => by rw [List.foldl_cons, Ctl.power_foldl f step l, step]

theorem Ctl.grpNotes_power (c : Ctl) (gs : List Nat) : (gs.foldl Ctl.grpNote c).power = c.power :=
  Ctl.power_foldl Ctl.grpNote (fun _ _ => rfl) gs c

/-- In STANDBY a change of redundancy moves neither the mode nor the power block. -/
theorem Ctl.reassess_standby {c : Ctl} (standby : c.mode = .standby) : c.reassess.power = c.power ∧ c.reassess.mode = .standby := by
  have mode (b : Bool) : (((c.groups.foldl Ctl.grpNote c).setFlag F.GLB_MODE_STAT_redund_low b).anaUpdate).mode = .standby := by
    rw [Ctl.anaUpdate_mode, Ctl.mode_setFlag_above _ _ _, Ctl.mode_congr (Ctl.msw_foldl _ Ctl.grpNote_msw _ _), standby]
  have stays (b : Bool) : (((c.groups.foldl Ctl.grpNote c).setFlag F.GLB_MODE_STAT_redund_low b).anaUpdate).power = c.power := by
    rw [Ctl.anaUpdate_power, Ctl.setFlag_power, Ctl.grpNotes_power]
  unfold Ctl.reassess
  dsimp only
  rw [mode]
  exact ⟨stays _, mode _⟩

theorem Ctl.winsClose_msw (c : Ctl) : c.winsClose.msw = c.msw := Ctl.msw_foldl _ (fun d n => Ctl.msw_setFlag_off d _ _ (by
  show Reg.PEER_WIN_OPR n ≠ Reg.GLB_MODE_STAT
  unfold Reg.PEER_WIN_OPR Reg.GLB_MODE_STAT
  omega)) _ _

theorem Ctl.winsClose_power (c : Ctl) : c.winsClose.power = c.power :=
  Ctl.power_foldl (fun d n => d.setFlag (F.PEER_WIN_OPR_en n) false) (fun _ _ => rfl) _ c

/-- A standby that treats its peer as lost stays in STANDBY, its power block as it was. -/
theorem Ctl.standbyLost_standby {c : Ctl} (standby : c.mode = .standby) : c.standbyLost.power = c.power ∧ c.standbyLost.mode = .standby := by
  unfold Ctl.standbyLost
  split
  · exact ⟨rfl, standby⟩
  · dsimp only
    have field : ((c.setFlag F.GLB_MODE_STAT_peer_synced false).setFlag F.PEER_STAT_endorsing false).winsClose.mode = .standby := by
      rw [Ctl.mode_congr (Ctl.winsClose_msw _), Ctl.mode_setFlag_off _ _ _ (by decide), Ctl.mode_setFlag_above _ _ _, standby]
    have power : ((c.setFlag F.GLB_MODE_STAT_peer_synced false).setFlag F.PEER_STAT_endorsing false).winsClose.power = c.power := by
      rw [Ctl.winsClose_power]
      rfl
    generalize ((c.setFlag F.GLB_MODE_STAT_peer_synced false).setFlag F.PEER_STAT_endorsing false).winsClose = d at field power ⊢
    rw [← power]
    split
    · have after : (({ d with pair := { d.pair with syncing := false, retryAt := none, refEnd := none } } : Ctl).faultRecord 0x83 4 0).mode =
          .standby := (Ctl.faultRecord_mode _ _ _ _).trans field
      exact ⟨(Ctl.reassess_standby after).1.trans (Ctl.faultRecord_power _ _ _ _), (Ctl.reassess_standby after).2⟩
    · exact Ctl.reassess_standby (c := { d with pair := { d.pair with syncing := false, retryAt := none, refEnd := none } }) field

theorem Ctl.flushMessages_power (c : Ctl) : c.flushMessages.power = c.power := by
  refine Ctl.power_foldl _ (fun d b => ?_) _ c
  split
  · rfl
  · split <;> rfl

/-- A change of mode writes the role to the control area, and leaves a quiesce in progress as it is. -/
theorem Ctl.setMode_quiescing (c : Ctl) (m : Mode) : (c.setMode m).power.quiescing = c.power.quiescing := by
  have role (d : Ctl) : d.roleNote.power.quiescing = d.power.quiescing := by
    unfold Ctl.roleNote Ctl.ctlPut
    dsimp only
    split <;> rfl
  unfold Ctl.setMode
  simp only [apply_ite Ctl.power, apply_ite Power.quiescing, Ctl.anaUpdate_power, role, Ctl.set_power, Ctl.intSet_power, Ctl.intxUpdate_power,
    Ctl.flushMessages_power, ite_self]

theorem Ctl.stop_of_live {c : Ctl} (live : c.halted = false) : c.power.stop = none := by
  simp only [Ctl.halted, Bool.or_eq_false_iff, Option.isSome_eq_false_iff, Option.isNone_iff_eq_none] at live
  exact live.1.1.1

/-- A standby without the lease that is asked for TEST enters it (R53). -/
theorem Ctl.toTest_mode {c : Ctl} (running : c.power.stop = none) (standby : c.mode = .standby) (free : c.lease = false) : c.toTest.mode = .test := by
  have sent : (c.leaseDrop.peerSend .leave).mode = .standby ∧ (c.leaseDrop.peerSend .leave).power = c.power := by
    simp only [Ctl.leaseDrop, free, Bool.not_false, if_true, Ctl.peerSend]
    split <;> exact ⟨standby, rfl⟩
  have lost := Ctl.standbyLost_standby sent.1
  unfold Ctl.toTest
  refine Ctl.setMode_mode _ _ ?_
  rw [Ctl.winsClose_power, lost.1, sent.2, running]

end Sys2Proof.Machine
end

section

/-!
Power domains and mode requests (02_package_and_power.md, R31 to R34; 03_modes_and_startup.md, R49 to R53).
-/

namespace Sys2Proof.Machine
set_option Elab.async false

section
variable (c : Ctl) (x : Nat)

/-- The end of a drain's wait moves time and the power block alone. -/
theorem Ctl.drainOver_get (p : Power) (f : Fld) : ({ c.reach x with power := p } : Ctl).get f = c.get f := Ctl.reach_get c x f

theorem Ctl.drainOver_bitOf (p : Power) (f : Fld) (i : Nat) : ({ c.reach x with power := p } : Ctl).bitOf f i = c.bitOf f i :=
  congrArg (Nat.testBit · i) (Ctl.drainOver_get c x p f)

theorem Ctl.drainOver_mode (p : Power) : ({ c.reach x with power := p } : Ctl).mode = c.mode := congrArg Mode.ofCode (Ctl.drainOver_get c x p _)

end

/-- Settles O4: the domain rows branch on the state the clauses name, and the requests are taken up as GLB_MODE_REQ says. -/
theorem modeAndDomainRowsComplete : Obligations.ModeAndDomainRowsComplete := by
  refine ⟨fun s value running open_ idle => ?act, fun s value running open_ busy may => ?held, fun s d q running on released booted head => ?up,
    fun s d q running on released booted head drained undrained => ?down, fun s draining free => ?drained, fun s x draining full off => ?refused,
    fun s x draining full on low ps3 => ?ps3, fun s confirm running held idle serves => ?quiesce, fun s confirm running held idle quiesced => ?resume,
    fun s running on released held idle => ?reset, fun s running on released held idle => ?recovery, fun s running standby held idle => ?test,
    fun s code confirm running on released held => ?unknown, fun s quiescing done live => ?quiesced, fun s x draining full on other => ?left,
    fun s confirm running held idle low => ?quiesceLow, fun s confirm running on released ended => ?ended⟩
  case act =>
    refine show execGlbPdCtrlWrite value s = _ from onCtl_withCtl ((if_neg (by simp [running, open_])).trans ?_)
    exact if_neg (by simp [idle])
  case held =>
    refine show execGlbPdCtrlWrite value s = _ from onCtl_withCtl ((if_neg (by simp [running, open_])).trans ?_)
    exact if_pos ⟨busy, may⟩
  case up =>
    refine show execDomainTransitionDone s = _ from onCtl_withCtl ((if_neg (by simp [running, on, released, booted])).trans ?_)
    rw [head]
  case down =>
    refine show execDomainTransitionDone s = _ from onCtl_withCtl ((if_neg (by simp [running, on, released, booted])).trans ?_)
    rw [head]
    exact if_neg (by simp [drained, undrained])
  case drained => exact show execD07DrainDone s = _ from onCtl_withCtl (if_pos (by simp [draining, free]))
  case refused =>
    refine show execD07DrainTimeout s = _ from onCtl_withCtl ?_
    dsimp only
    rw [draining]
    exact (if_neg (by simp [full])).trans (if_neg (by rw [Ctl.drainOver_bitOf, off]; decide))
  case ps3 =>
    refine show execD07DrainTimeout s = _ from onCtl_withCtl ?_
    dsimp only
    rw [draining]
    refine (if_neg (by simp [full])).trans ((if_pos (by rw [Ctl.drainOver_bitOf, on])).trans ?_)
    exact congrArg Ctl.pdNext (if_pos ⟨(Ctl.drainOver_mode _ _ _).trans low, (Ctl.drainOver_get _ _ _ _).trans ps3⟩)
  case left =>
    refine show execD07DrainTimeout s = _ from onCtl_withCtl ?_
    dsimp only
    rw [draining]
    refine (if_neg (by simp [full])).trans ((if_pos (by rw [Ctl.drainOver_bitOf, on])).trans ?_)
    exact congrArg Ctl.pdNext (if_neg fun h => other ⟨(Ctl.drainOver_mode _ _ _).symm.trans h.1, (Ctl.drainOver_get _ _ _ _).symm.trans h.2⟩)
  case quiesce =>
    have taken : s.c.TakesRequests := by
      rcases serves with e | e <;> exact ⟨running, by simp [e], by simp [e]⟩
    refine show execModeReqQuiesce confirm s = _ from onAll_withCtl ?_
    rw [modeReq_quiesce taken held idle confirm (by rcases serves with e | e <;> simp [e])]
    have high : s.c.mode ≠ .idleLow := by rcases serves with e | e <;> simp [e]
    unfold Ctl.quiesce
    rw [if_neg high]
  case quiesceLow =>
    refine show execModeReqQuiesce confirm s = _ from onAll_withCtl ?_
    rw [modeReq_quiesce ⟨running, by simp [low], by simp [low]⟩ held idle confirm (by simp [low])]
    unfold Ctl.quiesce
    rw [if_pos low]
  case resume =>
    refine show execModeReqResume confirm s = _ from onAll_withCtl ?_
    rw [modeReq_resume ⟨running, by simp [quiesced], by simp [quiesced]⟩ held idle confirm quiesced]
    rfl
  case reset =>
    obtain ⟨mem, mode, cause, -⟩ := toReset_all s.mem s.c 4 (by decide)
    exact completes_onAll (show _ = execModeReqReset 0x5A17 s from rfl) (modeReq_reset ⟨running, on, released⟩ held idle)
      ⟨mode, cause, mem, State.withBoth_pending s _⟩
  case recovery =>
    obtain ⟨mem, mode, cause, -⟩ := toReset_all s.mem (s.c.pcrOwn F.FWU_STAT_rec_flag 1) 4 (by decide)
    exact completes_onAll (show _ = execModeReqRecovery 0x5A17 s from rfl) (modeReq_recovery ⟨running, on, released⟩ held idle)
      ⟨rfl, mode, cause, mem, State.withBoth_pending s _⟩
  case test =>
    exact completes_onAll (show _ = execModeReqTest 0x5A17 s from rfl)
      (modeReq_test ⟨running, by simp [standby], by simp [standby]⟩ held idle standby)
      ⟨rfl, Ctl.toTest_mode running standby, rfl, State.withBoth_pending s _⟩
  case unknown =>
    refine show execModeReqUnknown code confirm s = _ from onAll_withCtl ?_
    exact modeReq_unknown ⟨running, on, released⟩ held confirm ⟨by omega, by omega⟩
  case quiesced =>
    refine completes_onCtl (show _ = execQuiesceDone s from rfl) (if_neg (by simp [quiescing, done, live]))
      ⟨Ctl.setMode_settled _ ?_, Ctl.flag_setFlag_same _ _ _ (by decide), ?_, State.withCtl_keeps s _⟩
    · exact Ctl.stop_of_live live
    · exact (Ctl.setFlag_power ..).symm ▸ Ctl.setMode_quiescing _ _
  case ended =>
    have refused := @modeReq_leaseOver s.mem s.c ⟨running, on, released⟩ ended
    exact ⟨show execModeReqQuiesce confirm s = _ from onAll_withCtl (refused confirm),
      show execModeReqResume confirm s = _ from onAll_withCtl (refused confirm),
      show execModeReqReset confirm s = _ from onAll_withCtl (refused confirm),
      show execModeReqRecovery confirm s = _ from onAll_withCtl (refused confirm),
      show execModeReqTest confirm s = _ from onAll_withCtl (refused confirm)⟩

end Sys2Proof.Machine
end

section

/-!
Rows of network time (04_network_time.md): what each does from the states in which it acts.
-/

namespace Sys2Proof.Machine
set_option Elab.async false

/-! ### Sync and references (R67, R69, R70) -/

theorem Ctl.setSync_sync (c : Ctl) {st : Nat} (fits : st < 8) : (c.setSync st).sync = st :=
  (Ctl.get_set_beside _ _ _ _ (by decide) (by decide)).trans (Ctl.get_set_val _ _ _ (by decide) fits)

theorem Ctl.setSync_unsync (c : Ctl) (st : Nat) : (c.setSync st).unsync = (st == Sync.free || st == Sync.unsync) :=
  Ctl.flag_setFlag_same _ _ _ (by decide)

theorem Ctl.enterHoldover_of_tracking {c : Ctl} (tracking : c.sync = Sync.acquiring ∨ c.sync = Sync.locked) :
    c.enterHoldover.sync = Sync.holdover ∧ c.enterHoldover.unsync = false ∧ c.enterHoldover.time.lostNs = 0 ∧
    c.enterHoldover.time.lostAt = c.dt := by
  unfold Ctl.enterHoldover
  rw [if_pos tracking]
  exact ⟨Ctl.setSync_sync c (by decide), Ctl.setSync_unsync c _, rfl, rfl⟩

/-- Outside HOLDOVER a new limit ends nothing. -/
theorem Ctl.lostCheck_of_tracking {c : Ctl} (tracking : c.sync ≠ Sync.holdover) : c.lostCheck = c := if_neg fun h => tracking h.1

/-- The references' flags in TIM_SYNC_STAT follow the inputs; nothing else moves. -/
theorem Ctl.refNote_ref (c : Ctl) : c.refNote.flag F.TIM_SYNC_STAT_ref_ok = (c.flag F.TIM_REF_CFG_ref10m_en && c.time.refGood) :=
  (Ctl.flag_set_beside _ _ _ _ (by decide) (by decide)).trans (Ctl.flag_setFlag_same _ _ _ (by decide))

theorem Ctl.refNote_pps (c : Ctl) : c.refNote.flag F.TIM_SYNC_STAT_pps_ok = (c.flag F.TIM_REF_CFG_pps_en && c.time.ppsGood) :=
  Ctl.flag_setFlag_same _ _ _ (by decide)

theorem Ctl.refNote_ppsBad (c : Ctl) : c.refNote.get F.TIM_SYNC_STAT_pps_bad = c.get F.TIM_SYNC_STAT_pps_bad :=
  (Ctl.get_set_beside _ _ _ _ (by decide) (by decide)).trans (Ctl.get_set_beside _ _ _ _ (by decide) (by decide))

theorem Ctl.refNote_time (c : Ctl) : c.refNote.time = c.time := rfl

theorem Ctl.refNote_regsBut (c : Ctl) : RegsBut [Reg.TIM_SYNC_STAT] c c.refNote := fun o beside =>
  have away (f : Fld) (same : f.off = Reg.TIM_SYNC_STAT) : f.off ≠ o := fun e => beside (List.mem_singleton.mpr (e.symm.trans same))
  (Ctl.rd_set_other _ F.TIM_SYNC_STAT_pps_ok _ o (away _ rfl)).trans (Ctl.rd_set_other _ F.TIM_SYNC_STAT_ref_ok _ o (away _ rfl))

theorem Ctl.dntTo_dnt (c : Ctl) (dnt : Nat) : (c.dntTo dnt).time.dnt = dnt := rfl

theorem Ctl.dntTo_flag (c : Ctl) (dnt : Nat) (f : Fld) : (c.dntTo dnt).flag f = c.flag f := rfl

theorem Ctl.withTime_flag (c : Ctl) (x : Time) (f : Fld) : ({ c with time := x } : Ctl).flag f = c.flag f := rfl

theorem Ctl.nearSecond_congr {c d : Ctl} (same : c.time.dnt = d.time.dnt) : c.nearSecond = d.nearSecond := by
  unfold Ctl.nearSecond Ctl.dntNs
  rw [same]

/-- Settles O5: the clauses name the branch of each row. -/
theorem timeRowsComplete : Obligations.TimeRowsComplete := by
  refine ⟨fun s np domain ether identity seq logInt origin corr peer dtNs from_ low high => ?twoStep,
    fun s np domain ether identity seq logInt origin corr peer dtNs from_ low high profile => ?oneStep,
    fun s np domain ether identity seq origin corr peer corr0 rx waits from_ => ?followUp,
    fun s np domain ether prio1 cls accuracy variance prio2 identity hops utc hears first => ?announce,
    fun s np domain ether received corr t1 t2 t3 hears profile port sync req => ?delayResp,
    fun s np domain ether profile hears => ?pdelay, fun s np => ?announceTimeout, fun s tracking => ?syncTimeout,
    fun s holdover unheld => ?lost, fun s limit open_ low high tracking => ?limit, fun s dtNs enabled near => ?pps,
    fun s dtNs enabled far => ?ppsFar, fun s => ?refLost, fun s => ?refBack, fun s alone => ?todAlone, fun s => ?tod,
    fun s e first idle synced => ?commit⟩
  case twoStep =>
    refine completes_onAll (show _ = execPtpSync np domain ether identity seq true logInt origin corr peer dtNs s from rfl)
      ((if_neg (by simp [from_, syncInterval, low, high])).trans (if_pos rfl)) ⟨rfl, rfl, rfl, State.withBoth_pending s _⟩
  case oneStep =>
    refine show execPtpSync np domain ether identity seq false logInt origin corr peer dtNs s = _ from onAll_withBoth
      ((if_neg (by simp [from_, syncInterval, low, high])).trans ((if_neg Bool.false_ne_true).trans (if_neg ?_)))
    exact profile
  case followUp =>
    refine show execPtpFollowUp np domain ether identity seq origin corr peer s = _ from onAll_withBoth ?_
    rw [waits]
    exact if_pos (by simp [from_])
  case announce =>
    refine show execPtpAnnounce np domain ether prio1 cls accuracy variance prio2 identity hops utc s = _ from onCtl_withCtl
      ((if_neg (by simp [hears])).trans ?_)
    dsimp only
    rw [first]
    exact if_pos rfl
  case delayResp =>
    refine show execPtpDelayResp np domain ether received corr s = _ from onCtl_withCtl ((if_neg (by simp [hears, profile, port])).trans ?_)
    rw [sync, req]
  case pdelay => exact show execPtpPdelayReq np domain ether s = _ from onCtl_withCtl (if_pos (by simp [profile, hears]))
  case announceTimeout => exact show execAnnounceTimeout np s = _ from onCtl_withCtl rfl
  case syncTimeout =>
    obtain ⟨sync, unsync, ns, at_⟩ := Ctl.enterHoldover_of_tracking (c := { s.c with time := { s.c.time with brkWait := false } }) tracking
    exact completes_onCtl (show _ = execSyncTimeout s from rfl) rfl ⟨sync, unsync, ns, at_, State.withCtl_keeps s _⟩
  case lost => exact show execSyncLostExpire s = _ from onCtl_withCtl (if_pos ⟨holdover, Or.inl (by simp [unheld])⟩)
  case limit =>
    have same : (s.c.set F.TIM_SYNC_LOST_limit_s limit).sync ≠ Sync.holdover := by
      unfold Ctl.sync
      rw [Ctl.get_set_off _ _ _ _ (by decide)]
      exact tracking
    refine completes_onCtl (show _ = execTimSyncLostWrite limit s from rfl)
      ((if_pos (by simp [open_, lostRange, low, high])).trans (Ctl.lostCheck_of_tracking same)) ⟨State.withCtl_c s _, ?_, State.withCtl_keeps s _⟩
    exact Ctl.get_set_val _ _ _ (by decide) limit.isLt
  case pps =>
    have on : (((s.c.reach dtNs).dmaEvents 67 1).lostCount).flag F.TIM_REF_CFG_pps_en = true := (Ctl.reach_flag ..).trans enabled
    refine completes_onCtl (show _ = execPpsEdge dtNs s from rfl) ((if_neg (by rw [on]; decide)).trans (if_neg (Nat.not_lt.mpr near)))
      ⟨rfl, ?_, ?_, State.withCtl_keeps s _⟩
    · rw [State.withCtl_c, Ctl.refNote_time, Ctl.dntTo_dnt]
      exact congrArg (· * 65536) (Ctl.nearSecond_congr rfl)
    · rw [State.withCtl_c, Ctl.refNote_pps, Ctl.dntTo_flag, Ctl.withTime_flag, on]
      rfl
  case ppsFar =>
    have on : (((s.c.reach dtNs).dmaEvents 67 1).lostCount).flag F.TIM_REF_CFG_pps_en = true := (Ctl.reach_flag ..).trans enabled
    refine completes_onCtl (show _ = execPpsEdge dtNs s from rfl) ((if_neg (by rw [on]; decide)).trans (if_pos far))
      ⟨rfl, (Ctl.refNote_pps _).trans (Bool.and_false _), rfl, ?_, State.withCtl_keeps s _⟩
    rw [State.withCtl_c, Ctl.refNote_ppsBad, Ctl.get_bump_same _ _ _ (by decide)]
    exact congrArg (fun n => min (n + 1) _) (Ctl.reach_get s.c dtNs F.TIM_SYNC_STAT_pps_bad)
  case refLost =>
    refine completes_onCtl (show _ = execRef10mOutOfTolerance s from rfl) rfl ⟨rfl, ?_, ?_, State.withCtl_keeps s _⟩
    · exact (Ctl.refNote_ref _).trans (Bool.and_false _)
    · exact Ctl.refNote_regsBut { s.c with time := { s.c.time with refGood := false } }
  case refBack =>
    refine completes_onCtl (show _ = execRef10mInWithinTolerance s from rfl) rfl ⟨rfl, ?_, ?_, State.withCtl_keeps s _⟩
    · exact (Ctl.refNote_ref _).trans (Bool.and_true _)
    · exact Ctl.refNote_regsBut { s.c with time := { s.c.time with refGood := true } }
  case todAlone =>
    exact show execTodBoundary s = _ from onAll_withCtl (dntRow_of_none_due s.mem _ alone)
  case tod => exact show execTodBoundary s = _ from onAll_withBoth rfl
  case commit =>
    refine show execScheduledCommitFire s = _ from onAll_withBoth ?_
    dsimp only
    rw [first]
    exact (if_neg (by simp [idle])).trans (if_neg (by simp [synced]))

end Sys2Proof.Machine
end

section
/-! SUPPORT. A served admin capsule's row, and a table whose one ready entry is the one just put. -/

namespace Sys2Proof
set_option Elab.async false

/-- Where no entry of a table satisfies `p`, the one put under `k` is all that does. -/
theorem Tab.filter_put_of_none {α : Type} {p : Nat × α → Bool} {k : Nat} {x : α} (hit : p (k, x) = true) :
    ∀ {t : Tab α}, (∀ e ∈ t, p e = false) → (Tab.put t k x).filter p = [(k, x)]
  | [], _ => by simp [Tab.put, hit]
  | (a, y) :: t, others => by
    have here : p (a, y) = false := others _ List.mem_cons_self
    have there : ∀ e ∈ t, p e = false := fun e mem => others e (List.mem_cons_of_mem _ mem)
    have rest : t.filter p = [] := List.filter_eq_nil_iff.mpr fun e mem => by simp [there e mem]
    simp only [Tab.put]
    split
    · simp [hit, here, rest]
    · split
      · simp [hit, rest]
      · simp [here, Tab.filter_put_of_none hit there]

/-- An entry that does not satisfy `p`, put under a number that is not taken, changes nothing of what does. -/
theorem Tab.filter_put_of_miss {α : Type} {p : Nat × α → Bool} {k : Nat} {x : α} (miss : p (k, x) = false) :
    ∀ {t : Tab α}, Tab.has t k = false → (Tab.put t k x).filter p = t.filter p
  | [], _ => by simp [Tab.put, miss]
  | (a, y) :: t, free => by
    have other : a ≠ k := fun e => by simp [Tab.has, Tab.at?, e] at free
    have there : Tab.has t k = false := by simpa [Tab.has, Tab.at?, other] using free
    simp only [Tab.put]
    split
    · rw [List.filter_cons_of_neg (by simp [miss])]
    · simp only [List.filter_cons, Tab.filter_put_of_miss miss there]

end Sys2Proof

namespace Sys2Proof.Machine
set_option Elab.async false

/-- The row of a served capsule answers what the command does in the state that its start has made. -/
theorem adminRow_served {x : AdminCap} {k tag : Nat} {a : Assoc} {hit : Assoc → Bool} {s : State} {c : Ctl}
    (served : AdminServed s.c x k tag a) (does : adminDo x k (a.alive s.c.dt) s.mem (s.c.begun x k tag a) = (s.mem, c))
    (named : hit a = true := by exact rfl) : adminRow x hit s = .next (s.withCtl c) :=
  onAll_withCtl ((adminArrive_served s.mem served named).trans does)

@[simp] theorem Ctl.complete_assocs (c : Ctl) (conn cid : Nat) (ten : Option Nat) (st : NvStatus) (dw0 dw1 : Nat) :
    (c.complete conn cid ten st dw0 dw1).host.assocs = c.host.assocs := by
  show (c.post conn cid ten st dw0 dw1).host.assocs = _
  rw [Ctl.post_host]

/-- The only tag whose turn may have come starts. -/
theorem Ctl.startReady_only {c : Ctl} {tag : Nat} {t : TagE} {tags : Tab TagE} (all : c.host.tags = Tab.put tags tag t)
    (ready : (t.cmd.isSome && (t.state == .waiting || t.state == .aborted)) = true)
    (idle : tags.any (fun p => p.2.state == .waiting || p.2.state == .aborted) = false) : c.startReady = c.ioStart tag := by
  unfold Ctl.startReady
  rw [all, Tab.filter_put_of_none ready fun e mem => by simpa using fun _ => List.any_eq_false.mp idle e mem]
  rfl

/-- An admin command's own context is none that an Abort can name. -/
theorem Ctl.begun_tagOf {c : Ctl} {x : AdminCap} {k tag : Nat} {a : Assoc} (free : (c.alive k a).freeTag = some tag) {qid : Nat} (io : qid ≠ 0)
    (cid : Nat) : (c.begun x k tag a).tagOf k qid cid = c.tagOf k qid cid := by
  have room : Tab.has c.host.tags tag = false := (Tab.freeKey_spec _ _ _ _ free).1
  have same : (c.begun x k tag a).host.tags = Tab.put c.host.tags tag (x.tag k (c.alive k a).host.capSeq .running) := rfl
  unfold Ctl.tagOf
  rw [same, Tab.filter_put_of_miss (by simp [AdminCap.tag, io.symm]) room]

end Sys2Proof.Machine
end

section

/-!
Connect, properties, Disconnect, keep-alive, Abort and unknown opcodes (05_host_command_path.md, R77 to R84, R88, R103, R106).
-/

namespace Sys2Proof.Machine
set_option Elab.async false

/-- A Connect that is served. -/
theorem connectRow_withCtl {admin : Bool} {x : ConnectCmd} {s : State} {c : Ctl} (here : s.c.ioOpen x.conn = true) (mode : s.c.mode ≠ .activating)
    (does : s.c.connectDo admin x = c) : connectRow admin x s = .next (s.withCtl c) :=
  onCtl_withCtl ((if_neg (by simp [here])).trans ((if_neg mode).trans does))

section
variable {c : Ctl} {x : ConnectCmd} (first : c.connAssoc x.conn = none) (format : x.recfmt = 0) (qid : x.qid = 0) (cntlid : x.cntlid = 0xFFFF)
  (size : x.sqsize = 31) (low : 1000 ≤ x.kato) (high : x.kato ≤ 600000)
include first format qid cntlid size low high

theorem Ctl.connectAdmin_admitted {h : HostEntry} (other : x.subNqn ≠ discoveryNqn) (name : x.subNqn = c.mgt.nqn)
    (admitted : c.hostAdmitted x.hostNqn ((c.conn? x.conn).any (·.tcp)) ((c.conn? x.conn).any (·.tls)) = some h) :
    c.connectAdmin x = c.assocBegin x h.tenant false := by
  have kato : ¬(x.kato < 1000 ∨ 600000 < x.kato) := by omega
  have discovery : (x.subNqn == discoveryNqn) = false := beq_eq_false_iff_ne.mpr other
  unfold Ctl.connectAdmin
  dsimp only
  rw [discovery, first, format, qid, cntlid, size, if_neg kato, admitted, name]
  simp

theorem Ctl.connectAdmin_discovery (discovery : x.subNqn = discoveryNqn) : c.connectAdmin x = c.assocBegin x 0xFFF true := by
  have kato : ¬(x.kato < 1000 ∨ 600000 < x.kato) := by omega
  have named : (x.subNqn == discoveryNqn) = true := beq_iff_eq.mpr discovery
  unfold Ctl.connectAdmin
  dsimp only
  rw [named, first, format, qid, cntlid, size, if_neg kato]
  rfl

end

theorem Ctl.connectIo_free {c : Ctl} {x : ConnectCmd} {k : Nat} {a : Assoc} (first : c.connAssoc x.conn = none) (format : x.recfmt = 0)
    (name : x.subNqn = c.mgt.nqn)
    (assoc : c.host.assocs.find? (fun p => c.cntlid p.1 == x.cntlid && !p.2.ending && !p.2.discovery && p.2.hostNqn == x.hostNqn) = some (k, a))
    (id : 1 ≤ x.qid ∧ x.qid ≤ a.maxQid) (fresh : c.host.queues.any (fun q => q.2.assoc == k && q.2.qid == x.qid) = false)
    (size : 1 ≤ x.sqsize ∧ x.sqsize ≤ 4095) (room : c.host.queues.length < 262144) :
    c.connectIo x = c.queueBegin x k a ((c.conn? x.conn).any (·.tcp)) := by
  have idOk : ¬(x.qid = 0 ∨ a.maxQid < x.qid ∨ c.host.queues.any (fun q => q.2.assoc == k && q.2.qid == x.qid) = true) := by
    simp [fresh]
    omega
  have sizeOk : ¬(x.sqsize < 1 ∨ 4095 < x.sqsize) := by omega
  simp only [Ctl.connectIo, first, format, name, assoc, idOk, sizeOk, Nat.not_le.mpr room, Option.isSome_none, Bool.false_eq_true, if_false,
    ne_eq, not_true_eq_false]

/-! ### Disconnect (R80, R84) -/

/-- A Disconnect whose turn comes, its queue not ordered, ends its queue. -/
theorem Ctl.startReady_disconnect {c : Ctl} {tag : Nat} {e : TagE} {x : IoCmd} {tags : Tab TagE} {q : HostQueue}
    (all : c.host.tags = Tab.put tags tag e) (idle : tags.any (fun p => p.2.state == .waiting || p.2.state == .aborted) = false)
    (waiting : e.state = .waiting) (kind : e.kind = .disconnect) (cmd : e.cmd = some x) (queue : Tab.at? c.host.queues x.conn = some q)
    (unordered : q.ordered = false) (mode : c.mode ≠ .activating) : c.startReady = (c.freeTagE tag).queueEnd e x := by
  have place : c.tag? tag = some e := by rw [Ctl.tag?, all, Tab.at?_put_same]
  have turn : c.inOrder e = true := by simp [Ctl.inOrder, Ctl.tagQueue, cmd, queue, unordered]
  rw [Ctl.startReady_only all (by simp [cmd, waiting]) idle, Ctl.ioStart, place]
  dsimp only
  rw [cmd]
  dsimp only
  rw [if_neg (by simp [turn]), if_neg (by simp [waiting]), if_neg (by simp [waiting]), if_pos (by simp [kind, TagKind.io]), if_neg mode,
    Ctl.ioPlain, kind]

theorem Ctl.queue_of_open {c : Ctl} {conn : Nat} {q : HostQueue} (queue : c.openQueue conn = some q) : Tab.at? c.host.queues conn = some q :=
  (Option.filter_eq_some_iff.mp queue).1

/-- A Disconnect accepted where nothing else waits ends its queue at once. -/
theorem Ctl.ioAccept_disconnect {c : Ctl} {conn cid tag : Nat} {q : HostQueue} (queue : c.openQueue conn = some q) (mode : c.mode ≠ .activating)
    (free : c.freeTag = some tag) (unused : c.cidUsed q.assoc q.qid cid = false) (unordered : q.ordered = false)
    (idle : c.host.tags.any (fun p => p.2.state == .waiting || p.2.state == .aborted) = false) :
    c.ioAccept .disconnect (IoCmd.plain conn cid) q =
      (let e : TagE := ⟨.waiting, .disconnect, q.assoc, q.qid, cid, some (IoCmd.plain conn cid), false, c.host.capSeq, false, none⟩
       let c1 := (c.setTag tag e).tev .hcp 0 0 (c.assocTenant q.assoc) none 1
       (({ c1 with host := { c1.host with capSeq := c1.host.capSeq + 1 } } : Ctl).freeTagE tag).queueEnd e (IoCmd.plain conn cid)) := by
  unfold Ctl.ioAccept
  rw [free]
  dsimp only
  rw [show (IoCmd.plain conn cid).cid = cid from rfl, unused, if_neg Bool.false_ne_true, if_neg (show ¬TagKind.disconnect.io = true by decide)]
  refine Ctl.startReady_disconnect (tags := c.host.tags) (q := q) ?_ idle rfl rfl rfl ?_ unordered ?_
  · dsimp only
    rw [Ctl.tev_host]
    rfl
  · dsimp only
    rw [Ctl.tev_host]
    exact Ctl.queue_of_open queue
  · intro activating
    refine mode (Eq.trans (Ctl.mode_congr ?_) activating)
    exact (Ctl.tev_rd_off (c.setTag tag _) .hcp 0 0 (c.assocTenant q.assoc) none 1 Reg.GLB_MODE_STAT (by decide)).symm

/-! ### Properties (R88, R106) -/

theorem Word.toNat_of_eq {w : Word} {n : Nat} (e : w = BitVec.ofNat 32 n) (fits : n < 2 ^ 32 := by decide) : w.toNat = n := by
  rw [e, BitVec.toNat_ofNat, Nat.mod_eq_of_lt fits]

theorem ccHit_of {x : AdminCmd} {p : Word → Word → Bool} {a : Assoc} (change : p a.cc x.cdw12 = true) : ccHit x p a = true := by
  simp [ccHit, change]

theorem propertySetDo_cc {x : AdminCmd} (k : Nat) (a : Assoc) (c : Ctl) (offset : x.cdw11 = 0x14) :
    propertySetDo x k a c = ((c.setAssoc k { a with cc := x.cdw12 }).adminEnd x a St.ok 0 0).ccChange k a.cc x.cdw12 :=
  if_neg (by simp [offset])

theorem Ctl.ccChange_reset {old new : Word} (c : Ctl) (k : Nat) (was : ccEn old = true) (now : ccEn new = false) :
    c.ccChange k old new = c.ctlrReset k := by
  simp [Ctl.ccChange, was, now]

theorem Ctl.ccChange_enable {old new : Word} (c : Ctl) (k : Nat) (was : ccEn old = false) (now : ccEn new = true) (on : ccShn new = 0) :
    c.ccChange k old new = c.onAssoc k (fun b => { b with rdy := true, shst := 0 }) := by
  simp [Ctl.ccChange, was, now, on]

theorem Ctl.ccChange_shutdown {old new : Word} {c : Ctl} {k : Nat} {a : Assoc} (same : ccEn old = ccEn new) (notify : ccShn new ≠ 0)
    (known : c.assoc? k = some a) (fresh : a.shst = 0) : c.ccChange k old new = c.shutdownBegin k := by
  simp [Ctl.ccChange, same, notify, known, fresh]

/-- Settles O6: a served capsule runs in the state that its start has made, and each clause names what its command does there. -/
theorem adminQueueRowsComplete : Obligations.AdminQueueRowsComplete := by
  refine ⟨fun s x h here mode first format other name qid cntlid size low high admitted => ?connect,
    fun s x k a here mode first format name assoc low high fresh small large room => ?connectIo, fun s conn n known unused => ?connectTimeout,
    fun s x k tag a served offset => ?csts, fun s x k tag a served offset => ?cap, fun s x k tag a served offset was now shn => ?enable,
    fun s x k tag a served offset was now => ?disable, fun s x k tag a served offset same shn fresh => ?shutdown,
    fun s k a known begun stays live idle => ?shutDone, fun s k a known begun stays live busy => ?shutForced,
    fun s conn cid tag q here queue fetching mode room free unused unordered idle => ?disconnect, fun s x k tag a served => ?keepAlive,
    fun s k a known stays live => ?expired, fun s conn cid k tag a served => ?invalid,
    fun s x k tag n a e served io found completing => ?abortLate, fun s x k tag n a e served io found running => ?abort,
    fun s x here mode first format name qid cntlid size low high => ?discovery⟩
  case connect =>
    exact show execNvmeConnectAdmin x s = _ from connectRow_withCtl here mode
      (Ctl.connectAdmin_admitted first format qid cntlid size low high other name admitted)
  case discovery =>
    exact show execNvmeConnectAdmin x s = _ from connectRow_withCtl here mode
      (Ctl.connectAdmin_discovery first format qid cntlid size low high name)
  case connectIo =>
    refine show execNvmeConnectIo x s = _ from connectRow_withCtl here mode ?_
    exact Ctl.connectIo_free first format name assoc ⟨low, high⟩ fresh ⟨small, large⟩ room
  case connectTimeout =>
    refine show execConnectTimeout conn s = _ from onCtl_withCtl ?_
    rw [known]
    exact if_neg (by simp [unused])
  case csts =>
    refine show execNvmePropertyGet x s = _ from adminRow_served served (congrArg (Prod.mk s.mem) ?_)
    show propertyGetDo x k _ _ = _
    unfold propertyGetDo
    rw [Word.toNat_of_eq (n := 0x1C) offset]
    rfl
  case cap =>
    refine show execNvmePropertyGet x s = _ from adminRow_served served (congrArg (Prod.mk s.mem) ?_)
    show propertyGetDo x k _ _ = _
    unfold propertyGetDo
    rw [Word.toNat_of_eq (n := 0) offset]
    rfl
  case enable =>
    refine show execPropertySetCcEnSet x s = _ from adminRow_served served (congrArg (Prod.mk s.mem) ?_) (ccHit_of (by simp [was, now]))
    exact (propertySetDo_cc k _ _ offset).trans (Ctl.ccChange_enable _ k was now shn)
  case disable =>
    refine show execPropertySetCcEnClear x s = _ from adminRow_served served (congrArg (Prod.mk s.mem) ?_) (ccHit_of (by simp [was, now]))
    exact (propertySetDo_cc k _ _ offset).trans (Ctl.ccChange_reset _ k was now)
  case shutdown =>
    refine show execPropertySetShutdown x s = _ from adminRow_served served (congrArg (Prod.mk s.mem) ?_) (ccHit_of (by simp [same]))
    refine (propertySetDo_cc k _ _ offset).trans (Ctl.ccChange_shutdown (a := { a.alive s.c.dt with cc := x.cdw12 }) same shn ?_ fresh)
    rw [Ctl.assoc?, Ctl.adminEnd, Ctl.complete_assocs]
    exact Tab.at?_put_same ..
  case shutDone =>
    refine show execShutdownComplete k s = _ from onCtl_withCtl ?_
    dsimp only
    rw [known]
    refine (if_neg (by simp [begun, stays, live])).trans ?_
    rw [idle]
    rfl
  case shutForced =>
    refine show execShutdownComplete k s = _ from onCtl_withCtl ?_
    dsimp only
    rw [known]
    refine (if_neg (by simp [begun, stays, live])).trans ?_
    rw [busy]
    rfl
  case disconnect =>
    refine show execNvmeDisconnect conn cid s = _ from onAll_withCtl ?_
    rw [if_pos here, queue]
    refine congrArg (Prod.mk s.mem) ((if_neg (by simp [fetching])).trans ((if_neg (by simp [IoCmd.plain, room])).trans ?_))
    exact Ctl.ioAccept_disconnect queue mode free unused unordered idle
  case keepAlive =>
    exact show execNvmeKeepAlive x s = _ from adminRow_served served rfl
  case expired =>
    refine show execKeepAliveTimeout k s = _ from onCtl_withCtl ?_
    rw [known]
    exact if_neg (by simp [stays, live])
  case invalid => exact show execInvalidCommandOpcode conn cid s = _ from adminRow_served served rfl
  case abortLate =>
    have free := served.2.2.2.2.1
    refine show execNvmeAbort x s = _ from adminRow_served served (congrArg (Prod.mk s.mem) ?_)
    show abortDo x k _ _ = _
    unfold abortDo
    dsimp only
    rw [if_neg io, Ctl.begun_tagOf free io, found]
    dsimp only
    rw [completing]
  case abort =>
    have free := served.2.2.2.2.1
    refine show execNvmeAbort x s = _ from adminRow_served served (congrArg (Prod.mk s.mem) ?_)
    show abortDo x k _ _ = _
    unfold abortDo
    dsimp only
    rw [if_neg io, Ctl.begun_tagOf free io, found]
    dsimp only
    rcases running with state | state <;> rw [state] <;> rfl

end Sys2Proof.Machine
end

section

/-!
Features (05_host_command_path.md, R94, R100, R112; 08_read_path_and_crema.md, R184).
-/

namespace Sys2Proof.Machine
set_option Elab.async false

/-! ### What a feature reads in the state that its capsule's start has made -/

@[simp] theorem Ctl.begun_dt (c : Ctl) (x : AdminCap) (k tag : Nat) (a : Assoc) : (c.begun x k tag a).dt = c.dt := by
  show ((c.alive k a).tev .hcp 0 0 (some a.tenant) none 1).time.dt = c.dt
  rw [Ctl.tev_time]
  rfl

theorem Ctl.begun_get_off (c : Ctl) (x : AdminCap) (k tag : Nat) (a : Assoc) (f : Fld) (h : Reg.TEL_SMP_STAT ≠ f.off) :
    (c.begun x k tag a).get f = c.get f := by
  simp only [Ctl.get, Ctl.begun_rd_off c x k tag a h]

/-- The namespace registers lie below the sample ring's. -/
theorem Ctl.begun_nsAttached (c : Ctl) (x : AdminCap) (k tag : Nat) (a : Assoc) (ns ten : Nat) :
    (c.begun x k tag a).nsAttached ns ten = c.nsAttached ns ten := by
  have car : (c.begun x k tag a).car = c.car := by
    show ((c.alive k a).tev .hcp 0 0 (some a.tenant) none 1).car = c.car
    rw [Ctl.tev_car]
    rfl
  have valid : (c.begun x k tag a).nsValid ns = c.nsValid ns := by
    unfold Ctl.nsValid
    by_cases small : ns < 16384
    · rw [Ctl.begun_flag_off _ _ _ _ _ _ (by simp only [F.GAL_NS_MAP2_valid, Reg.GAL_NS_MAP2, Reg.TEL_SMP_STAT]; omega)]
    · simp [small]
  simp only [Ctl.nsAttached, valid, Ctl.nsTenant, car]

/-- The capsule's own context is none of an I/O queue. -/
theorem Ctl.begun_unheld {c : Ctl} {x : AdminCap} {k tag : Nat} {a : Assoc} (free : (c.alive k a).freeTag = some tag) {qid : Nat} (io : qid ≠ 0)
    (none : c.host.tags.any (fun p => p.2.kind.host && p.2.assoc == k && p.2.qid == qid) = false) :
    (c.begun x k tag a).host.tags.any (fun p => p.2.kind.host && p.2.assoc == k && p.2.qid == qid) = false := by
  have room : Tab.has c.host.tags tag = false := (Tab.freeKey_spec _ _ _ _ free).1
  have same : (c.begun x k tag a).host.tags = Tab.put c.host.tags tag (x.tag k (c.alive k a).host.capSeq .running) := rfl
  have kept := Tab.filter_put_of_miss (p := fun p => p.2.kind.host && p.2.assoc == k && p.2.qid == qid)
    (x := x.tag k (c.alive k a).host.capSeq .running) (by simp [AdminCap.tag, io.symm]) room
  rw [List.any_eq_false] at none ⊢
  rw [same]
  exact List.filter_eq_nil_iff.mp (kept.trans (List.filter_eq_nil_iff.mpr none))

/-! ### Get Features -/

/-- Get Features of the current value of a feature that takes no namespace and returns no data. -/
theorem getFeaturesDo_current {x : AdminCmd} {fid v : Nat} {k : Nat} {a : Assoc} {c : Ctl} (named : getBits x.cdw10 7 0 = fid)
    (current : getBits x.cdw10 10 8 = 0) (listed : featIds.contains fid = true) (hints : fid ≠ 0xD3) (plain : featData a fid false = none)
    (value : c.featValue k a x fid false = some v) : getFeaturesDo x k a c = c.adminEnd x a St.ok v 0 := by
  have ns : c.featNsBad a x fid = false := by simp [Ctl.featNsBad, hints]
  simp only [getFeaturesDo, named, current, listed, ns, plain, value, Bool.not_true, Bool.false_or, Bool.false_eq_true, if_false,
    bne_self_eq_false, show decide (3 < 0) = false from rfl, show ¬(0 : Nat) = 3 by decide]

/-! ### Set Features -/

section
variable (x : AdminCmd) (k : Nat) (a : Assoc) (c : Ctl)

theorem setPower_ok (ps : getBits x.cdw11 4 0 ≤ 3) (rsvd : getBits x.cdw11 31 8 = 0) :
    setPower x k a c = (St.ok, 0, (c.setAssoc k { a with ps := getBits x.cdw11 4 0, idleAt := c.dt }).psApply) :=
  if_neg (by omega)

theorem setApst_ok (states : ∀ e ∈ apstEntries x.data, e.1 ≤ 3) (rsvd : getBits x.cdw11 31 1 = 0) :
    setApst x k a c = (St.ok, 0, c.setAssoc k { a with apstEn := getBit x.cdw11 0, apst := apstEntries x.data }) := by
  refine if_neg ?_
  simp only [List.any_eq_true, decide_eq_true_eq, rsvd, ne_eq, not_true_eq_false, or_false, not_exists, not_and, Nat.not_lt]
  exact states

theorem setKato_ok (low : 1000 ≤ x.cdw11.toNat) (high : x.cdw11.toNat ≤ 600000) :
    setKato x k a c = (St.ok, 0, c.setAssoc k { a with kato := x.cdw11.toNat }) :=
  if_neg (by omega)

theorem setBehavior_ok {acre : Bool} (data : x.data = BitVec.ofNat 8 (if acre then 1 else 0) :: List.replicate 511 0) :
    setBehavior x k a c = (St.ok, 0, c.setAssoc k { a with acre := acre }) := by
  have first : leNat (x.data.take 1) = if acre then 1 else 0 := by
    rw [data]
    cases acre <;> rfl
  have rest : (x.data.drop 1).any (· != 0) = false := by
    rw [data]
    exact List.any_replicate
  unfold setBehavior
  rw [first, rest]
  cases acre <;> rfl

theorem setOrdered_ok {n : Nat} {q : HostQueue} (en : c.flag F.HCP_CFG_ordered_en = true) (rsvd : getBits x.cdw11 31 17 = 0)
    (queue : c.queueBy k (getBits x.cdw11 15 0) = some (n, q))
    (unheld : c.host.tags.any (fun p => p.2.kind.host && p.2.assoc == k && p.2.qid == getBits x.cdw11 15 0) = false) :
    setOrdered x k a c =
      (St.ok, 0, { c with host := { c.host with queues := Tab.put c.host.queues n { q with ordered := getBit x.cdw11 16 } } }) := by
  simp [setOrdered, en, rsvd, queue, unheld]

theorem setHints_ok (attached : c.nsAttached x.nsid a.tenant = true) (rsvd : getBits x.cdw11 31 2 = 0) (mode : getBits x.cdw11 1 0 ≤ 2) :
    setHints x k a c =
      (St.ok, 0, (c.set (F.CRM_NS_CFG_host_mode x.nsid) (getBits x.cdw11 1 0)).setFlag (F.CRM_NS_CFG_host_set x.nsid) true) :=
  (if_neg (by simp [attached])).trans (if_neg (by omega))

end

/-- A served Set Features of a listed feature, with SV = 0, completes with what setting the feature answers. -/
theorem setFeatures_served {s : State} {x : AdminCmd} {k tag fid : Nat} {a : Assoc} {fids : List Nat} {set : FeatSet} {st : NvStatus} {dw0 : Nat}
    {c : Ctl} (served : AdminServed s.c (AdminOp.setFeatures.on x) k tag a) (named : getBits x.cdw10 7 0 = fid)
    (sv : getBit x.cdw10 31 = false) (row : featSet fid = set) (listed : featIds.contains fid = true) (hit : fids.contains fid = true)
    (sets : set x k (a.alive s.c.dt) (s.c.begun (AdminOp.setFeatures.on x) k tag a) = (st, dw0, c)) :
    adminRow (AdminOp.setFeatures.on x) (featHit x fids) s = .next (s.withCtl (c.adminEnd x (a.alive s.c.dt) st dw0 0)) := by
  refine adminRow_served served (congrArg (Prod.mk s.mem) ?_) (by simp only [featHit, named, hit, Bool.true_or])
  exact (setFeaturesDo_of_listed k _ _ named listed sv).trans (by rw [row, sets])

/-- Settles O7: a served capsule runs in the state that its start has made, which holds every value that its feature reads. -/
theorem featureRowsComplete : Obligations.FeatureRowsComplete := by
  refine ⟨fun s x k tag a served fid sel => ?getPower, fun s x k tag a served fid sel => ?getTemp,
    fun s x k tag a served fid sv ps rsvd => ?power, fun s x k tag a served fid sv => ?queues, fun s x k tag a served fid sv => ?events,
    fun s x k tag a served fid sv states rsvd => ?apst, fun s x k tag a served fid sv low high => ?kato,
    fun s x k tag a acre served fid sv data => ?behavior, fun s x k tag n a q served fid sv en rsvd queue io unheld => ?ordered,
    fun s x k tag a served fid sv attached rsvd mode => ?hints, fun s x k tag a served fid sv => ?fixed⟩
  case getPower =>
    refine show execNvmeGetFeatures x s = _ from adminRow_served served (congrArg (Prod.mk s.mem) ?_)
    exact getFeaturesDo_current fid sel rfl (by decide) rfl rfl
  case getTemp =>
    refine show execNvmeGetFeatures x s = _ from adminRow_served served (congrArg (Prod.mk s.mem) ?_)
    refine getFeaturesDo_current fid sel rfl (by decide) rfl ?_
    exact congrArg (fun w => some (w + 273)) (Ctl.begun_get_off _ _ _ _ _ _ (by decide))
  case power =>
    refine show execSetFeaturesPowerManagement x s = _ from setFeatures_served (set := setPower) served fid sv rfl rfl rfl ?_
    rw [setPower_ok _ _ _ _ ps rsvd, Ctl.begun_dt]
  case queues => exact show execSetFeaturesNumberOfQueues x s = _ from setFeatures_served (set := setQueues) served fid sv rfl rfl rfl rfl
  case events => exact show execSetFeaturesAsyncEventConfig x s = _ from setFeatures_served (set := setEvents) served fid sv rfl rfl rfl rfl
  case apst => exact show execSetFeaturesApst x s = _ from setFeatures_served served fid sv rfl rfl rfl (setApst_ok _ _ _ _ states rsvd)
  case kato => exact show execSetFeaturesKeepAliveTimer x s = _ from setFeatures_served served fid sv rfl rfl rfl (setKato_ok _ _ _ _ low high)
  case behavior => exact show execSetFeaturesHostBehavior x s = _ from setFeatures_served served fid sv rfl rfl rfl (setBehavior_ok _ _ _ _ data)
  case ordered =>
    have free := served.2.2.2.2.1
    refine show execSetFeaturesOrderedQueues x s = _ from setFeatures_served served fid sv rfl rfl rfl (setOrdered_ok x k (a.alive s.c.dt) _ ?_ rsvd queue ?_)
    · rw [Ctl.begun_flag_off _ _ _ _ _ _ (by decide), en]
    · exact Ctl.begun_unheld free io unheld
  case hints =>
    refine show execSetFeaturesCremaHints x s = _ from setFeatures_served served fid sv rfl rfl rfl (setHints_ok x k (a.alive s.c.dt) _ ?_ rsvd mode)
    rw [Ctl.begun_nsAttached]
    exact attached
  case fixed =>
    rcases fid with fid | fid
    · exact show execSetFeaturesNotChangeable x s = _ from setFeatures_served served fid sv rfl rfl rfl rfl
    · exact show execSetFeaturesNotChangeable x s = _ from setFeatures_served served fid sv rfl rfl rfl rfl

end Sys2Proof.Machine
end

section

/-!
I/O capsules (05_host_command_path.md, R85 to R89, R105).
-/

namespace Sys2Proof.Machine
set_option Elab.async false

/-- A capsule on a connected I/O queue that is fetched and finds a context is accepted. -/
theorem ioRow_accepted {s : State} {x : IoCmd} {q : HostQueue} (kind : TagKind) (here : s.c.ioOpen x.conn = true)
    (queue : s.c.openQueue x.conn = some q) (fetching : s.c.fetchStopped = false) (room : s.c.mustWait q.assoc x.conn = false) :
    ioRow kind x s = .next (s.withCtl (s.c.ioAccept kind x q)) := by
  refine onAll_withCtl ?_
  rw [if_pos here, queue]
  exact congrArg (Prod.mk s.mem) ((if_neg (by simp [fetching])).trans (if_neg (by simp [room])))

/-- The capsule whose turn it is leaves the intake and is served. -/
theorem capsuleIntakeResume_serves {s : State} {k j : Nat} {e : IntakeEntry} (running : s.c.halted = false)
    (turn : turnNext s.c.host.served ((s.c.host.intake.filter s.c.servable).map (fun e => e.conn)) = some k)
    (place : s.c.host.intake.findIdx? (fun e => e.conn == k) = some j) (entry : s.c.host.intake[j]? = some e) :
    execCapsuleIntakeResume s = .next (s.withBoth (intakeServe s.mem
      { s.c with host := { s.c.host with intake := s.c.host.intake.eraseIdx j, served := k } } e)) := by
  refine onAll_withBoth ?_
  rw [if_neg (by simp [running]), turn]
  dsimp only
  rw [place]
  dsimp only
  rw [entry]

/-- Settles O9: nothing stands between a capsule and its context but the checks that the hypotheses name. -/
theorem ioCapsuleRowsComplete : Obligations.IoCapsuleRowsComplete := by
  refine ⟨fun s x q here queue _ fetching room => ⟨?read, ?write, ?zeroes, ?dsm, ?flush⟩,
    fun s k j e running turn place entry => ?resume, fun s k j kind x q running turn place entry queue => ?resumeIo⟩
  case read => exact show execNvmeRead x s = _ from ioRow_accepted .read here queue fetching room
  case write => exact show execNvmeWrite x s = _ from ioRow_accepted .write here queue fetching room
  case zeroes => exact show execNvmeWriteZeroes x s = _ from ioRow_accepted .writeZeroes here queue fetching room
  case dsm => exact show execNvmeDatasetManagement x s = _ from ioRow_accepted .dsm here queue fetching room
  case flush => exact show execNvmeFlush x s = _ from ioRow_accepted .flush here queue fetching room
  case resume => exact show execCapsuleIntakeResume s = _ from capsuleIntakeResume_serves running turn place entry
  case resumeIo =>
    refine (show execCapsuleIntakeResume s = _ from capsuleIntakeResume_serves running turn place entry).trans ?_
    dsimp only [intakeServe]
    rw [queue]
    rfl

end Sys2Proof.Machine
end

section

/-!
Barista's waits, the end of a step, tokens and the step timer (06_barista_and_dma.md, R119, R124, R125, R133).
-/

namespace Sys2Proof.Machine
set_option Elab.async false

/-- An EVT step that its lane issues, and that nothing ends at its issue, waits. -/
theorem evtIssue_waits {c : Ctl} {tag op : Nat} {i : Issued} (issued : c.issuable tag Cls.evt op = some i)
    (wanted : c.abortedFresh tag i.brew = false) (intact : c.stepIntact i.brew = true) (sound : i.fault (c.pickInst tag i.brew i.step) false = none)
    (m : Mem) (wait : Issued → Ctl → Ctl) : evtIssue m c tag op wait = (m, wait i (c.stepIssued tag i)) := by
  unfold evtIssue
  rw [issued]
  exact if_neg (by simp [wanted, intact, sound])

/-! ### The end of a step that succeeds -/

section
variable {c : Ctl} {tag cls inst : Nat} {b : Brew} (brew : c.brew? tag = some b) (done : b.result = some (0, cls, inst))
  (intact : c.stepIntact b = true) (sound : b.failing = false) (wanted : c.forcedOut tag b = false)
include brew done intact sound wanted

theorem stepEnd_ok (m : Mem) : stepEnd m c tag =
    if (c.brewStep b b.cur).last then
      brewEnd m (c.setBrew tag (b.unpoison (c.brewStep b b.cur))) tag (b.unpoison (c.brewStep b b.cur)) 0
    else (m, c.rejoin tag { b.unpoison (c.brewStep b b.cur) with retry := 0, cur := (c.brewStep b b.cur).next }) := by
  simp [stepEnd, brew, done, intact, sound, wanted]

end

/-- What the timer's end does to a step: its engine is turned off, and the step moves to another one or ends (R133). -/
def Ctl.stepTimedOut (c : Ctl) (tag : Nat) (b : Brew) (n : Nat) : Ctl :=
  let st := c.brewStep b b.cur
  let c1 := ((c.laneIssue tag b.prio).tev .bst 0 (laneOf tag) none (c.ctxOf tag) 1).pass 100000
  let c2 := (c1.engineOff st.eng n).engineDrained st.eng n
  if c2.movable st then (c2.faultRecord 0x04 0 n).rejoin tag { b with fresh := false }
  else (c2.faultRecord 0x04 1 n).stepResult tag 0x05 st.eng n

/-! ### Steps of classes whose tokens arrive at once -/

theorem Act.late_of_early (a : Act) {x : Step} (early : lateCls x.eng x.op = false) : a.late x = a :=
  if_neg (by simp [early])

theorem Ctl.issuable_cls {c : Ctl} {tag eng op : Nat} {i : Issued} (issued : c.issuable tag eng op = some i) : i.step.eng = eng ∧ i.step.op = op := by
  unfold Ctl.issuable at issued
  split at issued
  · cases issued
  · split at issued
    · dsimp only at issued
      split at issued
      · next named => cases issued; exact named
      · cases issued
    · cases issued

/-- Settles O10: each row by the one path through it that its hypotheses leave open. -/
theorem brewRowsComplete : Obligations.BrewRowsComplete := by
  refine ⟨fun s tag i issued wanted intact sound => ?waitToken, fun s tag i issued wanted intact sound => ?delay,
    fun s tag step b x brew waits => ?timeout, fun s tag b x brew waits => ?expire,
    fun s tag cls inst b brew done intact sound wanted more => ?next, fun s tag cls inst b brew done intact sound wanted last => ?last,
    fun s tag n b brew eng issued wanted intact picked => ?timer, fun s tag step media data b k brew foreign token still plain unfated => ?arrive,
    fun s tag i n accepted plain => ?complete, fun tag s i n accepted => ?fail⟩
  case waitToken => exact show execEvtWaitToken tag s = _ from onAll_withCtl (evtIssue_waits issued wanted intact sound _ _)
  case delay => exact show execEvtDelay tag s = _ from onAll_withCtl (evtIssue_waits issued wanted intact sound _ _)
  case timeout =>
    refine show execEvtWaitTimeout tag s = _ from onCtl_withCtl ?_
    rw [brew]
    dsimp only
    rw [waits]
  case expire =>
    refine show execEvtDelayExpire tag s = _ from onCtl_withCtl ?_
    rw [brew]
    dsimp only
    rw [waits]
  case next =>
    exact show execStepEnd tag s = _ from onAll_withCtl ((stepEnd_ok brew done intact sound wanted s.mem).trans (if_neg (by simp [more])))
  case last =>
    exact show execStepEnd tag s = _ from onAll_withBoth ((stepEnd_ok brew done intact sound wanted s.mem).trans (if_pos last))
  case timer =>
    refine completes_onCtl (show _ = execStepTimerExpire tag s from rfl) (c := s.c.stepTimedOut tag b n) ?_ ?_
    · rw [brew]
      refine (if_neg (by simp [eng, Option.isSome_iff_ne_none.mp issued, wanted, intact])).trans ?_
      rw [picked]
      rfl
    · rw [State.withCtl_c]
      exact ⟨fun movable => if_pos movable, fun stuck => if_neg (by simp [stuck]), State.withCtl_keeps s _⟩
  case arrive =>
    refine show execTokenArrive tag step 0 media data s = _ from onAll_withBoth ?_
    rw [brew]
    dsimp only
    rw [if_neg (by simp [foreign]), token]
    dsimp only
    rw [still]
    dsimp only
    rw [plain, unfated]
    rfl
  case complete =>
    refine show execHcpComplete tag s = _ from onAll_withBoth ?_
    rw [accepted.1]
    refine (if_pos (by simp [plain])).trans ?_
    rw [issue_of_accepted accepted s.mem]
    obtain ⟨eng, op⟩ := Ctl.issuable_cls accepted.1
    simp only [stepDone, Act.late_of_early _ (show lateCls i.step.eng i.step.op = false by rw [eng, op]; rfl)]
    rfl
  case fail =>
    refine completes_onAll (show _ = execHcpFail tag s from rfl) (congrArg (fun r => (r.1, Ctl.startReady r.2)) (issue_of_accepted accepted s.mem _)) ?_
    exact ⟨State.withBoth_mem s _, State.withBoth_c s _, State.withBoth_pending s _⟩

end Sys2Proof.Machine
end

section

/-!
The step rows of classes BPM, DMA, DQE, CIP, TMPC, TMPD, GAL and CRC (06_barista_and_dma.md, Table 6.3; 09_layouts_and_write_path.md;
11_tamp_and_cipher.md).
-/

namespace Sys2Proof.Machine
set_option Elab.async false

/-- A step row that is an issue and nothing else. -/
theorem stepRuns_of_issue {row : Instr} {tag eng op : Nat} {poisonOk : Bool} {act : Issued → Mem → Ctl → Act}
    (row_issues : ∀ s, exec row s = onAll (fun m c => issue m c tag eng op poisonOk act) s) : StepRuns row tag eng op poisonOk act :=
  fun s _ _ accepted => (row_issues s).trans (onAll_withBoth (issue_of_accepted accepted s.mem act))

/-- A step whose row waits for a reason that does not hold is issued. -/
theorem issueUnless_of_accepted {c : Ctl} {tag eng op : Nat} {poisonOk : Bool} {i : Issued} {n : Nat} {hold : Issued → Bool}
    (accepted : StepAccepted c tag eng op poisonOk i n) (free : hold i = false) (m : Mem) (act : Issued → Mem → Ctl → Act) :
    issueUnless hold m c tag eng op poisonOk act = stepDone tag eng n i (act { i with inst := n } m (c.stepIssued tag i)) := by
  unfold issueUnless
  rw [accepted.1]
  exact (if_neg (by simp [free])).trans (issue_of_accepted accepted m act)

theorem Ctl.issuable_brew {c : Ctl} {tag eng op : Nat} {i : Issued} (issued : c.issuable tag eng op = some i) : c.brew? tag = some i.brew := by
  unfold Ctl.issuable at issued
  split at issued
  · cases issued
  · next b brew =>
    split at issued
    · dsimp only at issued
      split at issued
      · cases issued
        exact brew
      · cases issued
    · cases issued

/-! ### The lane leaves the token numbers -/

theorem Ctl.preempt_tokSeq (c : Ctl) (l tag : Nat) : (c.preempt l tag).bst.tokSeq = c.bst.tokSeq := by
  unfold Ctl.preempt
  split
  · rfl
  · split
    · dsimp only
      split
      · rw [Ctl.tev_bst]
        rfl
      · rfl
    · rfl

theorem Ctl.stepIssued_tokNext (c : Ctl) (tag : Nat) (i : Issued) : (c.stepIssued tag i).tokNext = c.tokNext := by
  unfold Ctl.tokNext Ctl.stepIssued
  rw [Ctl.tev_bst]
  exact Ctl.preempt_tokSeq ..

/-! ### DQE steps outside a flush -/

theorem dqeIssue_runs {c : Ctl} {tag op n : Nat} {write : Bool} {i : Issued} (plain : Tab.at? c.car.works tag = none)
    (issued : c.issuable tag Cls.dqe op = some i) (wanted : c.abortedFresh tag i.brew = false) (intact : c.stepIntact i.brew = true)
    (picked : c.dqeInst tag write i = some n) (clean : i.brew.poisoned i.step = false)
    (room : (i.step.tok && decide (4 ≤ i.brew.tokens.length)) = false) (m : Mem) (act : Issued → Mem → Ctl → Act) :
    dqeIssue op write act tag m c = stepDone tag Cls.dqe n i (act { i with inst := n } m (c.stepIssued tag i)) := by
  have sound : i.fault (some n) false = none := by simp [Issued.fault, clean, room]
  have free : c.instFree Cls.dqe n = true := rfl
  simp only [dqeIssue, plain, issueAt, issued, wanted, intact, picked, sound, Option.getD_some, free, Bool.not_true, Bool.false_eq_true, if_false]
  rfl

/-- Settles O11: each row issues its step, and an accepted step meets its engine. -/
theorem dataStepRowsComplete : Obligations.DataStepRowsComplete := by
  refine ⟨fun tag ue race => stepRuns_of_issue fun _ => rfl, fun tag ue => stepRuns_of_issue fun _ => rfl,
    fun tag ue => stepRuns_of_issue fun _ => rfl, fun s tag ue i n accepted arrived => ?release, fun tag ue => stepRuns_of_issue fun _ => rfl,
    fun tag ue => stepRuns_of_issue fun _ => rfl, fun s tag i n accepted tok => ?run,
    fun s tag n i plain issued wanted intact picked clean room => ?read, fun s tag n i plain issued wanted intact picked clean room => ?write,
    fun tag => stepRuns_of_issue fun _ => rfl, fun tag => stepRuns_of_issue fun _ => rfl, fun s tag segs i n accepted fits => ?encode,
    fun tag => stepRuns_of_issue fun _ => rfl, fun tag => stepRuns_of_issue fun _ => rfl, fun tag => stepRuns_of_issue fun _ => rfl,
    fun tag => stepRuns_of_issue fun _ => rfl, fun tag => stepRuns_of_issue fun _ => rfl, fun tag => stepRuns_of_issue fun _ => rfl⟩
  case release =>
    have done : i.brew.tokens.any (fun t => !t.arrived) = false := by simpa using arrived
    refine show execBpmReleaseAll tag ue s = _ from onAll_withBoth ?_
    rw [Ctl.issuable_brew accepted.1]
    exact (if_neg (by simp [done])).trans (issue_of_accepted accepted s.mem _)
  case run =>
    obtain ⟨eng, op⟩ := Ctl.issuable_cls accepted.1
    refine completes_onAll (show _ = execDmaStepRun tag s from rfl) (issue_of_accepted accepted s.mem _) ?_
    simp only [tok, Bool.not_true, Bool.false_eq_true, if_false, stepDone,
      Act.late_of_early _ (show lateCls i.step.eng i.step.op = false by rw [eng, op]; rfl), Ctl.stepIssued_tokNext]
    rw [State.withBoth_c, State.withBoth_mem]
    exact ⟨rfl, rfl, State.withBoth_pending s _⟩
  case read =>
    exact show execDqeRead tag s = _ from onAll_withBoth (dqeIssue_runs plain issued wanted intact picked clean room s.mem _)
  case write =>
    exact show execDqeWrite tag s = _ from onAll_withBoth (dqeIssue_runs plain issued wanted intact picked clean room s.mem _)
  case encode =>
    exact show execTmpcEncode tag segs s = _ from onAll_withBoth (issueUnless_of_accepted accepted (by simp [fits]) s.mem _)

end Sys2Proof.Machine
end

section

/-!
The step rows of classes CRM, XPT, CAR, PEER and SWC (06_barista_and_dma.md, Table 6.3; 08_read_path_and_crema.md; 09_layouts_and_write_path.md;
12_network_ports.md; 13_pairing_and_failover.md; 07_switch_core_and_buffers.md).
-/

namespace Sys2Proof.Machine
set_option Elab.async false

/-- A step row that is an issue and a change of what is not memory. -/
theorem stepRunsThen_of_issue {row : Instr} {tag eng op : Nat} {poisonOk : Bool} {act : Issued → Mem → Ctl → Act} {after : Ctl → Ctl}
    (row_issues : ∀ s, exec row s =
      onAll (fun m c => ((issue m c tag eng op poisonOk act).1, after (issue m c tag eng op poisonOk act).2)) s) :
    StepRunsThen row tag eng op poisonOk act after := by
  intro s i n accepted
  refine completes_onAll (row_issues s) rfl ?_
  rw [issue_of_accepted accepted s.mem act, State.withBoth_mem, State.withBoth_c]
  exact ⟨rfl, rfl, State.withBoth_pending s _⟩

/-- A step row of an issue alone, whose step its engine answers with `r`. -/
theorem stepRow_answers {row : Instr} {s : State} {tag eng op : Nat} {poisonOk : Bool} {act : Issued → Mem → Ctl → Act} {i : Issued} {n : Nat}
    {r : Act} (row_issues : exec row s = onAll (fun m c => issue m c tag eng op poisonOk act) s)
    (accepted : StepAccepted s.c tag eng op poisonOk i n) (answer : act { i with inst := n } s.mem (s.c.stepIssued tag i) = r) :
    exec row s = .next (s.withBoth (stepDone tag eng n i r)) :=
  row_issues.trans (onAll_withBoth ((issue_of_accepted accepted s.mem act).trans (by rw [answer])))

/-- Settles O12: each row issues its step, and an accepted step that nothing holds meets its engine. -/
theorem pathStepRowsComplete : Obligations.PathStepRowsComplete := by
  refine ⟨fun s tag i n gi x r accepted grain grains admitted => ?verdict, fun tag => stepRuns_of_issue fun _ => rfl,
    fun tag => stepRuns_of_issue fun _ => rfl, fun s tag k n i e b c1 accepted fill src buf => ?commit,
    fun s tag n i r accepted rec part => ?inval, fun tag => stepRunsThen_of_issue fun _ => rfl, fun tag => stepRunsThen_of_issue fun _ => rfl,
    fun s tag n i accepted free => ?reserve, fun s tag n i accepted room => ?index, fun s tag n i accepted sound own => ?land,
    fun s seq r known landed unowned => ?header, fun tag => stepRuns_of_issue fun _ => rfl, fun tag fixed => stepRuns_of_issue fun _ => rfl,
    fun s tag fixed n i w accepted work room => ?gather, fun s tag n i w accepted work intent => ?intent,
    fun tag => stepRuns_of_issue fun _ => rfl, fun tag => stepRunsThen_of_issue fun _ => rfl, fun tag => stepRunsThen_of_issue fun _ => rfl,
    fun tag => stepRuns_of_issue fun _ => rfl⟩
  case verdict =>
    refine stepRow_answers rfl accepted ?_
    rw [grain]
    refine (if_pos grains).trans ?_
    rw [← Prod.eta ((s.c.stepIssued tag i).crmVerdict r.nsid gi), admitted]
  case commit =>
    refine stepRow_answers rfl accepted ?_
    rw [fill, src]
    dsimp only
    rw [buf]
  case inval =>
    refine stepRow_answers rfl accepted ?_
    rw [rec]
    exact if_pos part
  case reserve =>
    exact show execCarReserve tag s = _ from onAll_withBoth (issueUnless_of_accepted accepted free s.mem _)
  case index =>
    exact show execCarIndex tag s = _ from onAll_withBoth (issueUnless_of_accepted accepted room s.mem _)
  case land =>
    refine show execCarLand tag s = _ from onAll_withBoth ?_
    rw [issue_of_accepted accepted s.mem]
    exact (if_neg (by simp [sound])).trans (if_neg (by simp [own]))
  case header =>
    refine show execCarafeHeaderPersistent seq s = _ from onCtl_withCtl ?_
    unfold Ctl.headerPersistent
    rw [known]
    refine (if_pos landed).trans ?_
    rw [unowned]
  case gather =>
    refine show execCarGather tag fixed s = _ from onAll_withBoth (issueUnless_of_accepted accepted ?_ s.mem _)
    rw [work]
    exact decide_eq_false (Nat.not_lt.mpr room)
  case intent =>
    refine show execCarIntent tag s = _ from onAll_withBoth ?_
    rw [issue_of_accepted accepted s.mem, work]
    exact if_neg (by simp [Option.isSome_iff_ne_none.mp intent])

end Sys2Proof.Machine
end

section

/-!
Loading and retiring recipes, and disabling and enabling engine instances (06_barista_and_dma.md, R121, R122, R132, R133).
-/

namespace Sys2Proof.Machine
set_option Elab.async false

/-- A word that does not complete its step, written by the core where no recipe stands. -/
theorem Ctl.loadData_word {c : Ctl} (w : Word) (free : c.stepInstalled (c.get F.BST_LOAD_ADDR_addr) = false) (early : c.bst.loadIdx < 7) :
    c.loadData w true = { c with bst := { c.bst with
      steps := Tab.put c.bst.steps (c.get F.BST_LOAD_ADDR_addr)
        (((Tab.getD c.bst.steps (c.get F.BST_LOAD_ADDR_addr) []) ++ List.replicate 8 0).take 8 |>.set c.bst.loadIdx w)
      loadIdx := c.bst.loadIdx + 1 } } := by
  unfold Ctl.loadData
  dsimp only
  rw [if_neg (by omega), Nat.mod_eq_of_lt (by omega), if_neg (by simp [free])]
  simp only [Bool.not_true, Bool.or_false]

theorem Ctl.install_ok {c : Ctl} {rcp last prio : Nat} {core : Bool} (passes : c.loadCheck rcp (c.get F.BST_LOAD_BASE_base) last core = none) :
    c.install rcp last prio core =
      (let c1 : Ctl := { c with bst := { c.bst with loadBad := false, loadExt := false } }
       let c2 := (c1.set F.BST_LOAD_STAT_err 0).set F.BST_LOAD_STAT_step 0
       let dir := dirInstall c2.bst.dir rcp prio (c.get F.BST_LOAD_BASE_base) last (dfltFail (c.stepRange (c.get F.BST_LOAD_BASE_base) last))
       { c2 with bst := { c2.bst with dir := dir } }) := by
  unfold Ctl.install
  dsimp only
  rw [passes]
  rfl

/-- Settles O13: each row by the checks that its hypotheses pass. -/
theorem baristaManagementRowsComplete : Obligations.BaristaManagementRowsComplete := by
  refine ⟨fun s data free early => ?load, fun s rcp last prio passes => ?install, fun s rcp there => ?retire,
    fun s cls inst there controlled on => ?disable, fun s cls inst drains unclaimed => ?ack,
    fun s cls inst there controlled power idle => ?enable⟩
  case load =>
    refine completes_onCtl (show _ = execBstLoadDataWrite data true s from rfl) (Ctl.loadData_word data free early) ?_
    rw [State.withCtl_c]
    exact ⟨rfl, rfl, State.withCtl_keeps s _⟩
  case install =>
    refine completes_onCtl (show _ = execBstInstall rcp last prio true s from rfl) (Ctl.install_ok passes) ?_
    rw [State.withCtl_c]
    refine ⟨rfl, ?_, ?_, fun o ho => ?_, State.withCtl_keeps s _⟩
    · exact (Ctl.get_set_beside _ F.BST_LOAD_STAT_step F.BST_LOAD_STAT_err 0 (by decide) (by decide)).trans
        (Ctl.get_set_val _ F.BST_LOAD_STAT_err 0 (by decide) (by decide))
    · exact Ctl.get_set_val _ F.BST_LOAD_STAT_step 0 (by decide) (by decide)
    · have other : Reg.BST_LOAD_STAT ≠ o := fun e => ho (e ▸ List.mem_cons_self)
      exact (Ctl.rd_set_other _ F.BST_LOAD_STAT_step 0 o other).trans (Ctl.rd_set_other _ F.BST_LOAD_STAT_err 0 o other)
  case retire => exact show execBstRetire rcp s = _ from onCtl_withCtl (if_pos there)
  case disable =>
    exact show execEngineDisable cls inst s = _ from onCtl_withCtl ((if_pos there).trans (if_pos (by simp [controlled, on])))
  case ack =>
    exact show execEngineDisableAck cls inst s = _ from onCtl_withCtl ((if_pos drains).trans (if_neg (by simp only [unclaimed]; decide)))
  case enable =>
    refine show execEngineEnable cls inst s = _ from onCtl_withCtl ((if_pos there).trans ((if_neg ?_).trans (if_neg ?_)))
    · simp [controlled, power]
    · simp only [idle]
      decide

end Sys2Proof.Machine
end

section

/-!
The channel commands and the shadow set (06_barista_and_dma.md, R140, R141).
-/

namespace Sys2Proof.Machine
set_option Elab.async false

theorem Ctl.chState_toState (c : Ctl) (n : Nat) {st : Nat} (fits : st < 8) : (c.toState n st).chState n = st :=
  Ctl.get_set_val c (F.DMA_CH_STAT_state n) st (show 0 ≤ 2 ∧ 2 < 32 by decide) fits

@[simp] theorem Ctl.chan_setChan_same (c : Ctl) (n : Nat) (x : DmaChan) : (c.setChan n x).chan n = x :=
  Tab.getD_put_same ..

/-- A write outside the clock of a hand-over edge marks none. -/
theorem DmaChan.edgeHit_kept (x : DmaChan) : { x with edgeHit := x.edgeHit || false } = x := by
  rw [Bool.or_false]

/-- What lands in the shadow set is a channel's record with its edge mark kept. -/
theorem dmaShadowRow_lands {s : State} {ch : Fin 272} {reg : Fin 3} {v : Word} (there : s.c.bar0Open = true)
    (weight : reg.val = 2 → getBits v 7 0 ≠ 0) {x : DmaChan}
    (lands : s.c.dmaShadow ch reg v false = if reg.val = 2 ∧ getBits v 7 0 = 0 then s.c else s.c.setChan ch { x with edgeHit := x.edgeHit || false }) :
    execDmaShadowWrite ch reg v false s = .next (s.withCtl (s.c.setChan ch x)) := by
  refine onCtl_withCtl ((if_pos there).trans (lands.trans ((if_neg fun ⟨pace, zero⟩ => weight pace zero).trans ?_)))
  rw [DmaChan.edgeHit_kept]

/-- Settles O14: the channel's state decides what a command does to it. -/
theorem dmaControlRowsComplete : Obligations.DmaControlRowsComplete := by
  refine ⟨fun s ch there own idle => ?start, fun s ch there busy => ?stop, fun s ch there error => ?clear, fun s ch there => ⟨?arm, ?armEdge⟩,
    fun s ch v there => ⟨?low, ?high⟩, fun s ch v there weight => ?pace, fun s ch stopping still flight brew foreign => ?stopped⟩
  case start =>
    exact show execDmaStart ch s = _ from onCtl_withCtl ((if_pos there).trans ((if_neg (by omega)).trans (if_pos idle)))
  case stop =>
    refine completes_onCtl (show _ = execDmaStop ch s from rfl) ((if_pos there).trans (if_pos busy)) ?_
    rw [State.withCtl_c]
    exact ⟨Ctl.chState_toState _ _ (by decide), rfl, State.withCtl_keeps s _⟩
  case clear =>
    refine completes_onCtl (show _ = execDmaClrErr ch s from rfl) ((if_pos there).trans (if_pos error)) ?_
    rw [State.withCtl_c]
    exact ⟨Ctl.chState_toState _ _ (by decide), rfl, State.withCtl_keeps s _⟩
  case arm => exact show execDmaShadowArm ch false s = _ from onCtl_withCtl (if_pos there)
  case armEdge => exact show execDmaShadowArm ch true s = _ from onCtl_withCtl (if_pos there)
  case low => exact show execDmaShadowWrite ch 0 v false s = _ from dmaShadowRow_lands there (fun pace => absurd pace (by decide)) rfl
  case high => exact show execDmaShadowWrite ch 1 v false s = _ from dmaShadowRow_lands there (fun pace => absurd pace (by decide)) rfl
  case pace => exact show execDmaShadowWrite ch 2 v false s = _ from dmaShadowRow_lands there (fun _ => weight) rfl
  case stopped =>
    have none : flightEnd s.mem s.c ch = (s.mem, s.c) := by simp [flightEnd, flight]
    refine show execDmaStoppingDone ch s = _ from onAll_withCtl ((if_neg (by simp [stopping, still])).trans ?_)
    dsimp only
    rw [none, Bool.and_assoc, foreign, Bool.and_false, if_neg Bool.false_ne_true]
    refine congrArg (Prod.mk s.mem) ?_
    unfold Ctl.chToken
    rw [show ∀ c1 : Ctl, ((c1.set (F.DMA_CH_STAT_last_status ch) 0x0A).toState ch 0).chan ch = c1.chan ch from fun _ => rfl,
      Ctl.chan_setChan_same, brew]

end Sys2Proof.Machine
end

section

/-!
The instructions of DMA programs (06_barista_and_dma.md, R135 to R138).
-/

namespace Sys2Proof.Machine
set_option Elab.async false

/-- An instruction that is ready runs. -/
theorem insNext_ready {s : State} {n op : Nat} {ws : List Word} {f : List Word → Nat → Mem → Ctl → Mem × Ctl} {r : Mem × Ctl}
    (ready : InsReady s.mem s.c n op ws) (runs : f ws ((s.c.chan n).pc + 32) s.mem s.c = r) (known : 1 ≤ op ∧ op ≤ 7 := by decide) :
    insNext n [op] f s = .next (s.withBoth r) := by
  obtain ⟨state, still, unblocked, running, room, fetch, sound, words, own, code, free⟩ := ready
  have starts : ¬((s.c.chState n != 1 || (s.c.chan n).move.isSome || (s.c.chan n).blocked || s.c.halted
      || decide (4 ≤ (s.c.chan n).flight.length)) = true) := by
    simp [state, still, unblocked, running, room]
  refine onAll_withBoth ?_
  dsimp only
  rw [← words, own, fetch, sound, code]
  refine (if_neg (by simpa using starts)).trans ((if_neg (by decide)).trans ((if_neg (by decide)).trans
    ((if_neg (by decide)).trans ((if_neg (by omega)).trans ((if_neg ?_).trans runs)))))
  rw [free]
  simp

/-- An instruction that leaves the memories. -/
theorem insNext_readyCtl {s : State} {n op : Nat} {ws : List Word} {f : List Word → Nat → Mem → Ctl → Mem × Ctl} {c : Ctl}
    (ready : InsReady s.mem s.c n op ws) (runs : f ws ((s.c.chan n).pc + 32) s.mem s.c = (s.mem, c)) (known : 1 ≤ op ∧ op ≤ 7 := by decide) :
    insNext n [op] f s = .next (s.withCtl c) :=
  insNext_ready ready runs known

/-- Settles O15: an instruction that is ready runs, and its own words choose what it does. -/
theorem dmaProgramRowsComplete : Obligations.DmaProgramRowsComplete := by
  refine ⟨fun s ch ue ws ready => ?move, fun s ch ue ws ready => ?swap, fun s ch ws ready first last count back => ?loop,
    fun s ch ws ready local_ unmet plain => ?wait, fun s ch ev count k u waits running record met => ?satisfied,
    fun s ch ev count k u waits running record unmet => ?timeout, fun s ch ws ready local_ => ?signal, fun s ch ws ready => ?link,
    fun s ch ws ready once => ?stop, fun s ch busy running => ?complete⟩
  case move => exact show execDmaMove ch ue s = _ from insNext_ready ready rfl
  case swap => exact show execDmaMoveSwap ch ue s = _ from insNext_ready ready rfl
  case loop =>
    refine show execDmaLoop ch s = _ from insNext_ready ready ((if_neg (by simp [count, back])).trans ?_)
    rw [first, last]
    rfl
  case wait =>
    refine show execDmaWait ch s = _ from insNext_readyCtl ready
      ((if_neg (by omega)).trans ((if_neg (by simp [unmet])).trans ?_))
    rw [plain]
    rfl
  case satisfied =>
    refine show execDmaWaitSatisfied ch s = _ from onAll_withBoth ?_
    dsimp only
    rw [if_pos (by simp [waits, running]), record]
    exact if_pos met
  case timeout =>
    refine show execDmaWaitTimeout ch s = _ from onAll_withBoth ?_
    dsimp only
    rw [if_pos (by simp [waits, running]), record]
    exact if_neg (by simp [unmet])
  case signal =>
    refine show execDmaSignal ch s = _ from insNext_ready ready ?_
    dsimp only
    rw [if_pos local_]
  case link =>
    refine ⟨_, show execDmaLink ch s = _ from insNext_ready ready rfl, ?_⟩
    exact ⟨State.withBoth_c s _, State.withBoth_mem s _, State.withBoth_pending s _⟩
  case stop =>
    refine show execDmaEnd ch s = _ from insNext_ready ready ?_
    dsimp only
    rw [once]
    rfl
  case complete =>
    refine completes_onAll (show _ = execDmaInstructionComplete ch s from rfl)
      (if_neg (show ¬((s.c.chState ch ≠ 1 ∧ s.c.chState ch ≠ 2) ∨ s.c.halted = true) by simp [running]; omega)) ?_
    rw [State.withBoth_c, State.withBoth_mem]
    exact ⟨rfl, rfl, State.withBoth_pending s _⟩

end Sys2Proof.Machine
end

section
/-! SUPPORT. What ends a brew's token or answers for a buffer leaves the switch's entries. -/

namespace Sys2Proof.Machine
set_option Elab.async false

theorem Ctl.intSet_swc (c : Ctl) (b : Nat) : (c.intSet b).swc = c.swc := by
  rw [((Ctl.EptFrame.refl c).intSet b).blocks]

theorem Ctl.faultRecord_swc (c : Ctl) (code outcome detail : Nat) : (c.faultRecord code outcome detail).swc = c.swc :=
  Ctl.intSet_swc _ 1

theorem Ctl.bufRefuse_swc (c : Ctl) (cause : Nat) (ptr : Word) (r : BufReq) : (c.bufRefuse cause ptr r).swc = c.swc := by
  have counted : ((c.bump (F.BPM_FAULT_CNT_count cause) 1).tev .bpm 3 (ptrPool ptr) none none 1).swc = c.swc := by
    rw [Ctl.tev_swc]
    rfl
  unfold Ctl.bufRefuse
  dsimp only
  split
  · split
    · exact (Ctl.faultRecord_swc ..).trans counted
    · exact (Ctl.faultRecord_swc ..).trans counted
  · split
    · exact (Ctl.faultRecord_swc ..).trans counted
    · exact (Ctl.faultRecord_swc ..).trans counted

theorem Ctl.bufDo_entries (c : Ctl) (ptr : Word) (op : BufOp) (r : BufReq) (ue : Bool) :
    (c.bufDo ptr op r ue).2.swc.entries = c.swc.entries := by
  unfold Ctl.bufDo
  dsimp only
  split
  · rw [Ctl.bufRefuse_swc]
    split
    · rfl
    · rfl
  · cases op with
    | ref k => exact (apply_ite (fun r : BufRes × Ctl => r.2.swc.entries) ..).trans (ite_self _)
    | deref => rfl
    | free => rfl

theorem Ctl.completeTag_swc (c : Ctl) (t : TagE) : (c.completeTag t St.ok).swc = c.swc := by
  have ok : St.ok.isOk = true := rfl
  have sent : ∀ (conn cid : Nat) (ten : Option Nat), (c.post conn cid ten St.ok 0 0).swc = c.swc := fun conn cid ten => by
    simp only [Ctl.post, ok, if_true]
    split
    · rfl
    · rfl
  have unlogged : ∀ (d : Ctl) (k qid cid lba nsid : Nat), d.errNote k qid cid St.ok lba nsid = d := fun _ _ _ _ _ _ => rfl
  simp only [Ctl.completeTag, ok, unlogged, Bool.not_true, Bool.false_eq_true, if_false]
  split
  · rfl
  · split
    · rw [Ctl.tev_swc, Ctl.tev_swc, sent]
    · rw [Ctl.tev_swc, Ctl.tev_swc, sent]
    · exact sent ..

theorem Ctl.hcpComplete_swc (c : Ctl) (tag : Nat) : (c.hcpComplete tag).swc = c.swc := by
  unfold Ctl.hcpComplete
  split
  · dsimp only
    split
    · exact Ctl.completeTag_swc ..
    · rfl
    · rfl
  · rfl

theorem Ctl.tokenWake_swc (c : Ctl) (tag : Nat) : (c.tokenWake tag).swc = c.swc := by
  unfold Ctl.tokenWake
  split
  · rfl
  · split
    · split
      · rfl
      · rfl
    · split
      · dsimp only
        split
        · exact Ctl.hcpComplete_swc ..
        · rfl
      · rfl
    · rfl

theorem Ctl.tokenPost_swc (c : Ctl) (tag id st : Nat) : (c.tokenPost tag id st).swc = c.swc := by
  unfold Ctl.tokenPost
  split
  · rfl
  · split
    · rfl
    · exact Ctl.tokenWake_swc ..

theorem Ctl.tokenFate_swc (c : Ctl) (tag id st : Nat) : (c.tokenFate tag id st).swc = c.swc := by
  unfold Ctl.tokenFate
  split
  · rfl
  · split
    · rfl
    · rfl

theorem Ctl.qeToken_swc (c : Ctl) (o : Option (Nat × Nat)) (dropped : Bool) : (c.qeToken o dropped).swc = c.swc := by
  cases o with
  | none => rfl
  | some at_ =>
    obtain ⟨tag, tok⟩ := at_
    have fate : (if dropped then c.tokenFate tag tok 0x44 else c).swc = c.swc := by
      split
      · exact Ctl.tokenFate_swc ..
      · rfl
    unfold Ctl.qeToken
    dsimp only
    generalize (if dropped then c.tokenFate tag tok 0x44 else c) = d at fate ⊢
    split
    · rw [Ctl.tokenPost_swc, fate]
    · exact fate

/-- A queue entry that is retired leaves the switch. -/
theorem Ctl.qeRetire_entries (c : Ctl) (k : Nat) (e : QEntry) (dropped ue : Bool) :
    (c.qeRetire k e dropped ue).swc.entries = Tab.del c.swc.entries k := by
  unfold Ctl.qeRetire
  dsimp only
  rw [Ctl.qeToken_swc, Ctl.bufDo_entries]

end Sys2Proof.Machine
end

section

/-!
The switch core and the buffer manager's management port (07_switch_core_and_buffers.md, R146 to R152, R155 to R163).
-/

namespace Sys2Proof.Machine
set_option Elab.async false

/-! ### A switch that holds one entry -/

/-- The last cell of an entry carries the mark of the last: bit 43, above its length, its flow and its cell number. -/
theorem QEntry.header_last {e : QEntry} (one : e.cells = 1) : hdrLast (e.header false) = true := by
  have bits : ∀ a b c d s l f n : Nat, (a * 2 ^ 58 + b * 2 ^ 52 + c * 2 ^ 47 + d * 2 ^ 45 + s * 2 ^ 44 + 2 ^ 43 + 0 + l % 256 * 2 ^ 34
      + f % 2 ^ 20 * 2 ^ 14 + n % 2 ^ 14) / 2 ^ 43 % 2 = 1 := by omega
  have last : decide (e.cells ≤ 1) = true := by simp [one]
  have start : (if e.cell0 = e.start then 2 ^ 44 else 0) = (if e.cell0 = e.start then 1 else 0) * 2 ^ 44 := by split <;> rfl
  unfold hdrLast QEntry.header
  dsimp only
  rw [last, start, if_pos rfl, if_neg Bool.false_ne_true, bits]
  rfl

theorem fromTurn_singleton (p x : Nat) : fromTurn p [x] = some x := by
  unfold fromTurn
  by_cases turn : p ≤ x <;> simp [turn]

theorem reqSp_singleton (e : QEntry) : reqSp [e] e.input e.port = some e.sp := by
  simp [reqSp]

/-- One entry alone is matched in the first iteration. -/
theorem matchIter_singleton (w : Switch) (e : QEntry) : matchIter w [e] [] = [(e.input, e.port)] := by
  simp [matchIter, grantsOf, bestOf, reqSp_singleton, fromTurn_singleton, List.eraseDups_cons]

theorem matchIter_done (w : Switch) (e : QEntry) : matchIter w [e] [(e.input, e.port)] = [(e.input, e.port)] := by
  simp [matchIter, List.eraseDups_cons]

theorem pairEntry_singleton (w : Switch) (k : Nat) (e : QEntry) : pairEntry w [(k, e)] e.input e.port = some (k, e) := by
  unfold pairEntry
  simp only [List.map_cons, List.map_nil, reqSp_singleton]
  cases link : e.link with
  | none => simp [link, fromTurn]
  | some l => simp [link, fromTurn_singleton]

theorem Ctl.cellMove_last (c : Ctl) (k : Nat) (ue : Bool) {e : QEntry} (last : hdrLast (e.header false) = true) :
    c.cellMove k e ue = ((c.tev .swc 0 (hdrDst (e.header false)) none none 1).tev .swc 1 (hdrSrc (e.header false)) none none 1).qeRetire
      k e false ue :=
  if_pos last

/-- A cell time of a switch that holds one entry with one cell, which may be sent, empties it. -/
theorem Ctl.cellTime_last {c : Ctl} {k : Nat} {e : QEntry} (alone : c.swc.entries = [(k, e)]) (one : e.cells = 1) (runs : c.swRuns = true)
    (eligible : c.qeEligible k e = true) (ue : Bool) : (c.cellTime k ue).swc.entries = [] := by
  have empty : ∀ (d : Ctl) (u : Bool), d.swc.entries = [(k, e)] → (d.cellMove k e u).swc.entries = [] := fun d u same => by
    rw [Ctl.cellMove_last _ _ _ (QEntry.header_last one), Ctl.qeRetire_entries, Ctl.tev_swc, Ctl.tev_swc, same]
    simp [Tab.del]
  have front : c.swc.entries.filter (fun p => c.qeEligible p.1 p.2) = [(k, e)] := by simp [alone, eligible]
  have matched : [e.input].filter (fun i => !(List.any [(e.input, e.port)] fun p => p.1 == i)) = [] := by simp
  unfold Ctl.cellTime
  simp only [runs, Bool.not_true, Bool.false_eq_true, if_false, front, List.map_cons, List.map_nil, matchIter_singleton, matchIter_done, List.eraseDups_cons,
    List.filter_nil, List.eraseDups_nil, matched, List.foldl_cons, List.foldl_nil]
  split
  · next missing => exact absurd ((pairEntry_singleton c.swc k e).symm.trans missing) (by simp)
  · next n served found =>
    obtain ⟨rfl, rfl⟩ : k = n ∧ e = served := by simpa using (pairEntry_singleton c.swc k e).symm.trans found
    refine empty _ _ ?_
    split
    · exact alone
    · exact alone

/-- The cells that one entry of one cell has left, and one more, are run in its one cell time. -/
theorem Ctl.cellRun_last {c : Ctl} {k : Nat} {e : QEntry} (alone : c.swc.entries = [(k, e)]) (one : e.cells = 1) (runs : c.swRuns = true)
    (eligible : c.qeEligible k e = true) (ue : Bool) : (c.cellRun k ue (c.cellsLeft + 1)).swc.entries = [] := by
  have left : c.cellsLeft + 1 = 2 := by simp [Ctl.cellsLeft, alone, one]
  have held : Tab.has c.swc.entries k = true := by simp [alone, Tab.has, Tab.at?]
  have empty := Ctl.cellTime_last alone one runs eligible ue
  have gone : Tab.has (c.cellTime k ue).swc.entries k = false := by rw [empty]; rfl
  rw [left, Ctl.cellRun, if_pos held, Ctl.cellRun, if_neg (by simp [gone])]
  exact empty

/-! ### The management port (R156 to R163) -/

theorem Ctl.mgtResp_status (c : Ctl) {st : Nat} (fits : st < 256) : (c.mgtResp st).get F.BPM_MGT_RESP_status = st :=
  Ctl.get_set_val _ F.BPM_MGT_RESP_status st (by decide) fits

theorem Ctl.mgtResp_busy (c : Ctl) (st : Nat) : (c.mgtResp st).flag F.BPM_MGT_RESP_busy = false :=
  (Ctl.flag_set_beside _ F.BPM_MGT_RESP_status F.BPM_MGT_RESP_busy st (by decide) (by decide)).trans
    (Ctl.flag_setFlag_same c F.BPM_MGT_RESP_busy false (by decide))

theorem Ctl.mgtResp_ptr (c : Ctl) (st : Nat) (w : Word) : ((c.wr Reg.BPM_MGT_PTR w).mgtResp st).rd Reg.BPM_MGT_PTR = w :=
  (Ctl.rd_set_other _ F.BPM_MGT_RESP_status st _ (by decide)).trans
    ((Ctl.rd_set_other _ F.BPM_MGT_RESP_busy _ _ (by decide)).trans (Ctl.rd_wr_same c Reg.BPM_MGT_PTR w))

theorem Ctl.bufDo_ref {c : Ctl} {ptr : Word} {r : BufReq} {ue : Bool} (sound : c.bufCheck ptr (.ref 1) r ue = none)
    (room : (c.bufAt (ptrAddr ptr)).refs < 65535) :
    c.bufDo ptr (.ref 1) r ue = (.done, c.setBuf (ptrAddr ptr) { c.bufAt (ptrAddr ptr) with refs := (c.bufAt (ptrAddr ptr)).refs + 1 }) := by
  unfold Ctl.bufDo
  rw [sound]
  exact if_neg (by omega)

theorem Ctl.bufDo_deref {c : Ctl} {ptr : Word} {r : BufReq} {ue : Bool} (sound : c.bufCheck ptr .deref r ue = none) :
    c.bufDo ptr .deref r ue = (.done, c.setBuf (ptrAddr ptr) (if (c.bufAt (ptrAddr ptr)).state = .released ∧ (c.bufAt (ptrAddr ptr)).refs = 1
      then { c.bufAt (ptrAddr ptr) with state := .free, refs := 0 }
      else { c.bufAt (ptrAddr ptr) with refs := (c.bufAt (ptrAddr ptr)).refs - 1 })) := by
  unfold Ctl.bufDo
  rw [sound]

theorem Ctl.bufDo_free {c : Ctl} {ptr : Word} {r : BufReq} {ue : Bool} (sound : c.bufCheck ptr .free r ue = none) :
    c.bufDo ptr .free r ue = (.done, c.setBuf (ptrAddr ptr) (if (c.bufAt (ptrAddr ptr)).refs = 0
      then { c.bufAt (ptrAddr ptr) with state := .free } else { c.bufAt (ptrAddr ptr) with state := .released })) := by
  unfold Ctl.bufDo
  rw [sound]

/-- What the management port answers for an operation that is done. -/
theorem completes_bufferPort {row : Instr} {s : State} {c : Ctl} {op : BufOp} {r : BufReq} {ue : Bool} {ptr : Word}
    (answers : exec row s = onCtl (fun _ c => (c.bufDo (c.rd Reg.BPM_MGT_PTR) op r ue).2.mgtResp (c.bufDo (c.rd Reg.BPM_MGT_PTR) op r ue).1.status) s)
    (port : s.c.rd Reg.BPM_MGT_PTR = ptr) (done : s.c.bufDo ptr op r ue = (.done, c)) :
    Completes row s (fun t => t.c = c.mgtResp 0 ∧ t.c.get F.BPM_MGT_RESP_status = 0 ∧ t.mem = s.mem ∧ t.pending = s.pending) := by
  refine completes_onCtl answers (c := c.mgtResp 0) (by rw [port, done]; rfl) ?_
  rw [State.withCtl_c]
  exact ⟨rfl, Ctl.mgtResp_status c (by decide), State.withCtl_keeps s _⟩

/-! ### Links -/

/-- The hold of a link that is down expires, at whatever time. -/
theorem Ctl.holdExpire_holding {c : Ctl} {link : Nat} (holding : c.flag (F.SWC_LINK_STAT_holding link) = true) :
    c.holdExpire link =
      ((((({ c with swc := { c.swc with holds := Tab.del c.swc.holds link } } : Ctl).setFlag (F.SWC_LINK_STAT_holding link) false).setFlag
        (F.SWC_LINK_STAT_expired link) true).linkDiscard link).bump (F.SWC_FLAP_CNT_expired link) 1) :=
  (if_pos holding).trans (if_pos holding)

/-! ### Queue entries of the transports -/

theorem Ctl.xptEntry_ptr (c : Ctl) (np : Nat) (pull : Bool) (ptr : Word) (cell0 cells last flow sp : Nat) :
    (c.xptEntry np pull ptr cell0 cells last flow sp).ptr = ptr := by
  have either : ∀ (p : Prop) [Decidable p] (x y : QEntry), x.ptr = ptr → y.ptr = ptr → (if p then x else y).ptr = ptr := by
    intro p _ x y left right
    split
    · exact left
    · exact right
  exact either _ _ _ rfl (either _ _ _ rfl rfl)

/-- An entry whose link's hold has not expired joins its queue with the reference that it takes. -/
theorem Ctl.entryJoin_ok {c c1 : Ctl} {k port : Nat} {e : QEntry} {ue : Bool} (sound : ∀ l, e.link = some l → c.linkExpired l = false)
    (room : c.qeUsed < qeTotal) (buf : c.bufDo e.ptr (.ref 1) (swReq port) ue = (.done, c1)) : c.entryJoin k port e ue = c1.qeAppend e := by
  unfold Ctl.entryJoin
  rw [if_neg (Nat.not_le.mpr room), buf]
  cases link : e.link with
  | none => rfl
  | some l => exact if_neg (by simp [sound l link])

/-- Settles O16: each row by the checks that its hypotheses pass. -/
theorem switchAndBufferRowsComplete : Obligations.SwitchAndBufferRowsComplete := by
  refine ⟨fun s np pull ptr cell0 cells last flow sp ue c1 e entry sound room buf => ?append, fun s entry corrected ue e held runs eligible => ?sent,
    fun s words => ?poison, fun s link cells c1 member slot awake till up => ?down, fun s link member slot awake was => ?up,
    fun s link x hold holding => ?expire, fun s core size noFallback ue race w c1 low high grant => ?alloc,
    fun s core ue sound room => ?ref, fun s core ue sound => ?deref, fun s core ue sound => ?free,
    fun s entry corrected ue e alone one runs eligible => ?alone⟩
  case append =>
    have own := s.c.xptEntry_ptr np.val pull ptr cell0 cells last flow sp
    refine show execQueueEntryAppend np pull ptr cell0 cells last flow sp ue s = _ from onCtl_withCtl ?_
    rw [entry] at own ⊢
    exact Ctl.entryJoin_ok sound room (own.symm ▸ buf)
  case sent =>
    refine show execQueueEntrySent entry corrected ue s = _ from onCtl_withCtl ?_
    rw [held]
    exact if_pos (by simp [runs, eligible])
  case poison =>
    refine completes_onAll (show _ = execCellPoisoned (.hbm words) s from rfl) rfl ?_
    rw [State.withBoth_c, State.withBoth_mem]
    exact ⟨rfl, rfl, State.withBoth_pending s _⟩
  case down =>
    refine show execLinkDown link cells s = _ from onAll_withCtl ((if_neg (by simp [awake]; omega)).trans ((if_neg (by omega)).trans ?_))
    rw [till]
    exact if_pos (by simp [up])
  case up =>
    refine show execLinkUp link s = _ from onCtl_withCtl ((if_neg (by simp [awake]; omega)).trans ((if_neg (by omega)).trans ?_))
    exact congrArg (fun c : Ctl => c.linkUp link) (if_pos was)
  case expire =>
    refine completes_onCtl (show _ = execPortHoldExpire link s from rfl) 
      (c := (s.c.reach (x + s.c.get F.SWC_PORT_HOLD_hold_us * 1000)).holdExpire link) ?_ ?_
    · rw [hold]
    · rw [State.withCtl_c]
      exact ⟨Ctl.holdExpire_holding (by rw [Ctl.reach_flag]; exact holding), State.withCtl_keeps s _⟩
  case alloc =>
    refine completes_onCtl (show _ = execBpmMgtAlloc core size noFallback ue race s from rfl) ((if_neg (by omega)).trans ?_)
      (c := (c1.wr Reg.BPM_MGT_PTR w).mgtResp 0) ?_
    · rw [grant]
    · rw [State.withCtl_c]
      exact ⟨Ctl.mgtResp_ptr c1 0 w, Ctl.mgtResp_status _ (by decide), Ctl.mgtResp_busy _ 0, rfl, State.withCtl_keeps s _⟩
  case ref => exact completes_bufferPort (show _ = execBpmMgtRef core ue s from rfl) rfl (Ctl.bufDo_ref sound room)
  case deref => exact completes_bufferPort (show _ = execBpmMgtDeref core ue s from rfl) rfl (Ctl.bufDo_deref sound)
  case free => exact completes_bufferPort (show _ = execBpmMgtFree core ue s from rfl) rfl (Ctl.bufDo_free sound)
  case alone =>
    refine completes_onCtl (show _ = execQueueEntrySent entry corrected ue s from rfl)
      (c := (s.c.cellRun entry ue (s.c.cellsLeft + 1)).bump F.SWC_ERR_STAT_corrected corrected) ?_ ?_
    · rw [alone, show Tab.at? [(entry, e)] entry = some e by simp [Tab.at?]]
      exact if_pos (by simp [runs, eligible])
    · rw [State.withCtl_c]
      exact ⟨Ctl.cellRun_last alone one runs eligible ue, State.withCtl_keeps s _⟩

end Sys2Proof.Machine
end

section

/-!
Crema's own rows, the journal's timers and the faults of the Carafe (08_read_path_and_crema.md, R174, R181, R188 to R193;
09_layouts_and_write_path.md, R225, R230).
-/

namespace Sys2Proof.Machine
set_option Elab.async false

theorem Ctl.crmCmd_idle {c : Ctl} {op : Nat} (ns : Nat) (command : op = 1 ∨ op = 2) (idle : c.flag F.CRM_STAT_sweep = false) :
    c.crmCmd op ns = if op = 1 then c.invalNs ns else c.invalAll :=
  (if_neg (by omega)).trans (if_neg (by simp [idle]))

theorem Ctl.reachDnt_crm (c : Ctl) (t : Nat) : (c.reachDnt t).crm = c.crm := by
  unfold Ctl.reachDnt
  split
  · rfl
  · rfl

/-- A change of one tag's brew touches neither the Carafe nor a register. -/
theorem Ctl.onBrew_beside (c : Ctl) (tag : Nat) (f : Brew → Brew) : (c.onBrew tag f).car = c.car ∧ (c.onBrew tag f).regs = c.regs := by
  unfold Ctl.onBrew
  split
  · exact ⟨rfl, rfl⟩
  · exact ⟨rfl, rfl⟩

/-- The flush of a slot that is due, given a context. -/
theorem Ctl.flushStart_started {c c1 : Ctl} {k tag : Nat} {g : GSlot} (slot : Tab.at? c.car.slots k = some g) (due : c.flushDue g = true)
    (brew : c.bgStart .stripeFlush (Config.recipeOf 5) (devId (c.nsOfStripe g.group g.strp)) = .started tag c1) :
    c.flushStart k =
      (let w : FlushWork := { slot := some k, group := g.group, strp := g.strp, recs := c.slotSettled g, srcs := [], recons := [],
                              buf := 0, tagBuf := 0, recon := [], intent := none, tried := 0, forms := [],
                              stage := c.get F.RBD_RG_STAT_state != 0 && g.group == c.rgStage }
       (({ c1 with car := { c1.car with
          works := Tab.put c1.car.works tag w, slots := Tab.put c1.car.slots k { g with flush := some tag } } } : Ctl).onBrew tag
        (fun b => { b with prio := 2 })).laneTail tag 2) := by
  unfold Ctl.flushStart
  rw [slot]
  refine (if_neg (by simp [due])).trans ?_
  rw [brew]

/-- The lines of the list that some landed record has. -/
theorem carafeFault_hits {c : Ctl} {lines : List (Nat × Nat)} {p : Nat × Nat → Bool} {die : Option Bool}
    (meets : die.isSome = true ∨ lines.any p = true) (running : c.halted = false) :
    (c.halted || (die.isNone && (lines.filter p).length == 0)) = false := by
  cases die with
  | some b => simp [running]
  | none =>
    have hit : lines.any p = true := by simpa using meets
    obtain ⟨x, mem, passes⟩ := List.any_eq_true.mp hit
    have some_ : (lines.filter p).length ≠ 0 := fun none_ => by
      have gone := List.eq_nil_of_length_eq_zero none_
      exact absurd (List.mem_filter.mpr ⟨mem, passes⟩) (by simp [gone])
    simp [running] at some_ ⊢
    exact ⟨x.1, x.2, mem, passes⟩

/-- Settles O17: each row by the checks that its hypotheses pass. -/
theorem cremaAndJournalRowsComplete : Obligations.CremaAndJournalRowsComplete := by
  refine ⟨fun s ns there idle => ?ns, fun s there idle => ?all, fun s sweeps unheld => ?swept, fun s init => ?init, fun s pool above => ?evict,
    fun s x instant alone => ?decay, fun s slot x dead => ?deadline, fun s slot g tag c1 held due brew => ?flush,
    fun s g ready ok low => ?checkpoint, fun s die lines c1 running meets spoiled synced => ?fault, fun s => ?decayRow⟩
  case ns =>
    exact show execCrmInvalidateNs ns s = _ from onCtl_withCtl ((if_pos there).trans (Ctl.crmCmd_idle (op := 1) ns (.inl rfl) idle))
  case all =>
    exact show execCrmInvalidateAll s = _ from onCtl_withCtl ((if_pos there).trans (Ctl.crmCmd_idle (op := 2) 0 (.inr rfl) idle))
  case swept =>
    refine completes_onCtl (show _ = execCrmSweepDone s from rfl) ((if_pos sweeps).trans ?_)
      (c := (({ s.c with crm := { s.c.crm with sweeps := [], held := none } } : Ctl).entriesDrop (fun _ e => e.nsEpoch != s.c.nsEpoch e.nsid)).setFlag
        F.CRM_STAT_sweep false) ?_
    · rw [unheld]
    · rw [State.withCtl_c]
      exact ⟨rfl, State.withCtl_keeps s _⟩
  case init => exact show execCrmInitDone s = _ from onCtl_withCtl (if_pos init)
  case evict =>
    refine completes_onCtl (show _ = execCrmLimitEvict pool s from rfl) (if_pos above) ?_
    rw [State.withCtl_c]
    refine ⟨fun v victim => ?_, fun none_ => ?_, State.withCtl_keeps s _⟩
    · dsimp only
      rw [victim]
    · dsimp only
      rw [none_]
  case decay =>
    refine completes_onAll (show _ = execSketchDecay s from rfl) (r := (s.mem, (s.c.reachDnt x).decayFire x)) ?_ ?_
    · dsimp only
      rw [instant, dntRow, dntAhead_of_none_due s.mem alone]
    · rw [State.withBoth_c, State.withBoth_mem]
      refine ⟨rfl, rfl, ?_, rfl, State.withBoth_pending s _⟩
      show (s.c.reachDnt x).crm.sketch.map _ = _
      rw [Ctl.reachDnt_crm]
  case deadline =>
    refine show execGatherDeadlineExpire slot s = _ from onCtl_withCtl ?_
    rw [dead]
  case flush =>
    refine completes_onCtl (show _ = execFlushBrewStart slot s from rfl) (Ctl.flushStart_started held due brew) ?_
    rw [State.withCtl_c]
    refine ⟨?_, ?_, ?_, State.withCtl_keeps s _⟩
    · exact congrArg (·.works) (Ctl.onBrew_beside _ tag _).1
    · exact congrArg (·.slots) (Ctl.onBrew_beside _ tag _).1
    · exact (Ctl.onBrew_beside _ tag _).2
  case checkpoint =>
    exact show execCheckpointTimer g s = _ from onAll_withBoth ((if_neg (by simp [ready, ok])).trans (if_neg (Nat.not_le.mpr low)))
  case fault =>
    refine show execCarafeFault die lines s = _ from onAll_withBoth ((if_neg (by rw [carafeFault_hits meets running]; decide)).trans ?_)
    dsimp only
    rw [spoiled]
    exact if_pos synced
  case decayRow => exact show execSketchDecay s = _ from onAll_withBoth rfl

end Sys2Proof.Machine
end

section

/-!
The members and the groups (10_rebuild_cupping_regrind.md, R237, R243, R246).
-/

namespace Sys2Proof.Machine
set_option Elab.async false

theorem rbdFail_live {m : Mem} {c : Ctl} {bay : Nat} (live : c.memLive bay = true)
    (redundant : (c.failedPos (c.memGrp bay)).length < c.grpP (c.memGrp bay)) :
    rbdFail m c bay = memFail m (c.set F.RBD_CMD_STAT_err 0) bay 8 :=
  (if_neg (by simp [live])).trans (if_neg (Nat.not_le.mpr redundant))

theorem Ctl.rbdSpare_ready {c : Ctl} {bay : Nat} {d : Drive} (exists_ : bay < 24) (unused : c.memState bay = 0) (drive : c.drive? bay = some d)
    (ready : d.ready = true) (unplaced : c.posOfBay bay = none) :
    c.rbdSpare bay = (((c.wr (Reg.RBD_MEM_STAT bay) 0).set (F.RBD_MEM_STAT_state bay) 5).set F.RBD_CMD_STAT_err 0).pickAll.reassess := by
  unfold Ctl.rbdSpare
  rw [drive]
  exact if_neg (by simp [unused, ready, unplaced, exists_])

theorem Ctl.rbdUse_fits {c : Ctl} {bay : Nat} {d : Drive} (drive : c.drive? bay = some d) (failed : c.memState bay = 2)
    (label : d.label.isSome = true) (ready : d.ready = true) (free : Tab.has c.rbd.formats bay = false)
    (size : Tab.getD c.rbd.cmin (c.memGrp bay) 0 ≤ d.cap) (fits : c.driveFits (c.memGrp bay) bay = true) :
    c.rbdUse bay = (c.formatStart (c.memGrp bay) (c.memPos bay) bay).set F.RBD_CMD_STAT_err 0 := by
  unfold Ctl.rbdUse
  rw [drive]
  refine (if_neg ?_).trans ((if_neg (Nat.not_lt.mpr size)).trans (if_neg (by simp [fits])))
  simp [failed, Option.isSome_iff_ne_none.mp label, ready, free]

/-- Each budget has its rate of the refill's time. -/
theorem Ctl.refillAll_buckets (c : Ctl) :
    c.refillAll.rbd.bktRb = refillOne c.rbd.bktRb c.rbRate ∧ c.refillAll.rbd.bktCup = refillOne c.rbd.bktCup c.bgRates.2.1 ∧
      c.refillAll.rbd.bktRg = refillOne c.rbd.bktRg c.bgRates.2.2.1 ∧ c.refillAll.rbd.bktTest = refillOne c.rbd.bktTest c.bgRates.2.2.2 ∧
      c.refillAll.rbd.refill = c.dt ∧ c.refillAll.regs = c.regs :=
  ⟨rfl, rfl, rfl, rfl, rfl, rfl⟩

/-- Settles O18: each row by the checks that its hypotheses pass. -/
theorem memberRowsComplete : Obligations.MemberRowsComplete := by
  refine ⟨fun s group runs => ?init, fun s bay k format => ?format, fun s group strp b free first => ?lock, fun s => ?refill,
    fun s bay x down live => ?linkFail, fun s bay waits => ?command, fun s bay x reset live => ?reset, fun s bay live => ?warning,
    fun s bay there live redundant => ?fail, fun s bay d there unused drive ready unplaced => ?spare, fun s bay there spare => ?release,
    fun s bay d there drive failed label ready free size fits => ?use⟩
  case init =>
    refine show execGroupInitDone group none s = _ from onAll_withBoth ((if_neg (by rw [runs]; decide)).trans ?_)
    generalize checkpoint = ckpt
    rfl
  case format =>
    refine show execTargetFormatDone bay s = _ from onCtl_withCtl ?_
    rw [format]
  case lock =>
    refine show execStripeLockGrant group strp s = _ from onCtl_withCtl ((if_neg (by simp [free])).trans ?_)
    rw [first]
  case refill =>
    refine completes_onCtl (show _ = execBudgetRefill s from rfl) (c := (s.c.reach ((s.c.rbd.refill / 1000000 + 1) * 1000000)).refillAll) rfl ?_
    rw [State.withCtl_c]
    obtain ⟨rebuild, cupping, regrind, test, at_, regs⟩ := Ctl.refillAll_buckets (s.c.reach ((s.c.rbd.refill / 1000000 + 1) * 1000000))
    exact ⟨rebuild, cupping, regrind, test, at_, regs, State.withCtl_keeps s _⟩
  case linkFail =>
    refine show execMemberLinkFailTimeout bay s = _ from onAll_withBoth ?_
    rw [down]
  case command => exact show execMemberCommandTimeout bay s = _ from onCtl_withCtl (if_pos waits)
  case reset =>
    refine show execMemberResetTimeout bay s = _ from onAll_withBoth ?_
    rw [reset]
  case warning => exact show execDriveCriticalWarning bay s = _ from onAll_withBoth rfl
  case fail => exact show execRbdFailMember bay s = _ from onAll_withBoth ((if_pos there).trans (rbdFail_live live redundant))
  case spare =>
    exact show execRbdDesignateHotspare bay s = _ from onAll_withCtl ((if_pos there).trans
      (congrArg (Prod.mk s.mem) (Ctl.rbdSpare_ready bay.isLt unused drive ready unplaced)))
  case release =>
    exact show execRbdReleaseHotspare bay s = _ from onAll_withCtl ((if_pos there).trans
      (congrArg (Prod.mk s.mem) (if_neg (by simp [spare]))))
  case use =>
    exact show execRbdUseLabelledDrive bay s = _ from onAll_withCtl ((if_pos there).trans
      (congrArg (Prod.mk s.mem) (Ctl.rbdUse_fits drive failed label ready free size fits)))

end Sys2Proof.Machine
end

section

/-!
Rebuild, repair and Cupping (10_rebuild_cupping_regrind.md, R242, R244, R251, R258, R259).
-/

namespace Sys2Proof.Machine
set_option Elab.async false

/-! ### The progress record -/

/-- Outputs that do not look at those before them leave in order. -/
theorem Ctl.foldl_emit {α : Type} (f : Ctl → α → Output) (blind : ∀ c o x, f (c.emit o) x = f c x) (xs : List α) (c : Ctl) :
    xs.foldl (fun c x => c.emit (f c x)) c = { c with out := (xs.map (f c)).reverse ++ c.out } := by
  induction xs generalizing c with
  | nil => rfl
  | cons x xs ih =>
    have same : f (c.emit (f c x)) = f c := funext fun y => blind c (f c x) y
    rw [List.foldl_cons, ih, same, List.map_cons, List.reverse_cons, List.append_assoc]
    rfl

theorem Ctl.progressSend_eq (c : Ctl) (g : Nat) (p : Progress) :
    c.progressSend g p = { c with out := (((c.positions g).filter (fun pos => c.memUsable (c.bayAt g pos))).map (fun pos =>
      Output.progressWrite (c.bayAt g pos) (c.progressBytes g pos p))).reverse ++ c.out } :=
  Ctl.foldl_emit (fun c pos => .progressWrite (c.bayAt g pos) (c.progressBytes g pos p)) (fun _ _ _ => rfl) _ c

/-- The state with a group's record and its targets as they are written to the members, and the writes on their way. -/
def Ctl.progressKeep (c : Ctl) (g : Nat) (p : Progress) : Ctl :=
  ({ c with rbd := { c.rbd with
      prog := Tab.put c.rbd.prog g p, progRec := Tab.put c.rbd.progRec g p
      tgtRec := c.rbd.tgtRec.filter (fun (x : Nat × Target) => x.1 / 32 != g) ++ c.rbd.targets.filter (fun (x : Nat × Target) => x.1 / 32 == g) } } :
    Ctl).progressSend g p

theorem Ctl.progressKeep_effect (c : Ctl) (g : Nat) (p : Progress) :
    let ts := c.rbd.targets.filter (fun (x : Nat × Target) => x.1 / 32 == g)
    let c2 : Ctl := { c with rbd := { c.rbd with
      prog := Tab.put c.rbd.prog g p, progRec := Tab.put c.rbd.progRec g p
      tgtRec := c.rbd.tgtRec.filter (fun (x : Nat × Target) => x.1 / 32 != g) ++ ts } }
    (c.progressKeep g p).rbd = c2.rbd ∧
      (c.progressKeep g p).out = (((c2.positions g).filter (fun pos => c2.memUsable (c2.bayAt g pos))).map (fun pos =>
        Output.progressWrite (c2.bayAt g pos) (c2.progressBytes g pos p))).reverse ++ c.out ∧
      (c.progressKeep g p).regs = c.regs := by
  unfold Ctl.progressKeep
  rw [Ctl.progressSend_eq]
  exact ⟨rfl, rfl, rfl⟩

/-! ### The brews -/

theorem rebuildBrew_runs {m : Mem} {c : Ctl} {g : Nat} {bad : List (Nat × Nat)} (ok : c.bgOk = true) (ready : c.grpReady g = true)
    (targets : (c.grpTargets g).isEmpty = false) (rate : c.rbRate ≠ 0) (budget : 0 < c.rbd.bktRb) (turn : c.shareTurn 0 g = true)
    (open_ : c.markBlocked = false) (free : c.lockFree g (c.rd (Reg.RBD_RB_CUR g)).toNat .rebuild = true) :
    rebuildBrew m c g bad =
      (let strp := (c.rd (Reg.RBD_RB_CUR g)).toNat
       let ts := c.grpTargets g
       let n := 4096 * c.scopeBlocks g strp * ts.length
       let c1 := ({ c.lockTake g strp .rebuild with rbd := { c.rbd with bktRb := c.rbd.bktRb - n } } : Ctl).shareAdd 0 g n
       let r := (c1.scopeRows g strp).foldl (rebuildRow g strp bad) (m, c1)
       let c3 := if n = 0 then r.2 else (r.2.tev .rbd 0 g none none n).emit (.stripeWrite g strp ts)
       (r.1, ((c3.sweepOn g strp).lockDrop g strp).reassess)) := by
  refine (if_neg ?_).trans (if_neg (by simp [free]))
  simp [ok, ready, targets, rate, turn, open_]
  omega

/-- A repair's brew, given its block's lock, which it drops at its end. -/
theorem repairBrew_runs {m : Mem} {c : Ctl} {i : Nat} {e : RepairE} (still : Bool) (more : List Nat) (entry : c.rbd.repairs[i]? = some e)
    (ok : c.bgOk = true) (ready : c.grpReady e.group = true) (free : c.lockFree e.group e.strp .repair = true) :
    repairBrew m c i still more =
      (let qs := c.rbd.repairs.filter (· != e)
       let c1 := ({ c.lockTake e.group e.strp .repair with rbd := { c.rbd with repairs := qs } } : Ctl).set F.RBD_REP_STAT_queued qs.length
       let er := c1.erasures e.group e.strp e.row
       let bad := (e.pos :: more).eraseDups.filter (fun p => !er.contains p && decide (p < c1.grpN e.group))
       let r := if !still || er.contains e.pos then (m, c1)
         else if er.length + bad.length ≤ c1.grpP e.group then (m, (c1.rewrote e.group bad.length).emit (.stripeWrite e.group e.strp bad))
         else sealRow m c1 e.group e.strp e.row 2 (er ++ bad)
       (r.1, r.2.lockDrop e.group e.strp)) := by
  unfold repairBrew
  rw [entry]
  exact (if_neg (by simp [ok, ready])).trans (if_neg (by simp [free]))

/-- Settles O19: each row by the checks that its hypotheses pass. -/
theorem rebuildRowsComplete : Obligations.RebuildRowsComplete := by
  refine ⟨fun s group bad ok ready targets rate budget turn open_ free => ?rebuild, fun s group changed ok => ?progress,
    fun s entry more e held ok ready free => ?repair, fun s group ok ready idle marked => ?markPass,
    fun s group ok ready idle unmarked en never => ?firstPass, fun s group x ok ready idle unmarked en last => ?nextPass,
    fun s group looks ok ready active rate budget turn free => ?cupping⟩
  case rebuild =>
    exact show execRebuildBrewStart group bad s = _ from onAll_withBoth (rebuildBrew_runs ok ready targets rate budget turn open_ free)
  case progress =>
    refine completes_onCtl (show _ = execProgressRecordWrite group s from rfl) (if_neg (by simp [changed, ok]))
      (c := (s.c.reach _).progressKeep group _) ?_
    rw [State.withCtl_c]
    obtain ⟨rbd, out, regs⟩ := Ctl.progressKeep_effect _ group.val _
    exact ⟨rbd, out, regs, State.withCtl_keeps s _⟩
  case repair =>
    intro qs c1 er bad
    refine ⟨?_, fun present few => ?_, fun present many => ?_⟩
    · exact show execRepairBrewStart entry false more s = _ from onAll_withCtl (repairBrew_runs false more held ok ready free)
    · refine show execRepairBrewStart entry true more s = _ from onAll_withCtl ((repairBrew_runs true more held ok ready free).trans ?_)
      dsimp only
      rw [if_neg (by rw [Bool.not_true, Bool.false_or, present]; decide), if_pos few]
    · refine show execRepairBrewStart entry true more s = _ from onAll_withBoth ((repairBrew_runs true more held ok ready free).trans ?_)
      dsimp only
      rw [if_neg (by rw [Bool.not_true, Bool.false_or, present]; decide), if_neg (Nat.not_le.mpr many)]
  case markPass =>
    exact show execCuppingPassStart group s = _ from onCtl_withCtl ((if_neg (by simp [ok, ready, idle])).trans (if_pos marked))
  case firstPass =>
    refine show execCuppingPassStart group s = _ from onCtl_withCtl ((if_neg (by simp [ok, ready, idle])).trans
      ((if_neg (by rw [unmarked]; decide)).trans ((if_neg (by simp [en])).trans ?_)))
    rw [never]
  case nextPass =>
    refine show execCuppingPassStart group s = _ from onCtl_withCtl ((if_neg (by simp [ok, ready, idle])).trans
      ((if_neg (by rw [unmarked]; decide)).trans ((if_neg (by simp [en])).trans ?_)))
    rw [last]
  case cupping =>
    exact completes_onAll (show _ = execCuppingBrewStart group looks s from rfl) (r := cuppingBrew s.mem s.c group looks) rfl
      ⟨rfl, State.withBoth_pending s _⟩

end Sys2Proof.Machine
end

section

/-!
Regrind (10_rebuild_cupping_regrind.md, R263 to R268).
-/

namespace Sys2Proof.Machine
set_option Elab.async false

/-- The state in which a Regrind is in INIT: its map drawn up, its record list empty. -/
def Ctl.rgStarted (c : Ctl) : Ctl :=
  let c1 := (c.rgStageCfg).grpInit c.rgStage
  let map := rgExtents (c1.grpDS c.rgSrc) (c1.grpDS c.rgStage) 0 (c1.nsExtents c.rgSrc)
  let c2 : Ctl := { c1 with rbd := { c1.rbd with rgMap := map, rgRecs := [] } }
  (c2.set F.RBD_RG_STAT_state 1).set F.RBD_RG_STAT_err 0

theorem rgStart_idle {m : Mem} {c : Ctl} (idle : c.get F.RBD_RG_STAT_state = 0) (sound : c.rgStartErr = 0) :
    rgStart m c = (m, c.rgStarted, true) :=
  (if_neg (by simp [idle])).trans (if_neg (by simp [sound]))

theorem Ctl.rgStatus_set (c : Ctl) {st err : Nat} (state : st < 16) (code : err < 16) :
    ((c.set F.RBD_RG_STAT_state st).set F.RBD_RG_STAT_err err).get F.RBD_RG_STAT_state = st ∧
      ((c.set F.RBD_RG_STAT_state st).set F.RBD_RG_STAT_err err).get F.RBD_RG_STAT_err = err ∧
      RegsBut [Reg.RBD_RG_STAT] c ((c.set F.RBD_RG_STAT_state st).set F.RBD_RG_STAT_err err) := by
  refine ⟨?_, Ctl.get_set_val _ F.RBD_RG_STAT_err err (by decide) code, fun o ho => ?_⟩
  · exact (Ctl.get_set_beside _ F.RBD_RG_STAT_err F.RBD_RG_STAT_state err (by decide) (by decide)).trans
      (Ctl.get_set_val c F.RBD_RG_STAT_state st (by decide) state)
  · have other : Reg.RBD_RG_STAT ≠ o := fun e => ho (e ▸ List.mem_cons_self)
    exact (Ctl.rd_set_other _ F.RBD_RG_STAT_err err o other).trans (Ctl.rd_set_other c F.RBD_RG_STAT_state st o other)

theorem rgCommit_copied {m : Mem} {c : Ctl} (copied : c.get F.RBD_RG_STAT_state = 3) :
    rgCommit m c =
      (let r := rgRecord m c 0 4
       let moved := r.2.rbd.rgMap.map (·.1)
       let c2 := (r.2.rgKeepMaps.rgMoveRecs.rgMoveNs).swapGroups r.2.rgSrc r.2.rgStage
       let c3 := moved.foldl Ctl.useMoved { c2 with rbd := { c2.rbd with rgRecs := [], rgMap := [] } }
       (r.1, moved.foldl Ctl.nsChanged (c3.set F.RBD_RG_STAT_state 5), true)) := by
  unfold rgCommit
  generalize rgRecord = record
  exact if_neg (by simp [copied])

theorem rgAbortCmd_running {m : Mem} {c : Ctl}
    (runs : c.get F.RBD_RG_STAT_state = 1 ∨ c.get F.RBD_RG_STAT_state = 2 ∨ c.get F.RBD_RG_STAT_state = 3) :
    rgAbortCmd m c = ((rgAbort m c 8).1, (rgAbort m c 8).2, true) := by
  unfold rgAbortCmd
  generalize rgAbort = aborts
  exact if_pos runs

/-- INIT is over: the copy begins at the last unit, or with none nothing is left to copy (R264). -/
def rgInitOver (m : Mem) (c : Ctl) : Mem × Ctl :=
  let cur := (c.grpUnits c.rgSrc).foldl (fun a u => max a (u + 1)) 0
  let r := rgRecord m (c.setRgCur cur) 0 (if cur = 0 then 3 else 2)
  (r.1, r.2.set F.RBD_RG_STAT_state (if cur = 0 then 3 else 2))

/-- RETIRING is over: the stage group's lost stripes and the group itself are gone (R267). -/
def rgRetireOver (m : Mem) (c : Ctl) : Mem × Ctl :=
  let l := lostDrop m c c.rgStage
  let r := rgRecord l.1 l.2 0 0
  (r.1, ((r.2.grpDisable r.2.rgStage).set F.RBD_RG_STAT_state 0).reassess)

/-- Settles O20: the state of the Regrind decides what each row does. -/
theorem regrindRowsComplete : Obligations.RegrindRowsComplete := by
  refine ⟨fun s idle sound => ?start, fun s init ready => ?initDone, fun s bad copying ok rate budget open_ => ?copy, fun s copied => ?commit,
    fun s runs live => ?abort, fun s retiring still unread => ?retire⟩
  case start =>
    refine completes_onAll (show _ = execRegrindStart s from rfl) (r := (s.mem, s.c.rgStarted)) ?_ ?_
    · rw [rgStart_idle idle sound]
    · rw [State.withBoth_c, State.withBoth_mem]
      obtain ⟨state, err, regs⟩ := Ctl.rgStatus_set _ (st := 1) (err := 0) (by decide) (by decide)
      exact ⟨rfl, rfl, state, err, regs, rfl, State.withBoth_pending s _⟩
  case initDone =>
    refine completes_onAll (show _ = execRegrindInitDone s from rfl)
      (r := rgInitOver s.mem s.c) ((if_neg (by simp [init, ready])).trans ?_) ?_
    · unfold rgInitOver
      generalize rgRecord = record
      rfl
    · exact ⟨State.withBoth_mem s _, State.withBoth_c s _, State.withBoth_pending s _⟩
  case copy =>
    exact completes_onAll (show _ = execRegrindCopyBrewStart bad s from rfl) (r := rgCopy s.mem s.c bad) rfl
      ⟨rfl, State.withBoth_pending s _⟩
  case commit =>
    refine completes_onAll (show _ = execRegrindCommit s from rfl) (r := ((rgCommit s.mem s.c).1, (rgCommit s.mem s.c).2.1)) ?_ ?_
    · generalize rgCommit = commits
      rfl
    · rw [State.withBoth_c, State.withBoth_mem, rgCommit_copied copied]
      exact ⟨rfl, rfl, State.withBoth_pending s _⟩
  case abort =>
    refine show execRegrindAbort s = _ from onAll_withBoth ((if_neg (by rw [live, Bool.and_false]; decide)).trans ?_)
    rw [rgAbortCmd_running runs]
  case retire =>
    refine completes_onAll (show _ = execRegrindRetireDone s from rfl)
      (r := rgRetireOver s.mem s.c) ((if_neg (by simp only [retiring, still, unread]; decide)).trans ?_) ?_
    · unfold rgRetireOver
      generalize rgRecord = record
      rfl
    · exact ⟨State.withBoth_mem s _, State.withBoth_c s _, State.withBoth_pending s _⟩

end Sys2Proof.Machine
end

section

/-!
The key unit and the TLS records (11_tamp_and_cipher.md, R290, R294, R295).
-/

namespace Sys2Proof.Machine
set_option Elab.async false

/-! ### LOAD and ZEROISE -/

/-- A LOAD that a page's slot takes is checked, and runs by way of the peer where there is one. -/
theorem Ctl.kpLoad_taken {c c1 : Ctl} {t slot : Nat} {blob : List Byte} (idle : c.flag (F.KP_STAT_busy t) = false)
    (taken : ((c.set (F.KP_STAT_last_slot t) slot).setFlag (F.KP_STAT_busy t) true).set (F.KP_RESULT_status t) Cs.pending = c1)
    (served : c1.dataRefusal [slot] = 0) : c.kpLoad t slot blob none =
      match c1.loadCheckKey t slot blob with
      | (0, p) =>
        if c1.mirroring then
          ({ c1 with keys := { c1.keys with loads := Tab.put c1.keys.loads t ⟨slot, blob, blobKey p slot, pktField p 8 4, 1, none⟩ } } : Ctl).emit
            (.peer (.key (.load t slot blob)))
        else c1.loadStore t ⟨slot, blob, blobKey p slot, pktField p 8 4, 0, none⟩
      | (st, _) => c1.keyEnd t st none := by
  unfold Ctl.kpLoad
  rw [if_neg (by simp [idle])]
  dsimp only
  rw [taken, if_neg (by simp [served])]
  rcases c1.loadCheckKey t slot blob with ⟨st, p⟩
  cases st with
  | zero =>
    cases c1.mirroring with
    | true => rfl
    | false => rfl
  | succ n => rfl

theorem Ctl.kpZeroise_taken {c c1 : Ctl} {t : Nat} {slots : List Nat} (idle : c.flag (F.KP_STAT_busy t) = false)
    (taken : (c.setFlag (F.KP_STAT_busy t) true).set (F.KP_RESULT_status t) Cs.pending = c1) (served : c1.dataRefusal slots = 0) :
    c.kpZeroise t slots none =
      (let c2 := (slots.foldl (fun c s => c.setSlotState t s 2) c1).pskEnd t slots
       let c3 : Ctl := { c2 with keys := { c2.keys with zeros := Tab.put c2.keys.zeros t ⟨slots, !c2.mirroring, none⟩ } }
       if c3.mirroring then c3.emit (.peer (.key (.zeroise t slots))) else c3) := by
  subst taken
  exact (if_neg (by simp [idle])).trans (if_neg (by simp [served]))

/-- Naming the slot leaves the page as busy as it was. -/
theorem Ctl.kpBusy_lastSlot (c : Ctl) (t slot : Nat) : (c.set (F.KP_STAT_last_slot t) slot).flag (F.KP_STAT_busy t) = c.flag (F.KP_STAT_busy t) :=
  Ctl.flag_set_beside c (F.KP_STAT_last_slot t) (F.KP_STAT_busy t) slot (show 0 ≤ 3 ∧ 3 < 32 by decide) (Or.inr (show 3 < 23 by decide))

theorem Ctl.handleEnd_keys (c : Ctl) (h st : Nat) (bs : List Word) : (c.handleEnd h st bs).keys = c.keys := rfl

theorem Ctl.keyEnd_keys (c : Ctl) (t st : Nat) (h : Option Nat) : (c.keyEnd t st h).keys = c.keys := by
  cases h with
  | none => rfl
  | some k => exact Ctl.handleEnd_keys ..

/-- Of the key material, the end of a ZEROISE leaves what no slot of its list holds. -/
theorem Ctl.zeroiseEnd_mat (c : Ctl) (t : Nat) (z : ZeroOp) :
    (c.zeroiseEnd t z).keys.mat = z.slots.foldl (fun m k => Tab.del m (keyKey t k)) c.keys.mat := by
  have kept : ∀ {α : Type} (f : Ctl → α → Ctl) (l : List α) (d : Ctl), (∀ d x, (f d x).keys.mat = d.keys.mat) → (l.foldl f d).keys.mat = d.keys.mat :=
    fun f l d step => foldl_keeps (fun e : Ctl => e.keys.mat = d.keys.mat) (fun e x same => (step e x).trans same) l rfl
  unfold Ctl.zeroiseEnd
  dsimp only
  rw [Ctl.keyEnd_keys, Ctl.pageInval, kept Ctl.invalNs _ _ fun _ _ => rfl, kept (fun c s => c.setSlotState t s 3) _ _ fun _ _ => rfl]
  split
  · exact kept (fun c s => c.storeWrite (2 * t + s) none) _ _ fun _ _ => rfl
  · exact kept (fun c s => c.storeWrite (2 * t + s) none) _ _ fun _ _ => rfl

/-! ### TLS records -/

theorem Ctl.tlsRecord_served {c : Ctl} {k n : Nat} {push : Bool} {f : Conn → CtabE → Nat → Ctl → Ctl} {x : Conn} {e : CtabE}
    (conn : c.conn? k = some x) (cluster : c.tlsCluster k = some n) (tls : x.tls = true) (entry : Tab.at? c.keys.ctab k = some e)
    (sound : c.tlsCause k = 0) : c.tlsRecord k push f = f x e n c := by
  simp [Ctl.tlsRecord, conn, cluster, tls, entry, sound]

/-- Settles O21: each row by the checks that its hypotheses pass. -/
theorem keyAndTlsRowsComplete : Obligations.KeyAndTlsRowsComplete := by
  refine ⟨fun s tenant slot there idle => ?load, fun s tenant slot there idle => ?slot, fun s tenant there idle => ?page,
    fun s tenant z zero acked => ?zeroised, fun s new bank => ?rewrapped, fun s conn data sp x n e size known cluster tls entry sound => ?encrypt,
    fun s conn data update x n e known cluster tls entry sound => ?decrypt,
    fun s conn identity input x h known plain tcp host psk slot => ?hello⟩
  case load =>
    intro c1 blob served
    exact show execKpLoad tenant slot s = _ from onCtl_withCtl ((if_pos there).trans (Ctl.kpLoad_taken idle rfl served))
  case slot =>
    intro c1 served c2 c3
    refine show execKpZeroiseSlot tenant slot s = _ from onCtl_withCtl ((if_pos there).trans ?_)
    unfold Ctl.kpZeroiseOne
    rw [if_neg (by simp [idle])]
    exact Ctl.kpZeroise_taken ((Ctl.kpBusy_lastSlot ..).trans idle) rfl served
  case page =>
    intro c1 served c2 c3
    exact show execKpZeroisePage tenant s = _ from onCtl_withCtl ((if_pos there).trans (Ctl.kpZeroise_taken idle rfl served))
  case zeroised =>
    refine completes_onCtl (show _ = execZeroiseComplete tenant s from rfl) (c := s.c.zeroiseEnd tenant z) ?_ ?_
    · rw [zero]
      exact if_pos (by rcases acked with acked | alone <;> simp [*])
    · rw [State.withCtl_c]
      exact ⟨rfl, Ctl.zeroiseEnd_mat .., State.withCtl_keeps s _⟩
  case rewrapped =>
    refine completes_onCtl (show _ = execSkekRewrapDone s from rfl) (c := s.c.skekDone) rfl ?_
    rw [State.withCtl_c]
    refine ⟨?_, State.withCtl_keeps s _⟩
    unfold Ctl.skekDone
    rw [bank]
  case encrypt =>
    exact show execTlsRecordEncrypt conn data sp s = _ from onCtl_withCtl ((if_neg (Nat.not_lt.mpr size)).trans
      (Ctl.tlsRecord_served known cluster tls entry sound))
  case decrypt =>
    refine show execTlsRecordDecrypt conn data update s = _ from onCtl_withCtl ((Ctl.tlsRecord_served known cluster tls entry sound).trans ?_)
    cases Config.gcmOpen e.key (tlsNumber e.rxGen e.rcvd) data with
    | none => rfl
    | some p => rfl
  case hello =>
    refine completes_onCtl (show _ = execTlsClientHello conn identity true true input s from rfl) ?_
      ⟨State.withCtl_c s _, State.withCtl_keeps s _⟩
    rw [known]
    refine (if_neg (by simp [plain, tcp])).trans ?_
    rw [host]
    exact if_neg (by simp [slot]; omega)

end Sys2Proof.Machine
end

section

/-!
The network ports, the frames they answer or drop, flow control and the egress schedulers
(12_network_ports.md, R301 to R317).
-/

namespace Sys2Proof.Machine
set_option Elab.async false

/-! ### Frames of a port -/

theorem Ctl.ownAnswer_own {c : Ctl} {np : Nat} {o : Output} {own : Bool} (up : c.netUp np = true) (mine : own = true) :
    c.ownAnswer np own o = (c.frameIn np none 0).emit o :=
  (if_neg (by simp [up])).trans (if_pos mine)

theorem Ctl.ownAnswer_other {c : Ctl} {np : Nat} {o : Output} {own : Bool} (up : c.netUp np = true) (other : own = false) :
    c.ownAnswer np own o = (c.frameIn np none 0).frameNoMatch np :=
  (if_neg (by simp [up])).trans (if_neg (by simp [other]))

/-- An IPv4 address is one of the low 2^32 of the addresses an echo names. -/
theorem Ctl.ownIp4_of_echo (c : Ctl) (np : Nat) (ip : BitVec 32) :
    (decide ((ip.setWidth 128).toNat < 2 ^ 32) && c.ownIp4 np ((ip.setWidth 128).setWidth 32)) = c.ownIp4 np ip := by
  have low : (ip.setWidth 128).toNat < 2 ^ 32 := by
    rw [BitVec.toNat_setWidth]
    exact Nat.lt_of_le_of_lt (Nat.mod_le _ _) ip.isLt
  have same : (ip.setWidth 128).setWidth 32 = ip := by
    rw [BitVec.setWidth_setWidth_of_le ip (show 32 ≤ 128 by decide), BitVec.setWidth_eq]
  rw [decide_eq_true low, same, Bool.true_and]

/-! ### The obligation -/

/-- Settles O22: each row of the ports and their schedulers has the effect named. -/
theorem networkRowsComplete : Obligations.NetworkRowsComplete := by
  unfold Obligations.NetworkRowsComplete
  refine ⟨fun s np lf rf cells there => ?down, fun s np there enabled mode isDown going => ?up, fun s np ip up own => ?arp,
    fun s np ip up other => ?arpOther, fun s np ip up own => ?neighbor, fun s np ip up own => ?echo6, fun s np ip up own => ?echo4,
    fun s np len fcsBad up bad => ?discard, fun s np len up short long => ?noMatch, fun s np up => ⟨?pause, ?overflow⟩,
    fun s np prio q up on => ?pfc, fun s np prio x paused => ?expire, fun s np prio bytes up on none' above => ?xoff,
    fun s np prio bytes up on sent below => ?xon, fun s np prio x sent => ?refresh, fun s np frames k f o c1 up => ?select,
    fun s => ?refill, fun s np l live => ?entry, fun s np a due => ?adopt, fun s np l live => ?cycle, fun s np l live => ?passed⟩
  case down => exact show execNetPortDown np lf rf cells s = _ from onCtl_withCtl (if_pos there)
  case up => exact show execNetPortUp np s = _ from onCtl_withCtl (if_pos (by simp [there, enabled, mode, isDown, going]))
  case arp => exact show execArpRequest np ip s = _ from onCtl_withCtl (Ctl.ownAnswer_own up own)
  case arpOther => exact show execArpRequest np ip s = _ from onCtl_withCtl (Ctl.ownAnswer_other up other)
  case neighbor => exact show execNeighborSolicitation np ip s = _ from onCtl_withCtl (Ctl.ownAnswer_own up own)
  case echo6 => exact show execIcmpEcho np true ip s = _ from onCtl_withCtl (Ctl.ownAnswer_own up own)
  case echo4 =>
    exact show execIcmpEcho np false (ip.setWidth 128) s = _ from onCtl_withCtl (Ctl.ownAnswer_own up ((Ctl.ownIp4_of_echo ..).trans own))
  case discard => exact show execFrameDiscard np len fcsBad s = _ from onCtl_withCtl ((if_neg (by simp [up])).trans (if_pos bad))
  case noMatch =>
    exact show execFrameDiscard np len false s = _ from onCtl_withCtl ((if_neg (by simp [up])).trans (if_neg (by simp; omega)))
  case pause => exact show execPauseFrameReceive np s = _ from onCtl_withCtl (if_pos up)
  case overflow => exact show execReceiveBufferOverflow np s = _ from onCtl_withCtl (if_pos up)
  case pfc =>
    exact show execPfcFrameReceive np [(prio, q)] s = _ from onCtl_withCtl ((if_neg (by simp [up])).trans (if_neg (by simp [on])))
  case expire =>
    refine show execPfcPauseExpire np prio s = _ from onCtl_withCtl ?_
    rw [paused]
  case xoff =>
    refine completes_onCtl (show _ = execPfcXoffSend np prio bytes s from rfl)
      ((if_neg (by simp [up, on])).trans ((if_neg (by simp [none'])).trans (if_pos above))) ?_
    exact ⟨State.withCtl_c s _, State.withCtl_keeps s _⟩
  case xon =>
    refine completes_onCtl (show _ = execPfcXoffSend np prio bytes s from rfl)
      ((if_neg (by simp [up, on])).trans ((if_pos sent).trans (if_pos below))) ?_
    exact ⟨State.withCtl_c s _, State.withCtl_keeps s _⟩
  case refresh =>
    refine completes_onCtl (show _ = execPfcXoffRefresh np prio s from rfl) ?_ ⟨State.withCtl_c s _, State.withCtl_keeps s _⟩
    rw [sent]
  case select =>
    intro picked
    refine show execEgressFrameSelect np frames s = _ from onCtl_withCtl ((if_neg (by simp [up])).trans ?_)
    dsimp only
    rw [picked]
  case refill =>
    refine completes_onCtl (show _ = execShaperRefill s from rfl) rfl ?_
    intro c1
    rw [State.withCtl_c]
    exact ⟨rfl, rfl, rfl, State.withCtl_keeps s _⟩
  case entry =>
    intro t inside
    refine show execGateEntryAdvance np s = _ from onAll_withCtl ?_
    rw [live]
    exact if_pos inside
  case adopt =>
    refine show execPourListAdopt np s = _ from onAll_withBoth ?_
    rw [due]
  case cycle =>
    intro t start next
    refine show execGateEntryAdvance np s = _ from onAll_withBoth ?_
    rw [live]
    exact (if_neg (not_not_intro start)).trans (if_pos next)
  case passed =>
    intro t start fired
    refine show execGateEntryAdvance np s = _ from onAll_withCtl ?_
    rw [live]
    exact (if_neg (not_not_intro start)).trans (if_neg fired)

end Sys2Proof.Machine
end

section

/-!
The transports (12_network_ports.md, R304 to R308): connections, their frames, retries and congestion.
-/

namespace Sys2Proof.Machine
set_option Elab.async false

/-! ### Connections -/

theorem Ctl.connOpen_taken {c : Ctl} {np k : Nat} (tcp : Bool) (mac vlan mtu r2t : Nat) (refuse : Output) (up : c.netUp np = true)
    (free : (c.frameIn np none 0).newConn = some k) : c.connOpen tcp np mac vlan mtu r2t refuse =
      ((((c.frameIn np none 0).setConn k ((c.frameIn np none 0).connFresh tcp np mac vlan mtu r2t)).emit (.connAccept k)).tev
        .net 9 np none none 1) := by
  refine (if_neg (by simp [up])).trans ?_
  dsimp only
  rw [free]

theorem Ctl.connOpen_refused {c : Ctl} {np : Nat} (tcp : Bool) (mac vlan mtu r2t : Nat) (refuse : Output) (up : c.netUp np = true)
    (full : (c.frameIn np none 0).newConn = none) : c.connOpen tcp np mac vlan mtu r2t refuse = (c.frameIn np none 0).emit refuse := by
  refine (if_neg (by simp [up])).trans ?_
  dsimp only
  rw [full]

/-- A frame of a RoCEv2 connection, on its own port, does what such a frame does. -/
theorem Ctl.onRoce_own {c : Ctl} {np k : Nat} {x : Conn} {f : Conn → Ctl → Ctl} (mac vlan : Nat) (up : c.netUp np = true)
    (known : c.conn? k = some x) (roce : x.tcp = false) (port : x.port = np) :
    c.onRoce np k mac vlan f = f (x.from_ mac vlan) (c.connFrame k (x.from_ mac vlan) 0) := by
  refine (if_neg (by simp [up])).trans ?_
  rw [known]
  exact if_neg (by simp [roce, port])

/-- Nothing came within the gap before `now`. -/
theorem not_early_of_gap {β : Type} {last : Option Nat} {now gap : Nat} (apart : ∀ y, last = some y → y + gap ≤ now) (a b : β) :
    (if (match (generalizing := false) last with | some t => decide (now < t + gap) | none => false) = true then a else b) = b := by
  cases last with
  | none => rfl
  | some t => exact if_neg (by simpa using apart t rfl)

theorem Ctl.netUp_of_own {c : Ctl} {np : Nat} {x : Conn} (up : c.netUp np = true) (roce : x.tcp = false) (port : x.port = np) :
    ¬ (x.tcp = true ∨ x.port ≠ np ∨ (!c.netUp np) = true) := by
  simp [up, roce, port]

/-! ### The obligation -/

/-- Settles O23: each row of the transports has the effect named. -/
theorem transportRowsComplete : Obligations.TransportRowsComplete := by
  unfold Obligations.TransportRowsComplete
  refine ⟨fun s np mac vlan offer r2t k up free => ⟨?connect, ?syn⟩, fun s np mac vlan offer r2t up full => ⟨?reject, ?reset⟩,
    fun s conn x known roce => ?disconnect, fun s np conn mac vlan x up known roce port => ?send,
    fun s np conn mac vlan data x up known roce port => ?read, fun s np conn mac vlan bytes x up known roce port => ?ack,
    fun s np conn mac vlan push x up known roce port => ?sequence, fun s np conn mac vlan push x f up known roce port found => ?access,
    fun s conn x known roce => ⟨fun left => ?resend, fun spent => ?lost⟩, fun s conn x known tcp => ⟨fun left => ?rto, fun spent => ?rtoLost⟩,
    fun s np conn mac vlan acked data x up known tcp port => ?segment, fun s np conn mac vlan x up known roce port => ?marked,
    fun s np conn mac vlan x up known roce port => ?notice, fun s conn x known roce => ?rise⟩
  case connect => exact show execRoceConnectRequest np mac vlan offer s = _ from onCtl_withCtl (Ctl.connOpen_taken _ _ _ _ _ _ up free)
  case syn => exact show execTcpSyn np mac vlan r2t s = _ from onCtl_withCtl (Ctl.connOpen_taken _ _ _ _ _ _ up free)
  case reject => exact show execRoceConnectRequest np mac vlan offer s = _ from onCtl_withCtl (Ctl.connOpen_refused _ _ _ _ _ _ up full)
  case reset => exact show execTcpSyn np mac vlan r2t s = _ from onCtl_withCtl (Ctl.connOpen_refused _ _ _ _ _ _ up full)
  case disconnect =>
    refine show execCmDisconnectRequest conn s = _ from onCtl_withCtl ?_
    rw [known]
    exact if_neg (by simp [roce])
  case send => exact show execRoceSendReceive np conn mac vlan s = _ from onCtl_withCtl (Ctl.onRoce_own mac vlan up known roce port)
  case read =>
    refine show execRoceReadResponse np conn mac vlan data s = _ from onAll_withBoth ?_
    dsimp only
    rw [Ctl.onRoce_own mac vlan up known roce port, known]
    exact if_neg (Ctl.netUp_of_own up roce port)
  case ack => exact show execRoceAckReceive np conn mac vlan bytes s = _ from onCtl_withCtl (Ctl.onRoce_own mac vlan up known roce port)
  case sequence =>
    intro y c0 left
    exact show execRoceNakReceive np conn mac vlan false push s = _ from
      onCtl_withCtl ((Ctl.onRoce_own mac vlan up known roce port).trans (if_pos left))
  case access =>
    refine show execRoceNakReceive np conn mac vlan true push s = _ from onCtl_withCtl ((Ctl.onRoce_own mac vlan up known roce port).trans ?_)
    rw [if_neg (by simp)]
    rw [show (x.from_ mac vlan).xfers = x.xfers from rfl, found]
    rfl
  case resend =>
    refine show execRoceAckTimeout conn s = _ from onCtl_withCtl ?_
    rw [known]
    exact (if_neg (by simp [roce])).trans (if_pos left)
  case lost =>
    refine show execRoceAckTimeout conn s = _ from onCtl_withCtl ?_
    rw [known]
    exact (if_neg (by simp [roce])).trans (if_neg (Nat.not_lt.mpr spent))
  case rto =>
    refine show execTcpRtoExpire conn s = _ from onCtl_withCtl ?_
    rw [known]
    exact (if_neg (by simp [tcp])).trans ((if_pos left).trans (if_pos (by omega)))
  case rtoLost =>
    refine show execTcpRtoExpire conn s = _ from onCtl_withCtl ?_
    rw [known]
    exact (if_neg (by simp [tcp])).trans (if_neg (Nat.not_lt.mpr spent))
  case segment =>
    refine show execTcpSegmentReceive np conn mac vlan acked data false false s = _ from onAll_withBoth ((if_neg (by simp [up])).trans ?_)
    rw [known]
    exact if_neg (by simp [tcp, port])
  case marked =>
    intro z c0 apart
    refine show execCeMarkedReceive np conn mac vlan s = _ from onCtl_withCtl ((Ctl.onRoce_own mac vlan up known roce port).trans ?_)
    exact not_early_of_gap apart _ _
  case notice =>
    intro z c0 c1 apart
    refine show execCnpReceive np conn mac vlan s = _ from onCtl_withCtl ((Ctl.onRoce_own mac vlan up known roce port).trans ?_)
    exact not_early_of_gap apart _ _
  case rise =>
    refine completes_onCtl (show _ = execRateIncreaseTimer conn s from rfl) ?_ ⟨State.withCtl_c s _, State.withCtl_keeps s _⟩
    rw [known]
    exact if_neg (by simp [roce])

end Sys2Proof.Machine
end

section

/-!
The peer link (13_pairing_and_failover.md, R323 to R333): what a heartbeat leaves of the mode it carries.
-/

namespace Sys2Proof.Machine
set_option Elab.async false

/-! ### A heartbeat between two devices without the lease -/

/-- A device in STANDBY with its peer link up. -/
def heardState : State := { State.reset with c := (Ctl.reset.set F.GLB_MODE_STAT_mode Mode.standby.code).setFlag F.PEER_STAT_link_up true }

/-- A heartbeat of a peer in the mode of code 8. -/
def hbOfMode8 : HbMsg :=
  { num := 1, mode := 8, lease := false, epoch := 0, head := 0, applied := 0, echo := 0, endorse := false, commit := [], bays := [],
    members := [], synced := false }

theorem heardState_hears : heardState.c.peerHears = true ∧ heardState.c.lease = false := by decide

/-- The field of the peer's mode has four bits, and keeps code 8 as it is. -/
theorem peerMode_of_hbOfMode8 :
    (match execPeerHeartbeat hbOfMode8 heardState with | .next t => t.c.get F.PEER_STAT_peer_mode | _ => 0) = 8 := by
  decide

/-! ### The obligation -/

/-- Refutes O24: the mode a heartbeat carries is kept in a field of four bits, where the statement cuts it to three. -/
theorem not_pairLinkRowsComplete : ¬ Obligations.PairLinkRowsComplete := by
  unfold Obligations.PairLinkRowsComplete
  rintro ⟨-, -, -, -, -, -, -, -, heartbeat, -⟩
  obtain ⟨hears, free⟩ := heardState_hears
  obtain ⟨t, runs, -, -, -, -, -, mode, -⟩ := heartbeat heardState hbOfMode8 hears free rfl
  have kept := peerMode_of_hbOfMode8
  rw [show execPeerHeartbeat hbOfMode8 heardState = .next t from runs] at kept
  exact absurd (kept.symm.trans mode) (by decide)

end Sys2Proof.Machine
end

section

/-!
The witness, the lease, takeover and handover (13_pairing_and_failover.md, R336 to R353).
-/

namespace Sys2Proof.Machine
set_option Elab.async false

/-! ### Replies of the witness -/

/-- A reply that matches a request does what such a reply does. -/
theorem witReply_answers {s : State} {req : Nat} {r : WitReq} {c1 : Ctl} {f : WitReq → Mem → Ctl → Mem × Ctl} {d : Mem × Ctl}
    (answers : WitAnswers s.c req r c1) (effect : f r s.mem c1 = d) : witReply req true f s = .next (s.withBoth d) := by
  obtain ⟨awake, found, rfl⟩ := answers
  refine onAll_withBoth ((if_neg (by simp [awake])).trans ((if_neg (by simp)).trans ?_))
  change (match s.c.witHeard.pair.reqs.find? (fun x => x.num == req && decide (s.c.witHeard.dt ≤ x.sent + 5000000)) with
    | none => (s.mem, s.c.witHeard.bump (F.PEER_CNT_count 7) 1)
    | some x => f x s.mem _) = d
  rw [found]
  exact effect

/-- A reply that matches a request, where it leaves the memories. -/
theorem witReply_answersCtl {s : State} {req : Nat} {r : WitReq} {c1 d : Ctl} {f : WitReq → Mem → Ctl → Mem × Ctl}
    (answers : WitAnswers s.c req r c1) (effect : f r s.mem c1 = (s.mem, d)) : witReply req true f s = .next (s.withCtl d) :=
  witReply_answers answers effect

theorem grantTake_renewed {epoch : Nat} {vs : List BaySample} {r : WitReq} {m : Mem} {c : Ctl} (going : c.power.stop = none)
    (renew : r.kind = .renew) (holds : c.lease = true) :
    grantTake epoch vs r m c = (m, { c with pair := { c.pair with witEnd := some (r.sent + 40000000) } }) := by
  refine (if_neg (by simp [going, renew])).trans ((if_pos holds).trans ?_)
  simp [renew]

theorem grantTake_acquired {epoch : Nat} {vs : List BaySample} {r : WitReq} {m : Mem} {c : Ctl} (going : c.power.stop = none)
    (acquire : r.kind = .acquire) (free : c.lease = false) (may : c.mayAcquire = true) :
    grantTake epoch vs r m c = driveIfMay (takeLease m c epoch 1 (some (r.sent + 40000000)) 0x80).1
      (takeLease m c epoch 1 (some (r.sent + 40000000)) 0x80).2 vs := by
  unfold grantTake
  generalize takeLease = lease
  exact (if_neg (by simp [going, acquire])).trans ((if_neg (by simp [free])).trans ((if_neg (by simp [acquire])).trans (if_pos may)))

/-! ### The obligation -/

/-- Settles O25: each row of the witness, the lease, takeover and handover has the effect named. -/
theorem witnessAndLeaseRowsComplete : Obligations.WitnessAndLeaseRowsComplete := by
  unfold Obligations.WitnessAndLeaseRowsComplete
  refine ⟨fun s awake => ⟨fun holds _ plain => ?renew, fun holds _ forced => ?force, fun free => ?status⟩,
    fun s num r awake found renew => ?timeout, fun s awake known => ?lost, fun s req epoch vs r c1 answers going renew holds => ?extended,
    fun s req epoch vs r c1 answers going acquire free may => ?granted,
    fun s req value r c1 answers acquire => ⟨?held, ?stale⟩, fun s req r c1 answers may quiet => ?state,
    fun s x due wants => ?retry, fun s x due going => ?expire, fun s vs holds taking => ?drive,
    fun s groups looks bad stored since taking => ?entry, fun s h draining last empty applied going => ?reached,
    fun s x fenced => ?selfReset, fun s vs x due mode free going => ?forced⟩
  case renew =>
    exact show execWitnessTick s = _ from
      onCtl_withCtl ((if_neg (by simp [awake])).trans ((if_neg (by simp [plain])).trans (if_pos holds)))
  case force =>
    exact show execWitnessTick s = _ from onCtl_withCtl ((if_neg (by simp [awake])).trans (if_pos (by simp [holds, forced])))
  case status =>
    exact show execWitnessTick s = _ from
      onCtl_withCtl ((if_neg (by simp [awake])).trans ((if_neg (by simp [free])).trans (if_neg (by simp [free]))))
  case timeout =>
    refine completes_onCtl (show _ = execWitnessRequestTimeout num s from rfl) ?_ ⟨State.withCtl_c s _, State.withCtl_keeps s _⟩
    rw [if_pos awake, found]
    dsimp only
    rw [renew]
  case lost => exact show execWitnessLost s = _ from onCtl_withCtl (if_neg (by simp [awake, known]))
  case extended =>
    exact ⟨_, show execWitnessGrant req epoch true vs s = _ from witReply_answers answers (grantTake_renewed going renew holds),
      State.withBoth_c s _, State.withBoth_mem s _, State.withBoth_pending s _⟩
  case granted =>
    exact ⟨_, show execWitnessGrant req epoch true vs s = _ from witReply_answers answers (grantTake_acquired going acquire free may),
      State.withBoth_mem s _, State.withBoth_c s _, State.withBoth_pending s _⟩
  case held =>
    refine show execWitnessRefuse req 1 value true s = _ from witReply_answersCtl answers ?_
    simp [acquire]
  case stale =>
    refine show execWitnessRefuse req 2 value true s = _ from witReply_answersCtl answers ?_
    simp [acquire]
  case state =>
    refine show execWitnessState req none true s = _ from witReply_answersCtl answers ?_
    simp [may, quiet]
  case retry =>
    refine show execAcquireRetryTimer s = _ from onCtl_withCtl ?_
    rw [due]
    exact if_pos wants
  case expire =>
    refine show execLeaseExpire s = _ from onCtl_withCtl ?_
    rw [due]
    exact if_neg (by simp [going])
  case drive => exact show execDrivePermission vs s = _ from onAll_withBoth (if_pos (by simp [holds, taking]))
  case entry =>
    refine show execTakeoverServiceEntry groups looks bad stored s = _ from onAll_withBoth ?_
    rw [taking]
    generalize memberMissing = missing
    generalize replayBuild = build
    generalize replayBad = bad'
    generalize replayRedo = redo
    rfl
  case reached =>
    refine show execHandoverSyncReached s = _ from onCtl_withCtl ?_
    rw [draining, last]
    exact if_pos (by simp [empty, applied, going])
  case selfReset =>
    refine show execHandoverSelfReset s = _ from onAll_withBoth ?_
    rw [fenced]
  case forced =>
    refine completes_onAll (show _ = execForcedTakeoverWaitEnd vs s from rfl) ?_
      ⟨State.withBoth_mem s _, State.withBoth_c s _, State.withBoth_pending s _⟩
    rw [due]
    exact if_neg (by simp [mode, free, going])

end Sys2Proof.Machine
end

section

/-!
The faults that end a device's service (13_pairing_and_failover.md, R342, R355).
-/

namespace Sys2Proof.Machine
set_option Elab.async false

/-! ### What a fault that releases does -/

/-- A row whose effect is a fault that releases the service. -/
def ReleaseRow (i : Instr) (code detail : Nat) : Prop := ∀ s : State, exec i s = onAll (fun m c => releaseFault m c code detail) s

theorem releaseRow_of_listed {i : Instr} {code detail : Nat}
    (listed : ([(.lockstepMismatch 0, 0x02, 0), (.lockstepMismatch 1, 0x02, 1), (.watchdogExpire, 0x03, 0), (.hbmStackFailure false, 0x06, 6),
      (.hbmStackFailure true, 0x06, 7), (.clockLoss, 0x0D, 0)] : List (Instr × Nat × Nat)).contains (i, code, detail) = true) :
    ReleaseRow i code detail := by
  have cases := List.contains_iff_mem.mp listed
  simp only [List.mem_cons, Prod.mk.injEq, List.not_mem_nil, or_false] at cases
  rcases cases with ⟨rfl, rfl, rfl⟩ | ⟨rfl, rfl, rfl⟩ | ⟨rfl, rfl, rfl⟩ | ⟨rfl, rfl, rfl⟩ | ⟨rfl, rfl, rfl⟩ | ⟨rfl, rfl, rfl⟩
  · exact fun s => rfl
  · exact fun s => rfl
  · exact fun s => rfl
  · exact fun s => rfl
  · exact fun s => rfl
  · exact fun s => rfl

theorem releaseFault_holder {m : Mem} {c : Ctl} {code detail : Nat} (going : c.halted = false) (holds : c.lease = true) :
    releaseFault m c code detail = (m, ((c.faultRecord code 2 detail).fence).witSend .release false) :=
  (if_neg (by simp [going])).trans (if_pos holds)

theorem releaseFault_standby {m : Mem} {c : Ctl} {code detail : Nat} (going : c.halted = false) (free : c.lease = false)
    (standby : c.mode = .standby) (paired : c.flag F.PEER_CFG_en = true) :
    releaseFault m c code detail = toReset m ((c.faultRecord code 1 detail).peerSend .leave) 7 :=
  (if_neg (by simp [going])).trans ((if_neg (by simp [free])).trans (if_pos ⟨standby, paired⟩))

theorem releaseFault_other {m : Mem} {c : Ctl} {code detail : Nat} (going : c.halted = false) (free : c.lease = false)
    (other : c.mode ≠ .standby) : releaseFault m c code detail = (m, c.faultRecord code 1 detail) :=
  (if_neg (by simp [going])).trans ((if_neg (by simp [free])).trans (if_neg (by simp [other])))

/-! ### The obligation -/

/-- Settles O26: a lease holder fences itself and releases, a standby leaves and resets, another device records. -/
theorem releaseFaultRowsComplete : Obligations.ReleaseFaultRowsComplete := by
  unfold Obligations.ReleaseFaultRowsComplete
  refine ⟨fun s i code detail going listed => ?fault, fun s rail _ _ => show execRailOutOfTolerance rail s = _ from onAll_withBoth rfl⟩
  have row := releaseRow_of_listed listed s
  refine ⟨fun holds => ?holder, fun free standby paired => ?standby, fun free other => ?other⟩
  case holder => exact row.trans (onAll_withCtl (releaseFault_holder going holds))
  case standby => exact row.trans (onAll_withBoth (releaseFault_standby going free standby paired))
  case other => exact row.trans (onAll_withCtl (releaseFault_other going free other))

end Sys2Proof.Machine
end

section

/-!
The bay channels (14_bay_power.md, R361 to R368, R374).
-/

namespace Sys2Proof.Machine
set_option Elab.async false

/-! ### Rows of a channel -/

theorem bayRow_withBoth {s : State} {b : Fin 24} {f : Mem → Ctl → Mem × Ctl} {r : Mem × Ctl} (runs : s.c.bayDie = true)
    (effect : f s.mem s.c = r) : bayRow b f s = .next (s.withBoth r) :=
  onAll_withBoth ((if_pos (by simp [runs])).trans effect)

theorem bayRow_withCtl {s : State} {b : Fin 24} {f : Mem → Ctl → Mem × Ctl} {c : Ctl} (runs : s.c.bayDie = true)
    (effect : f s.mem s.c = (s.mem, c)) : bayRow b f s = .next (s.withCtl c) :=
  onAll_withCtl ((if_pos (by simp [runs])).trans effect)

/-- A row of a channel that leaves the memories completes. -/
theorem bayRow_completes {i : Instr} {s : State} {b : Fin 24} {f : Mem → Ctl → Mem × Ctl} {c : Ctl} {P : State → Prop}
    (row : exec i s = bayRow b f s) (runs : s.c.bayDie = true) (effect : f s.mem s.c = (s.mem, c)) (holds : P (s.withCtl c)) :
    Completes i s P :=
  ⟨_, row.trans (bayRow_withCtl runs effect), holds⟩

/-- A row of a channel that turns it off completes with the channel latched. -/
theorem bayRow_latches {i : Instr} {s : State} {b : Fin 24} {b' cause : Nat} {c : Ctl} {v : BaySample} {f : Mem → Ctl → Mem × Ctl}
    (row : exec i s = bayRow b f s) (runs : s.c.bayDie = true)
    (effect : f s.mem s.c = ((bayLatch s.mem c b' cause v).1, (bayLatch s.mem c b' cause v).2.baysUpNote)) :
    Completes i s (fun t =>
      let r := bayLatch s.mem c b' cause v
      t.mem = r.1 ∧ t.c = r.2.baysUpNote ∧ t.pending = s.pending) :=
  ⟨_, row.trans (bayRow_withBoth runs effect), State.withBoth_mem s _, State.withBoth_c s _, State.withBoth_pending s _⟩

/-! ### The check of a second -/

/-- The check of a second of `sec` ns (R374), whose average counts as too much above `most`. -/
def secondCheck (sec most bay avg : Nat) (v : BaySample) (m : Mem) (c : Ctl) : Mem × Ctl :=
  let x := c.ch bay
  let now := c.dt / sec * sec
  let at_ := if x.ps2At < now then now else now + sec
  let c1 := c.reach at_
  let n := if c1.gateDriven bay ∧ !c1.ps2Over bay ∧ most < avg then (if at_ = x.ps2At + sec then x.ps2 else 0) + 1 else 0
  let c2 := c1.onCh bay (fun y => { y with ps2 := if 3 ≤ n then 0 else n, ps2At := at_ })
  if 3 ≤ n then
    match bayLatch m c2 bay 6 v with
    | (m1, c3) => (m1, c3.baysUpNote)
  else (m, (c2.pgCheck bay v).baysUpNote)

/-- What the check of a second leaves: the channel latched at the third that is too much. -/
def SecondChecked (sec most bay avg : Nat) (v : BaySample) (s t : State) : Prop :=
  let x := s.c.ch bay
  let now := s.c.dt / sec * sec
  let at_ := if x.ps2At < now then now else now + sec
  let c1 := s.c.reach at_
  let n := if c1.gateDriven bay ∧ !c1.ps2Over bay ∧ most < avg then (if at_ = x.ps2At + sec then x.ps2 else 0) + 1 else 0
  let c2 := c1.onCh bay (fun y => { y with ps2 := if 3 ≤ n then 0 else n, ps2At := at_ })
  (n < 3 → t.mem = s.mem ∧ t.c = (c2.pgCheck bay v).baysUpNote) ∧
  (3 ≤ n → t.mem = (bayLatch s.mem c2 bay 6 v).1 ∧ t.c = (bayLatch s.mem c2 bay 6 v).2.baysUpNote) ∧ t.pending = s.pending

theorem execPs2SecondCheck_eq (bay : Fin 24) (avg : Nat) (v : BaySample) (s : State) :
    execPs2SecondCheck bay avg v s = bayRow bay (secondCheck 1000000000 100000 bay avg v) s := rfl

theorem secondCheck_checked (sec most : Nat) (bay avg : Nat) (v : BaySample) (s : State) :
    SecondChecked sec most bay avg v s (s.withBoth (secondCheck sec most bay avg v s.mem s.c)) := by
  unfold SecondChecked secondCheck
  dsimp only
  rw [State.withBoth_c, State.withBoth_mem]
  refine ⟨fun few => ?_, fun many => ?_, State.withBoth_pending s _⟩
  · rw [if_neg (α := Mem × Ctl) (Nat.not_le.mpr few)]
    exact ⟨rfl, rfl⟩
  · rw [if_pos (α := Mem × Ctl) many]
    generalize bayLatch = latch
    exact ⟨rfl, rfl⟩

/-! ### The obligation -/

/-- Settles O27: each row of the bay channels has the effect named. -/
theorem bayChannelRowsComplete : Obligations.BayChannelRowsComplete := by
  unfold Obligations.BayChannelRowsComplete
  refine ⟨fun s bay runs empty => ?seat, fun s bay v x runs due => ?debounced,
    fun s bay v runs seated => ⟨fun powered => ?pulled, fun keeper => ?keeper, fun latched => ?unlatched, fun unpowered => ?empty⟩,
    fun s b holds going room next => ?grant,
    fun s bay first last runs pre clear => ⟨fun high high' => ?high, fun drop low => ?low, fun drop vin => ?ramp⟩,
    fun s bay v runs ramp high held => ?ramped, fun s bay v runs st => ?failed, fun s bay v runs driven above => ?limit,
    fun s bay v runs limited held below => ?release, fun s bay v x runs due => ?timer,
    fun s bay v runs above driven => ⟨fun again => ?again, fun once => ?once⟩, fun s bay x runs held => ?held,
    fun s bay v runs hot driven => ?hot, fun s bay avg v runs => ?power⟩
  case seat =>
    exact bayRow_completes (show _ = execSeatAssert bay s from rfl) runs (if_neg (by simp [empty]))
      ⟨State.withCtl_c s _, State.withCtl_keeps s _⟩
  case debounced =>
    refine bayRow_completes (show _ = execSeatDebounceDone bay v s from rfl) runs ?_ ⟨State.withCtl_c s _, State.withCtl_keeps s _⟩
    rw [due]
  case pulled =>
    exact show execSeatDeassert bay v s = _ from bayRow_withBoth runs ((if_neg (by simp [seated])).trans (if_pos powered))
  case keeper =>
    refine show execSeatDeassert bay v s = _ from bayRow_withCtl runs ((if_neg (by simp [seated])).trans ?_)
    dsimp only
    rw [keeper]
    rfl
  case unlatched =>
    refine show execSeatDeassert bay v s = _ from bayRow_withCtl runs ((if_neg (by simp [seated])).trans ?_)
    dsimp only
    rw [latched]
    rfl
  case empty =>
    refine show execSeatDeassert bay v s = _ from bayRow_withCtl runs ((if_neg (by simp [seated])).trans ?_)
    dsimp only
    rcases unpowered with seating | idle
    · rw [seating]
      rfl
    · rw [idle]
      rfl
  case grant =>
    refine show execRampSlotGrant s = _ from onCtl_withCtl ((if_pos (by simp [holds, going, room])).trans ?_)
    rw [next]
  case high =>
    refine bayRow_latches (show _ = execPrecheckEnd bay first last s from rfl) runs ((if_neg (by simp [pre, clear])).trans ?_)
    refine Eq.trans (if_pos (by simp [high, high'])) ?_
    rcases bayLatch s.mem _ _ _ _ with ⟨m1, c2⟩
    rfl
  case low =>
    refine show execPrecheckEnd bay first last s = _ from bayRow_withCtl runs ((if_neg (by simp [pre, clear])).trans ?_)
    exact (if_neg (by simp [drop])).trans (if_pos low)
  case ramp =>
    refine show execPrecheckEnd bay first last s = _ from bayRow_withCtl runs ((if_neg (by simp [pre, clear])).trans ?_)
    exact (if_neg (by simp [drop])).trans (if_neg (Nat.not_lt.mpr vin))
  case ramped => exact show execRampComplete bay v s = _ from bayRow_withCtl runs (if_pos ⟨ramp, high, by simp [held]⟩)
  case failed =>
    refine bayRow_latches (show _ = execGateFailTimeout bay v s from rfl) runs ?_
    refine Eq.trans (if_pos (by simpa using st)) ?_
    rcases bayLatch s.mem _ _ _ _ with ⟨m1, c2⟩
    rfl
  case limit => exact show execCurrentLimitEnter bay v s = _ from bayRow_withCtl runs (if_pos (by simp [driven, above]))
  case release => exact show execCurrentLimitRelease bay v s = _ from bayRow_withCtl runs (if_pos (by simp [limited, held, below]))
  case timer =>
    refine bayRow_latches (show _ = execBayFaultTimerExpire bay v s from rfl) runs ?_
    simp only [due]
  case again =>
    refine bayRow_latches (show _ = execFastTrip bay v s from rfl) runs ((if_neg (Nat.not_lt.mpr above)).trans ((if_pos driven).trans ?_))
    refine Eq.trans (if_pos again) ?_
    rcases bayLatch s.mem _ _ _ _ with ⟨m1, c2⟩
    rfl
  case once =>
    refine bayRow_completes (show _ = execFastTrip bay v s from rfl) runs ?_ ⟨State.withCtl_c s _, State.withCtl_keeps s _⟩
    exact (if_neg (Nat.not_lt.mpr above)).trans ((if_pos driven).trans (if_neg (by simp [once])))
  case held =>
    refine show execFastTripHoldEnd bay s = _ from bayRow_withCtl runs ?_
    rw [held]
  case hot =>
    refine bayRow_latches (show _ = execFetTempLimit bay v s from rfl) runs ?_
    refine Eq.trans (if_pos ⟨hot, driven⟩) ?_
    rcases bayLatch s.mem _ _ _ _ with ⟨m1, c2⟩
    rfl
  case power =>
    exact ⟨_, (show _ = execPs2SecondCheck bay avg v s from rfl).trans ((execPs2SecondCheck_eq ..).trans (bayRow_withBoth runs rfl)),
      secondCheck_checked 1000000000 100000 bay avg v s⟩

end Sys2Proof.Machine
end

section

/-!
Bay power commands, PERST#, the off sequence and the bay die (14_bay_power.md, R371 to R380).
-/

namespace Sys2Proof.Machine
set_option Elab.async false

/-! ### The commands of a channel -/

/-- A command that the channel does not refuse has its effect through the register too. -/
theorem Ctl.bayCmdReg_taken {c d : Ctl} {b op : Nat} (effect : c.bayCmd b op = (0, d)) : c.bayCmdReg b op = d := by
  unfold Ctl.bayCmdReg
  rw [effect]
  rfl

theorem Ctl.bayCmdReg_refused {c : Ctl} {b op : Nat} (refused : c.bayRefusal b op ≠ 0) :
    c.bayCmdReg b op = c.setFlag (F.BAY_CH_STAT_cmd_err b) true := by
  unfold Ctl.bayCmdReg
  rw [show c.bayCmd b op = (c.bayRefusal b op, c) from if_pos refused]
  cases answer : c.bayRefusal b op with
  | zero => exact absurd answer refused
  | succ n => rfl

theorem Ctl.bayCmd_on {c : Ctl} {b : Nat} (accepted : c.bayRefusal b 1 = 0) :
    c.bayCmd b 1 = (0, c.onCh b (fun x => { x with want := true })) := if_neg (by simp [accepted])

theorem Ctl.bayCmd_off {c : Ctl} {b : Nat} (accepted : c.bayRefusal b 2 = 0) : c.bayCmd b 2 = (0, c.offStart b) :=
  if_neg (by simp [accepted])

theorem Ctl.bayCmd_clear {c : Ctl} {b : Nat} (accepted : c.bayRefusal b 3 = 0) :
    c.bayCmd b 3 = (0, ((((c.setBitOf F.BAY_STAT_latched b false).set (F.BAY_CH_STAT_cause b) 0).chIdle b).usableNote b).bayEvent b 9 0
      Ch.latched (c.bayNow b)) := if_neg (by simp [accepted])

theorem Ctl.bayCmd_cycle {c : Ctl} {b : Nat} (accepted : c.bayRefusal b 4 = 0) :
    c.bayCmd b 4 = (0, (c.onCh b (fun x => { x with cycle := true })).offStart b) := if_neg (by simp [accepted])

/-- A row of BAR0 with the window open. -/
theorem bar0Row_runs {s : State} {c : Ctl} {f : Ctl → Ctl} (opened : s.c.bar0Open = true) (effect : f s.c = c) :
    onCtl (fun _ c => if c.bar0Open then f c else c) s = .next (s.withCtl c) :=
  onCtl_withCtl ((if_pos opened).trans effect)

/-! ### Calibration -/

/-- The ramp of a channel that is calibrated waits from now on; the tests stay as they were. -/
theorem Ctl.calWaits_mgt (c : Ctl) (b : Nat) :
    (if c.chSt b = Ch.precheck then c.onCh b (fun y => { y with since := c.dt }) else c).mgt = c.mgt := by
  split
  · rfl
  · rfl

/-! ### The obligation -/

/-- Settles O28: each row of the commands, PERST#, the off sequence and the die has the effect named. -/
theorem bayControlRowsComplete : Obligations.BayControlRowsComplete := by
  unfold Obligations.BayControlRowsComplete
  refine ⟨fun s bay x runs good => ?perst, fun s bay x runs stopping => ⟨?shutdown, ?timeout⟩, fun s bay v x runs stopping => ?gate,
    fun s bay v x runs due => ⟨fun idle high => ?short, fun drop => ?sound⟩, fun s bay x runs due => ?again,
    fun s bay bar0 => ⟨fun ok => ?on, fun ok => ?off, fun ok => ?clear, fun ok => ?cycle⟩,
    fun s bay bar0 => ⟨fun no => ?onErr, fun no => ?offErr, fun no => ?clearErr, fun no => ?cycleErr⟩,
    fun s bays c1 bar0 keeps asked => ?override, fun s bay ofs x c3 going due written => ?calibrated,
    fun s parts v12 runs => ⟨fun sound => ?sane, fun bad => ?fault⟩, fun s bay gateHigh pgHigh runs => ?sample⟩
  case perst =>
    refine bayRow_completes (show _ = execPerstReleaseTimer bay s from rfl) runs ?_ ⟨State.withCtl_c s _, State.withCtl_keeps s _⟩
    rw [good]
  case shutdown =>
    refine show execBayShutdownDone bay false s = _ from bayRow_withCtl runs ?_
    rw [stopping]
    rfl
  case timeout =>
    refine show execBayShutdownDone bay true s = _ from bayRow_withCtl runs ?_
    rw [stopping]
    rfl
  case gate =>
    refine bayRow_completes (show _ = execBayGateOffDelay bay v s from rfl) runs ?_ ⟨State.withCtl_c s _, State.withCtl_keeps s _⟩
    rw [stopping]
  case short =>
    refine show execBayOffShortCheck bay v s = _ from bayRow_withBoth runs ?_
    rw [due]
    exact if_pos ⟨idle, high⟩
  case sound =>
    refine show execBayOffShortCheck bay v s = _ from bayRow_withCtl runs ?_
    rw [due]
    exact if_neg (by simp [drop])
  case again =>
    refine bayRow_completes (show _ = execBayCycleRestart bay s from rfl) runs ?_ ⟨State.withCtl_c s _, State.withCtl_keeps s _⟩
    rw [due]
  case on => exact show execBayCmdOn bay s = _ from bar0Row_runs bar0 (Ctl.bayCmdReg_taken (Ctl.bayCmd_on ok))
  case off => exact show execBayCmdOff bay s = _ from bar0Row_runs bar0 (Ctl.bayCmdReg_taken (Ctl.bayCmd_off ok))
  case clear => exact show execBayCmdClear bay s = _ from bar0Row_runs bar0 (Ctl.bayCmdReg_taken (Ctl.bayCmd_clear ok))
  case cycle => exact show execBayCmdCycle bay s = _ from bar0Row_runs bar0 (Ctl.bayCmdReg_taken (Ctl.bayCmd_cycle ok))
  case onErr => exact show execBayCmdOn bay s = _ from bar0Row_runs bar0 (Ctl.bayCmdReg_refused no)
  case offErr => exact show execBayCmdOff bay s = _ from bar0Row_runs bar0 (Ctl.bayCmdReg_refused no)
  case clearErr => exact show execBayCmdClear bay s = _ from bar0Row_runs bar0 (Ctl.bayCmdReg_refused no)
  case cycleErr => exact show execBayCmdCycle bay s = _ from bar0Row_runs bar0 (Ctl.bayCmdReg_refused no)
  case override =>
    refine show execBayPs2OvrWrite 0xB7 bays s = _ from onCtl_withCtl ((if_pos ⟨bar0, rfl⟩).trans ?_)
    rw [show s.c.ps2Write bays.toNat true = (0, c1) from (if_neg (by simp [keeps])).trans asked]
  case calibrated =>
    refine completes_onCtl (show _ = execBayCalDone bay ofs s from rfl) ?_ ⟨State.withCtl_c s _, State.withCtl_keeps s _⟩
    rw [if_pos going, due]
    dsimp only at written ⊢
    rw [Ctl.calWaits_mgt] at written
    rw [written]
    rfl
  case sane => exact show execBayDieSelfCheck parts v12 s = _ from onAll_withCtl ((if_neg (by simp [runs])).trans (if_pos sound))
  case fault =>
    exact show execBayDieSelfCheck parts v12 s = _ from onAll_withBoth ((if_neg (by simp [runs])).trans (if_neg (ne_true_of_eq_false bad)))
  case sample => exact show execFollowerKeeperSample bay gateHigh pgHigh s = _ from bayRow_withCtl runs rfl

end Sys2Proof.Machine
end

section

/-!
The handles of long opcodes (15_management_and_transactions.md, R388): the instant at which one expires.
-/

namespace Sys2Proof.Machine
set_option Elab.async false

/-! ### A handle whose end lies beyond the last instant of DT -/

theorem Ctl.reach_dt_lt {c : Ctl} (inside : c.time.dt < 2 ^ 64) (t : Nat) : (c.reach t).time.dt < 2 ^ 64 := by
  unfold Ctl.reach
  split
  · rw [Ctl.pass_dt]
    exact Nat.mod_lt _ (by decide)
  · exact inside

/-- An expiry of an ended handle brings DT to its instant. -/
theorem handleExpire_runs {s : State} {handle : Fin 64} {x : Nat} (ended : (Tab.at? s.c.mgt.handles handle).bind (·.ended) = some x) :
    exec (.handleExpire handle) s = .next (s.withCtl { s.c.reach (x + 60000000000) with
      mgt := { s.c.mgt with handles := Tab.del s.c.mgt.handles handle } }) := by
  refine show execHandleExpire handle s = _ from onCtl_withCtl ?_
  rw [ended]

/-- A device at reset, but for a handle that ended at instant 2^64 of DT, whose last instant is 2^64 - 1. -/
def lateHandle : State :=
  { State.reset with c := { Ctl.reset with mgt := { Mgmt.reset with handles := [(0, ⟨0x0602, 0, [], some (2 ^ 64)⟩)] } } }

theorem lateHandle_ended : (Tab.at? lateHandle.c.mgt.handles (0 : Fin 64)).bind (·.ended) = some (2 ^ 64) := rfl

/-! ### The obligation -/

/-- Refutes O29: after the expiry of a handle that ended at 2^64, DT lies below 2^64, where the statement has it at the handle's end. -/
theorem not_chiebRegisterRowsComplete : ¬ Obligations.ChiebRegisterRowsComplete := by
  unfold Obligations.ChiebRegisterRowsComplete
  rintro ⟨-, -, -, expire, -⟩
  obtain ⟨t, runs, -, dt, -⟩ := expire lateHandle 0 (2 ^ 64) lateHandle_ended
  have after := Host.Outcome.next.inj (runs.symm.trans (handleExpire_runs lateHandle_ended))
  have below : t.c.dt < 2 ^ 64 := by
    rw [after, State.withCtl_c]
    exact Ctl.reach_dt_lt (by decide) _
  omega

end Sys2Proof.Machine
end

section

/-!
The Chieb opcodes of groups, namespaces, hosts, time and keys (15_management_and_transactions.md, R388).
-/

namespace Sys2Proof.Machine
set_option Elab.async false

/-! ### Rows of opcodes -/

/-- An opcode's row runs where its parameters are accepted with the reply and the effect named. -/
theorem chiebRuns_of_accepted {row : ChiebSrc → Instr} {op : Nat} {ok : Taken → Ctl → Prop} {ws : Taken → Mem → Ctl → List Word}
    {eff : Taken → Mem → Ctl → Mem × Ctl} {h : Taken → Mem → Ctl → CRes} (row_eq : ∀ src s, exec (row src) s = chiebRow op src h s)
    (runs : ∀ t m c, ok t c → h t m c = .ok (eff t m c).1 (eff t m c).2 (ws t m c)) : ChiebRuns row op ok ws eff :=
  fun s src t m c served accepted => (row_eq src s).trans (chiebRow_reply served (r := eff t m c) (runs t m c accepted))

/-- A long opcode's row starts where its parameters are accepted with the effect named. -/
theorem chiebStarts_of_accepted {row : ChiebSrc → Instr} {op : Nat} {ok : Taken → Ctl → Prop} {eff : Nat → Taken → Mem → Ctl → Mem × Ctl}
    {h : Taken → Mem → Ctl → CRes} (row_eq : ∀ src s, exec (row src) s = chiebRow op src h s)
    (starts : ∀ t m c, ok t c → h t m c = longOp op m c (fun k m c => eff k t m c)) : ChiebStarts row op ok eff := by
  intro s src t m c k served accepted place
  rw [row_eq]
  exact chiebRow_long (f := fun k m c => eff k t m c) served place (starts t m c accepted)

theorem leaseOp_holder {n : Nat} {h : Taken → Mem → Ctl → CRes} {t : Taken} {m : Mem} {c : Ctl} (holds : c.lease = true)
    (long : n ≤ t.pkt.words.length) : leaseOp n h t m c = h t m c :=
  (if_neg (by simp [holds])).trans (if_neg (Nat.not_lt.mpr long))

/-! ### The obligation -/

/-- Settles O30: each of these opcodes runs with the reply and the effect named. -/
theorem chiebObjectRowsComplete : Obligations.ChiebObjectRowsComplete := by
  unfold Obligations.ChiebObjectRowsComplete
  refine ⟨?group, fun s src t m c c0 e served holds long ns size guid unique absent ready place extended => ?create, ?delete, ?move, ?info,
    ?add, ?remove, ?list, ?nqn, ?time, ?status, ?install, ?load, ?zeroise⟩
  case group =>
    exact chiebRuns_of_accepted (fun src s => show _ = execGroupStatus src s from rfl) fun t m c ⟨long, inside⟩ =>
      if_neg (by simp [long, inside])
  case create =>
    refine show execNsCreate src s = _ from chiebRow_reply served ((leaseOp_holder holds long).trans ?_)
    refine (if_neg (by simp [ns, size])).trans ((if_neg (by rw [guid, unique]; decide)).trans ((if_neg (by simp [absent])).trans
      ((if_neg (by simp [ready])).trans ?_)))
    rw [place, extended]
    rfl
  case delete =>
    exact chiebStarts_of_accepted (fun src s => show _ = execNsDelete src s from rfl) fun t m c ⟨holds, long, valid, kept⟩ =>
      (leaseOp_holder holds long).trans ((if_neg (by simp [valid])).trans (if_neg (by simp [kept])))
  case move =>
    exact chiebRuns_of_accepted (fun src s => show _ = execNsMove src s from rfl) fun t m c ⟨holds, long, valid, kept⟩ =>
      (leaseOp_holder holds long).trans ((if_neg (by simp [valid])).trans (if_neg (by simp [kept])))
  case info =>
    exact chiebRuns_of_accepted (fun src s => show _ = execNsInfo src s from rfl) fun t m c ⟨holds, long, valid⟩ =>
      (if_neg (by simp [holds])).trans ((if_neg (by simp [long])).trans (if_neg (by simp [valid])))
  case add =>
    exact chiebRuns_of_accepted (fun src s => show _ = execHostAdd src s from rfl) fun t m c ⟨holds, long, named, psk, room⟩ =>
      (leaseOp_holder holds long).trans ((if_neg (not_or.mpr ⟨by simp [named], psk⟩)).trans (if_neg (by
        rcases room with known | room
        · simp [Option.isSome_iff_ne_none.mp known]
        · omega)))
  case remove =>
    exact chiebRuns_of_accepted (fun src s => show _ = execHostRemove src s from rfl) fun t m c ⟨holds, long, known⟩ =>
      (leaseOp_holder holds long).trans (if_pos known)
  case list =>
    exact chiebRuns_of_accepted (fun src s => show _ = execHostList src s from rfl) fun t m c ⟨holds, long, inside⟩ =>
      (if_neg (by simp [holds])).trans (if_neg (by simp [long, inside]))
  case nqn =>
    exact chiebRuns_of_accepted (fun src s => show _ = execSubsysNqn src s from rfl) fun t m c ⟨holds, long, named⟩ =>
      (leaseOp_holder holds long).trans (if_neg (by simp [named]))
  case time => exact chiebRuns_of_accepted (fun src s => show _ = execTimeStatus src s from rfl) fun t m c _ => rfl
  case status =>
    exact chiebRuns_of_accepted (fun src s => show _ = execKeyStatus src s from rfl) fun t m c ⟨long, inside⟩ =>
      if_neg (by simp [long, inside])
  case install =>
    exact chiebRuns_of_accepted (fun src s => show _ = execSkekInstall src s from rfl) fun t m c ⟨mode, long, named, other, idle⟩ =>
      (if_neg (by rw [mode]; decide)).trans ((if_neg (by
        rintro (short | unnamed | ⟨active, same⟩)
        · exact short long
        · exact named unnamed
        · exact other active same)).trans (if_neg (by simp [idle])))
  case load =>
    exact chiebStarts_of_accepted (fun src s => show _ = execKeyLoad src s from rfl) fun t m c ⟨long, page, slot⟩ =>
      if_neg (by simp [long, page, slot])
  case zeroise =>
    exact chiebStarts_of_accepted (fun src s => show _ = execKeyZeroise src s from rfl) fun t m c ⟨long, page, kind⟩ =>
      if_neg (by omega)

end Sys2Proof.Machine
end

section

/-!
The Chieb opcodes of firmware, telemetry, pairing and bay power (15_management_and_transactions.md, R388).
-/

namespace Sys2Proof.Machine
set_option Elab.async false

/-! ### The SPDM root -/

/-- No word's refusal is found where none refuses. -/
theorem find_refusal_none {c : Ctl} (free : (List.range 8).all (fun w => c.pcrRefusal (67 + w) == 0) = true) :
    ((List.range 8).map (fun w => c.pcrRefusal (67 + w))).find? (fun st => st != 0) = none := by
  rw [List.find?_eq_none]
  intro st listed
  obtain ⟨w, inside, rfl⟩ := List.mem_map.mp listed
  simpa using List.all_eq_true.mp free w inside

/-- The root may be set from where the request comes: by any local channel while it is zero, and else in a secured session. -/
def Taken.setsRoot (t : Taken) (zero : Bool) : Bool :=
  if zero then (match t.src with | .mailbox _ => true | .sideband _ _ => true | _ => t.secured) else t.secured

theorem Taken.setsRoot_of_secured {t : Taken} (secured : t.secured = true) (zero : Bool) : t.setsRoot zero = true := by
  unfold Taken.setsRoot
  rw [secured]
  cases t.src with
  | mailbox k => simp
  | sideband e bs => simp
  | inband k => simp
  | session k => simp

theorem Taken.setsRoot_of_mailbox {t : Taken} {k : Fin 4} (src : t.src = .mailbox k) : t.setsRoot true = true := by
  unfold Taken.setsRoot
  rw [src]
  rfl

theorem spdmRootSet_placed {t : Taken} {m : Mem} {c : Ctl} (long : t.pkt.words.length = 8) (placed : t.setsRoot c.rootZero = true)
    (free : (List.range 8).all (fun w => c.pcrRefusal (67 + w) == 0) = true) :
    spdmRootSet t m c = .ok m ((List.range 8).foldl (fun (c : Ctl) w => c.pcrStart (Reg.FWU_SPDM_ROOT w) (67 + w) (wd (t.w w)) true) c) [] := by
  refine (if_neg (not_not_intro long)).trans ((if_neg (fun refused => ?_)).trans ?_)
  · exact absurd placed (ne_true_of_eq_false ((Bool.not_eq_true' _).mp refused))
  · rw [find_refusal_none free]

/-! ### A rejected trial -/

/-- A rejected trial leaves at once where the rejection is answered. -/
theorem fwReject_leaves {s : State} {src : ChiebSrc} {r : Mem × Ctl} (staying : s.c.trust.leaving = false)
    (row : chiebRow 0x0604 src fwReject s = .next (s.withBoth r)) :
    execFwReject src s = .next (s.withBoth (if r.2.trust.leaving then trialOut r.1 r.2 else r)) := by
  unfold execFwReject
  rw [row]
  exact if_neg (by simp [staying])

/-! ### A forced takeover -/

/-- A forced takeover that no condition refuses waits 42 ms from the peer's last heartbeat. -/
theorem forcedTake_waits {t : Taken} {m : Mem} {c : Ctl} (long : t.pkt.words.length = 1) (flagged : t.w 0 % 2 = 1)
    (mode : c.mode = .standby) (free : c.lease = false) (going : c.halted = false)
    (cut : (c.flag F.PEER_STAT_suspect || !c.flag F.PEER_STAT_link_up) = true)
    (lost : (c.flag F.GLB_MODE_STAT_no_witness || c.flag F.GLB_MODE_STAT_stale_epoch) = true) :
    forcedTake t m c = .ok m { c with pair := { c.pair with
      forceAt := some (match c.pair.hbAt with | some a => a + 42000000 | none => c.dt)
      beganAt := match c.pair.beganAt with | some b => some b | none => some c.dt } } [] := by
  unfold forcedTake
  rw [cut, lost, mode, free, going]
  exact (if_neg (not_not_intro long)).trans ((if_neg (by omega)).trans ((if_neg (by simp)).trans (if_neg (by simp))))

/-! ### The obligation -/

/-- Settles O31: each of these opcodes runs with the reply and the effect named. -/
theorem chiebServiceRowsComplete : Obligations.ChiebServiceRowsComplete := by
  unfold Obligations.ChiebServiceRowsComplete
  refine ⟨?fw, fun s src t m c c1 served off len least most long last mode staged => ?download, fun look => ?commit, ?discard,
    fun s src t m c served long trial staying => ?reject, ?rootSecured, fun k => ?rootMailbox, ?snapshot, ?sweep, ?samples, ?pair, ?handover,
    ?forced, ?bays, fun s src t m c served long op op' holds => ?power, fun s src t m c c1 served long confirmed keeps asked => ?override⟩
  case fw =>
    exact chiebRuns_of_accepted (fun src s => show _ = execFwStatus src s from rfl) fun t m c long => if_neg (not_not_intro long)
  case download =>
    refine show execFwDownload src s = _ from chiebRow_reply served ((if_neg (by omega)).trans ((if_neg mode).trans ?_))
    rw [staged]
    rfl
  case commit =>
    refine chiebStarts_of_accepted (fun src s => show _ = execFwCommit src look s from rfl) fun t m c ⟨long, ok⟩ =>
      (if_neg (not_not_intro long)).trans ?_
    rw [ok]
    rfl
  case discard =>
    exact chiebRuns_of_accepted (fun src s => show _ = execFwDiscard src s from rfl) fun t m c long => if_neg (not_not_intro long)
  case reject =>
    exact show execFwReject src s = _ from fwReject_leaves staying (chiebRow_reply served
      ((if_neg (not_not_intro long)).trans (if_neg (by simp [trial]))))
  case rootSecured =>
    exact chiebRuns_of_accepted (fun src s => show _ = execSpdmRootSet src s from rfl) fun t m c ⟨long, secured, free⟩ =>
      spdmRootSet_placed long (Taken.setsRoot_of_secured secured _) free
  case rootMailbox =>
    exact chiebRuns_of_accepted (fun src s => show _ = execSpdmRootSet src s from rfl) fun t m c ⟨src, long, zero, free⟩ =>
      spdmRootSet_placed long (zero ▸ Taken.setsRoot_of_mailbox src) free
  case snapshot => exact chiebRuns_of_accepted (fun src s => show _ = execTelSnapshot src s from rfl) fun t m c _ => rfl
  case sweep => exact chiebRuns_of_accepted (fun src s => show _ = execTelSweep src s from rfl) fun t m c _ => rfl
  case samples =>
    exact chiebRuns_of_accepted (fun src s => show _ = execTelSamples src s from rfl) fun t m c ⟨long, some', few⟩ =>
      if_neg (by simp [long, some', few])
  case pair =>
    exact chiebRuns_of_accepted (fun src s => show _ = execPairStatus src s from rfl) fun t m c long => if_neg (not_not_intro long)
  case handover =>
    exact chiebStarts_of_accepted (fun src s => show _ = execHandover src s from rfl) fun t m c ⟨long, holds, synced, idle, going⟩ =>
      (if_neg (not_not_intro long)).trans ((if_neg (by simp [holds])).trans ((if_neg (by simp [synced])).trans (if_neg (by simp [idle, going]))))
  case forced =>
    exact chiebRuns_of_accepted (fun src s => show _ = execForcedTakeover src s from rfl)
      fun t m c ⟨long, flagged, mode, free, going, cut, lost⟩ => forcedTake_waits long flagged mode free going cut lost
  case bays => exact chiebRuns_of_accepted (fun src s => show _ = execBayStatus src s from rfl) fun t m c _ => rfl
  case power =>
    intro r done
    exact show execBayPower src s = _ from chiebRow_reply served ((if_neg (by omega)).trans ((if_neg (by simp [holds])).trans (if_pos done)))
  case override =>
    refine show execBayPs2Override src s = _ from chiebRow_reply served ((if_neg (by omega)).trans ((if_neg (by omega)).trans ?_))
    rw [show c.ps2Write (t.w 0) false = (0, c1) from (if_neg (ne_true_of_eq_false keeps)).trans asked]
    rfl

end Sys2Proof.Machine
end

section

/-!
Self-test and calibration (15_management_and_transactions.md, R405 to R407; 14_bay_power.md, R380).
-/

namespace Sys2Proof.Machine
set_option Elab.async false

/-! ### The start of a test -/

/-- What the check of a test's request asks of the request and the state. -/
structure TestMeets (op : Nat) (k : TestClass) (valid : Nat → Bool) (cond : Ctl → Nat → Bool) (t : Taken) (c : Ctl) : Prop where
  mode : testMode k c.mode = 0
  named : t.pkt.words ≠ []
  target : valid (t.w 0 % 256) = true
  idle : c.testOn op (t.w 0 % 256) = false
  meets : cond c (t.w 0 % 256) = true

theorem testOp_starts {op : Nat} {k : TestClass} {valid : Nat → Bool} {cond : Ctl → Nat → Bool} {f : Nat → Mem → Ctl → Mem × Ctl}
    {t : Taken} {m : Mem} {c : Ctl} (ok : TestMeets op k valid cond t c) :
    testOp op k valid cond f t m c = longOp op m c (fun h m c => f (t.w 0 % 256) m
      { c with mgt := { c.mgt with tests := c.mgt.tests ++ [(⟨op, t.w 0 % 256, h⟩ : RunTest)] } }) :=
  (if_neg (not_not_intro ok.mode)).trans ((if_neg (by simp [ok.named, ok.target])).trans
    ((if_neg (ne_true_of_eq_false ok.idle)).trans (if_neg (by simp [ok.meets]))))

/-- A test's row starts it where its request meets the check. -/
theorem chiebStarts_of_meets {row : ChiebSrc → Instr} {op : Nat} {k : TestClass} {valid : Nat → Bool} {cond : Ctl → Nat → Bool}
    {f : Nat → Mem → Ctl → Mem × Ctl} {ok : Taken → Ctl → Prop} {eff : Nat → Taken → Mem → Ctl → Mem × Ctl}
    (row_eq : ∀ src s, exec (row src) s = chiebRow op src (testOp op k valid cond f) s)
    (meets : ∀ t c, ok t c → TestMeets op k valid cond t c)
    (effect : ∀ t c, ok t c → ∀ h m d, f (t.w 0 % 256) m
      { d with mgt := { d.mgt with tests := d.mgt.tests ++ [(⟨op, t.w 0 % 256, h⟩ : RunTest)] } } = eff h t m d) :
    ChiebStarts row op ok eff := by
  refine chiebStarts_of_accepted row_eq fun t m c accepted => (testOp_starts (meets t c accepted)).trans ?_
  simp only [effect t c accepted]

theorem testMode_test {c : Ctl} (mode : c.mode = .test) : testMode .testOnly c.mode = 0 := by rw [mode]; rfl

/-- A plain test: no target, no condition, and no effect of its start. -/
theorem chiebStarts_plain {row : ChiebSrc → Instr} {op : Nat} {k : TestClass}
    (row_eq : ∀ src s, exec (row src) s = chiebRow op src (plainTest op k) s) :
    ChiebStarts row op (fun t c => testMode k c.mode = 0 ∧ t.pkt.words ≠ [] ∧ t.w 0 % 256 = 0 ∧ c.testOn op 0 = false)
      (fun h _ m c => (m, { c with mgt := { c.mgt with tests := c.mgt.tests ++ [(⟨op, 0, h⟩ : RunTest)] } })) := by
  refine chiebStarts_of_meets row_eq (fun t c ⟨mode, named, target, idle⟩ => ?meets) fun t c ⟨_, _, target, _⟩ h m d => ?effect
  case meets => exact ⟨mode, named, by simp [target], by rw [target]; exact idle, rfl⟩
  case effect => rw [target]

/-- A test of one of the 24 ports or bays. -/
theorem chiebStarts_numbered {row : ChiebSrc → Instr} {op : Nat} {cond : Ctl → Nat → Bool}
    (row_eq : ∀ src s, exec (row src) s = chiebRow op src (testOp op .quiesced (fun x => decide (x < 24)) cond (fun _ m c => (m, c))) s) :
    ChiebStarts row op (fun t c => testMode .quiesced c.mode = 0 ∧ t.pkt.words ≠ [] ∧ t.w 0 % 256 < 24 ∧
        c.testOn op (t.w 0 % 256) = false ∧ cond c (t.w 0 % 256) = true)
      (fun h t m c => (m, { c with mgt := { c.mgt with tests := c.mgt.tests ++ [(⟨op, t.w 0 % 256, h⟩ : RunTest)] } })) :=
  chiebStarts_of_meets row_eq (fun _ _ ⟨mode, named, target, idle, meets⟩ => ⟨mode, named, decide_eq_true target, idle, meets⟩)
    fun _ _ _ _ _ _ => rfl

/-! ### The obligation -/

/-- Settles O32: each test starts under a handle where its request meets the check, and ends with the effect named. -/
theorem testRowsComplete : Obligations.TestRowsComplete := by
  unfold Obligations.TestRowsComplete
  refine ⟨fun row op k listed => ?plain, fun row op cond listed => ?numbered, ?peer, ?hbm, ?mram, ?cal, ?status,
    fun s op target errors first x found ends going => ?done, fun s first none' trial going => ?own⟩
  case plain =>
    rcases listed with _ | ⟨_, _ | ⟨_, _ | ⟨_, _ | ⟨_, _ | ⟨_, ⟨⟩⟩⟩⟩⟩⟩
    · exact chiebStarts_plain fun src s => show _ = execEngineKat src s from rfl
    · exact chiebStarts_plain fun src s => show _ = execCarafeScan src s from rfl
    · exact chiebStarts_plain fun src s => show _ = execHbmScrub src s from rfl
    · exact chiebStarts_plain fun src s => show _ = execPcrVerify src s from rfl
    · exact chiebStarts_plain fun src s => show _ = execSerdesLoop src s from rfl
  case numbered =>
    rcases listed with _ | ⟨_, _ | ⟨_, ⟨⟩⟩⟩
    · exact chiebStarts_numbered fun src s => show _ = execNetPrbs src s from rfl
    · exact chiebStarts_numbered fun src s => show _ = execDrvEq src s from rfl
  case peer =>
    refine chiebStarts_of_meets (fun src s => show _ = execPeerPrbs src s from rfl) (fun t c ⟨mode, named, target, idle, off⟩ => ?_)
      fun t c ⟨_, _, target, _⟩ h m d => ?_
    · exact ⟨mode, named, by simp [target], by rw [target]; exact idle, by simp [off]⟩
    · rw [target]
  case hbm =>
    refine chiebStarts_of_meets (fun src s => show _ = execHbmMarch src s from rfl) (fun t c ⟨mode, named, target, idle⟩ => ?_)
      fun t c ⟨_, _, target, _⟩ h m d => ?_
    · exact ⟨testMode_test mode, named, by simp [target], by rw [target]; exact idle, rfl⟩
    · rw [target]
  case mram =>
    refine chiebStarts_of_meets (fun src s => show _ = execMramMarch src s from rfl) (fun t c ⟨mode, named, target, idle⟩ => ?_)
      fun t c ⟨_, _, target, _⟩ h m d => ?_
    · exact ⟨testMode_test mode, named, by simp [target], by rw [target]; exact idle, rfl⟩
    · rw [target]
  case cal =>
    exact chiebStarts_of_meets (fun src s => show _ = execBayCal src s from rfl)
      (fun t c ⟨mode, named, target, idle, ok⟩ => ⟨mode, named, decide_eq_true target, idle, ok⟩) fun _ _ _ _ _ _ => rfl
  case status => exact chiebRuns_of_accepted (fun src s => show _ = execTestStatus src s from rfl) fun t m c _ => rfl
  case done =>
    refine show execTestDone op target errors first s = _ from onCtl_withCtl ?_
    rw [found]
    exact if_pos (by simp [ends, going])
  case own =>
    refine show execTestDone 0x0A10 0 0 first s = _ from onCtl_withCtl ?_
    rw [none']
    exact (if_pos (by simp [Ctl.ownKat, trial, going])).trans (if_pos (by simp))

end Sys2Proof.Machine
end

section

/-!
Register access through BAR0, the mailbox, NVMe-MI, the persistent registers and the telemetry sweep
(15_management_and_transactions.md, R382 to R404; 16_service_endpoint.md; 18_telemetry.md, R446, R447).
-/

namespace Sys2Proof.Machine
set_option Elab.async false

/-! ### The doorbell -/

/-- A doorbell of one slot rings that slot alone. -/
theorem doorbell_single {m : Mem} {c : Ctl} (off : c.mode ≠ .off) (reset : c.mode ≠ .reset) (k : Fin 4) :
    doorbell m c (2 ^ k.val) = ringSlot m (c.dmaEvent 66) k := by
  have rings : ¬ (2 ^ k.val % 16 = 0 ∨ c.mode = .off ∨ c.mode = .reset) := by
    rintro (none' | isOff | isReset)
    · revert none'
      revert k
      decide
    · exact off isOff
    · exact reset isReset
  unfold doorbell
  rw [if_neg rings]
  generalize c.dmaEvent 66 = c1
  match k with
  | 0 => rfl
  | 1 => rfl
  | 2 => rfl
  | 3 => rfl

/-! ### The sweep -/

theorem Ctl.reachDnt_regs (c : Ctl) (t : Nat) : (c.reachDnt t).regs = c.regs := by
  unfold Ctl.reachDnt
  split
  · rfl
  · rfl

theorem Ctl.reachDnt_tel (c : Ctl) (t : Nat) : (c.reachDnt t).tel = c.tel := by
  unfold Ctl.reachDnt
  split
  · rfl
  · rfl

/-- The period of a sweep is that of the state before its instant. -/
theorem Ctl.sweepPeriod_reachDnt (c : Ctl) (t first last : Nat) : (c.reachDnt t).sweepPeriod first last = c.sweepPeriod first last := by
  unfold Ctl.sweepPeriod Ctl.get Ctl.rd
  rw [Ctl.reachDnt_regs, Ctl.reachDnt_tel]

theorem execTelemetrySweep_on {s : State} (enabled : s.c.flag F.TEL_CFG_en = true) (powered : s.c.bitOf F.GLB_PD_STAT_pd_is_on 2 = true) :
    execTelemetrySweep s = .next (s.withBoth (dntRow 5 (s.c.sweepNext s.c.dntNs) (fun m c =>
      let c1 := c.sweepFire false (s.c.sweepNext s.c.dntNs) (s.c.sweepNext s.c.dntNs)
        (c.sweepPeriod (s.c.sweepNext s.c.dntNs) (s.c.sweepNext s.c.dntNs))
      ((match c1.tel.snap with | some y => snapPublish m y | none => m), c1)) s.mem s.c)) :=
  onAll_withBoth (if_pos (by simp [enabled, powered]))

/-! ### Write tokens -/

/-- Every persistent word gains the write tokens of the time since it last did. -/
def Ctl.pcrRefill (c : Ctl) : Ctl := { c with mgt := { c.mgt with pcr := Tab.mapV c.mgt.pcr (fun w _ => c.pcrGain w) } }

theorem Ctl.pcrRefill_pcr (c : Ctl) : c.pcrRefill.mgt.pcr = Tab.mapV c.mgt.pcr (fun w _ => c.pcrGain w) := rfl

theorem Ctl.pcrRefill_dt (c : Ctl) : c.pcrRefill.dt = c.dt := rfl

theorem Ctl.pcrRefill_regs (c : Ctl) : c.pcrRefill.regs = c.regs := rfl

/-! ### NVMe-MI -/

theorem miRow_open {s : State} {eid : Nat} {f : Ctl → MiRsp × Ctl} {c : Ctl} {r : MiRsp} (opened : s.c.miOpen = true)
    (effect : f s.c = (r, c)) : miRow eid f s = .next (s.withCtl (c.emit (.mi eid r))) := by
  refine onCtl_withCtl ((if_pos opened).trans ?_)
  rw [effect]

/-! ### The obligation -/

/-- Settles O33: each row of register access has the effect named. -/
theorem registerAccessRowsComplete : Obligations.RegisterAccessRowsComplete := by
  unfold Obligations.RegisterAccessRowsComplete
  refine ⟨fun s off dw live => ⟨fun good => ?read, fun bad => ?unsupported⟩, fun s off value dw live good writes direct => ?write,
    fun s off value dw k x live good writes staged known own => ?stage, fun s off value r w row word acc takes direct => ?persistent,
    fun s e rest first => ?landed, fun s => ?refill, fun s writes ring live d3 => ?doorbell, fun s k off reset _ => doorbell_single off reset k,
    fun s eid portId ctrlId opened => ⟨fun dtyp known => ?layout, ?health, ?controller, ?frequency, ?mtu, ?setFrequency,
      fun value most => ?setMtu⟩,
    fun s eid => ?assigned, fun s enabled powered alone => ?sweep, fun s enabled powered => ?sweepAny⟩
  case read =>
    exact completes_onCtl (show _ = execBar0Read off dw s from rfl) ((if_neg (by simp [live])).trans (if_neg (ne_true_of_eq_false good)))
      ⟨State.withCtl_c s _, State.withCtl_keeps s _⟩
  case unsupported =>
    exact show execBar0Read off dw s = _ from onCtl_withCtl ((if_neg (by simp [live])).trans (if_pos bad))
  case write =>
    exact show execRegisterWrite off value dw s = _ from onAll_withBoth ((if_neg (by simp [live])).trans
      ((if_neg (ne_true_of_eq_false good)).trans (if_neg (by simp [writes, direct]))))
  case stage =>
    refine completes_onCtl (show _ = execBar0StagingWrite off value dw s from rfl) ((if_neg ?_).trans ?_)
      ⟨State.withCtl_c s _, State.withCtl_keeps s _⟩
    · simp [Ctl.bar0Takes, live, good, writes, staged]
    · dsimp only
      rw [known]
      simp only [if_pos own]
  case persistent =>
    refine show execPersistentRegisterWrite off value s = _ from onAll_withBoth ?_
    rw [row, word]
    exact if_pos (by simp [acc, takes, direct])
  case landed =>
    refine completes_onCtl (show _ = execPcrWriteDone s from rfl) ?_ ⟨State.withCtl_c s _, State.withCtl_keeps s _⟩
    unfold Ctl.pcrDone
    rw [first]
  case refill =>
    refine completes_onCtl (show _ = execPcrTokenRefill s from rfl)
      (c := (s.c.reach ((s.c.dt / 1000000000 + 1) * 1000000000)).pcrRefill) rfl ?_
    rw [State.withCtl_c]
    exact ⟨Ctl.pcrRefill_pcr _, Ctl.pcrRefill_dt _, Ctl.pcrRefill_regs _, State.withCtl_keeps s _⟩
  case doorbell =>
    exact show execMailboxDoorbell writes ring s = _ from onAll_withBoth ((if_neg (by simp [live])).trans (if_neg d3))
  case layout => exact show execMiReadDataStructure eid dtyp portId ctrlId s = _ from miRow_open opened (by rw [if_neg (Nat.not_lt.mpr known)])
  case health =>
    exact ⟨_, show execMiSubsystemHealthPoll eid s = _ from miRow_open opened rfl, State.withCtl_c s _, State.withCtl_keeps s _⟩
  case controller => exact show execMiControllerHealthPoll eid s = _ from miRow_open opened rfl
  case frequency => exact show execMiConfigurationGet eid 1 s = _ from miRow_open opened rfl
  case mtu => exact show execMiConfigurationGet eid 3 s = _ from miRow_open opened rfl
  case setFrequency => exact show execMiConfigurationSet eid 1 1 s = _ from miRow_open opened rfl
  case setMtu => exact show execMiConfigurationSet eid 3 value s = _ from miRow_open opened (if_neg (Nat.not_lt.mpr most))
  case assigned =>
    refine completes_onCtl (show _ = execMctpEndpointAssigned eid s from rfl) rfl ?_
    rw [State.withCtl_c]
    exact ⟨rfl, rfl, State.withCtl_keeps s _⟩
  case sweep =>
    refine ⟨_, show execTelemetrySweep s = _ from execTelemetrySweep_on enabled powered, ?_⟩
    rw [dntRow_of_none_due s.mem _ alone]
    dsimp only
    rw [State.withBoth_c, State.withBoth_mem, Ctl.sweepPeriod_reachDnt]
    exact ⟨rfl, rfl, State.withBoth_pending s _⟩
  case sweepAny => exact show execTelemetrySweep s = _ from execTelemetrySweep_on enabled powered

end Sys2Proof.Machine
end

section

/-!
The service endpoint (16_service_endpoint.md, R408 to R421).
-/

namespace Sys2Proof.Machine
set_option Elab.async false

/-! ### A function that is reached -/

/-- A function within reach of a request is powered, in a device out of reset. -/
theorem Ctl.cfgReach_powered {c : Ctl} (reach : c.cfgReach = true) : ¬ (c.ept.d3cold = true ∨ c.mode = .off ∨ c.mode = .reset) := by
  simpa [Ctl.cfgReach, not_or, and_assoc] using reach

theorem Ctl.cfgReach_of_open {c : Ctl} (opened : c.cfgOpen = true) : c.cfgReach = true := by
  have parts : (c.cfgReach = true ∧ c.flag F.EPT_STAT_flr = false) ∧ c.ept.crsUntil ≤ c.dt := by simpa [Ctl.cfgOpen] using opened
  exact parts.1.1

theorem linkReset_reached {speed : Fin 5} {width : Fin 3} {m : Mem} {c : Ctl} (reach : c.cfgReach = true) :
    linkReset speed width m c = eptReset m (((c.bump F.EPT_RST_CNT_link 1).eptLinkUp (speed.val + 1) (laneWidth width)).readsDrop) :=
  if_neg (Ctl.cfgReach_powered reach)

/-! ### Completions -/

/-- A completion of a read that is open, of a function within reach. -/
def completionOf (tag : Fin 1024) (st : CplStat) (data : List Byte) (r : EpRead) (m : Mem) (c : Ctl) : Mem × Ctl :=
  match st with
  | .ok =>
    if r.misfit data.length then (m, c.aerFree .malformed false)
    else if c.farStatus r.chan ≠ 0 then readDrop m c tag r data.length false
    else readData m c tag r (data.take r.need)
  | .poisoned => readDrop m ((c.aerFree .poisoned false).farFail r.chan 7) tag { r with left := 0 } data.length false
  | _ => readDrop m (c.farFail r.chan 7) tag { r with left := 0 } 0 true

theorem execCompletionReceive_open {s : State} {tag : Fin 1024} {st : CplStat} {data : List Byte} {r : EpRead}
    (reach : s.c.cfgReach = true) (known : Tab.at? s.c.ept.reads tag.val = some r) (going : s.c.farStatus r.chan ≠ 9) :
    execCompletionReceive tag st data s = .next (s.withBoth (completionOf tag st data r s.mem s.c)) := by
  refine onAll_withBoth ((if_neg (Ctl.cfgReach_powered reach)).trans ?_)
  rw [known]
  refine (if_neg going).trans ?_
  cases st with
  | ok => rfl
  | poisoned => rfl
  | unsupported => rfl
  | abort => rfl

theorem completionOf_ok {tag : Fin 1024} {data : List Byte} {r : EpRead} {m : Mem} {c : Ctl} (running : c.farStatus r.chan = 0)
    (fits : r.misfit data.length = false) : completionOf tag .ok data r m c = readData m c tag r (data.take r.need) :=
  (if_neg (ne_true_of_eq_false fits)).trans (if_neg (not_not_intro running))

/-! ### The obligation -/

/-- Settles O34: each row of the service endpoint has the effect named. -/
theorem endpointRowsComplete : Obligations.EndpointRowsComplete := by
  unfold Obligations.EndpointRowsComplete
  refine ⟨fun s reg be value opened => ⟨?write, ?read⟩, fun s write reg be value reach closed => ?retry, fun s opened d0 => ?d3hot,
    fun s opened d3 => ?d0, fun s opened master => ?clear, fun s opened plain => ?set, fun s opened => ?reset,
    fun s resetting none' => ?resetDone, fun s reach => ?perst, fun s speed width cold off reset => ?warm,
    fun s speed width reach => ⟨?hot, ?down⟩, fun s tag data r reach known running fits => ?data,
    fun s tag data r reach known going => ⟨?unsupported, ?abort, ?poisoned⟩, fun s tag r known going => ?timeout,
    fun s e advisory hdr reach => ?error, fun s entry live open' d3 => ?unmask⟩
  case write =>
    exact show execPcieConfigRequest true reg be value s = _ from onCtl_withCtl ((if_neg (by simp [Ctl.cfgReach_of_open opened])).trans
      (if_neg (by simp [opened])))
  case read =>
    exact show execPcieConfigRequest false reg be value s = _ from onCtl_withCtl ((if_neg (by simp [Ctl.cfgReach_of_open opened])).trans
      (if_neg (by simp [opened])))
  case retry =>
    exact show execPcieConfigRequest write reg be value s = _ from onCtl_withCtl ((if_neg (by simp [reach])).trans (if_pos (by simp [closed])))
  case d3hot => exact show execPmcsrD3hotEnter s = _ from onCtl_withCtl (if_pos (by simp [opened, d0]))
  case d0 => exact show execPmcsrD0Return s = _ from onCtl_withCtl (if_pos (by simp [opened, d3]))
  case clear => exact show execBmeClear s = _ from onCtl_withCtl (if_pos (by simp [opened, master]))
  case set => exact show execBmeSet s = _ from onCtl_withCtl (if_pos (by simp [opened, plain]))
  case reset => exact show execFunctionLevelReset s = _ from onCtl_withCtl (if_pos opened)
  case resetDone => exact show execFlrDone s = _ from onAll_withBoth (if_pos (by simp [resetting, none']))
  case perst => exact show execPerstSlAssert s = _ from onAll_withBoth (if_neg (Ctl.cfgReach_powered reach))
  case warm => exact show execPerstSlDeassert speed width s = _ from onCtl_withCtl (if_neg (by simp [cold, off, reset]))
  case hot => exact show execHotReset speed width s = _ from onAll_withBoth (linkReset_reached reach)
  case down => exact show execEndpointLinkDown speed width s = _ from onAll_withBoth (linkReset_reached reach)
  case data =>
    refine show execCompletionReceive tag .ok data s = _ from (execCompletionReceive_open reach known (by omega)).trans ?_
    rw [completionOf_ok running fits]
  case unsupported => exact show execCompletionReceive tag .unsupported data s = _ from execCompletionReceive_open reach known going
  case abort => exact show execCompletionReceive tag .abort data s = _ from execCompletionReceive_open reach known going
  case poisoned => exact show execCompletionReceive tag .poisoned data s = _ from execCompletionReceive_open reach known going
  case timeout =>
    refine show execCompletionTimeout tag s = _ from onAll_withBoth ?_
    rw [known]
    exact if_neg going
  case error => exact show execAerError e advisory hdr s = _ from onCtl_withCtl (if_neg (Ctl.cfgReach_powered reach))
  case unmask => exact show execMsixUnmask entry s = _ from onCtl_withCtl (if_neg (by simp [live, open', d3]))

end Sys2Proof.Machine
end

section

/-!
Firmware commits, activation and the trial (17_firmware_and_trust.md, R430 to R436).
-/

namespace Sys2Proof.Machine
set_option Elab.async false

/-! ### A change of the power domains leaves a safe stop as it is -/

theorem Ctl.entryFree_power (c : Ctl) (k : Nat) (e : CrmEntry) : (c.entryFree k e).power = c.power := by
  unfold Ctl.entryFree
  dsimp only
  split
  · exact (Ctl.power_of_waitView (Ctl.waitView_bufDo ..)).trans rfl
  · rfl

theorem Ctl.entriesDrop_power (c : Ctl) (p : Nat → CrmEntry → Bool) : (c.entriesDrop p).power = c.power :=
  Ctl.power_foldl _ (fun d x => by rw [Ctl.tev_power]; exact Ctl.entryFree_power ..) _ c

theorem Ctl.engineOff_power (c : Ctl) (cls inst : Nat) : (c.engineOff cls inst).power = c.power := by
  unfold Ctl.engineOff
  split
  · rfl
  · rfl

theorem Ctl.memberPlace_power (c : Ctl) (b : Nat) : (c.memberPlace b).power = c.power := by
  unfold Ctl.memberPlace
  split
  · rfl
  · dsimp only
    split
    · rfl
    · rfl

theorem Ctl.pdStart_stop (n : Nat) (c : Ctl) : (Ctl.pdStart n c).power.stop = c.power.stop := by
  induction n generalizing c with
  | zero => rfl
  | succ n ih =>
    unfold Ctl.pdStart
    split
    · rfl
    · rfl
    · next d rest _ =>
      split
      · dsimp only
        rw [ih]
        split
        · rfl
        · rfl
      · dsimp only
        have engines : ((pdEngines d).foldl (fun c p => c.engineOff p.1 p.2) (c.setFlag F.GLB_PD_STAT_busy true)).power = c.power :=
          Ctl.power_foldl _ (fun d (p : Nat × Nat) => Ctl.engineOff_power d p.1 p.2) _ _
        split
        · have low (e : Ctl) : (([0, 1, 2, 3, 4] : List Nat).foldl Ctl.noteLow e).power = e.power :=
            Ctl.power_foldl Ctl.noteLow (fun _ _ => rfl) _ e
          dsimp only
          rw [low]
          exact congrArg Power.stop ((Ctl.entriesDrop_power _ _).trans engines)
        · exact congrArg Power.stop engines

theorem Ctl.pdReconcile_stop (c : Ctl) : c.pdReconcile.power.stop = c.power.stop := by
  have placed : c.memberPower.power = c.power := Ctl.power_foldl _ Ctl.memberPlace_power _ c
  unfold Ctl.pdReconcile
  dsimp only
  split
  · rw [placed]
  · rw [Ctl.pdStart_stop]
    show c.memberPower.power.stop = c.power.stop
    rw [placed]

theorem Ctl.setMode_keepsStop (c : Ctl) (m : Mode) : (c.setMode m).power.stop = c.power.stop := by
  have role (d : Ctl) : d.roleNote.power.stop = d.power.stop := by
    unfold Ctl.roleNote Ctl.ctlPut
    dsimp only
    split
    · rfl
    · rfl
  unfold Ctl.setMode
  simp only [apply_ite Ctl.power, apply_ite Power.stop, Ctl.anaUpdate_power, role, Ctl.set_power, Ctl.intSet_power, Ctl.intxUpdate_power,
    Ctl.flushMessages_power, ite_self]

/-! ### Activation -/

/-- A device in low power returns to service before it activates. -/
def Ctl.woken (c : Ctl) : Ctl := if c.mode = .idleLow then (c.setMode c.serveMode).pdReconcile else c

theorem Ctl.woken_stop (c : Ctl) : c.woken.power.stop = c.power.stop := by
  unfold Ctl.woken
  split
  · rw [Ctl.pdReconcile_stop, Ctl.setMode_keepsStop]
  · rfl

theorem Ctl.activating_mode {c : Ctl} (running : c.power.stop = none) :
    (c.woken.setMode .activating).mode = .activating :=
  Ctl.setMode_mode _ _ ((Ctl.woken_stop c).trans running)

/-- An activation without reset begins: no commit waits for it, and it drains for at most `drain` ns. -/
def Ctl.activation (c : Ctl) (slot : Nat) (who : FwWho) (drain : Nat) : Ctl :=
  let d := c.woken.setMode .activating
  { d with trust := { d.trust with
    commit := none, busyAct := true, act := some ⟨c.woken.mode, slot, d.dt + drain, false, who⟩ } }

theorem Ctl.activation_trust (c : Ctl) (slot : Nat) (who : FwWho) (drain : Nat) :
    (c.activation slot who drain).trust.commit = none ∧ (c.activation slot who drain).trust.busyAct = true ∧
    (c.activation slot who drain).trust.act = some ⟨c.woken.mode, slot, (c.woken.setMode .activating).dt + drain, false, who⟩ :=
  ⟨rfl, rfl, rfl⟩

theorem Ctl.activation_mode {c : Ctl} (running : c.power.stop = none) (slot : Nat) (who : FwWho) (drain : Nat) :
    (c.activation slot who drain).mode = .activating :=
  (show (c.activation slot who drain).mode = (c.woken.setMode .activating).mode from rfl).trans (Ctl.activating_mode running)

/-- The end of ACTIVATING with an image that verifies. -/
theorem Ctl.activationRun_verified {c : Ctl} {look : ImgLook} {a : Activation} (act : c.trust.act = some a) (going : c.halted = false)
    (idle : a.over_ = true ∨ c.bst.brews = []) (verified : c.slotCheck a.slot look = 0) :
    c.activationRun look =
      ((((((c.bootCtl (fun c => ((c.set F.FWU_STAT_prev_slot (c.get F.FWU_STAT_cur_slot)).set F.FWU_STAT_cur_slot a.slot).setFlag
        F.FWU_STAT_trial true)).imageRuns a.slot).unstage).actBack a).fwAnswer a.who 0).sayHello false).startReady := by
  unfold Ctl.activationRun
  rw [act]
  exact (if_neg (by rcases idle with late | idle <;> simp [*])).trans (if_pos verified)

/-- The end of ACTIVATING with an image that fails. -/
theorem Ctl.activationRun_failed {c : Ctl} {look : ImgLook} {a : Activation} (act : c.trust.act = some a) (going : c.halted = false)
    (idle : a.over_ = true ∨ c.bst.brews = []) (failed : c.slotCheck a.slot look ≠ 0) :
    c.activationRun look = ((({ c with trust := { c.trust with busyAct := false } } : Ctl).actBack a).fwAnswer a.who
      (c.slotCheck a.slot look)).startReady := by
  unfold Ctl.activationRun
  rw [act]
  exact (if_neg (by rcases idle with late | idle <;> simp [*])).trans (if_neg failed)

/-! ### The obligation -/

/-- Settles O35: each row of commits, activation and the trial has the effect named. -/
theorem firmwareRowsComplete : Obligations.FirmwareRowsComplete := by
  unfold Obligations.FirmwareRowsComplete
  refine ⟨fun s x commit going phase => ?written, fun s x commit phase alone mode going => ?activate, fun s a act early => ?deadline,
    fun s look a act going idle verified => ?running, fun s look a act going idle failed => ?failed,
    fun s x commit phase paired going => ?paired, fun s bs trial kat clean going mode => ?confirm, fun s trial awake going => ?expire⟩
  case written =>
    refine show execFwSlotWritten s = _ from onCtl_withCtl ?_
    rw [commit]
    refine (if_neg (by simp [going, phase])).trans ?_
    dsimp only
    rw [if_neg (by omega), commit]
    exact if_pos phase
  case activate =>
    have running : (s.c.report .fwStart (fun a => !a.discovery)).power.stop = none :=
      (congrArg Power.stop (Ctl.report_power ..)).trans (Ctl.stop_of_live going)
    refine completes_onCtl (show _ = execActivationWithoutReset s from rfl)
      (c := (s.c.report .fwStart (fun a => !a.discovery)).activation x.slot x.who 120000000) ?_ ?_
    · rw [commit]
      exact if_neg (by simp [phase, alone, mode, going])
    · intro c1 c2 c3
      obtain ⟨none', busy, act⟩ := Ctl.activation_trust c1 x.slot x.who 120000000
      rw [State.withCtl_c]
      exact ⟨none', busy, act, Ctl.activation_mode running .., State.withCtl_keeps s _⟩
  case deadline =>
    refine completes_onCtl (show _ = execActivationDrainDeadline s from rfl) (c := ?after) ?effect ?keeps
    case effect => rw [act]
    case keeps =>
      rw [State.withCtl_c]
      dsimp only
      rw [if_neg (ne_true_of_eq_false early)]
      exact ⟨rfl, State.withCtl_keeps s _⟩
  case running =>
    refine show execActivationImageRunning look s = _ from onAll_withBoth ?_
    dsimp only
    rw [Ctl.activationRun_verified act going idle verified]
  case failed =>
    refine show execActivationImageRunning look s = _ from onAll_withBoth ?_
    dsimp only
    rw [Ctl.activationRun_failed act going idle failed]
  case paired =>
    refine completes_onCtl (show _ = execPairedActivation s from rfl) ?_ ⟨State.withCtl_c s _, State.withCtl_keeps s _⟩
    rw [commit]
    exact if_neg (by simp [phase, paired, going])
  case confirm =>
    intro c1 c2 c3 image
    refine show execTrialConfirm s = _ from onCtl_withCtl ((if_neg ?_).trans ?_)
    · rcases mode with mode | mode | mode <;> simp [trial, kat, clean, going, mode]
    · dsimp only
      rw [image]
  case expire => exact show execTrialWindowExpire s = _ from onAll_withBoth (if_pos (by simp [trial, awake, going]))

end Sys2Proof.Machine
end

section

/-!
SPDM and its sessions (17_firmware_and_trust.md, R437 to R443).
-/

namespace Sys2Proof.Machine
set_option Elab.async false

/-! ### Requests of a peer -/

/-- A request of a peer that is reached is answered. -/
theorem spdmReq_open {s : State} {who : Fin 257} {f : SpdmPeer → Ctl → Ctl} {c : Ctl} (opened : s.c.spdmOpen who = true)
    (effect : f (s.c.spdmPeer who) s.c = c) : spdmReq who f s = .next (s.withCtl c) :=
  onCtl_withCtl ((if_pos opened).trans effect)

/-- A request of a peer that has negotiated its algorithms. -/
theorem spdmAfter_open {s : State} {who : Fin 257} {f : SpdmPeer → Ctl → Ctl} {c : Ctl} (opened : s.c.spdmOpen who = true)
    (agreed : (s.c.spdmPeer who).algs = true) (effect : f (s.c.spdmPeer who) s.c = c) : spdmAfter who f s = .next (s.withCtl c) :=
  spdmReq_open opened ((if_pos agreed).trans effect)

/-- A request in a live session of a peer that is reached. -/
theorem sessionReq_live {s : State} {session : Nat} {x : SpdmSess} {f : SpdmSess → Ctl → Ctl} {c : Ctl}
    (live : s.c.liveSession session = some x) (opened : s.c.spdmOpen x.peer = true)
    (effect : f x (s.c.updSession session (fun y => { y with at_ := s.c.dt })) = c) : sessionReq session f s = .next (s.withCtl c) := by
  refine onCtl_withCtl ?_
  rw [live]
  exact (if_pos opened).trans effect

/-! ### The obligation -/

/-- Settles O36: each SPDM request that is answered has the response and the effect named. -/
theorem spdmRowsComplete : Obligations.SpdmRowsComplete := by
  unfold Obligations.SpdmRowsComplete
  have allBlocks : ((255 : Fin 256) : Nat) = 255 := rfl
  refine ⟨fun s who opened => ⟨?version, fun told => ?capabilities, fun algs told fit => ?algorithms⟩,
    fun s who opened agreed => ⟨?digests, fun off len => ?certificate, fun transcript => ?challenge,
      fun transcript => ⟨?count, fun some' => ?signed, fun some' => ?plain⟩, fun transcript k root place => ?exchange⟩,
    fun s who x pending off reset => ?signature, fun s who x opened pending ready => ?respond,
    fun s who session x opened known own early keyed root => ?finish,
    fun s session x live opened => ⟨?heartbeat, ?update, ?ended, fun bytes own => ?message⟩⟩
  case version => exact show execSpdmGetVersion who s = _ from spdmReq_open opened rfl
  case capabilities =>
    exact show execSpdmGetCapabilities who 0x13 s = _ from spdmReq_open opened ((if_neg (by simp [told])).trans (if_neg (by decide)))
  case algorithms =>
    exact show execSpdmNegotiateAlgorithms who algs s = _ from spdmReq_open opened ((if_neg (by simp [told])).trans (if_neg (by simp [fit])))
  case digests => exact show execSpdmGetDigests who s = _ from spdmAfter_open opened agreed rfl
  case certificate =>
    refine show execSpdmGetCertificate who 0 off len s = _ from spdmAfter_open opened agreed ?_
    by_cases beyond : Config.certChain.length ≤ off.toNat
    · rw [if_pos beyond]
      exact if_pos (Or.inr beyond)
    · rw [if_neg beyond]
      exact if_neg (by simpa using beyond)
  case challenge => exact show execSpdmChallenge who 0 transcript s = _ from spdmAfter_open opened agreed (if_neg (by simp))
  case count => exact show execSpdmGetMeasurements who 0 false transcript s = _ from spdmAfter_open opened agreed rfl
  case signed =>
    exact show execSpdmGetMeasurements who 255 true transcript s = _ from spdmAfter_open opened agreed
      ((if_neg (by simp)).trans ((if_neg (by simp [allBlocks, some'])).trans (if_pos rfl)))
  case plain =>
    exact show execSpdmGetMeasurements who 255 false transcript s = _ from spdmAfter_open opened agreed
      ((if_neg (by simp)).trans ((if_neg (by simp [allBlocks, some'])).trans (if_neg (by simp))))
  case exchange =>
    refine show execSpdmKeyExchange who transcript s = _ from spdmAfter_open opened agreed ?_
    rw [if_neg (ne_true_of_eq_false root), place]
  case signature =>
    refine show execSpdmSignatureDone who s = _ from onCtl_withCtl ?_
    dsimp only
    rw [pending]
    exact if_neg (by simp [off, reset])
  case respond =>
    refine show execSpdmRespondIfReady who s = _ from spdmReq_open opened ?_
    dsimp only
    rw [pending]
    exact if_pos ready
  case finish =>
    refine show execSpdmFinish who session s.c.spdmRoot true s = _ from spdmReq_open opened ?_
    rw [known]
    exact (if_neg (by simp [own, early, keyed])).trans (if_neg (by rw [root]; simp))
  case heartbeat => exact show execSpdmHeartbeat session s = _ from sessionReq_live live opened rfl
  case update => exact show execSpdmKeyUpdate session s = _ from sessionReq_live live opened rfl
  case ended => exact show execSpdmEndSession session s = _ from sessionReq_live live opened rfl
  case message =>
    refine show execSecuredMessage session bytes s = _ from onAll_withBoth ?_
    rw [live]
    dsimp only
    rw [if_pos own]
    exact if_neg (by simp [own, own ▸ opened])

end Sys2Proof.Machine
end

section

/-!
Events, Identify, log pages, firmware and self-test by NVMe, and Chieb in-band (05_host_command_path.md, R82, R90 to R96, R112). O8 comes
down to one property of the free values, which have no body: its clause of the Discovery page takes the list of the state before the command
is counted, the model that of the state after, and between the two a telemetry sample may take the free value that stands for the peer's ports.
-/

namespace Sys2Proof.Machine
set_option Elab.async false

/-! ### What the start of a served command leaves -/

section
variable (c : Ctl) (x : AdminCap) (k tag : Nat) (a : Assoc)

@[simp] theorem Ctl.begun_mgt : (c.begun x k tag a).mgt = c.mgt := by
  show ((c.alive k a).tev .hcp 0 0 (some a.tenant) none 1).mgt = _
  rw [Ctl.tev_mgt]; rfl

@[simp] theorem Ctl.begun_car : (c.begun x k tag a).car = c.car := by
  show ((c.alive k a).tev .hcp 0 0 (some a.tenant) none 1).car = _
  rw [Ctl.tev_car]; rfl

@[simp] theorem Ctl.begun_test : (c.begun x k tag a).host.test = c.host.test := rfl

theorem Ctl.begun_visibleNs (ten : Nat) : (c.begun x k tag a).visibleNs ten = c.visibleNs ten := by
  simp only [Ctl.visibleNs, Ctl.begun_car, Ctl.begun_nsAttached]

theorem Ctl.begun_fsSlot (fs : Nat) : (c.begun x k tag a).fsSlot fs = c.fsSlot fs := by
  simp only [Ctl.fsSlot, Ctl.begun_get_off c x k tag a F.FWU_STAT_cur_slot (by decide)]

/-- The tests that a served self-test starts read the groups that the state before names. -/
theorem Ctl.begun_testGroups {nsid : Nat} (named : nsid = 0 ∨ nsid = 0xFFFFFFFF ∨ c.nsAttached nsid a.tenant = true) :
    (c.begun x k tag a).testGroups nsid = c.testGroups nsid := by
  unfold Ctl.testGroups
  refine ite_congr rfl (fun _ => rfl) fun some' => ite_congr rfl (fun _ => ?_) fun one => ?_
  · refine List.filter_congr fun g listed => Ctl.begun_flag_off c x k tag a _ ?_
    have low := List.mem_range.mp listed
    simp only [F.GAL_GRP_CFG_en, Reg.GAL_GRP_CFG, Reg.TEL_SMP_STAT]
    omega
  · have attached : c.nsAttached nsid a.tenant = true := (named.resolve_left some').resolve_left one
    simp only [Ctl.nsAttached, Ctl.nsValid, Bool.and_eq_true, decide_eq_true_eq] at attached
    obtain ⟨⟨low, -⟩, -⟩ := attached
    rw [Ctl.nsGroup, Ctl.begun_get_off c x k tag a]
    · rfl
    · simp only [F.GAL_NS_MAP2_group, Reg.GAL_NS_MAP2, Reg.TEL_SMP_STAT]
      omega

theorem Ctl.begun_chiebRefusal (on : c.flag F.HCP_CFG_inband_en = true) (permitted : c.inband a = true) :
    (c.begun x k tag a).chiebRefusal (a.alive c.dt) = none := by
  have permitted' : (c.begun x k tag a).inband (a.alive c.dt) = true := by
    rw [← permitted]
    simp only [Ctl.inband, Ctl.hostOf, Ctl.begun_mgt]
    rfl
  simp [Ctl.chiebRefusal, Ctl.begun_flag_off c x k tag a F.HCP_CFG_inband_en (by decide), on, permitted']

end

theorem Ctl.adminData_live {c : Ctl} (x : AdminCmd) (a : Assoc) (d : HostData) (running : c.halted = false) :
    c.adminData x a d = (c.emit (.hostData x.conn x.cid d)).adminEnd x a St.ok 0 0 := by
  simp [Ctl.adminData, running]

/-- The peer's ports in the Discovery page, of which nothing tells the device, come with the next free value as with this one. -/
def PeerPortsSteady : Prop := ∀ v n : Nat, n < 24 → Nat.testBit (Config.freeNat (v + 1)) n = Nat.testBit (Config.freeNat v) n

theorem PeerPortsSteady.after (steady : PeerPortsSteady) {v w : Nat} (later : v ≤ w) {n : Nat} (port : n < 24) :
    Nat.testBit (Config.freeNat w) n = Nat.testBit (Config.freeNat v) n := by
  induction later with
  | refl => rfl
  | step _ ih => exact (steady _ n port).trans ih

/-! ### The free values that an event takes -/

theorem Ctl.samplesFrom_fv (n inst : Nat) (ctx : Option (Nat × Nat × Nat)) (e k i : Nat) (c : Ctl) :
    (Ctl.samplesFrom n inst ctx e i k c).fv = c.fv + k := by
  induction k generalizing i c with
  | zero => rfl
  | succ k ih =>
    have same : ∀ x, (c.sampleRecord x).fv = c.fv := fun x => by
      simp only [Ctl.sampleRecord]
      split <;> rfl
    calc (Ctl.samplesFrom n inst ctx e i (k + 1) c).fv
        = (c.sampleRecord (telSampleOf c.dt c.fv n inst ctx (i * 2 ^ e))).fv + 1 + k := ih _ _
      _ = c.fv + (k + 1) := by rw [same]; omega

theorem Ctl.telFold_fv_le (ev inst : Nat) (ten : Option Nat) (ctx : Option (Nat × Nat × Nat)) (amt k n : Nat) (c : Ctl) :
    c.fv ≤ (Ctl.telFold ev inst ten ctx amt n k c).fv := by
  induction k generalizing n c with
  | zero => exact Nat.le_refl _
  | succ k ih =>
    refine Nat.le_trans ?_ (ih _ _)
    split
    · simp only [Ctl.telAdd]
      split
      · exact Nat.le_refl _
      · rw [Ctl.samplesFrom_fv]
        exact Nat.le_add_right _ _
    · exact Nat.le_refl _

theorem Ctl.begun_fv_le (c : Ctl) (x : AdminCap) (k tag : Nat) (a : Assoc) : c.fv ≤ (c.begun x k tag a).fv := by
  show _ ≤ ((c.alive k a).tev .hcp 0 0 (some a.tenant) none 1).fv
  unfold Ctl.tev
  split
  · exact Ctl.telFold_fv_le _ _ _ _ _ _ _ (c.alive k a)
  · exact Nat.le_refl _

/-! ### The Discovery page -/

theorem Ctl.begun_netUp (c : Ctl) (x : AdminCap) (k tag : Nat) (a : Assoc) {n : Nat} (port : n < 24) :
    (c.begun x k tag a).netUp n = c.netUp n := by
  simp only [Ctl.netUp]
  rw [Ctl.begun_flag_off, Ctl.begun_flag_off, Ctl.begun_flag_off]
  all_goals
    simp only [F.NET_PORT_STAT_exists, F.NET_PORT_STAT_up, F.NET_PORT_CFG_en, Reg.NET_PORT_STAT, Reg.NET_PORT_CFG, Reg.TEL_SMP_STAT]
    omega

theorem Ctl.begun_discoveryList (steady : PeerPortsSteady) (c : Ctl) (x : AdminCap) (k tag : Nat) (a b : Assoc) :
    (c.begun x k tag a).discoveryList b = c.discoveryList b := by
  have own : (List.range 24).filter (c.begun x k tag a).netUp = (List.range 24).filter c.netUp :=
    List.filter_congr fun n listed => Ctl.begun_netUp c x k tag a (List.mem_range.mp listed)
  have peer : (List.range 24).filter (fun n => Nat.testBit (Config.freeNat (c.begun x k tag a).fv) n)
      = (List.range 24).filter (fun n => Nat.testBit (Config.freeNat c.fv) n) :=
    List.filter_congr fun n listed => steady.after (c.begun_fv_le x k tag a) (List.mem_range.mp listed)
  simp only [Ctl.discoveryList, own, peer, Ctl.begun_power, Ctl.hostOf, Ctl.begun_mgt,
    Ctl.begun_flag_off c x k tag a F.PEER_CFG_en (by decide)]

/-- A port of the peer is listed as the free value has it. -/
theorem Ctl.peerPort_listed {c : Ctl} (paired : c.flag F.PEER_CFG_en = true) (a : Assoc) {n : Nat} (port : n < 24) :
    ((1 - (if c.power.slotId then 1 else 0), n, false, false) ∈ c.discoveryList a) ↔ Nat.testBit (Config.freeNat c.fv) n = true := by
  cases side : c.power.slotId <;> simp [Ctl.discoveryList, paired, side, port]

/-- Get Log Page of the Discovery page sends the list that the state in which it runs gives. -/
theorem getLogPage_discovery {s : State} {x : AdminCmd} {k tag : Nat} {a : Assoc} (served : AdminServed s.c (AdminOp.getLogPage.on x) k tag a)
    (lid : getBits x.cdw10 7 0 = 0x70) (disc : a.discovery = true) (lo : x.cdw12 = 0) (hi : x.cdw13 = 0) (rae : getBit x.cdw10 15 = true)
    (few : 4 * (getBits x.cdw10 31 16 + 65536 * getBits x.cdw11 15 0 + 1) ≤ 2097152) :
    exec (.nvmeGetLogPage x) s = .next (s.withCtl
      ((((s.c.begun (AdminOp.getLogPage.on x) k tag a).tookFree).emit (.hostData x.conn x.cid (.discovery 0 (4 * (getBits x.cdw10 31 16 +
        65536 * getBits x.cdw11 15 0 + 1)) s.c.mgt.nqn ((s.c.begun (AdminOp.getLogPage.on x) k tag a).discoveryList (a.alive s.c.dt))))).adminEnd
        x (a.alive s.c.dt) St.ok 0 0)) := by
  have running := Ctl.not_halted_of_ioOpen served.1
  refine show execNvmeGetLogPage x s = _ from adminRow_served served (congrArg (Prod.mk s.mem) ?_)
  show getLogPageDo x k _ _ = _
  unfold getLogPageDo
  dsimp only
  rw [if_pos lid, if_neg (by simp [Assoc.alive, disc]), if_neg (by simp only [mdts]; omega), if_pos rae, lo, hi, Ctl.begun_mgt]
  exact Ctl.adminData_live _ _ _ ((Ctl.begun_halted s.c (AdminOp.getLogPage.on x) k tag a).trans running)

theorem Ctl.adminEnd_emit_out {c : Ctl} (running : c.halted = false) (o : Output) (x : AdminCmd) (a : Assoc) (st : NvStatus) (dw0 dw1 : Nat) :
    ((c.emit o).adminEnd x a st dw0 dw1).out = .cqe x.conn x.cid st dw0 dw1 :: o :: c.out :=
  Ctl.complete_out _ _ _ _ _ _ _ running

theorem adminServiceRows_of_steady (steady : PeerPortsSteady) : Obligations.AdminServiceRowsComplete := by
  refine ⟨fun s x k tag a served room quiet => ?hold, fun s x k tag a e es served room held => ?event,
    fun s x k tag a served cns => ?controller, fun s x k tag a served cns one => ?namespaces,
    fun s x k tag free a p served lid page lo hi rae few => ?page, fun s x k tag a c1 served few whole aligned fits len staged => ?download,
    fun s x look k tag a served fine => ?commit, fun s x k tag a served stc named idle => ?test,
    fun s result d a running mode test known => ?done, fun s x k tag a served on permitted => ?request,
    fun s x k tag a bs served on permitted reply => ?reply, fun s k a known stays en time other running mode idle => ?apst,
    fun s x k tag a served lid disc lo hi rae few => ?discovery⟩
  case hold =>
    refine show execNvmeAsyncEventRequest x s = _ from adminRow_served served (congrArg (Prod.mk s.mem) ?_)
    refine (if_neg (Nat.not_le.mpr room)).trans ?_
    cases a
    cases quiet
    rfl
  case event =>
    refine show execNvmeAsyncEventRequest x s = _ from adminRow_served served (congrArg (Prod.mk s.mem) ?_)
    refine (if_neg (Nat.not_le.mpr room)).trans ?_
    rw [show (a.alive s.c.dt).events = e :: es from held]
    rfl
  case controller =>
    have running := Ctl.not_halted_of_ioOpen served.1
    refine show execNvmeIdentify x s = _ from adminRow_served served (congrArg (Prod.mk s.mem) ?_)
    exact (if_pos cns).trans (Ctl.adminData_live _ _ _ ((Ctl.begun_halted ..).trans running))
  case namespaces =>
    have running := Ctl.not_halted_of_ioOpen served.1
    refine show execNvmeIdentify x s = _ from adminRow_served served (congrArg (Prod.mk s.mem) ?_)
    show identifyDo x k _ _ = _
    unfold identifyDo
    dsimp only
    rw [cns, if_neg (by decide), if_neg (by decide), if_neg (by decide), if_pos rfl, if_neg (ne_true_of_eq_false (beq_eq_false_iff_ne.mpr one)),
      Ctl.begun_visibleNs]
    exact Ctl.adminData_live _ _ _ ((Ctl.begun_halted ..).trans running)
  case page =>
    have running := Ctl.not_halted_of_ioOpen served.1
    refine show execNvmeGetLogPage x s = _ from adminRow_served served (congrArg (Prod.mk s.mem) ?_)
    show getLogPageDo x k _ _ = _
    unfold getLogPageDo
    dsimp only
    rw [if_neg lid, page]
    dsimp only
    have off : x.cdw12.toNat + 2 ^ 32 * x.cdw13.toNat = 0 := by simp [lo, hi]
    rw [off, if_neg (by simp [mdts]; omega), if_pos rae]
    exact Ctl.adminData_live _ _ _ ((Ctl.begun_halted s.c (AdminOp.getLogPage.on x) k tag a).trans running)
  case download =>
    refine show execNvmeFirmwareImageDownload x s = _ from adminRow_served served (congrArg (Prod.mk s.mem) ?_)
    show fwDownloadDo x k _ _ = _
    unfold fwDownloadDo
    dsimp only
    rw [if_neg (by simp only [mdts]; omega), if_neg (by simp [len]), staged]
  case commit =>
    refine show execNvmeFirmwareCommit x look s = _ from adminRow_served served (congrArg (Prod.mk s.mem) ?_)
    show fwCommitDo x look k _ _ = _
    unfold fwCommitDo
    simp only [Ctl.begun_fsSlot]
    rw [fine]
    rfl
  case test =>
    refine show execNvmeDeviceSelfTest x s = _ from adminRow_served served (congrArg (Prod.mk s.mem) ?_)
    show selfTestDo x k _ _ = _
    unfold selfTestDo
    dsimp only
    have admitted : ¬(x.nsid ≠ 0 ∧ x.nsid ≠ 0xFFFFFFFF ∧
        (!(s.c.begun (AdminOp.selfTest.on x) k tag a).nsAttached x.nsid (a.alive s.c.dt).tenant) = true) := by
      rintro ⟨some', one, detached⟩
      rw [Ctl.begun_nsAttached, show (a.alive s.c.dt).tenant = a.tenant from rfl, (named.resolve_left some').resolve_left one] at detached
      cases detached
    rw [if_neg (by omega), if_neg (by omega), if_neg admitted, if_neg (by simp [idle]), Ctl.begun_testGroups _ _ _ _ _ named]
  case done =>
    refine completes_onCtl (show _ = execSelfTestDone result s from rfl) (c := s.c.testResult d result) ?_ ?_
    · rw [if_neg (by simp [running, mode]), test]
    · refine ⟨rfl, ?_, rfl, rfl, rfl⟩
      exact (Tab.at?_upd ..).trans ((if_pos rfl).trans (congrArg _ known))
  case request =>
    refine show execChiebRequestC1h x s = _ from onAll_withBoth ((adminArrive_served s.mem served rfl).trans ?_)
    show chiebRequestDo x k _ _ _ = _
    unfold chiebRequestDo
    rw [Ctl.begun_chiebRefusal _ _ _ _ _ on permitted]
  case reply =>
    have running := Ctl.not_halted_of_ioOpen served.1
    refine show execChiebReplyC2h x s = _ from adminRow_served served (congrArg (Prod.mk s.mem) ?_)
    show chiebReplyDo x k _ _ = _
    unfold chiebReplyDo
    rw [Ctl.begun_chiebRefusal _ _ _ _ _ on permitted, show (a.alive s.c.dt).chieb = some bs from reply]
    dsimp only
    exact Ctl.adminData_live _ _ _ ((Ctl.begun_halted s.c (AdminOp.chiebReply.on x) k tag a).trans running)
  case apst =>
    refine completes_onCtl (show _ = execApstIdleTimer k s from rfl) ?_ ⟨State.withCtl_c _ _, rfl, rfl⟩
    dsimp only
    rw [known]
    refine if_neg ?_
    rw [idle, running, stays, en, beq_eq_false_iff_ne.mpr mode, beq_eq_false_iff_ne.mpr time, beq_eq_false_iff_ne.mpr other]
    decide
  case discovery =>
    rw [getLogPage_discovery served lid disc lo hi rae few, Ctl.begun_discoveryList steady]

/-! ### The converse -/

/-- A discovery association on connection 1. -/
def seeker : Assoc := Assoc.fresh ⟨1, 0, 0, 0, 31, 1000, 0xFFFF, [1], [7]⟩ 5 true 0

/-- A paired device that the association has reached, the first counter of the host path about to cross a multiple of its sample interval. -/
def askedCtl (v : Nat) : Ctl :=
  { (((Ctl.reset.set F.GLB_MODE_STAT_mode Mode.active.code).set F.GLB_PD_STAT_pd_is_on 17).setFlag F.PEER_CFG_en true).wr (Reg.TEL_SEL 144) 0x40003F00 with
    fv := v, tel := { Tel.reset with cnt := [(144, 255)] }, host := { HostPath.reset with assocs := [(0, seeker)] }
    net := { Net.reset with conns := [(1, Ctl.reset.connFresh false 2 8 0 1024 1)] } }

/-- Get Log Page of the Discovery page. -/
def askPage : AdminCmd := ⟨1, 3, 1, 0x8070, 0, 0, 0, 0, 0, []⟩

theorem askedCtl_served (v : Nat) : AdminServed (askedCtl v) (AdminOp.getLogPage.on askPage) 0 0 seeker := by
  have zero : AdminServed (askedCtl 0) (AdminOp.getLogPage.on askPage) 0 0 seeker := by decide
  exact zero

theorem askedCtl_paired (v : Nat) : (askedCtl v).flag F.PEER_CFG_en = true := by
  have zero : (askedCtl 0).flag F.PEER_CFG_en = true := by decide
  exact zero

/-- Two states with the same registers and counters, the second `v` free values later. -/
def Ctl.Shifted (v : Nat) (c d : Ctl) : Prop := d.regs = c.regs ∧ d.tel.cnt = c.tel.cnt ∧ d.fv = c.fv + v

theorem Ctl.Shifted.sampleRecord {v : Nat} {c d : Ctl} (h : c.Shifted v d) (x y : Sample) : (c.sampleRecord x).Shifted v (d.sampleRecord y) := by
  obtain ⟨regs, cnt, fv⟩ := h
  have get : ∀ f, d.get f = c.get f := fun f => by simp only [Ctl.get, Ctl.rd, regs]
  simp only [Ctl.sampleRecord, get]
  split
  · exact ⟨by simp only [Ctl.bump, Ctl.set, Ctl.wr, Ctl.rd, get, regs], cnt, fv⟩
  · exact ⟨by simp only [Ctl.set, Ctl.wr, Ctl.rd, regs], cnt, fv⟩

theorem Ctl.Shifted.samplesFrom {v : Nat} (n inst : Nat) (ctx : Option (Nat × Nat × Nat)) (e k i : Nat) {c d : Ctl} (h : c.Shifted v d) :
    (Ctl.samplesFrom n inst ctx e i k c).Shifted v (Ctl.samplesFrom n inst ctx e i k d) := by
  induction k generalizing i c d with
  | zero => exact h
  | succ k ih =>
    obtain ⟨regs, cnt, fv⟩ := h.sampleRecord (telSampleOf c.dt c.fv n inst ctx (i * 2 ^ e)) (telSampleOf d.dt d.fv n inst ctx (i * 2 ^ e))
    exact ih _ ⟨regs, cnt, (congrArg (· + 1) fv).trans (Nat.add_right_comm _ _ _)⟩

theorem Ctl.Shifted.telAdd {v : Nat} {c d : Ctl} (h : c.Shifted v d) (n inst : Nat) (ctx : Option (Nat × Nat × Nat)) (amt : Nat) :
    (c.telAdd n inst ctx amt).Shifted v (d.telAdd n inst ctx amt) := by
  obtain ⟨regs, cnt, fv⟩ := h
  simp only [Ctl.telAdd, regs, cnt]
  split
  · exact ⟨rfl, rfl, fv⟩
  · exact Ctl.Shifted.samplesFrom _ _ _ _ _ _ ⟨rfl, rfl, fv⟩

theorem Ctl.Shifted.telFold {v : Nat} (ev inst : Nat) (ten : Option Nat) (ctx : Option (Nat × Nat × Nat)) (amt k n : Nat) {c d : Ctl}
    (h : c.Shifted v d) : (Ctl.telFold ev inst ten ctx amt n k c).Shifted v (Ctl.telFold ev inst ten ctx amt n k d) := by
  induction k generalizing n c d with
  | zero => exact h
  | succ k ih =>
    refine ih _ ?_
    rw [h.1]
    split
    · exact h.telAdd ..
    · exact h

theorem Ctl.Shifted.tev {v : Nat} {c d : Ctl} (h : c.Shifted v d) (b : TelBlk) (ev inst : Nat) (ten : Option Nat)
    (ctx : Option (Nat × Nat × Nat)) (amt : Nat) : (c.tev b ev inst ten ctx amt).Shifted v (d.tev b ev inst ten ctx amt) := by
  have power : d.bitOf F.GLB_PD_STAT_pd_is_on (b.domain inst) = c.bitOf F.GLB_PD_STAT_pd_is_on (b.domain inst) := by
    simp only [Ctl.bitOf, Ctl.get, Ctl.rd, h.1]
  unfold Ctl.tev
  rw [power]
  split
  · exact h.telFold ..
  · exact h

theorem askedCtl_begun_fv (v : Nat) : ((askedCtl v).begun (AdminOp.getLogPage.on askPage) 0 0 seeker).fv = v + 1 := by
  have start : ((askedCtl 0).alive 0 seeker).Shifted v ((askedCtl v).alive 0 seeker) := ⟨rfl, rfl, (Nat.zero_add v).symm⟩
  obtain ⟨-, -, later⟩ := start.tev .hcp 0 0 (some seeker.tenant) none 1
  have first : (((askedCtl 0).alive 0 seeker).tev .hcp 0 0 (some seeker.tenant) none 1).fv = 1 := by decide +kernel
  rw [first, Nat.add_comm] at later
  exact later

/-- The Discovery clause compares the list of the state in which the command runs with that of the state before. -/
theorem discoveryList_eq_of_adminServiceRows (claim : Obligations.AdminServiceRowsComplete) (v : Nat) :
    ((askedCtl v).begun (AdminOp.getLogPage.on askPage) 0 0 seeker).discoveryList (seeker.alive (askedCtl v).dt)
      = (askedCtl v).discoveryList (seeker.alive (askedCtl v).dt) := by
  obtain ⟨-, -, -, -, -, -, -, -, -, -, -, -, discovery⟩ := claim
  have served := askedCtl_served v
  have running := Ctl.not_halted_of_ioOpen served.1
  have live : ((askedCtl v).begun (AdminOp.getLogPage.on askPage) 0 0 seeker).tookFree.halted = false :=
    (Ctl.begun_halted (askedCtl v) (AdminOp.getLogPage.on askPage) 0 0 seeker).trans running
  have said := discovery { State.reset with c := askedCtl v } askPage 0 0 seeker served (by decide) rfl rfl rfl (by decide) (by decide)
  rw [getLogPage_discovery (s := { State.reset with c := askedCtl v }) served (by decide) rfl rfl rfl (by decide) (by decide)] at said
  have outs := congrArg (fun t => t.c.out) (Host.Outcome.next.inj said)
  simp only [State.withCtl_c] at outs
  rw [Ctl.adminEnd_emit_out live, Ctl.adminEnd_emit_out live] at outs
  injection outs with _ rest
  injection rest with sent _
  injection sent with _ _ data
  injection data

/-- O8 asks that the free values be steady at the peer's ports, and no more; neither that nor its negation follows, as they have no body. -/
theorem adminServiceRowsComplete_iff_peerPortsSteady : Obligations.AdminServiceRowsComplete ↔ PeerPortsSteady := by
  refine ⟨fun claim v n port => ?_, adminServiceRows_of_steady⟩
  have same := discoveryList_eq_of_adminServiceRows claim v
  have here := Ctl.peerPort_listed (c := askedCtl v) (askedCtl_paired v) (seeker.alive (askedCtl v).dt) port
  have next := Ctl.peerPort_listed (c := (askedCtl v).begun (AdminOp.getLogPage.on askPage) 0 0 seeker)
    ((Ctl.begun_flag_off _ _ _ _ _ F.PEER_CFG_en (by decide)).trans (askedCtl_paired v)) (seeker.alive (askedCtl v).dt) port
  rw [same, askedCtl_begun_fv, Ctl.begun_power] at next
  exact Bool.eq_iff_iff.mpr (next.symm.trans here)

end Sys2Proof.Machine
end
